-- ==== Sys2Proof/Word.lean ====
section
/-! DEFINITION. The plain words of the block: bytes, the tick and its multiples (R15, R16, R17).

The tick is 10 ns (R15). A count of ticks is 64 bits wide in the hardware; it is a `Nat` here, and the
step that would carry it past 2^64 − 1 is a fault (`Fault.tickWrap`), because no rule provides for a wrap. -/

namespace Sys2Proof

/-- An 8-bit byte, as it stands in memory, in a frame or on a serial port. -/
abbrev Byte := BitVec 8

/-- A count of 10 ns ticks since the module left OFF (R15). -/
abbrev Tick := Nat

/-- Ticks in one microsecond (R15). -/
abbrev usTicks : Nat := 100

/-- Ticks in one millisecond (R15). -/
abbrev msTicks : Nat := 100000

/-- Ticks in one second (R15). -/
abbrev secTicks : Nat := 100000000

/-- One unit of a fixed-point value: fixed-point settings are held in millionths (R589). -/
abbrev one6 : Int := 1000000

/-- A 32-bit counter adds one and stays at its maximum once it reaches it (R231, R308, R394). -/
def satInc (n : Nat) : Nat := if n < 4294967295 then n + 1 else n

/-- A 32-bit counter adds `k` and stays at its maximum. -/
def satAdd (n k : Nat) : Nat := min (n + k) 4294967295

/-- Round the quotient `a / b` (`b > 0`) to the nearest integer, halves away from zero (R589). -/
def roundDiv (a : Int) (b : Nat) : Int :=
  if 0 ≤ a then (2 * a + b) / (2 * (b : Int)) else -((2 * (-a) + b) / (2 * (b : Int)))

/-- Round the quotient `a / b` (`b > 0`) to the nearest integer, halves upward (R356, R456). -/
def roundDivUp (a : Int) (b : Nat) : Int := (2 * a + b) / (2 * (b : Int))

end Sys2Proof
end

