-- ==== Sys2Proof/Names.lean ====
section
/-! DEFINITION. The names of every settings path and action of chapter 18, and the types that describe a path.

Every constructor of `Setting` is one leaf setting or one action of the settings tables (R584, Tables 18-2 to
18-16). `Machine/Settings.lean` says of each what its owning table says. -/

namespace Sys2Proof

/-- The leaf settings and the actions of the module, one constructor for each path of chapter 18 (R584).
A constructor that begins with `act` is an action, reached by `DO`. -/
inductive Setting where
  | sysState | sysMode | sysEpoch | sysStartMs
  | sysLastHalt | sysRestarts | actSysRun | actSysStop
  | actSysWatch | actSysHalt | actSysRestart | actSysSeal
  | actSysUnseal | nvCheckpointS | actNvCheckpoint | actNvSave
  | actNvVerify | nvPending | nvSeq | nvState
  | timeNow | timeSource | islandGate | islandAutoGate
  | islandState | islandCmdResets | ledgerAvgLimit | ledgerCmdDeadline
  | ledgerPeakUsed | ledgerAvgUsed | ledgerAvgMeasured | ledgerL24Used
  | ledgerRefused | ledgerWait | sessRequireCheck | sessIdleS
  | sessEvents | sessTurret | sessJobsN | sessWatches
  | sessEventsLost | sessLockout | sessionJobs | chainBaud
  | chainData | chainParity | chainStop | chainUpstream
  | chainDamaged | chainOverruns | chainBacklogMax | irBaud
  | irPulse | irTurnaround | irState | irDamaged
  | irFloods | towerAddress | towerPin | towerRole
  | towerPartner | towerOwnLo | towerOwnHi | towerMarkLead
  | towerSpire | towerCount | towerLocked | towerErrorNs
  | towerHopNs | towerMarksBridged | towerSpireLosses | towerOutside
  | towerViewLate | actTowerPromote | linkEnable | linkState
  | linkWidth | linkLanes | linkSpare | linkLaneLimit
  | linkCrcLimit | linkCrcWindow | linkLockTimeout | linkHeadroom
  | linkHysteresis | linkHeadroomMin | linkRttNs | linkCrcErrors
  | linkReplays | linkLaneReplacements | linkDowns | linkFramesLost
  | linkAuthRejects | linkXoffs | feedMode | feedDirection
  | feedMicrostep | feedRunCurrent | feedAccelCurrent | feedHoldCurrent
  | feedMaxSpeed | feedRamp | feedTargetUnit | feedTarget
  | feedMaxRate | feedGain | feedRateWindow | feedMassEntry
  | feedEjectMargin | feedOpenMark | feedStallLevel | feedStallMinSpeed
  | feedSpeed | feedRate | feedMassRate | feedLimit
  | feedState | feedPauseReasons | feedStalls | feedLeaveRefusals
  | actFeedPause | actFeedResume | seamClearLines | seamSettleMs
  | seamClearTimeoutS | seamOpen | seamSegment | seamLineIndex
  | seamProductIndex | seamExcluded | seamForced | captureSlowMark
  | capturePauseMark | captureResumeMark | captureFill | captureDropped
  | headEnable | headState | headType | headSerial
  | headExpectType | headColumns | headPixelDiv | headSample
  | headGain | headEdges | headSgNs | headLineDecimate
  | headLinePhases | headLineBin | headSaturated | lanternLineRate
  | lanternPhases | lanternMask | lanternOffset | lanternWidth
  | lanternCurrent | lanternState | lanternCompliance | actLanternCommit
  | lanternCommitted | lanternDarkLines | lanternLateStarts | shadeWhiteTarget
  | shadeDefectMax | actShadeCalibrate | shadeDefects | shadeState
  | classTurret | classCoef | classBias | classState
  | classRule | classRuleCount | actClassCommit | classDegraded
  | classChipPhases | classChipMaxBytes | classStatPeriod | classObjects
  | classAccepted | classRejected | classDiverted | classLate
  | classStatDropped | trackGeometry | trackDMm | trackValveMm
  | trackG | trackFallbackV | trackVMin | trackVMax
  | trackBScale | trackViewScale | trackBOffset | trackViewOffset
  | trackMatchCols | trackMatchSim | trackOppWindow | trackViewDelay
  | trackViewWait | trackDrag | trackMatched | trackUnmatchedA
  | trackUnmatchedB | trackStoreOverflow | trackViewUnused | ejectPeakBudget
  | ejectMaxDelay | ejectMaxOn | ejectMergeGap | ejectCol0
  | ejectPitch | ejectValve0 | ejectOrder | ejectQueueShare
  | ejectQueueUsed | ejectMarginCols | ejectPreUs | ejectPostUs
  | ejectOverflowPolicy | ejectMetalDelay | ejectMetalWindow | ejectRejects
  | ejectDiverts | ejectActions | ejectDelayed | ejectDenied
  | ejectFaulted | ejectMerged | ejectCapped | ejectOverflow
  | ejectLate | ejectNovalve | ejectSpanTrimmed | ejectDivertMissing
  | ejectMetal | ejectMetalMissed | valveTurret | valveUse
  | valvePeakA | valvePeakUs | valveHoldA | valveOnUs
  | valveOffUs | valveState | valveActions | valveDenied
  | valveLow | actValveTest | feChopDiv | fePinTurret
  | fePinState | feState | feExcGrant | seqPartitioned
  | seqFrameUs | seqSlotTurret | seqSlotUs | seqTurret
  | seqEnable | seqInP | seqInN | seqExcP
  | seqExcN | seqBiasPins | seqBiasV | seqGain
  | seqMode | seqFreqHz | seqExcVpp | seqPhase
  | seqSamples | seqSettleUs | seqDelayUs | seqRepeat
  | seqValue | seqRatio | seqTrigger | seqScale
  | seqOffset | seqEvent | seqThresh | seqHyst
  | actSeqCommit | actSeqNow | seqResult | seqRaw
  | seqFlags | seqTick | seqFreqActual | seqCount
  | seqPreempted | seqEvents | checkRMin | checkRMax
  | actCheckRun | checkIntervalS | checkFails | loopMode
  | loopTurret | loopAlarmMa | loopWatch | loopQuantity
  | loopEntry | loopLo | loopHi | loopWindowMs
  | loopFixedMa | loopCommandedMa | loopActualMa | loopVolts
  | loopHeadroom | loopState | loopHeadroomFaults | memState
  | memScrubH | actMemRekey | memProtKib | memCaptKib
  | memWorkKib | memMaxGen | memFenceMaxNs | memLastFault
  | memRefused | memProbeFails | memRekeys | memScrubs
  | memScrubRepairs | actTurretCreate | turretState | turretOwner
  | actTurretClaim | actTurretRevoke | actTurretRestore | actTurretDestroy
  | turretXaLo | turretXaHi | turretXbLo | turretXbHi
  | turretPeakShare | turretJobs | turretProtKib | turretCaptKib
  | turretWorkKib | turretAssignDigest | actBlobWrite | actBlobRead
  | actBlobClear | keyNonce | actKeyImport | actKeyErase
  | keyKind | keyDevice | streamTurret | streamType
  | streamRateMbps | streamState | streamGen | actStreamNext
  | domeFrameMs | domeSlotTurret | domeSlotMs | domeSlotQueue
  | actPkeSign | actPkeVerify | actPkeKeygen | actPkeEcdh
  | actPkePublic | actPkeDiag | domeNotify | domeQueue
  | domeOps | domeCrypto | domeAborts | domeMicrocode
  | actDigHash | actDigStart | actDigUpdate | actDigFinal
  | actDigDrop | actDigTable | domeDigHandles | domeRngState
  | actRngFill | domeRngReseeds | domeRngFaults
  deriving DecidableEq, Repr

/-- What an index segment of a path counts (the italic letters of the settings tables). -/
inductive Ix where
  | island | turret | sess | port | head | phase | chan | slot4 | pin | slot8 | rule | valve | entry | loop
  | blob | stream | record | cls
  deriving DecidableEq, Repr

/-- One segment of a path pattern: a fixed word or an index. -/
inductive Seg where
  | w (word : String)
  | ix (kind : Ix)
  deriving DecidableEq, Repr

/-- One segment of a path as a line spells it: a word, or a run of decimal digits, whose leading zeros do not
count (R152). -/
inductive PSeg where
  | w (word : String)
  | n (value : Nat)
  deriving DecidableEq, Repr

/-- The type a settings table gives a path (Table 4-2), with the allowed ranges. Fixed-point bounds and
resolutions are in millionths; the last number of `fix` is the least count of fraction digits shown (R589). `steps` counts equal
steps that span so many millionths. -/
inductive Ty where
  | int (ranges : List (Int × Int))
  | mask (lo hi : Int)
  | fix (ranges : List (Int × Int)) (res : Nat) (digits : Nat)
  | steps (count span : Nat) (digits : Nat)
  | bool
  | enum (words : List String)
  | str (lo hi : Nat)
  | bytes (n : Nat)
  | tick
  | record
  | action
  deriving DecidableEq, Repr

/-- The column "Writable in RUN" (R587). -/
inductive RunW where
  | no | yes | staged | ro
  deriving DecidableEq, Repr

/-- Who may read or write a path: nobody, the Keep alone, any logged-in turret, a turret for the instance that is
its own by R160, the owner of the indexed resource, the Keep and that owner, or any session (R517, R531). -/
inductive Acc where
  | none | keep | shared | inst | owner | keepOrOwner | any
  deriving DecidableEq, Repr

/-- The resource whose owner an indexed path belongs to. -/
inductive Res where
  | none | record | turret | session | classSlot | valve | pin | entry | loop | stream
  deriving DecidableEq, Repr

/-- Which row of the operation table a write of the path is. -/
inductive SetRow where
  | plain | act | chainFormat | nvCheckpoint | islandGate | streamRate | linkHeadroom | feedTargetUnit | feedCurrent
  | captureMark | lanternStaged | headExpectType | classStaged | valveSetting | peakShare | peakBudget | seqStaged
  | checkInterval | loopQuantity | xrange | assignment
  deriving DecidableEq, Repr

/-- A stored value: a number (integers, masks, booleans as 0 and 1, enumerations by position, fixed-point in
millionths), a string, or bytes. -/
inductive Val where
  | num (v : Int)
  | text (cs : List Char)
  | bytes (bs : List Byte)
  deriving DecidableEq, Repr

/-- What the owning settings table says of one path. `help` holds the HELP fields type, range, default, unit and
owner in their R585 spelling. -/
structure Info where
  path : List Seg
  ty   : Ty
  dflt : Val
  run  : RunW
  rd   : Acc
  wr   : Acc
  res  : Res
  row  : SetRow
  help : List String
  deriving DecidableEq, Repr

/-- One instance of a path: the setting and its indices. A per-turret setting without an index holds its turret in
the index that its path does not use (R160). -/
structure Key where
  s : Setting
  i : Nat := 0
  j : Nat := 0
  deriving DecidableEq, Repr

end Sys2Proof
end

