-- ==== Sys2Proof/Terms.lean ====
section
/-! DEFINITION. The operands of the commands: the header of a Traop line, the arguments of its verbs and actions,
and what the wires bring to a link port, a serial port, a head or a sensor. -/

namespace Sys2Proof

/-- The address element of a Traop line: none, `@*`, or `@nn` (Table 4-1). -/
inductive AddrField where
  | absent | all | num (nn : Nat)
  deriving DecidableEq, Repr

/-- The check element of a line: none, one that matches, or one that does not (R154). -/
inductive CheckField where
  | absent | good | bad
  deriving DecidableEq, Repr

/-- What a Traop line carries besides its verb and arguments: the session it arrived on (0 chain, 1 IR, 2 and 3
console; R169), its address, its tag and its check. -/
structure Hdr where
  sess  : Nat
  addr  : AddrField := .absent
  tag   : Option Nat := none
  check : CheckField := .absent
  checkHex : Nat := 0   -- the two hex digits of a check that does not match (R235)
  deriving DecidableEq, Repr

/-- A path as a line spells it (R151, R152). -/
abbrev Path := List PSeg

/-- The argument of `WATCH` (Table 4-3). -/
inductive WatchArg where
  | period (ms : Nat) | change | off
  deriving DecidableEq, Repr

/-- The argument of `ABORT` (R183). -/
inductive AbortArg where
  | untagged | tag (t : Nat) | all
  deriving DecidableEq, Repr

/-- A persistent record (Table 3-6). -/
inductive RecName where
  | epoch | keystore | shade | config | recipe (n : Nat) | stats (n : Nat)
  deriving DecidableEq, Repr

/-- A memory region (Table 14-1). -/
inductive Region where
  | firm | prot | capt | work | nvrec | nvfw
  deriving DecidableEq, Repr

/-- A digest algorithm (R540). -/
inductive DigAlg where
  | sha256 | sha384 | hmac256 | hmac384
  deriving DecidableEq, Repr

/-- An elliptic curve (R543). -/
inductive Curve where
  | p256 | p384
  deriving DecidableEq, Repr

/-- A check of Table 12-5. -/
inductive CheckKind where
  | openPin (k : Nat) | gain | exc | bias
  deriving DecidableEq, Repr

/-- A coil fault: phase a or b (false, true), open or short (R330). -/
structure CoilFault where
  phaseB : Bool
  short  : Bool
  deriving DecidableEq, Repr

/-- The kinds of open handshake and documented wait of Table 2-5 and R98. -/
inductive WaitKind where
  | handshake | ledgerGrant (deadline : Tick) | flashErase | flashProgram | publicKey | dramInit
  deriving DecidableEq, Repr

/-- The end of a frame on the wire: EOF or EDB (Table 7-1). -/
inductive FrameEnd where
  | eof | edb
  deriving DecidableEq, Repr

/-- Which serial port (R169): chain or IR. -/
inductive SerialPort where
  | chain | ir
  deriving DecidableEq, Repr

/-- The receive tags of a serial character (R197). -/
structure CharTags where
  noise   : Bool := false
  framing : Bool := false
  parity  : Bool := false
  deriving DecidableEq, Repr

/-- The three samples that the receiver takes around the centre of one bit of a chain character (R197); true is mark. -/
structure RxBit where
  a : Bool
  b : Bool
  c : Bool
  deriving DecidableEq, Repr

/-- A pulse at the IR receiver: the ticks from the start of the first pulse of its character, and its width in ticks (R212, R213).
-/
structure IrPulse where
  start : Nat
  width : Nat
  deriving DecidableEq, Repr

/-- What a port sees of one character: on the chain the samples of its start bit, data bits, parity bit and stop bits in this
order; on the IR port its pulses (R197, R213). -/
inductive RxWave where
  | chain (bits : List RxBit)
  | ir (pulses : List IrPulse)
  deriving DecidableEq, Repr

/-- A slot of a record that fails its probe (R136, R483): the record, the slot (false A, true B), and how many of its sectors fail
their tags; none of them where only the body's digest fails. -/
structure BadSlot where
  record : RecName
  slot : Bool
  sectors : Nat
  deriving DecidableEq, Repr

/-- `DO sys.restart`: the response, if the line has one, and what the check of R128 finds: how many sectors of the chosen
`keystore` slot fail their tags, whether its digest verifies, and what it holds of the Keep's wrapped login key, where that is not
what was written. -/
structure RestartIn where
  response : Option Nat
  sectors : Nat := 0
  digestOk : Bool := true
  wrap : Option (List Byte) := none
  deriving DecidableEq, Repr

/-- `LOGIN n response`: the response, and what the key store holds of the turret's wrapped login key, where that is not what was
written (R174, R504). -/
structure LoginIn where
  response : Nat
  wrap : Option (List Byte) := none
  deriving DecidableEq, Repr

/-- `DO nv.verify`: its line's header, and the slots that no longer pass their probe (R136, R148). -/
structure VerifyIn where
  hdr : Hdr
  bad : List BadSlot
  deriving DecidableEq, Repr

/-- What a public-key operation finds at its end: whether the engine's own check of a signature or key pair passes, or a claim's
ECDH succeeds (R529, R547), what the key store holds of its wrapped key, where that is not what was written (R504), and whether
the microcode image, where it is checked again, has the digest of the verified one (R553). -/
structure PkeIn where
  checkOk : Bool
  wrap : Option (List Byte) := none
  imageOk : Bool := true
  deriving DecidableEq, Repr

/-- What the checks of START steps 4 to 11 find: the entropy tests of R562, the sectors of the two boot copies that fail their
tags (R483), the two image signatures and the known answer of R112 and R115, the public key of the device certificate (R532), the
wrapped keys of turrets in `keystore` that are not what was written (R504), and the slots of the records that fail their probe
(R136). -/
structure BootIn where
  entropyOk : Bool
  firmwareOk : Bool
  microcodeOk : Bool
  knownAnswerOk : Bool
  certKey : List Byte
  wraps : List (Nat × List Byte)
  imageFails : Nat
  badSlots : List BadSlot
  deriving DecidableEq, Repr

/-- What the converter yields in a repetition of a sequencer pass: the 20-bit codes of its samples in order, as signed numbers,
and whether the excitation limit acted (R425, R427, R429). -/
structure Sample where
  codes : List Int
  clip : Bool
  deriving DecidableEq, Repr

/-- What the self-tests of step 13 of START measure: valves with their test currents in mA (R421), Lantern channels with the time,
in ps, for which their 10 µs test pulse was below 95 % of its current (R351, R363), the nine passes of `gain` and those of `exc`
and `bias` (R445, R450), the pins whose switches fail, and per loop its readback in millionths of a mA, or none where it has no
headroom (R467). -/
structure SelfTest where
  valves : List (Nat × Nat)
  lantern : List (Nat × Nat)
  gain : List Sample
  exc : Sample
  bias : Sample
  badPins : List Nat
  loop1 : Option Int
  loop2 : Option Int
  deriving DecidableEq, Repr

/-- The body of a MARK message (Table 6-2): line index, origin tick, lead in ticks, path delay in sixteenths of a
tick, and the time-only bit. -/
structure Mark where
  line : Nat
  origin : Nat
  lead : Nat
  delay16 : Nat
  timeOnly : Bool
  deriving DecidableEq, Repr

/-- A symbol of a lane as its 8b/10b code is read (R261, R262): a data byte, a control symbol by the value of its byte, or a code
that stands for no symbol. -/
inductive Sym where
  | d (b : Byte) | k (b : Byte) | bad
  deriving DecidableEq, Repr

/-- The symbols that arrived on one physical lane. -/
structure LaneSet where
  lane : Nat
  syms : List Sym
  deriving DecidableEq, Repr

/-- One TIME exchange of a hop (R268), in 1/16 tick of this end's count. At the downstream end: when its request left, the echo,
and when that arrived. At the upstream end: when its echo left, the request, and when that arrived. -/
structure Exchange where
  left16 : Nat
  came16 : Nat
  set : List Sym
  deriving DecidableEq, Repr

/-- What an end of a hop finds in steps 1 to 3 of a full training (Table 7-3): the code, disparity and CRC errors of each lane
over 4 096 TS1, none for a lane that has not locked, and the set last received from the other end, lane by lane: TS1 at the
upstream end, TS2 at the downstream end. -/
structure TrainIn where
  errors : List (Option Nat)
  sets : List LaneSet
  deriving DecidableEq, Repr

/-- A bypass set as it arrives: the symbols of each data lane in logical order, the sixteenth of the tick in which its first
symbol arrived, and, for a MARK that goes on, its residence in 1/16 tick (R248, R268, R279). -/
structure BypassIn where
  lanes : List (List Sym)
  sub16 : Nat
  residence16 : Nat
  deriving DecidableEq, Repr

/-- The body of OPEN, OPEN-OK, KEY-READY and KEY-CONFIRM (Table 7-5). -/
structure KeyMsg where
  stream : Nat
  modAddr : Nat
  phase : Nat
  ctl : Nat
  check : Nat
  deriving DecidableEq, Repr

/-- Why a stream is closed (R287, R289, R293, R521). `other` is a reason the far end gives that this manual does not
name. -/
inductive CloseReason where
  | key | busy | state | bandwidth | auth | other (code : Nat)
  deriving DecidableEq, Repr

/-- The body of a TMGMT message (Table 7-5): the sender's address, its state by its place in `sys.state`, its epoch, the sum
of its reserved rates, the addresses it reaches (R240) and its role by its place in `tower.role` and its `tower.partner`
(R246, R383; log entry 20). -/
structure Tmgmt where
  addr : Nat
  state : Nat
  epoch : Nat
  rates : Nat
  reached : List Nat
  role : Nat
  partner : Nat
  deriving DecidableEq, Repr

/-- The body of a HALT-NOTICE, and the data of a HALT set: address, cause and tick (Tables 7-2, 7-5). -/
structure HaltInfo where
  addr : Nat
  cause : Nat
  tick : Nat
  deriving DecidableEq, Repr

/-- Who makes a request of the memory cipher (R476): the island, the owner on whose behalf it is working, and the command that it
works for, if any, by session and tag. -/
structure MemBy where
  island : Nat
  owner : Nat
  cmd : Option (Nat × Option Nat) := none
  deriving DecidableEq, Repr

/-- What a memory holds of one sector (R474, R475): its ciphertext, its tag and, of a flash page, how many bit errors the ECC
finds. -/
structure Stored where
  cipher : List Byte
  tag : List Byte
  bitErrors : Nat := 0
  deriving DecidableEq, Repr

/-- The current that a valve driver sees above its limit: the current in mA, and for how many nanoseconds it has stayed (R419). -/
structure Overcurrent where
  mA : Nat
  ns : Nat
  deriving DecidableEq, Repr

/-- What one head's readout of one plane gives (R341, R345, R346): of each tap, in the order in which it reads them, the pixels
with the dummies before and after, each as its reset level and its video level in nV. -/
structure Readout where
  taps : List (List (Int × Int))
  deriving DecidableEq, Repr

/-- A VIEW feature record as a TOWER frame delivers it (R245, R383; Table 10-1). Columns are in 1/256 column. -/
structure ViewRec where
  modAddr : Nat
  head : Nat
  turret : Nat
  refTick : Nat
  col256 : Int
  area : Nat
  areas : List Nat
  firstLine : Nat
  flags : Nat := 0
  deriving DecidableEq, Repr

/-- A Traop command after its line has been read: verb, path and arguments (Table 4-3 and the actions of every
chapter). `setKey` is a write of a path that has a row of its own in the operation table; `bad` is a line that breaks the grammar
(10) or names no path (20). -/
inductive Cmd where
  | bad (code : Nat)
  | getPath (p : Path)
  | setPath (p : Path) (tok : List Char)
  | setKey (k : Key) (v : Val)
  | showPath (p : Path)
  | watchPath (p : Path) (a : WatchArg)
  | helpPath (p : Option Path)
  | loginChallenge (n : Int)
  | loginResponse (n : Int) (r : LoginIn)
  | loginPin (n : Int) (digits : List Char)
  | logout
  | abort (a : AbortArg)
  | enumerate (n : Option Nat)
  | sysRun | sysStop | sysWatch | sysHalt | showSysHalt
  | sysRestart (r : RestartIn)
  | nvCheckpoint | nvSave | nvVerify (bad : List BadSlot)
  | towerPromote
  | feedPause | feedResume
  | lanternCommit | shadeCalibrate | classCommit
  | valveTest (mm : Nat) (ms6 : Int)
  | seqNow (e : Nat) | seqCommit
  | checkRun (c : CheckKind)
  | memRekey (n : Nat) (r : Region)
  | turretCreate (n : Int)
  | turretClaim (n : Nat) (key : List Byte)
  | turretRevoke (n : Int) | turretRestore (n : Int) | turretDestroy (n : Int)
  | getKeyNonce
  | keyImport (slot : Int) (b : Int) | keyErase (slot : Int)
  | blobWrite (b : Int) (off : Int) (data : List Byte)
  | blobRead (b : Int) (off len : Int)
  | blobClear (b : Int)
  | sysSeal (b : Int) | sysUnseal
  | streamNext (s : Nat)
  | digHash (alg : DigAlg) (k : Option Nat) (b off len : Int) (out : Option (Int × Int))
  | digStart (alg : DigAlg) (k : Option Nat)
  | digUpdate (hd b off len : Int)
  | digFinal (hd : Int) (out : Option (Int × Int))
  | digDrop (hd : Int)
  | digTable (head slot : Nat)
  | pkeSign (k b : Int)
  | pkeVerify (c : Curve) (b : Int)
  | pkeKeygen (c : Curve) (k : Int)
  | pkeEcdh (k b : Int) (k2 : Option Int)
  | pkePublic (k : Int)
  | pkeDiag (b : Int)
  | rngFill (b off len : Int)
  deriving DecidableEq, Repr

end Sys2Proof
end

