-- ==== Sys2Proof/Syntax.lean ====
section
/-! DEFINITION. The commands of the block: one constructor of `Instr` for each row of spec/opcode_table.json, with the
operands that the rule of the row names. A row of a Traop line carries the line's header first. -/

namespace Sys2Proof

/-- A command to the module: a step of the operation table. -/
inductive Instr where
  /-- L24_VALID (R24). L24 rises above 17.0 V: the tick count starts at 0 and the module leaves OFF for START. -/
  | l24Valid (above19 p24Low : Bool)
  /-- L24_LOST (R54). L24 has stayed below 16.5 V for more than 200 µs: the power-loss sequence runs and the module halts with
  cause 05. -/
  | l24Lost
  /-- L24_REMOVED (R55). L24 has stayed below 3.0 V for 500 ms: the module goes to OFF and loses its address and its lockout
  counts. -/
  | l24Removed
  /-- HOLDUP_CHARGED (R26). The hold-up capacitors count as charged 400 ms after L24 becomes valid, which enables flash grants and
  the epoch commit. -/
  | holdupCharged
  /-- L24_HIGH (R50). L24 rises above 32 V: the module raises EV pwr l24-high and keeps running. -/
  | l24High
  /-- P24_LOW (R51). P24 falls below 19.0 V: the ledger withholds valve, strobe and stepper grants and the module raises EV pwr
  p24-low. -/
  | p24Low
  /-- P24_OK (R51). P24 has stayed at or above 19.5 V for 10 ms: the grants resume and the module raises EV pwr p24-ok. -/
  | p24Ok
  /-- P24_HIGH (R52). P24 rises above 30 V and the module raises EV pwr p24-high; above 33.0 V the P24 input switch opens. -/
  | p24High (above33 : Bool)
  /-- P24_OVERVOLTAGE_CLEAR (R52). P24 falls below 31.0 V after an overvoltage: the P24 input switch closes again. -/
  | p24OvervoltageClear
  /-- TAMPER_MESH_BREAK (R27). The lid tamper mesh breaks while L24 is valid: the module halts with cause 09 within 100 µs. -/
  | tamperMeshBreak
  /-- HALT_ANNOUNCE (R124). At the next chain line boundary after a halt, the module inserts EV sys halt and answers the chain
  session's jobs with ER 60 HALTED. -/
  | haltAnnounce
  /-- JUNCTION_READING (R571). The 1 ms die sensor reading raises EV sys hot or EV sys hot-ok, and halts the module with cause 06
  above 125 °C. -/
  | junctionReading (milliC : Int)
  /-- HPRES_LOW (R33). A head ties HPRES low: the module enables +5V at a 60 mA limit and the head enters IDENT. -/
  | hpresLow (head : Nat)
  /-- HEAD_IDENTITY_READ (R338). 25 ms after +5V is enabled, or 10 ms after a failed try, the module reads the identity twice and
  accepts the head, retries, or sets BADID. -/
  | headIdentityRead (head : Nat) (first second : List Byte)
  /-- HPRES_HIGH (R58). HPRES goes high: both head supplies go off within 1 ms, the head becomes ABSENT and its open objects are
  closed HEADLOST. -/
  | hpresHigh (head : Nat)
  /-- HEAD_SUPPLY_OVERLOAD (R362). A head supply has held at its limit for 10 ms: it switches off, the head becomes SUPPLY and the
  module raises EV head x supply. -/
  | headSupplyOverload (head : Nat)
  /-- VALVE_OPEN_COMMON (R31). SRET differs from VCOM by more than 3.0 V while no valve of the bank is on: the module raises EV
  valve a or b open-common. -/
  | valveOpenCommon (bank : Nat)
  /-- VALVE_SHORT_RETURN (R59). A valve output is shorted to a return: the bank's VCOM opens within 20 µs and every later action
  of the bank counts as denied. -/
  | valveShortReturn (bank : Nat)
  /-- CSIN_CHANGE (R45). CSIN crosses a threshold, so the chain receive pair is treated as driven or undriven. -/
  | csinChange (driven : Bool)
  /-- REFERENCE_STABLE (R113). The 100 MHz reference becomes stable at step 3 of START, and I27 takes over the count without a
  step backwards. -/
  | referenceStable
  /-- RNG_STARTUP_TEST (R562). At step 4 of START the entropy start-up tests run, and are repeated every 10 ms until they pass. -/
  | rngStartupTest (boot : BootIn)
  /-- EPOCH_COMMIT (R114). Step 12 of START increments the boot epoch and commits it, retrying a refused write, before any link
  frame is sent. -/
  | epochCommit (tests : SelfTest)
  /-- START_COMPLETE (R112). The start sequence completes: island.gate is applied, the line plan is committed and the module
  enters READY. -/
  | startComplete
  /-- ISLAND_AUTO_GATE (R70). I05 or I06 has had no work for 1 ms while island.auto_gate is on, and it gates itself. -/
  | islandAutoGate (isl : Nat)
  /-- HANDSHAKE_WATCHDOG (R98). A handshake stays open past 1 ms, or a documented wait passes its bound: the module halts with
  cause 07. -/
  | handshakeWatchdog (wait : WaitKind) (openedAt : Tick)
  /-- I25_RESET (R99). A handshake with I25 stays open 1 ms or its heartbeat is missed: I00 resets I25, logs out every session and
  clears the job table. -/
  | i25Reset
  /-- I25_RESTART_DONE (R99). I25 restarts from its verified DRAM image within 50 ms and raises EV island 25 reset on every
  session. -/
  | i25RestartDone
  /-- LEDGER_GRANT (R78). Room appears in the budgets a queued request draws on, with no earlier or higher-priority request
  waiting, and the ledger grants it. -/
  | ledgerGrant
  /-- LEDGER_DEADLINE (R79). A request has not been granted by its deadline: the ledger refuses it with the consequence that fits
  the filer. -/
  | ledgerDeadline
  /-- LEDGER_P24_CHECK (R96). Every 10 ms the measured P24 average is compared with the limit, and EV ledger p24-over is raised
  when it exceeds the limit by 10 %. -/
  | ledgerP24Check (measured : Nat)
  /-- GET (R159). GET answers OK with the value of a leaf setting. -/
  | getPath (h : Hdr) (p : Path)
  /-- SET (R159). SET applies a value to a leaf setting that has no behaviour of its own, at once and as a whole. -/
  | setPath (h : Hdr) (p : Path) (tok : List Char)
  /-- SHOW (R161). SHOW answers data lines for the readable leaves at or under a path, then OK count. -/
  | showPath (h : Hdr) (p : Path)
  /-- WATCH (R162). WATCH starts, replaces or ends a periodic or change watch on a path. -/
  | watchPath (h : Hdr) (p : Path) (a : WatchArg)
  /-- WATCH_PERIOD (R162). A watch period or the 10 ms change comparison expires and raises EV watch path value. -/
  | watchPeriod (sess idx : Nat)
  /-- HELP (R585). HELP answers the metadata lines of the settings at or under a path, or the verbs. -/
  | helpPath (h : Hdr) (p : Option Path)
  /-- LOGIN_CHALLENGE (R172). LOGIN n answers a fresh 64-bit challenge. -/
  | loginChallenge (h : Hdr) (n : Int)
  /-- LOGIN_RESPONSE (R172). LOGIN n response checks the HMAC against the latest challenge, and logs the session in or counts a
  failure toward lockout. -/
  | loginResponse (h : Hdr) (n : Int) (r : LoginIn)
  /-- LOGIN_PIN (R176). LOGIN n pin digits on the IR session logs in with a PIN, or counts a wrong PIN toward the persistent PIN
  lockout. -/
  | loginPin (h : Hdr) (n : Int) (digits : List Char)
  /-- LOGOUT (R171). LOGOUT ends the session's login, aborts its commands and ends its watches. -/
  | logout (h : Hdr)
  /-- ABORT (R183). ABORT aborts the session's untagged commands, one tagged job, or all its commands, unless they have passed
  their commit points. -/
  | abort (h : Hdr) (a : AbortArg)
  /-- UNTAGGED_LINE_START (R180). The running untagged command ends, and the session's waiting untagged line starts and is judged
  in the state at that moment. -/
  | untaggedLineStart (sess : Nat)
  /-- CHALLENGE_EXPIRY (R173). A login challenge expires 60 s after it was issued. -/
  | challengeExpiry (sess : Nat)
  /-- SESSION_IDLE_TIMEOUT (R178). A logged-in session has been idle for session.s.idle_s: it is logged out and EV session timeout
  is raised. -/
  | sessionIdleTimeout (sess : Nat)
  /-- LOCKOUT_EXPIRY (R175). A 15-minute challenge-login or restart lockout ends. -/
  | lockoutExpiry (who : Option (Nat × Nat))
  /-- PIN_LOCKOUT_EXPIRY (R176). A turret's PIN lockout ends after 15 minutes with L24 valid. -/
  | pinLockoutExpiry (n : Nat)
  /-- CHARACTER_RECEIVED (R197). A serial character arrives on the chain or IR port: it is tagged, stored in the receive FIFO and
  forwarded as its line's fate requires. `mark` is how many ticks the chain pair had stood at mark before its start bit (R219). -/
  | characterReceived (port : SerialPort) (wave : RxWave) (mark : Nat)
  /-- IDLE_LINE (R202). One character time passes with no start bit: the address matcher re-arms, a partial line is discarded and
  the idle line is reproduced downstream. -/
  | idleLine (port : SerialPort)
  /-- CHAIN_BREAK (R219). A break on the chain receive pair lasts longer than 10 ms, and the module raises EV chain break. -/
  | chainBreak
  /-- OWN_LINE_SEND (R208). At a line boundary with the backlog at or below 819 characters, the module sends one waiting answer or
  event line of its own. -/
  | ownLineSend
  /-- CHAIN_FORMAT_SET (R199). A SET of chain.baud, data, parity or stop is answered in the old format. -/
  | chainFormatSet (h : Hdr) (k : Key) (v : Val)
  /-- CHAIN_FORMAT_CHANGE (R199). After the answer and 10 silent character times of the old format, the new chain format takes
  effect. -/
  | chainFormatChange
  /-- IR_FLOOD (R215). The averaged IR photocurrent exceeds 40 µA or falls below 30 µA, so flood is flagged or cleared. -/
  | irFlood (microA : Nat)
  /-- IR_FLOOD_EVENT (R216). Flood has lasted 100 ms, and the module raises EV ir flood once. -/
  | irFloodEvent
  /-- IR_TX_RESUME (R217). Flood has stayed clear for 50 ms: the IR transmitter resumes and the port leaves FAULT. -/
  | irTxResume
  /-- IR_FAULT (R222). The IR photocurrent has stayed above 40 µA for 60 s: the port is treated as failed and the module raises EV
  ir fault. -/
  | irFault
  /-- CHAIN_SLOW_RECEIVE_MATCH (R225). In WATCH at 9 600 baud or below, the slow receiver matches the module's address and wakes
  the module, storing the line. -/
  | chainSlowReceiveMatch (line : List Byte)
  /-- CHAIN_START_EDGE_WAKE (R226). In WATCH at rates above 9 600 baud, a chain start edge starts the 48 MHz oscillator and wakes
  the module. -/
  | chainStartEdgeWake
  /-- CSIN_RISE_IN_WATCH (R227). CSIN rises above 3.5 V in WATCH at a high rate, and the 48 MHz oscillator starts without leaving
  WATCH. -/
  | csinRiseInWatch
  /-- IR_START_EDGE_WAKE (R229). An IR pulse that passes the filter in WATCH is a wake event. -/
  | irStartEdgeWake
  /-- WAKE_COMPLETE (R120). The module returns from WATCH to READY, raises EV sys wake, re-identifies heads, retrains links and
  executes the waking line. -/
  | wakeComplete
  /-- DO_SYS_RUN (R109). DO sys.run moves the module from READY to RUN once heads and the line plan allow. -/
  | doSysRun (h : Hdr)
  /-- DO_SYS_STOP (R111). DO sys.stop sets pause reason STOP; the module enters READY when the curtain is clear. -/
  | doSysStop (h : Hdr)
  /-- DO_SYS_WATCH (R118). DO sys.watch starts WATCH entry from READY once its conditions hold. -/
  | doSysWatch (h : Hdr)
  /-- WATCH_ENTRY_COMPLETE (R119). After waiting writes, passes and the queue have finished, the module sets its outputs to WATCH
  states and stops every island but I00. -/
  | watchEntryComplete
  /-- DO_SYS_HALT (R122). DO sys.halt from the Keep halts the module with cause 10. -/
  | doSysHalt (h : Hdr)
  /-- SHOW_SYS_HALT (R126). SHOW sys.halt in HALTED answers the cause, tick, mask and a fresh challenge. -/
  | showSysHalt (h : Hdr)
  /-- DO_SYS_RESTART (R127). DO sys.restart response on the chain checks the response against the Keep's login key and restarts
  the module at step 3 of START. -/
  | doSysRestart (h : Hdr) (r : RestartIn)
  /-- RECORD_WRITE_START (R134). The flash controller starts the next waiting record write, with epoch and keystore writes first. -/
  | recordWriteStart
  /-- FLASH_OP_COMPLETE (R133). A granted flash erase or page program completes, and the record write moves to its next step or
  commits. -/
  | flashOpComplete
  /-- SUPERSEDED_SLOT_ERASE (R135). Housekeeping erases a superseded slot within 60 s while no write is pending. -/
  | supersededSlotErase (rec : RecName)
  /-- RECORD_REPAIR (R143). A record with one damaged slot is rewritten within 60 s of START. -/
  | recordRepair (rec : RecName)
  /-- CHECKPOINT_DUE (R588). nv.checkpoint_s elapses, and the statistics checkpoints are filed for writing. -/
  | checkpointDue
  /-- NV_CHECKPOINT_SET (R588). A write of nv.checkpoint_s reschedules the next checkpoint at once. -/
  | nvCheckpointSet (h : Hdr) (k : Key) (v : Val)
  /-- DO_NV_CHECKPOINT (R131). DO nv.checkpoint writes the turret's statistics checkpoint. -/
  | doNvCheckpoint (h : Hdr)
  /-- DO_NV_SAVE (R131). DO nv.save writes the Keep configuration layer, tagged under the Keep's key. -/
  | doNvSave (h : Hdr)
  /-- DO_NV_VERIFY (R148). DO nv.verify probes both slots of every readable record and raises EV nv verify for each. -/
  | doNvVerify (h : VerifyIn)
  /-- ISLAND_GATE_SET (R68). A write of island.gate is checked against gating permissions, pairings and use, and applied in READY.
  -/
  | islandGateSet (h : Hdr) (k : Key) (v : Val)
  /-- ENUM (R234). ENUM n assigns the module an address, or none, and forwards ENUM with the next value. -/
  | enumerate (h : Hdr) (n : Option Nat)
  /-- TOWER_DUPLICATE_CHECK (R240). After its first link marks, the Spire collects every address it reaches and raises EV tower
  duplicate. -/
  | towerDuplicateCheck (addrs : List Nat)
  /-- SPIRE_COUNT_STEP (R253). Before its first mark, a Spire reads downstream counts and steps its own count forward above the
  highest. -/
  | spireCountStep (counts : List Nat)
  /-- LINE_MARK_SEND (R247). A Spire sends one line mark, or a time-only mark, per line cycle on LINK D. -/
  | lineMarkSend
  /-- MARK (R250). A MARK bypass message arrives: the module updates its path delay and forwards it, corrects its count by the
  error e and schedules the line start. -/
  | mark (m : Mark) (arrival16 : Nat) (residence16 : Nat) (replayed : Bool)
  /-- MARK_LINE_START (R249). The count reaches origin tick plus lead, and the announced line starts. -/
  | markLineStart
  /-- MARK_MISSING (R254). A mark has not arrived by the next start tick: the line is bridged, and the third consecutive miss is
  Spire loss. -/
  | markMissing
  /-- SPIRE_LOSS (R256). The module meets Spire loss and free-runs with time.source FREE. -/
  | spireLoss
  /-- SPIRE_LOST_TIMEOUT (R256). No correcting mark arrives within 200 ms of Spire loss: the feed pauses with reason SPIRE and the
  module raises EV tower spire-lost. -/
  | spireLostTimeout
  /-- NO_MARKS_AFTER_TRAINING (R259). An addressed non-Spire module has received no marks 1 s after its LINK U hop trained, and
  meets Spire loss. -/
  | noMarksAfterTraining
  /-- DO_TOWER_PROMOTE (R258). DO tower.promote makes a free-running module a Spire for itself and downstream. -/
  | doTowerPromote (h : Hdr)
  /-- LINK_BEACON (R267). Every 100 ms a down port sends a 100 µs TS1 burst on all lanes. -/
  | linkBeacon (port : Nat)
  /-- TS1 (R267). TS1 is received on a down port, and the port files a train request. -/
  | ts1 (port : Nat) (sets : List LaneSet)
  /-- TRAINING (R267). A train grant starts full training of lanes, lane map, deskew and hop latency. -/
  | training (port : Nat) (found : TrainIn)
  /-- TRAINING_TIMEOUT (R267). Training has not completed within 10 ms of its grant: the port abandons it and returns to beacons. -/
  | trainingTimeout (port : Nat)
  /-- TRAINING_COMPLETE (R269). Training completes: the link is up, the grant is released and EV link x up w is raised. -/
  | trainingComplete (port : Nat) (times : List Exchange)
  /-- FRAME_RECEIVED (R274). A frame arrives: it is checked, then accepted, acknowledged, NAKed or discarded, and routed,
  forwarded or consumed. -/
  | frameReceived (port : Nat) (lanes : List (List Sym)) (ending : Sym) (codeError : Bool)
  /-- FRAME_TRANSMIT (R288). The port starts its next frame by deficit round-robin once room, acknowledgment bounds and XOFF
  allow. -/
  | frameTransmit (port : Nat)
  /-- ACK (R275). An ACK set frees acknowledged frames from the replay buffer. -/
  | ack (port : Nat) (sets : List LaneSet)
  /-- NAK (R275). A NAK set makes the sender replay every frame after the one named. -/
  | nak (port : Nat) (sets : List LaneSet)
  /-- REPLAY_TIMER (R275). No acknowledgment has advanced for 4 × RTT + 4 µs: the sender replays all unacknowledged frames and
  bypass sets. -/
  | replayTimer (port : Nat)
  /-- BYPASS_SET_RECEIVED (R281). A bypass set arrives: it is sequence-checked and acknowledged, and its message is routed or
  consumed. -/
  | bypassSetReceived (port : Nat) (x : BypassIn)
  /-- XOFF (R283). An XOFF bypass message stops the sender from starting new frames within 200 ns. -/
  | xoff (port : Nat)
  /-- XON (R283). An XON bypass message lets the sender resume frames. -/
  | xon (port : Nat)
  /-- RECEIVE_BUFFER_THRESHOLD (R283). Receive-buffer free space crosses H or H + hysteresis, and the port sends XOFF or XON. -/
  | receiveBufferThreshold (port : Nat) (free : Nat)
  /-- LINK_STALLED (R285). XOFF has been in force for 1 s, and the module raises EV link x stalled. -/
  | linkStalled (port : Nat)
  /-- ADDR (R233). An ADDR bypass message is received, and EV tower order is raised when the order is wrong. -/
  | addr (port : Nat) (addr : Nat)
  /-- COUNT_REQ (R253). A COUNT-REQ or COUNT bypass message requests or returns a module's tick count. -/
  | countReq (port : Nat) (addr : Nat) (count : Option Nat)
  /-- TMGMT (R294). A TMGMT message delivers a module's epoch, state and reserved-rate sum to the receiver. -/
  | tmgmt (port : Nat) (m : Tmgmt)
  /-- HALT_NOTICE (R305). A HALT-NOTICE is forwarded upstream to the host with the halted module's address, cause and tick. -/
  | haltNotice (info : HaltInfo)
  /-- OPEN (R289). An OPEN from the host, checked under the stream key, is answered OPEN-OK or CLOSE. -/
  | openStream (m : KeyMsg)
  /-- OPEN_OK (R289). An OPEN-OK is routed to the stream's end. -/
  | openOk (m : KeyMsg)
  /-- CLOSE (R289). A CLOSE ends a stream and discards its unsent frames. -/
  | closeStream (stream modAddr : Nat) (reason : CloseReason)
  /-- KEY_READY (R296). A KEY-READY is verified under the next key and answered KEY-CONFIRM or KEY-FAIL. -/
  | keyReady (m : KeyMsg)
  /-- KEY_CONFIRM (R296). A valid KEY-CONFIRM lets the end flip its transmit phase at a frame boundary. -/
  | keyConfirm (m : KeyMsg)
  /-- KEY_FAIL (R297). A KEY-FAIL abandons the rekey attempt. -/
  | keyFail (stream modAddr : Nat) (reason : CloseReason)
  /-- KEY_READY_RETRY (R297). No answer to KEY-READY arrives within 100 ms: it is resent up to 3 times, then EV stream
  rekey-failed is raised. -/
  | keyReadyRetry (stream : Nat)
  /-- REKEY_WINDOW_END (R296). 50 ms after the first frame in the new phase, the receiver zeroises the old key slot. -/
  | rekeyWindowEnd (stream : Nat)
  /-- LANE_ERROR_LIMIT (R301). A lane's errors in 1 ms exceed lane_limit, which starts lane replacement or width fallback. -/
  | laneErrorLimit (port lane errors : Nat)
  /-- REPL (R301). A REPL request or command swaps the spare in for the failed lane. -/
  | repl (port : Nat) (sets : List LaneSet)
  /-- WIDTH (R302). A WIDTH set changes the link width to 2 or 1 lanes. -/
  | width (port : Nat) (sets : List LaneSet)
  /-- LANE_CHANGE_COMPLETE (R301). After deskew and TIME updates, frames and bypass sets resume with replays first, or the link
  goes down after 100 µs. -/
  | laneChangeComplete (port : Nat) (times : List Exchange)
  /-- LOCK_TIMEOUT (R303). Symbol lock on every data lane has been lost for longer than lock_timeout, and the link goes down. -/
  | lockTimeout (port : Nat)
  /-- HALT_SET (R305). HALT ordered sets are received: the link goes down with peer-halt and a HALT-NOTICE is sent upstream. -/
  | haltSet (port : Nat) (sets : List LaneSet)
  /-- STREAM_RATE_SET (R288). A write of stream.s.rate_mbps or turret is checked against the tower's 16 Gb/s sum, and TMGMT is
  sent. -/
  | streamRateSet (h : Hdr) (k : Key) (v : Val)
  /-- LINK_HEADROOM_SET (R308). A write of link.x.headroom or hysteresis is refused when their sum exceeds 98 304 bytes. -/
  | linkHeadroomSet (h : Hdr) (k : Key) (v : Val)
  /-- STEPPER_SPEED_STEP (R311). Every 10 ms the roll speed moves one ramp step, files an acceleration request for an increase and
  counts refusals. -/
  | stepperSpeedStep
  /-- RATE_LOOP_STEP (R312). Every 10 ms in RUN the commanded speed is recomputed from the measured rate and the target and
  clamped to the cap. -/
  | rateLoopStep
  /-- EJECT_CAPACITY_UPDATE (R315). Every 1 s the ejection capacity C is recomputed from the last 10 s. -/
  | ejectCapacityUpdate
  /-- FEED_TARGET_UNIT_SET (R313). A write of feed.target_unit is checked against the target's range and keeps the number and k. -/
  | feedTargetUnitSet (h : Hdr) (k : Key) (v : Val)
  /-- FEED_CURRENT_SET (R310). A write of a feed phase current is refused when it breaks accel ≥ run ≥ hold. -/
  | feedCurrentSet (h : Hdr) (k : Key) (v : Val)
  /-- CAPTURE_MARK_SET (R317). A write of a capture mark is refused when it breaks resume < slow < pause. -/
  | captureMarkSet (h : Hdr) (k : Key) (v : Val)
  /-- DO_FEED_PAUSE (R319). DO feed.pause sets pause reason COMMAND. -/
  | doFeedPause (h : Hdr)
  /-- DO_FEED_RESUME (R319). DO feed.resume clears every pause reason it may clear, testing coils first, and answers the remaining
  mask. -/
  | doFeedResume (h : Hdr)
  /-- ROLL_STANDSTILL (R320). The decelerating roll reaches standstill, and the module enters PAUSED. -/
  | rollStandstill
  /-- RAMP_REACHES_TARGET (R322). A start or resume ramp reaches its target speed: the feed becomes steady and the rate loop
  resumes. -/
  | rampReachesTarget
  /-- SEGMENT_OPEN (R322). The first line after seam.settle_ms of steady feed opens a segment and writes SEAM-OPEN. -/
  | segmentOpen
  /-- SEGMENT_CLOSE (R323). The curtain has been clear for seam.clear_lines lines while paused: the segment closes, SEAM-CLOSE is
  written, and READY follows a stop. -/
  | segmentClose
  /-- CLEAR_TIMEOUT (R333). The curtain has not cleared within seam.clear_timeout_s of the first pause reason, and the current
  line becomes the timeout line. -/
  | clearTimeout
  /-- SEGMENT_FORCED_CLOSE (R333). The first line after which no captured object is open closes the segment forced and raises EV
  seam forced. -/
  | segmentForcedClose
  /-- FEED_STALL (R329). Back-EMF has stayed low for 4 full steps: stepping stops, STALL is set and EV feed stall is raised. -/
  | feedStall
  /-- FEED_COIL_FAULT (R330). The driver refuses to energise or disables a coil: COIL is set and EV feed coil is raised. -/
  | feedCoilFault (f : CoilFault)
  /-- LINE_CYCLE_START (R349). A line cycle starts C ticks after the previous one, or on a mark, deferred and flagged LATE if the
  previous cycle is still running. -/
  | lineCycleStart
  /-- PHASE_SLOT_START (R345). A phase slot starts: SG transfers charge, readout begins, CLR runs and the Lantern pulse fires. -/
  | phaseSlotStart (phase : Nat)
  /-- LANTERN_PULSE_END (R351). A Lantern pulse ends and is judged for compliance or missing strobe, with flags and counts. -/
  | lanternPulseEnd (phase : Nat) (lows : List (Nat × Nat))
  /-- READOUT_COMPLETE (R355). A plane's readout ends: pixels are shading-corrected, defective pixels repaired and LINE records
  written. -/
  | readoutComplete (head phase : Nat) (r : Readout)
  /-- LANTERN_STAGED_SET (R347). A SET of a line-plan path changes only the staged plan and turns lantern.committed off. -/
  | lanternStagedSet (h : Hdr) (k : Key) (v : Val)
  /-- DO_LANTERN_COMMIT (R348). DO lantern.commit checks, tests and reserves the staged plan, which then runs from the next cycle.
  -/
  | doLanternCommit (h : Hdr)
  /-- HEAD_EXPECT_TYPE_SET (R340). A write of head.x.expect_type in READY can move a MISMATCH head to READY. -/
  | headExpectTypeSet (h : Hdr) (k : Key) (v : Val)
  /-- DO_SHADE_CALIBRATE (R356). DO shade.calibrate starts the dark and white captures for calibration. -/
  | doShadeCalibrate (h : Hdr)
  /-- SHADE_CAPTURE_DONE (R356). The 256-line dark and white captures complete: tables are computed and checked, and the shade
  record is written. -/
  | shadeCaptureDone (x : Unit)
  /-- LINE_CLASSIFY (R367). All planes of a line are corrected: pixels are classified, runs join or open objects, and objects
  close or are force-closed. -/
  | lineClassify
  /-- OBJECT_DECIDE (R377). An object is decided by its turret's rules, its arrival predicted, a CHIP record written and actions
  scheduled. -/
  | objectDecide
  /-- DECIDER_POSITION (R388). In Sealed mode each 25 µs decision position serves one waiting object of its turret or stays idle. -/
  | deciderPosition
  /-- MATCH_STORE_EXPIRY (R381). An unmatched head A object reaches its expiry tick and is decided alone with FALLBACK. -/
  | matchStoreExpiry
  /-- VIEW_FEATURE_RECORD (R383). A VIEW feature record arrives in a TOWER frame and fills the second set of a matching object. -/
  | viewFeatureRecord (r : ViewRec)
  /-- VIEW_WAIT_END (R383). track.view_wait_us after the decision line passes, and the object is decided with what has arrived. -/
  | viewWaitEnd
  /-- STAT_PERIOD (R393). class.stat_period_ms elapses, and a STAT record is written for each open STAT stream. -/
  | statPeriod (turret : Nat)
  /-- CLASS_STAGED_SET (R370). A write of class coefficients, bias or rules is staged and sets the slot to STAGED. -/
  | classStagedSet (h : Hdr) (k : Key) (v : Val)
  /-- DO_CLASS_COMMIT (R370). DO class.commit writes the turret's staged recipe through the journal. -/
  | doClassCommit (h : Hdr)
  /-- VALVE_REQUEST_FILE (R84). 4 µs before a valve's scheduled start, the scheduler files its ledger request. -/
  | valveRequestFile (mm : Nat)
  /-- VALVE_ACTION_START (R86). At a 0.5 µs step with room and passed tags, a valve action starts its peak, or it is dropped as
  denied at max_delay. -/
  | valveActionStart (mm : Nat)
  /-- VALVE_PEAK_END (R395). The peak time ends and the valve steps down to hold. -/
  | valvePeakEnd (mm : Nat) (mA : Nat)
  /-- VALVE_ACTION_END (R395). The action's end arrives: the output clamps and the grant is released. -/
  | valveActionEnd (mm : Nat)
  /-- VALVE_FAULT_LATCH (R419). A driver detects a short or a second low peak: the channel latches SHORT or OPEN and the action
  ends. -/
  | valveFaultLatch (mm : Nat) (x : Overcurrent)
  /-- DO_VALVE_TEST (R420). DO valve.mm.test fires one test action and clears a latched channel on success. -/
  | doValveTest (h : Hdr) (mm : Nat) (ms6 : Int)
  /-- VALVE_SETTING_SET (R396). A write of a valve current is refused when hold_a would exceed peak_a. -/
  | valveSettingSet (h : Hdr) (k : Key) (v : Val)
  /-- PEAK_SHARE_SET (R83). A write of turret.n.peak_share is refused when the shares would exceed eject.peak_budget. -/
  | peakShareSet (h : Hdr) (k : Key) (v : Val)
  /-- PEAK_BUDGET_SET (R93). A write of eject.peak_budget or ledger.p24_avg_limit is refused when it cannot hold the standing
  reservations. -/
  | peakBudgetSet (h : Hdr) (k : Key) (v : Val)
  /-- SEQ_FRAME_START (R437). A sequencer frame starts and applies staged frame and slot settings. -/
  | seqFrameStart
  /-- SEQ_SLOT_START (R437). A sequencer slot of a turret starts, and that turret's loop or urgent pass resumes. -/
  | seqSlotStart (slot : Nat)
  /-- SEQ_SETTLE_END (R435). The switch and settle of a pass end, and its repetitions start. -/
  | seqSettleEnd
  /-- SEQ_RESULT (R430). A repetition's last sample ends: the result is computed and stored, and events and triggers fire. -/
  | seqResult (r : Sample)
  /-- SEQ_DELAY_END (R435). A pass's delay ends, and the loop moves to the next LOOP entry. -/
  | seqDelayEnd (turret : Nat)
  /-- DO_SEQ_NOW (R441). DO seq.e.now files an urgent request, which pre-empts the current repetition and answers its result. -/
  | doSeqNow (h : Hdr) (e : Nat)
  /-- LOOP_READBACK_DUE (R440). Every 100 ms the readback passes of each enabled loop fall due. -/
  | loopReadbackDue (n : Nat) (microMa microV : Int)
  /-- SEQ_STAGED_SET (R434). A write of a seq.e setting is staged until DO seq.commit. -/
  | seqStagedSet (h : Hdr) (k : Key) (v : Val)
  /-- DO_SEQ_COMMIT (R434). DO seq.commit checks and applies a turret's staged entries, and for the Keep the frame and slots, and
  writes them through the journal. -/
  | doSeqCommit (h : Hdr)
  /-- DO_CHECK_RUN (R445). DO check.run runs an open, gain, exc or bias check and answers value pass or fail. -/
  | doCheckRun (h : Hdr) (c : CheckKind)
  /-- CHECK_INTERVAL (R446). check.interval_s elapses, and the gain, exc and bias checks run. -/
  | checkInterval
  /-- CHECK_INTERVAL_SET (R446). A nonzero check.interval_s is refused while partitioned with no Keep slot of 3.1 ms. -/
  | checkIntervalSet (h : Hdr) (k : Key) (v : Val)
  /-- FE_PIN_OVER (R449). A SENSE pin goes beyond ±5.5 V: its switches open, it becomes OVER and EV fe pin over is raised. -/
  | fePinOver (pin : Nat)
  /-- FE_PIN_RECOVER (R449). A pin has stayed within ±5.0 V for 1 s and returns to OK. -/
  | fePinRecover (pin : Nat)
  /-- EXC_LIMIT (R451). The excitation current limit has acted for 100 ms without a break, and EV fe exc-limit is raised. -/
  | excLimit (entry : Nat)
  /-- EXC_REQUEST_REFILE (R452). A refused excite request is filed again every 10 s. -/
  | excRequestRefile
  /-- LOOP_SAMPLE (R459). Every 10 ms a loop samples its source and sets its measurement or alarm current. -/
  | loopSample (n : Nat)
  /-- LOOP_SATURATION (R464). The loop output stage has stayed saturated for 1 ms, and headroom turns off. -/
  | loopSaturation (n : Nat)
  /-- LOOP_HEADROOM_FAULT (R464). Headroom has stayed off for 100 ms: EV loop n headroom is raised, and a high alarm falls back to
  3.60 mA. -/
  | loopHeadroomFault (n : Nat)
  /-- LOOP_HEADROOM_OK (R464). The stage has been out of saturation for 100 ms, and headroom turns on again. -/
  | loopHeadroomOk (n : Nat)
  /-- LOOP_QUANTITY_SET (R458). A write of loop.n.quantity, entry or lo/hi is checked against ownership and range. -/
  | loopQuantitySet (h : Hdr) (k : Key) (v : Val)
  /-- MEM_READ (R479). I04 accepts or refuses a read, decrypts the data and delivers it before its tag check. -/
  | memRead (requester : MemBy) (owner : Nat) (region : Region) (sector : Nat)
  /-- MEM_WRITE (R477). I04 sets the generation, encrypts and tags a sector, filling a fresh page first. -/
  | memWrite (requester : MemBy) (owner : Nat) (region : Region) (sector off : Nat) (data : List Byte)
  /-- TAG_CHECK_COMPLETE (R481). A tag check completes: it releases fenced outputs, or on mismatch latches halt cause 01. -/
  | tagCheckComplete (requester : Nat) (x : Stored)
  /-- DO_MEM_REKEY (R484). DO mem.rekey files a mem request for a rekey pass of one owner and region. -/
  | doMemRekey (h : Hdr) (n : Nat) (r : Region)
  /-- REKEY_PASS (R485). A granted rekey pass re-encrypts the owner's sectors under new keys and zeroises the old. -/
  | rekeyPass
  /-- SCRUB_PASS (R487). Every mem.scrub_h hours a scrub pass probe-reads every slot and image and repairs failures. -/
  | scrubPass (bad : List BadSlot) (imageFails : Nat)
  /-- DO_TURRET_CREATE (R497). DO turret.create n draws a salt, sets the turret CREATED and writes keystore. -/
  | doTurretCreate (h : Hdr) (n : Int)
  /-- DO_TURRET_CLAIM (R499). DO turret.n.claim binds the owner key, derives the turret keys and answers the claim nonce. -/
  | doTurretClaim (h : Hdr) (n : Nat) (key : List Byte)
  /-- GET_KEY_NONCE (R502). GET key.nonce draws a new import nonce for the session. -/
  | getKeyNonce (h : Hdr)
  /-- KEY_NONCE_EXPIRY (R502). An import nonce expires 60 s after it was drawn. -/
  | keyNonceExpiry (sess : Nat)
  /-- DO_KEY_IMPORT (R502). DO key.import decrypts an import record from a blob into a key slot and zeroises the blob. -/
  | doKeyImport (h : Hdr) (slot b : Int)
  /-- DO_KEY_ERASE (R502). DO key.erase empties a key slot 3–7. -/
  | doKeyErase (h : Hdr) (slot : Int)
  /-- DO_BLOB_WRITE (R507). DO turret.blob.b.write writes 1–64 bytes into a blob. -/
  | doBlobWrite (h : Hdr) (b off : Int) (data : List Byte)
  /-- DO_BLOB_READ (R507). DO turret.blob.b.read answers 1–64 bytes of a blob. -/
  | doBlobRead (h : Hdr) (b off len : Int)
  /-- DO_BLOB_CLEAR (R507). DO turret.blob.b.clear zeroes a blob. -/
  | doBlobClear (h : Hdr) (b : Int)
  /-- XRANGE_SET (R509). A write of an x-range field completes or breaks the range and is tested for order and overlap. -/
  | xrangeSet (h : Hdr) (k : Key) (v : Val)
  /-- ASSIGNMENT_SET (R510). An assignment write of Table 15-4 is checked against turret state and mode, and raises EV turret
  assign. -/
  | assignmentSet (h : Hdr) (k : Key) (v : Val)
  /-- DO_TURRET_REVOKE (R521). DO turret.n.revoke stops every resource of the turret within 1 ms and writes keystore. -/
  | doTurretRevoke (h : Hdr) (n : Int)
  /-- DO_TURRET_RESTORE (R522). DO turret.n.restore returns a REVOKED turret to CLAIMED or CREATED. -/
  | doTurretRestore (h : Hdr) (n : Int)
  /-- DO_TURRET_DESTROY (R523). DO turret.n.destroy revokes the turret, erases its keys, salt and assignments and makes it ABSENT.
  -/
  | doTurretDestroy (h : Hdr) (n : Int)
  /-- DO_SYS_SEAL (R524). DO sys.seal checks a signed seal record against the assignment digest and makes the module Sealed. -/
  | doSysSeal (h : Hdr) (b : Int)
  /-- DO_SYS_UNSEAL (R525). DO sys.unseal erases tenant keys and makes the module Open. -/
  | doSysUnseal (h : Hdr)
  /-- DO_STREAM_NEXT (R514). DO stream.s.next installs the next key generation of a stream. -/
  | doStreamNext (h : Hdr) (n : Nat)
  /-- BLOB_WRITE (R516). A MGMT BLOB-WRITE record writes data into the owner's blob and is answered by STATUS. -/
  | blobWrite (stream tag blob off : Nat) (data : List Byte)
  /-- BLOB_READ (R516). A MGMT BLOB-READ record is answered with BLOB-DATA and STATUS. -/
  | blobRead (stream tag blob off len : Nat)
  /-- TABLE_WRITE (R516). A MGMT TABLE-WRITE record stages class-table data and is digested on arrival. -/
  | tableWrite (stream tag head slot off : Nat) (data : List Byte)
  /-- MGMT_DOME_OPERATION (R551). A MGMT record of kind 0x0500 issues one Dome operation, answered by STATUS. -/
  | mgmtDomeOperation (stream tag : Nat) (fields : List Byte)
  /-- DOME_FRAME_START (R535). A Dome frame or Dome slot starts, and the slot's turret's waiting operations may start. -/
  | domeFrameStart
  /-- DO_DOME_DIG_HASH (R540). DO dome.dig.hash digests blob bytes and answers the digest. -/
  | doDomeDigHash (h : Hdr) (alg : DigAlg) (k : Option Nat) (b off len : Int) (out : Option (Int × Int))
  /-- DO_DOME_DIG_START (R540). DO dome.dig.start opens a digest handle. -/
  | doDomeDigStart (h : Hdr) (alg : DigAlg) (k : Option Nat)
  /-- DO_DOME_DIG_UPDATE (R540). DO dome.dig.update feeds blob bytes into an open handle. -/
  | doDomeDigUpdate (h : Hdr) (hd b off len : Int)
  /-- DO_DOME_DIG_FINAL (R540). DO dome.dig.final answers the digest and frees the handle. -/
  | doDomeDigFinal (h : Hdr) (hd : Int) (out : Option (Int × Int))
  /-- DO_DOME_DIG_DROP (R540). DO dome.dig.drop frees a handle and zeroises its state. -/
  | doDomeDigDrop (h : Hdr) (hd : Int)
  /-- DO_DOME_DIG_TABLE (R542). DO dome.dig.table answers the SHA-256 of a staged class table. -/
  | doDomeDigTable (h : Hdr) (head slot : Nat)
  /-- DIGEST_JOB_COMPLETE (R536). An explicit digest job completes and is answered, at its padded time in Sealed mode. -/
  | digestJobComplete (job : Nat)
  /-- DO_DOME_PKE_SIGN (R543). DO dome.pke.sign signs a digest with an EC slot and verifies before release. -/
  | doDomePkeSign (h : Hdr) (k b : Int)
  /-- DO_DOME_PKE_VERIFY (R544). DO dome.pke.verify checks a signature from a blob. -/
  | doDomePkeVerify (h : Hdr) (c : Curve) (b : Int)
  /-- DO_DOME_PKE_KEYGEN (R544). DO dome.pke.keygen makes and tests a key pair in an empty slot and writes keystore. -/
  | doDomePkeKeygen (h : Hdr) (c : Curve) (k : Int)
  /-- DO_DOME_PKE_ECDH (R544). DO dome.pke.ecdh computes a shared secret into a blob or a SECRET slot. -/
  | doDomePkeEcdh (h : Hdr) (k b : Int) (k2 : Option Int)
  /-- DO_DOME_PKE_PUBLIC (R544). DO dome.pke.public answers the public key of an EC slot. -/
  | doDomePkePublic (h : Hdr) (k : Int)
  /-- PKE_OPERATION_COMPLETE (R536). A public-key operation ends and is answered, at its padded time in Sealed mode. -/
  | pkeOperationComplete (found : PkeIn)
  /-- DO_DOME_PKE_DIAG (R554). DO dome.pke.diag runs a maker-signed diagnostic program in Open mode. -/
  | doDomePkeDiag (h : Hdr) (b : Int)
  /-- DO_DOME_RNG_FILL (R556). DO dome.rng.fill writes random bytes into a blob. -/
  | doDomeRngFill (h : Hdr) (b off len : Int)
  /-- RNG_RESEED (R555). After 65 536 requests or 60 s the DRBG is reseeded with 384 bits of entropy. -/
  | rngReseed
  /-- RNG_HEALTH_FAIL (R560). A continuous health test fails: the random source goes to FAULT and EV dome rng-fault is raised. -/
  | rngHealthFail
  /-- RNG_RETEST (R560). Every 1 s in FAULT the start-up tests repeat, and on a pass the DRBG is instantiated afresh. -/
  | rngRetest (passed : Bool)
  /-- L24_FLASH_LEVEL (R82). L24 crosses 19.0 V. Below it the ledger grants no flash program or erase, and above it held flash
  requests, including the step 12 epoch commit, may be granted again. -/
  | l24FlashLevel (above19 : Bool)
  /-- HOLDUP_EXHAUSTED (R25). After L24 is lost, the hold-up capacitors run out and the logic, including the chain responder of a
  module HALTED with cause 05, stops running. -/
  | holdupExhausted
  /-- IR_TURNAROUND (R214). The IR receiver has seen no pulse for ir.turnaround_ms, so the module starts sending its waiting IR
  answer or event line and blanks its receiver. -/
  | irTurnaround
  deriving DecidableEq, Repr

end Sys2Proof
end

