-- ==== Sys2Proof/Decode.lean ====
section
/-! DEFINITION. The decoder of the operation table. The table gives no row any bits: a command is a step of the block
(an event on a wire, a line, a time that comes), not a word, so no word spells one. Log entry 7. -/

namespace Sys2Proof

/-- The command that a word spells by the table's bits: none, for the table gives bits to no row. -/
def decodeTableWord (_nbits _w : Nat) : Option Instr := none

end Sys2Proof
end

