-- ==== Sys2Proof/Machine/Flags.lean ====
section
/-! DEFINITION. The three checks that the block computes on what it sends and receives: the CRC-8 of a Traop line
(R154), the CRC-16 of a control set and of a bypass set (R265, R279) and the CRC-32C of a frame (R271). Registers are
plain numbers. -/

namespace Sys2Proof

/-- `n` steps of a CRC register that shifts left: `top` is the value of its top bit, `poly` its generator with that
power of two included. -/
def crcLeft (top poly : Nat) : Nat → Nat → Nat
  | 0, c => c
  | n + 1, c => crcLeft top poly n (if top ≤ c then (2 * c) ^^^ poly else 2 * c)

/-- CRC-8 with polynomial 0x07, initial value 0, no reflection, no final XOR (R154). -/
def crc8 (bs : List Byte) : Nat := bs.foldl (fun c b => crcLeft 0x80 0x107 8 (c ^^^ b.toNat)) 0

/-- CRC-16 with polynomial 0x1021, initial value 0xFFFF, no reflection, no final XOR (R265). -/
def crc16 (bs : List Byte) : Nat := bs.foldl (fun c b => crcLeft 0x8000 0x11021 8 (c ^^^ (b.toNat * 256))) 0xFFFF

/-- `n` steps of a CRC register that shifts right, with the reflected polynomial. -/
def crcRight (poly : Nat) : Nat → Nat → Nat
  | 0, c => c
  | n + 1, c => crcRight poly n (if c % 2 = 1 then (c / 2) ^^^ poly else c / 2)

/-- CRC-32C: polynomial 0x1EDC6F41 reflected, initial value and final XOR 0xFFFFFFFF (R271). -/
def crc32c (bs : List Byte) : Nat :=
  (bs.foldl (fun c b => crcRight 0x82F63B78 8 (c ^^^ b.toNat)) 0xFFFFFFFF) ^^^ 0xFFFFFFFF

end Sys2Proof
end

