-- ==== Sys2Proof/Machine/Frac.lean ====
section
/-! DEFINITION. Exact fractions, in which the measured values of the module are held before they are rounded for a line (R589),
and the sine, cosine and root that the demodulation of R429 needs, in fixed point (log entry 70). -/

namespace Sys2Proof

/-- A fraction: its numerator and its denominator, which is not 0. -/
structure Frac where
  num : Int := 0
  den : Nat := 1
  deriving DecidableEq, Repr

/-- A fraction in its lowest terms. -/
def Frac.make (n : Int) (d : Nat) : Frac :=
  let g := Nat.gcd n.natAbs d
  if g = 0 then {} else { num := n / g, den := d / g }

/-- A number of millionths. -/
def Frac.of6 (v : Int) : Frac := Frac.make v 1000000

/-- The sum of two fractions. -/
def Frac.add (a b : Frac) : Frac := Frac.make (a.num * b.den + b.num * a.den) (a.den * b.den)

/-- The difference of two fractions. -/
def Frac.sub (a b : Frac) : Frac := Frac.make (a.num * b.den - b.num * a.den) (a.den * b.den)

/-- The product of two fractions. -/
def Frac.mul (a b : Frac) : Frac := Frac.make (a.num * b.num) (a.den * b.den)

/-- The quotient of two fractions, the second not 0. -/
def Frac.div (a b : Frac) : Frac :=
  if b.num < 0 then Frac.make (-(a.num * b.den)) (a.den * b.num.natAbs) else Frac.make (a.num * b.den) (a.den * b.num.natAbs)

/-- The absolute value of a fraction. -/
def Frac.abs (a : Frac) : Frac := { a with num := a.num.natAbs }

/-- Whether one fraction is at most another. -/
def Frac.le (a b : Frac) : Bool := decide (a.num * b.den ≤ b.num * a.den)

/-- Whether one fraction is less than another. -/
def Frac.lt (a b : Frac) : Bool := decide (a.num * b.den < b.num * a.den)

/-- The lesser of two fractions. -/
def Frac.min (a b : Frac) : Frac := if a.le b then a else b

/-- The greater of two fractions. -/
def Frac.max (a b : Frac) : Frac := if a.le b then b else a

/-- The whole part of a fraction, rounded down. -/
def Frac.floor (a : Frac) : Int := a.num / (a.den : Int)

/-- The sum of some fractions. -/
def Frac.sum (xs : List Frac) : Frac := xs.foldl Frac.add {}

/-- The mean of some fractions, of which there is one at least. -/
def Frac.mean (xs : List Frac) : Frac := (Frac.sum xs).div { num := (Nat.max 1 xs.length : Nat) }

/-- The root of a number, rounded down, by two bits at a time. -/
def rootDown : Nat → Nat → Nat
  | 0, _ => 0
  | fuel + 1, n => let r := 2 * rootDown fuel (n / 4); if (r + 1) * (r + 1) ≤ n then r + 1 else r

/-- The unit of fixed-point angles, sines and cosines. -/
abbrev fixOne : Nat := 1000000000000000000

/-- A quarter of a turn, in the unit of angles, which is 10^18 to the turn. -/
abbrev quarterTurn : Nat := 250000000000000000

/-- Terms of the power series of a sine or cosine: `x2` is the square of the angle, `k` the power of the term `t`. -/
def seriesFrom (x2 : Int) : Nat → Nat → Int → Int
  | 0, _, _ => 0
  | n + 1, k, t => t + seriesFrom x2 n (k + 2) (-(t * x2 / (fixOne * ((k + 1) * (k + 2)) : Nat)))

/-- The angle in radians of so much of a turn. -/
def radians (u : Nat) : Int := ((u * 6283185307179586477 / fixOne : Nat) : Int)

/-- The sine of an angle within the first quarter of a turn. -/
def sinQuarter (u : Nat) : Int := let x := radians u; seriesFrom (x * x / (fixOne : Nat)) 13 1 x

/-- The cosine of an angle within the first quarter of a turn. -/
def cosQuarter (u : Nat) : Int := let x := radians u; seriesFrom (x * x / (fixOne : Nat)) 13 0 (fixOne : Nat)

/-- The cosine of an angle, in 10^-18. -/
def cosTurn (u : Nat) : Int :=
  let v := u % fixOne
  let r := v % quarterTurn
  match v / quarterTurn with
  | 0 => cosQuarter r
  | 1 => -sinQuarter r
  | 2 => -cosQuarter r
  | _ => sinQuarter r

/-- The sine of an angle, in 10^-18. -/
def sinTurn (u : Nat) : Int := cosTurn (u + 3 * quarterTurn)

end Sys2Proof
end

