-- ==== Sys2Proof/Machine/Map.lean ====
section
/-! DEFINITION. Sparse maps from a number to a value, held in one canonical form: keys strictly rising, and no entry
equal to the value that an unlisted key reads as. Memory is such a map from an address to a byte. -/

namespace Sys2Proof

/-- A sparse map: (key, value) pairs. -/
abbrev SMap (α : Type) := List (Nat × α)

/-- The value listed for a key, if any. -/
def SMap.find {α : Type} : SMap α → Nat → Option α
  | [], _ => none
  | (k, v) :: m, q => if k = q then some v else SMap.find m q

/-- The value of a key; an unlisted key reads as `d`. -/
def SMap.look {α : Type} (d : α) (m : SMap α) (k : Nat) : α := (SMap.find m k).getD d

/-- The map without a key. -/
def SMap.del {α : Type} : SMap α → Nat → SMap α
  | [], _ => []
  | (k, v) :: m, q => if k = q then SMap.del m q else (k, v) :: SMap.del m q

/-- The map with a key given a value, in its place in the order. -/
def SMap.ins {α : Type} : SMap α → Nat → α → SMap α
  | [], q, x => [(q, x)]
  | (k, v) :: m, q, x => if q < k then (q, x) :: (k, v) :: m else if q = k then (q, x) :: m else (k, v) :: SMap.ins m q x

/-- The map with a key given a value; giving it the value that an unlisted key reads as removes the entry. -/
def SMap.put {α : Type} [DecidableEq α] (d : α) (m : SMap α) (k : Nat) (x : α) : SMap α :=
  if x = d then SMap.del m k else SMap.ins m k x

/-- Keys strictly rise from above `lo`. -/
def SMap.sortedFrom {α : Type} : Option Nat → SMap α → Bool
  | _, [] => true
  | none, (k, _) :: m => SMap.sortedFrom (some k) m
  | some l, (k, _) :: m => decide (l < k) && SMap.sortedFrom (some k) m

/-- The canonical form: keys strictly rise and no entry reads as an unlisted key does. -/
def SMap.wf {α : Type} [DecidableEq α] (d : α) (m : SMap α) : Bool :=
  SMap.sortedFrom none m && m.all (fun p => decide (p.2 ≠ d))

/-- Byte memory: an unlisted address reads as zero (R490: a read of a fresh page returns zeros; R507: every blob reads
zero after START). -/
abbrev Ram := SMap Byte

/-- One byte of memory. -/
def Ram.byte (m : Ram) (a : Nat) : Byte := SMap.look 0 m a

/-- Memory with one byte written. -/
def Ram.setByte (m : Ram) (a : Nat) (b : Byte) : Ram := SMap.put 0 m a b

/-- `n` bytes from address `a`. -/
def Ram.read (m : Ram) (a : Nat) : Nat → List Byte
  | 0 => []
  | n + 1 => Ram.byte m a :: Ram.read m (a + 1) n

/-- Memory with bytes written from address `a` upward. -/
def Ram.write (m : Ram) (a : Nat) : List Byte → Ram
  | [] => m
  | b :: bs => Ram.write (Ram.setByte m a b) (a + 1) bs

/-- Memory with `n` bytes from address `a` zeroised. -/
def Ram.clear (m : Ram) (a n : Nat) : Ram := m.filter (fun p => !(decide (a ≤ p.1) && decide (p.1 < a + n)))

/-- From here on lie the sectors of the flash regions; below, DRAM. -/
abbrev flashBase : Nat := 2 ^ 60 + 0x11 * 2 ^ 51

/-- What flash holds: it stays when DRAM is lost. -/
def Ram.flash (m : Ram) : Ram := m.filter fun p => decide (flashBase ≤ p.1)

end Sys2Proof
end

