-- ==== Sys2Proof/Machine/Settings.lean ====
section
/-! DEFINITION. The settings tables: for each path its form, type, range, default, unit, writability in RUN and
owner (Tables 2-6, 3-9, 4-7, 5-3, 6-4, 7-11, 8-6, 9-8, 10-7, 11-2, 12-7, 13-4, 14-7, 15-12, 16-7; R584, R585, R587). -/

namespace Sys2Proof

/-- Paths `sys.state` to `island.auto_gate` of the settings tables. For `sys.restart` and `sys.halt` see log entries 108 and 109. -/
def settingRows0 : List (Setting × Info) := [
  (.sysState, ⟨[.w "sys", .w "state"], .enum ["OFF", "START", "WATCH", "READY", "RUN", "PAUSED", "HALTED"],
    .num 0, .ro, .shared, .none, .none, .plain, ["enum_OFF...HALTED", "-", "-", "-", "T"]⟩),
  (.sysMode, ⟨[.w "sys", .w "mode"], .enum ["OPEN", "SEALED"],
    .num 0, .ro, .shared, .none, .none, .plain, ["enum_OPEN,SEALED", "-", "OPEN", "-", "T"]⟩),
  (.sysEpoch, ⟨[.w "sys", .w "epoch"], .int [(0, 16777215)],
    .num 0, .ro, .shared, .none, .none, .plain, ["u32", "0..0xFFFFFF", "-", "-", "T"]⟩),
  (.sysStartMs, ⟨[.w "sys", .w "start_ms"], .int [],
    .num 0, .ro, .keep, .none, .none, .plain, ["u16", "-", "-", "ms", "K"]⟩),
  (.sysLastHalt, ⟨[.w "sys", .w "last_halt"], .record,
    .num 0, .ro, .keep, .none, .none, .plain, ["cause,tick,mask", "-", "00", "-", "K"]⟩),
  (.sysRestarts, ⟨[.w "sys", .w "restarts"], .int [],
    .num 0, .ro, .keep, .none, .none, .plain, ["u32", "-", "0", "count", "K"]⟩),
  (.actSysRun, ⟨[.w "sys", .w "run"], .action,
    .num 0, .no, .none, .keep, .none, .act, ["action", "-", "-", "-", "K"]⟩),
  (.actSysStop, ⟨[.w "sys", .w "stop"], .action,
    .num 0, .yes, .none, .keep, .none, .act, ["action", "-", "-", "-", "K"]⟩),
  (.actSysWatch, ⟨[.w "sys", .w "watch"], .action,
    .num 0, .no, .none, .keep, .none, .act, ["action", "-", "-", "-", "K"]⟩),
  (.actSysHalt, ⟨[.w "sys", .w "halt"], .action,
    .num 0, .yes, .none, .keep, .none, .act, ["action", "-", "-", "-", "K"]⟩),
  (.actSysRestart, ⟨[.w "sys", .w "restart"], .action,
    .num 0, .no, .none, .keep, .none, .act, ["action,chain_only", "-", "-", "-", "K"]⟩),
  (.actSysSeal, ⟨[.w "sys", .w "seal"], .action,
    .num 0, .no, .none, .keep, .none, .act, ["action", "-", "-", "-", "K"]⟩),
  (.actSysUnseal, ⟨[.w "sys", .w "unseal"], .action,
    .num 0, .no, .none, .keep, .none, .act, ["action", "-", "-", "-", "K"]⟩),
  (.nvCheckpointS, ⟨[.w "nv", .w "checkpoint_s"], .int [(10, 3600)],
    .num 300, .yes, .keep, .keep, .none, .nvCheckpoint, ["u16", "10..3600", "300", "s", "K"]⟩),
  (.actNvCheckpoint, ⟨[.w "nv", .w "checkpoint"], .action,
    .num 0, .yes, .none, .any, .none, .act, ["action", "-", "-", "-", "T"]⟩),
  (.actNvSave, ⟨[.w "nv", .w "save"], .action,
    .num 0, .no, .none, .keep, .none, .act, ["action", "-", "-", "-", "K"]⟩),
  (.actNvVerify, ⟨[.w "nv", .w "verify"], .action,
    .num 0, .yes, .none, .keep, .none, .act, ["action", "-", "-", "-", "K"]⟩),
  (.nvPending, ⟨[.w "nv", .w "pending"], .int [],
    .num 0, .ro, .keep, .none, .none, .plain, ["u8", "-", "0", "count", "K"]⟩),
  (.nvSeq, ⟨[.w "nv", .ix .record, .w "seq"], .int [],
    .num 0, .ro, .keepOrOwner, .none, .record, .plain, ["u32", "-", "-", "-", "K/T_for_its_own_recipe.n_and_stats.n"]⟩),
  (.nvState, ⟨[.w "nv", .ix .record, .w "state"], .enum ["OK", "ONE-SLOT", "DEFAULT"],
    .num 0, .ro, .keepOrOwner, .none, .record, .plain, ["enum_OK,ONE-SLOT,DEFAULT", "-", "-", "-", "As_.seq"]⟩),
  (.timeNow, ⟨[.w "time", .w "now"], .int [],
    .num 0, .ro, .shared, .none, .none, .plain, ["u64", "-", "-", "tick", "T"]⟩),
  (.timeSource, ⟨[.w "time", .w "source"], .enum ["LOCAL", "SPIRE", "FREE"],
    .num 0, .ro, .shared, .none, .none, .plain, ["enum_LOCAL,SPIRE,FREE", "-", "LOCAL", "-", "T"]⟩),
  (.islandGate, ⟨[.w "island", .w "gate"], .mask 0 268435455,
    .num 0, .no, .keep, .keep, .none, .islandGate, ["28-bit_mask", "Per_R68", "0x0", "-", "K"]⟩),
  (.islandAutoGate, ⟨[.w "island", .w "auto_gate"], .bool,
    .num 1, .yes, .keep, .keep, .none, .plain, ["bool", "on,off", "on", "-", "K"]⟩)]

/-- Paths `island.<nn>.state` to `chain.upstream` of the settings tables. -/
def settingRows1 : List (Setting × Info) := [
  (.islandState, ⟨[.w "island", .ix .island, .w "state"], .enum ["RUN", "GATED", "WAKING", "RESET"],
    .num 0, .ro, .keep, .none, .none, .plain, ["enum_RUN,GATED,WAKING,RESET", "-", "-", "-", "K"]⟩),
  (.islandCmdResets, ⟨[.w "island", .w "cmd_resets"], .int [],
    .num 0, .ro, .keep, .none, .none, .plain, ["u32", "-", "0", "count", "K"]⟩),
  (.ledgerAvgLimit, ⟨[.w "ledger", .w "p24_avg_limit"], .int [(1000, 8000)],
    .num 8000, .no, .keep, .keep, .none, .peakBudget, ["u16", "1000..8000", "8000", "mA", "K"]⟩),
  (.ledgerCmdDeadline, ⟨[.w "ledger", .w "cmd_deadline"], .int [(10, 30000)],
    .num 2000, .yes, .inst, .inst, .none, .plain, ["u32", "10..30000", "2000", "ms", "T"]⟩),
  (.ledgerPeakUsed, ⟨[.w "ledger", .w "p24_peak_used"], .int [],
    .num 0, .ro, .keep, .none, .none, .plain, ["u16", "-", "-", "mA", "K"]⟩),
  (.ledgerAvgUsed, ⟨[.w "ledger", .w "p24_avg_used"], .int [],
    .num 0, .ro, .keep, .none, .none, .plain, ["u16", "-", "-", "mA", "K"]⟩),
  (.ledgerAvgMeasured, ⟨[.w "ledger", .w "p24_avg_measured"], .int [],
    .num 0, .ro, .keep, .none, .none, .plain, ["u16", "-", "-", "mA", "K"]⟩),
  (.ledgerL24Used, ⟨[.w "ledger", .w "l24_used"], .int [],
    .num 0, .ro, .keep, .none, .none, .plain, ["u16", "-", "-", "mW", "K"]⟩),
  (.ledgerRefused, ⟨[.w "ledger", .w "refused", .ix .cls], .int [],
    .num 0, .ro, .keep, .none, .none, .plain, ["u32", "-", "0", "count", "K"]⟩),
  (.ledgerWait, ⟨[.w "ledger", .ix .turret, .w "wait"], .int [],
    .num 0, .ro, .keepOrOwner, .none, .turret, .plain, ["u64", "-", "0", "us", "T"]⟩),
  (.sessRequireCheck, ⟨[.w "session", .ix .sess, .w "require_check"], .bool,
    .num 0, .yes, .keep, .keep, .none, .plain, ["bool", "on,off", "off_for_0_and_1/on_for_2_and_3", "-", "K"]⟩),
  (.sessIdleS, ⟨[.w "session", .ix .sess, .w "idle_s"], .int [(0, 3600)],
    .num 600, .yes, .keep, .keep, .none, .plain, ["u16", "0..3600", "600", "s", "K"]⟩),
  (.sessEvents, ⟨[.w "session", .ix .sess, .w "events"], .enum ["ALL", "STATE", "NONE"],
    .num 0, .yes, .owner, .owner, .session, .plain, ["enum_ALL,STATE,NONE", "-", "ALL", "-", "T_(own_session)"]⟩),
  (.sessTurret, ⟨[.w "session", .ix .sess, .w "turret"], .int [((-1), 63)],
    .num (-1), .ro, .keepOrOwner, .none, .session, .plain, ["i8", "-1..63/-1_is_no_login", "-1", "-", "K/T_for_own_session"]⟩),
  (.sessJobsN, ⟨[.w "session", .ix .sess, .w "jobs"], .int [(0, 16)],
    .num 0, .ro, .keepOrOwner, .none, .session, .plain, ["u8", "0..16", "0", "count", "K/T_for_own_session"]⟩),
  (.sessWatches, ⟨[.w "session", .ix .sess, .w "watches"], .int [(0, 16)],
    .num 0, .ro, .keepOrOwner, .none, .session, .plain, ["u8", "0..16", "0", "count", "K/T_for_own_session"]⟩),
  (.sessEventsLost, ⟨[.w "session", .ix .sess, .w "events_lost"], .int [],
    .num 0, .ro, .keepOrOwner, .none, .session, .plain, ["u32", "-", "0", "count", "K/T_for_own_session"]⟩),
  (.sessLockout, ⟨[.w "session", .ix .sess, .w "lockout"], .int [],
    .num 0, .ro, .keepOrOwner, .none, .session, .plain, ["u16", "-", "0", "s", "K/T_for_own_session"]⟩),
  (.sessionJobs, ⟨[.w "session", .w "jobs"], .int [(0, 48)],
    .num 0, .ro, .keep, .none, .none, .plain, ["u8", "0..48", "0", "count", "K"]⟩),
  (.chainBaud, ⟨[.w "chain", .w "baud"], .int [(1200, 1200), (2400, 2400), (4800, 4800), (9600, 9600), (19200, 19200), (38400, 38400), (57600, 57600), (115200, 115200), (230400, 230400), (460800, 460800), (921600, 921600), (1000000, 1000000), (1500000, 1500000), (2000000, 2000000), (3000000, 3000000)],
    .num 115200, .yes, .keep, .keep, .none, .chainFormat, ["u32", "1200,2400,4800,9600,19200,38400,57600,115200,230400,460800,921600,1000000,1500000,2000000,3000000", "115200", "baud", "K"]⟩),
  (.chainData, ⟨[.w "chain", .w "data"], .int [(7, 7), (8, 8)],
    .num 8, .yes, .keep, .keep, .none, .chainFormat, ["u8", "7,8", "8", "bits", "K"]⟩),
  (.chainParity, ⟨[.w "chain", .w "parity"], .enum ["NONE", "EVEN", "ODD"],
    .num 0, .yes, .keep, .keep, .none, .chainFormat, ["enum_NONE,EVEN,ODD", "-", "NONE", "-", "K"]⟩),
  (.chainStop, ⟨[.w "chain", .w "stop"], .int [(1, 1), (2, 2)],
    .num 1, .yes, .keep, .keep, .none, .chainFormat, ["u8", "1,2", "1", "bits", "K"]⟩),
  (.chainUpstream, ⟨[.w "chain", .w "upstream"], .enum ["DRIVEN", "UNDRIVEN"],
    .num 0, .ro, .keep, .none, .none, .plain, ["enum_DRIVEN,UNDRIVEN", "-", "-", "-", "K"]⟩)]

/-- Paths `chain.damaged` to `tower.outside` of the settings tables. -/
def settingRows2 : List (Setting × Info) := [
  (.chainDamaged, ⟨[.w "chain", .w "damaged"], .int [],
    .num 0, .ro, .keep, .none, .none, .plain, ["u32", "-", "0", "count", "K"]⟩),
  (.chainOverruns, ⟨[.w "chain", .w "overruns"], .int [],
    .num 0, .ro, .keep, .none, .none, .plain, ["u32", "-", "0", "count", "K"]⟩),
  (.chainBacklogMax, ⟨[.w "chain", .w "backlog_max"], .int [(0, 1024)],
    .num 0, .ro, .keep, .none, .none, .plain, ["u16", "0..1024", "0", "characters", "K"]⟩),
  (.irBaud, ⟨[.w "ir", .w "baud"], .int [(9600, 9600), (19200, 19200), (38400, 38400), (57600, 57600), (115200, 115200)],
    .num 9600, .yes, .keep, .keep, .none, .plain, ["u32", "9600,19200,38400,57600,115200", "9600", "baud", "K"]⟩),
  (.irPulse, ⟨[.w "ir", .w "pulse"], .enum ["FRACTION", "FIXED"],
    .num 0, .yes, .keep, .keep, .none, .plain, ["enum_FRACTION,FIXED", "-", "FRACTION", "-", "K"]⟩),
  (.irTurnaround, ⟨[.w "ir", .w "turnaround_ms"], .int [(1, 100)],
    .num 2, .yes, .keep, .keep, .none, .plain, ["u8", "1..100", "2", "ms", "K"]⟩),
  (.irState, ⟨[.w "ir", .w "state"], .enum ["OFF", "IDLE", "RX", "TX", "FLOOD", "FAULT"],
    .num 0, .ro, .keep, .none, .none, .plain, ["enum_OFF,IDLE,RX,TX,FLOOD,FAULT", "-", "-", "-", "K"]⟩),
  (.irDamaged, ⟨[.w "ir", .w "damaged"], .int [],
    .num 0, .ro, .keep, .none, .none, .plain, ["u32", "-", "0", "count", "K"]⟩),
  (.irFloods, ⟨[.w "ir", .w "floods"], .int [],
    .num 0, .ro, .keep, .none, .none, .plain, ["u32", "-", "0", "count", "K"]⟩),
  (.towerAddress, ⟨[.w "tower", .w "address"], .int [(0, 32)],
    .num 0, .ro, .shared, .none, .none, .plain, ["u8", "0..32/0_is_none", "0", "-", "T"]⟩),
  (.towerPin, ⟨[.w "tower", .w "pin"], .int [(0, 0), (2, 32)],
    .num 0, .no, .keep, .keep, .none, .plain, ["u8", "0,2..32/0_is_not_pinned", "0", "-", "K"]⟩),
  (.towerRole, ⟨[.w "tower", .w "role"], .enum ["SECTION", "VIEW", "LANE"],
    .num 0, .no, .keep, .keep, .none, .plain, ["enum_SECTION,VIEW,LANE", "-", "SECTION", "-", "K"]⟩),
  (.towerPartner, ⟨[.w "tower", .w "partner"], .int [(0, 32)],
    .num 0, .no, .keep, .keep, .none, .plain, ["u8", "0..32", "0", "-", "K"]⟩),
  (.towerOwnLo, ⟨[.w "tower", .w "own_lo"], .int [(0, 8191)],
    .num 0, .no, .keep, .keep, .none, .plain, ["u16", "0..8191", "0", "column", "K"]⟩),
  (.towerOwnHi, ⟨[.w "tower", .w "own_hi"], .int [(0, 8191)],
    .num 8191, .no, .keep, .keep, .none, .plain, ["u16", "0..8191", "8191", "column", "K"]⟩),
  (.towerMarkLead, ⟨[.w "tower", .w "mark_lead"], .int [(20, 500)],
    .num 60, .no, .keep, .keep, .none, .plain, ["u16", "20..500", "60", "us", "K"]⟩),
  (.towerSpire, ⟨[.w "tower", .w "spire"], .bool,
    .num 0, .ro, .shared, .none, .none, .plain, ["bool", "-", "off", "-", "T"]⟩),
  (.towerCount, ⟨[.w "tower", .w "count"], .int [(0, 32)],
    .num 0, .ro, .keep, .none, .none, .plain, ["u8", "0..32", "0", "modules", "K"]⟩),
  (.towerLocked, ⟨[.w "tower", .w "locked"], .bool,
    .num 0, .ro, .shared, .none, .none, .plain, ["bool", "-", "off", "-", "T"]⟩),
  (.towerErrorNs, ⟨[.w "tower", .w "error_ns"], .fix [] 1 3,
    .num 0, .ro, .keep, .none, .none, .plain, ["fixed-point", "-", "0", "ns", "K"]⟩),
  (.towerHopNs, ⟨[.w "tower", .w "hop_ns"], .fix [] 1 3,
    .num 0, .ro, .keep, .none, .none, .plain, ["fixed-point", "-", "0", "ns", "K"]⟩),
  (.towerMarksBridged, ⟨[.w "tower", .w "marks_bridged"], .int [],
    .num 0, .ro, .keep, .none, .none, .plain, ["u32", "-", "0", "count", "K"]⟩),
  (.towerSpireLosses, ⟨[.w "tower", .w "spire_losses"], .int [],
    .num 0, .ro, .keep, .none, .none, .plain, ["u32", "-", "0", "count", "K"]⟩),
  (.towerOutside, ⟨[.w "tower", .w "outside"], .int [],
    .num 0, .ro, .keep, .none, .none, .plain, ["u32", "-", "0", "count", "K"]⟩)]

/-- Paths `tower.view_late` to `feed.direction` of the settings tables. -/
def settingRows3 : List (Setting × Info) := [
  (.towerViewLate, ⟨[.w "tower", .w "view_late"], .int [],
    .num 0, .ro, .keep, .none, .none, .plain, ["u32", "-", "0", "count", "K"]⟩),
  (.actTowerPromote, ⟨[.w "tower", .w "promote"], .action,
    .num 0, .yes, .none, .keep, .none, .act, ["action", "-", "-", "-", "K"]⟩),
  (.linkEnable, ⟨[.w "link", .ix .port, .w "enable"], .bool,
    .num 1, .no, .keep, .keep, .none, .plain, ["bool", "on,off_for_link.d/on_only_for_link.u,where_a_write_of_off_is_refused_with_ER_21_RANGE", "on", "-", "K"]⟩),
  (.linkState, ⟨[.w "link", .ix .port, .w "state"], .enum ["DOWN", "TRAINING", "UP", "RETRAIN"],
    .num 0, .ro, .keep, .none, .none, .plain, ["enum_DOWN,TRAINING,UP,RETRAIN", "-", "-", "-", "K"]⟩),
  (.linkWidth, ⟨[.w "link", .ix .port, .w "width"], .int [],
    .num 0, .ro, .keep, .none, .none, .plain, ["u8", "0,1,2,4", "-", "lanes", "K"]⟩),
  (.linkLanes, ⟨[.w "link", .ix .port, .w "lanes"], .mask 0 0xFFFFFFFF,
    .num 0, .ro, .keep, .none, .none, .plain, ["mask", "-", "-", "-", "K"]⟩),
  (.linkSpare, ⟨[.w "link", .ix .port, .w "spare"], .int [(0, 4)],
    .num 0, .ro, .keep, .none, .none, .plain, ["u8", "0..4/255_is_none", "-", "-", "K"]⟩),
  (.linkLaneLimit, ⟨[.w "link", .ix .port, .w "lane_limit"], .int [(1, 10000)],
    .num 64, .yes, .keep, .keep, .none, .plain, ["u16", "1..10000", "64", "errors_per_ms", "K"]⟩),
  (.linkCrcLimit, ⟨[.w "link", .ix .port, .w "crc_limit"], .int [(1, 1024)],
    .num 16, .yes, .keep, .keep, .none, .plain, ["u16", "1..1024", "16", "frames", "K"]⟩),
  (.linkCrcWindow, ⟨[.w "link", .ix .port, .w "crc_window"], .int [(10, 24)],
    .num 16, .yes, .keep, .keep, .none, .plain, ["u8", "10..24", "16", "log2_frames", "K"]⟩),
  (.linkLockTimeout, ⟨[.w "link", .ix .port, .w "lock_timeout"], .fix [(100000, 20000000)] 100000 1,
    .num 2000000, .yes, .keep, .keep, .none, .plain, ["fixed-point", "0.1..20.0", "2.0", "ms", "K"]⟩),
  (.linkHeadroom, ⟨[.w "link", .ix .port, .w "headroom"], .int [(4096, 65536)],
    .num 16384, .no, .keep, .keep, .none, .linkHeadroom, ["u32", "4096..65536", "16384", "bytes", "K"]⟩),
  (.linkHysteresis, ⟨[.w "link", .ix .port, .w "hysteresis"], .int [(1024, 65536)],
    .num 16384, .no, .keep, .keep, .none, .linkHeadroom, ["u32", "1024..65536", "16384", "bytes", "K"]⟩),
  (.linkHeadroomMin, ⟨[.w "link", .ix .port, .w "headroom_min"], .int [],
    .num 0, .ro, .keep, .none, .none, .plain, ["u32", "-", "-", "bytes", "K"]⟩),
  (.linkRttNs, ⟨[.w "link", .ix .port, .w "rtt_ns"], .fix [] 1 3,
    .num 0, .ro, .keep, .none, .none, .plain, ["fixed-point", "-", "-", "ns", "K"]⟩),
  (.linkCrcErrors, ⟨[.w "link", .ix .port, .w "crc_errors"], .int [],
    .num 0, .ro, .keep, .none, .none, .plain, ["u32", "-", "0", "count", "K"]⟩),
  (.linkReplays, ⟨[.w "link", .ix .port, .w "replays"], .int [],
    .num 0, .ro, .keep, .none, .none, .plain, ["u32", "-", "0", "count", "K"]⟩),
  (.linkLaneReplacements, ⟨[.w "link", .ix .port, .w "lane_replacements"], .int [],
    .num 0, .ro, .keep, .none, .none, .plain, ["u32", "-", "0", "count", "K"]⟩),
  (.linkDowns, ⟨[.w "link", .ix .port, .w "downs"], .int [],
    .num 0, .ro, .keep, .none, .none, .plain, ["u32", "-", "0", "count", "K"]⟩),
  (.linkFramesLost, ⟨[.w "link", .ix .port, .w "frames_lost"], .int [],
    .num 0, .ro, .keep, .none, .none, .plain, ["u32", "-", "0", "count", "K"]⟩),
  (.linkAuthRejects, ⟨[.w "link", .ix .port, .w "auth_rejects"], .int [],
    .num 0, .ro, .keep, .none, .none, .plain, ["u32", "-", "0", "count", "K"]⟩),
  (.linkXoffs, ⟨[.w "link", .ix .port, .w "xoffs"], .int [],
    .num 0, .ro, .keep, .none, .none, .plain, ["u32", "-", "0", "count", "K"]⟩),
  (.feedMode, ⟨[.w "feed", .w "mode"], .enum ["STEPPER", "NONE"],
    .num 0, .no, .keep, .keep, .none, .plain, ["enum_STEPPER,NONE", "-", "STEPPER", "-", "K"]⟩),
  (.feedDirection, ⟨[.w "feed", .w "direction"], .enum ["CW", "CCW"],
    .num 0, .no, .keep, .keep, .none, .plain, ["enum_CW,CCW", "-", "CW", "-", "K"]⟩)]

/-- Paths `feed.microstep` to `feed.leave_refusals` of the settings tables. -/
def settingRows4 : List (Setting × Info) := [
  (.feedMicrostep, ⟨[.w "feed", .w "microstep"], .int [(1, 1), (2, 2), (4, 4), (8, 8), (16, 16), (32, 32), (64, 64), (128, 128), (256, 256)],
    .num 16, .no, .keep, .keep, .none, .plain, ["u16", "1,2,4_..._256", "16", "-", "K"]⟩),
  (.feedRunCurrent, ⟨[.w "feed", .w "run_current"], .fix [(200000, 3000000)] 100000 1,
    .num 1000000, .no, .keep, .keep, .none, .feedCurrent, ["fixed-point", "0.2..3.0", "1.0", "A", "K"]⟩),
  (.feedAccelCurrent, ⟨[.w "feed", .w "accel_current"], .fix [(200000, 3000000)] 100000 1,
    .num 1200000, .no, .keep, .keep, .none, .feedCurrent, ["fixed-point", "0.2..3.0", "1.2", "A", "K"]⟩),
  (.feedHoldCurrent, ⟨[.w "feed", .w "hold_current"], .fix [(0, 0), (200000, 3000000)] 100000 1,
    .num 500000, .no, .keep, .keep, .none, .feedCurrent, ["fixed-point", "0,0.2..3.0", "0.5", "A", "K"]⟩),
  (.feedMaxSpeed, ⟨[.w "feed", .w "max_speed"], .int [(100, 80000)],
    .num 40000, .yes, .keep, .keep, .none, .plain, ["u32", "100..80000", "40000", "microsteps/s", "K"]⟩),
  (.feedRamp, ⟨[.w "feed", .w "ramp"], .int [(10, 10000)],
    .num 400, .yes, .keep, .keep, .none, .plain, ["u16", "10..10000", "400", "(microsteps/s)/ms", "K"]⟩),
  (.feedTargetUnit, ⟨[.w "feed", .w "target_unit"], .enum ["OBJ", "TPH"],
    .num 0, .no, .keep, .keep, .none, .feedTargetUnit, ["enum_OBJ,TPH", "-", "OBJ", "-", "K"]⟩),
  (.feedTarget, ⟨[.w "feed", .w "target"], .fix [(0, 40000000000)] 1 0,
    .num 0, .yes, .keep, .keep, .none, .feedTargetUnit, ["fixed-point", "0..40000_(OBJ)/0..60_(TPH)", "0", "objects/s_or_t/h", "K"]⟩),
  (.feedMaxRate, ⟨[.w "feed", .w "max_rate"], .int [(1, 40000)],
    .num 40000, .yes, .keep, .keep, .none, .plain, ["u32", "1..40000", "40000", "objects/s", "K"]⟩),
  (.feedGain, ⟨[.w "feed", .w "gain"], .fix [(50000, 5000000)] 10000 2,
    .num 500000, .yes, .keep, .keep, .none, .plain, ["fixed-point", "0.05..5.0", "0.5", "1/s", "K"]⟩),
  (.feedRateWindow, ⟨[.w "feed", .w "rate_window"], .int [(100, 5000)],
    .num 500, .yes, .keep, .keep, .none, .plain, ["u16", "100..5000", "500", "ms", "K"]⟩),
  (.feedMassEntry, ⟨[.w "feed", .w "mass_entry"], .int [(0, 31)],
    .num 0, .no, .keep, .keep, .none, .plain, ["u8", "0..31", "0", "-", "K"]⟩),
  (.feedEjectMargin, ⟨[.w "feed", .w "eject_margin"], .fix [(500000, 1000000)] 10000 2,
    .num 900000, .yes, .keep, .keep, .none, .plain, ["fixed-point", "0.50..1.00", "0.90", "-", "K"]⟩),
  (.feedOpenMark, ⟨[.w "feed", .w "open_mark"], .int [(64, 255)],
    .num 192, .yes, .keep, .keep, .none, .plain, ["u16", "64..255", "192", "objects", "K"]⟩),
  (.feedStallLevel, ⟨[.w "feed", .w "stall_level"], .int [(10, 90)],
    .num 40, .yes, .keep, .keep, .none, .plain, ["u8", "10..90", "40", "%", "K"]⟩),
  (.feedStallMinSpeed, ⟨[.w "feed", .w "stall_min_speed"], .int [(100, 80000)],
    .num 2000, .yes, .keep, .keep, .none, .plain, ["u32", "100..80000", "2000", "microsteps/s", "K"]⟩),
  (.feedSpeed, ⟨[.w "feed", .w "speed"], .int [],
    .num 0, .ro, .keep, .none, .none, .plain, ["u32", "-", "-", "microsteps/s", "K"]⟩),
  (.feedRate, ⟨[.w "feed", .w "rate"], .fix [] 1 0,
    .num 0, .ro, .keep, .none, .none, .plain, ["fixed-point", "-", "-", "objects/s", "K"]⟩),
  (.feedMassRate, ⟨[.w "feed", .w "mass_rate"], .fix [] 1 0,
    .num 0, .ro, .keep, .none, .none, .plain, ["fixed-point", "-", "-", "t/h", "K"]⟩),
  (.feedLimit, ⟨[.w "feed", .w "limit"], .enum ["TARGET", "MAX_SPEED", "MAX_RATE", "CAPTURE", "OPEN", "EJECT"],
    .num 0, .ro, .keep, .none, .none, .plain, ["enum_TARGET,MAX_SPEED,MAX_RATE,CAPTURE,OPEN,EJECT", "-", "-", "-", "K"]⟩),
  (.feedState, ⟨[.w "feed", .w "state"], .enum ["OFF", "HOLD", "ACCEL", "STEADY", "DECEL", "FAULT"],
    .num 0, .ro, .keep, .none, .none, .plain, ["enum_OFF,HOLD,ACCEL,STEADY,DECEL,FAULT", "-", "-", "-", "K"]⟩),
  (.feedPauseReasons, ⟨[.w "feed", .w "pause_reasons"], .mask 0 0xFFFFFFFF,
    .num 0, .ro, .keep, .none, .none, .plain, ["mask", "-", "0x0", "-", "K"]⟩),
  (.feedStalls, ⟨[.w "feed", .w "stalls"], .int [],
    .num 0, .ro, .keep, .none, .none, .plain, ["u32", "-", "0", "count", "K"]⟩),
  (.feedLeaveRefusals, ⟨[.w "feed", .w "leave_refusals"], .int [],
    .num 0, .ro, .keep, .none, .none, .plain, ["u32", "-", "0", "count", "K"]⟩)]

/-- Paths `feed.pause` to `head.<h>.sample` of the settings tables. -/
def settingRows5 : List (Setting × Info) := [
  (.actFeedPause, ⟨[.w "feed", .w "pause"], .action,
    .num 0, .yes, .none, .keep, .none, .act, ["action", "-", "-", "-", "K"]⟩),
  (.actFeedResume, ⟨[.w "feed", .w "resume"], .action,
    .num 0, .yes, .none, .keep, .none, .act, ["action", "-", "-", "-", "K"]⟩),
  (.seamClearLines, ⟨[.w "seam", .w "clear_lines"], .int [(16, 4096)],
    .num 256, .yes, .keep, .keep, .none, .plain, ["u16", "16..4096", "256", "lines", "K"]⟩),
  (.seamSettleMs, ⟨[.w "seam", .w "settle_ms"], .int [(0, 10000)],
    .num 300, .yes, .keep, .keep, .none, .plain, ["u16", "0..10000", "300", "ms", "K"]⟩),
  (.seamClearTimeoutS, ⟨[.w "seam", .w "clear_timeout_s"], .int [(1, 600)],
    .num 30, .yes, .keep, .keep, .none, .plain, ["u16", "1..600", "30", "s", "K"]⟩),
  (.seamOpen, ⟨[.w "seam", .w "open"], .bool,
    .num 0, .ro, .shared, .none, .none, .plain, ["bool", "-", "off", "-", "T"]⟩),
  (.seamSegment, ⟨[.w "seam", .w "segment"], .int [],
    .num 0, .ro, .shared, .none, .none, .plain, ["u32", "-", "0", "-", "T"]⟩),
  (.seamLineIndex, ⟨[.w "seam", .w "line_index"], .int [],
    .num 0, .ro, .shared, .none, .none, .plain, ["u64", "-", "-", "-", "T"]⟩),
  (.seamProductIndex, ⟨[.w "seam", .w "product_index"], .int [],
    .num 0, .ro, .shared, .none, .none, .plain, ["u64", "-", "-", "-", "T"]⟩),
  (.seamExcluded, ⟨[.w "seam", .w "excluded"], .int [],
    .num 0, .ro, .keep, .none, .none, .plain, ["u32", "-", "0", "count", "K"]⟩),
  (.seamForced, ⟨[.w "seam", .w "forced"], .int [],
    .num 0, .ro, .keep, .none, .none, .plain, ["u32", "-", "0", "count", "K"]⟩),
  (.captureSlowMark, ⟨[.w "capture", .w "slow_mark"], .fix [(10000000, 95000000)] 1 0,
    .num 50000000, .yes, .keep, .keep, .none, .captureMark, ["fixed-point", "10..95", "50", "%", "K"]⟩),
  (.capturePauseMark, ⟨[.w "capture", .w "pause_mark"], .fix [(15000000, 98000000)] 1 0,
    .num 80000000, .yes, .keep, .keep, .none, .captureMark, ["fixed-point", "15..98", "80", "%", "K"]⟩),
  (.captureResumeMark, ⟨[.w "capture", .w "resume_mark"], .fix [(5000000, 90000000)] 1 0,
    .num 30000000, .yes, .keep, .keep, .none, .captureMark, ["fixed-point", "5..90", "30", "%", "K"]⟩),
  (.captureFill, ⟨[.w "capture", .w "fill"], .fix [] 1 1,
    .num 0, .ro, .keep, .none, .none, .plain, ["fixed-point", "-", "-", "%", "K"]⟩),
  (.captureDropped, ⟨[.w "capture", .w "dropped"], .int [],
    .num 0, .ro, .keep, .none, .none, .plain, ["u32", "-", "0", "count", "K"]⟩),
  (.headEnable, ⟨[.w "head", .ix .head, .w "enable"], .bool,
    .num 1, .no, .keep, .keep, .none, .plain, ["bool", "on,off", "on_for_A,off_for_B", "-", "K"]⟩),
  (.headState, ⟨[.w "head", .ix .head, .w "state"], .enum ["ABSENT", "IDENT", "BADID", "MISMATCH", "SUPPLY", "READY", "ACTIVE"],
    .num 0, .ro, .keep, .none, .none, .plain, ["enum_ABSENT,IDENT,BADID,MISMATCH,SUPPLY,READY,ACTIVE", "-", "-", "-", "K"]⟩),
  (.headType, ⟨[.w "head", .ix .head, .w "type"], .str 0 64,
    .text [], .ro, .keep, .none, .none, .plain, ["string", "-", "-", "-", "K"]⟩),
  (.headSerial, ⟨[.w "head", .ix .head, .w "serial"], .str 0 64,
    .text [], .ro, .keep, .none, .none, .plain, ["string", "-", "-", "-", "K"]⟩),
  (.headExpectType, ⟨[.w "head", .ix .head, .w "expect_type"], .str 0 16,
    .text [], .no, .keep, .keep, .none, .headExpectType, ["string", "0..16_characters", "\"\"", "-", "K"]⟩),
  (.headColumns, ⟨[.w "head", .ix .head, .w "columns"], .int [],
    .num 0, .ro, .keep, .none, .none, .plain, ["u16", "-", "-", "columns", "K"]⟩),
  (.headPixelDiv, ⟨[.w "head", .ix .head, .w "pixel_div"], .int [(8, 64)],
    .num 8, .no, .keep, .keep, .none, .plain, ["u8", "8..64", "8", "-", "K"]⟩),
  (.headSample, ⟨[.w "head", .ix .head, .w "sample"], .enum ["CDS", "SH"],
    .num 0, .no, .keep, .keep, .none, .plain, ["enum_CDS,SH", "-", "CDS", "-", "K"]⟩)]

/-- Paths `head.<h>.gain` to `shade.state` of the settings tables. -/
def settingRows6 : List (Setting × Info) := [
  (.headGain, ⟨[.w "head", .ix .head, .w "gain"], .int [(1, 1), (2, 2), (4, 4)],
    .num 1, .no, .keep, .keep, .none, .plain, ["u8", "1,2,4", "1", "-", "K"]⟩),
  (.headEdges, ⟨[.w "head", .ix .head, .w "edges"], .bytes 8,
    .bytes [], .no, .keep, .keep, .none, .plain, ["bytes", "8_bytes,0..63_each", "id", "1/64_pixel", "K"]⟩),
  (.headSgNs, ⟨[.w "head", .ix .head, .w "sg_ns"], .int [(100, 10000)],
    .num 0, .no, .keep, .keep, .none, .plain, ["u16", "100..10000,>=_id", "id", "ns", "K"]⟩),
  (.headLineDecimate, ⟨[.w "head", .ix .head, .w "line_decimate"], .int [(0, 65535)],
    .num 0, .no, .keep, .keep, .none, .plain, ["u16", "0..65535", "0", "line_cycles", "K"]⟩),
  (.headLinePhases, ⟨[.w "head", .ix .head, .w "line_phases"], .mask 1 63,
    .num 63, .no, .keep, .keep, .none, .plain, ["mask", "0x01..0x3F", "0x3F", "-", "K"]⟩),
  (.headLineBin, ⟨[.w "head", .ix .head, .w "line_bin"], .int [(1, 1), (2, 2), (4, 4), (8, 8)],
    .num 1, .no, .keep, .keep, .none, .plain, ["u8", "1,2,4,8", "1", "columns", "K"]⟩),
  (.headSaturated, ⟨[.w "head", .ix .head, .w "saturated"], .int [],
    .num 0, .ro, .keep, .none, .none, .plain, ["u32", "-", "0", "count", "K"]⟩),
  (.lanternLineRate, ⟨[.w "lantern", .w "line_rate"], .int [(100, 40000)],
    .num 10000, .no, .keep, .keep, .none, .lanternStaged, ["u32", "100..40000", "10000", "line_cycles/s", "K"]⟩),
  (.lanternPhases, ⟨[.w "lantern", .w "phases"], .int [(1, 6)],
    .num 1, .no, .keep, .keep, .none, .lanternStaged, ["u8", "1..6", "1", "-", "K"]⟩),
  (.lanternMask, ⟨[.w "lantern", .ix .phase, .w "mask"], .mask 0 63,
    .num 63, .no, .keep, .keep, .none, .lanternStaged, ["mask", "0x00..0x3F", "0x3F_for_phase_0,else_0x00", "-", "K"]⟩),
  (.lanternOffset, ⟨[.w "lantern", .ix .phase, .w "offset"], .fix [(600000, 249000000)] 100000 1,
    .num 2000000, .no, .keep, .keep, .none, .lanternStaged, ["fixed-point", "0.6..249.0", "2.0", "us", "K"]⟩),
  (.lanternWidth, ⟨[.w "lantern", .ix .phase, .w "width"], .fix [(1000000, 250000000)] 100000 1,
    .num 10000000, .no, .keep, .keep, .none, .lanternStaged, ["fixed-point", "1.0..250.0", "10.0", "us", "K"]⟩),
  (.lanternCurrent, ⟨[.w "lantern", .ix .chan, .w "current"], .fix [(100000, 3000000)] 100000 1,
    .num 1000000, .no, .keep, .keep, .none, .lanternStaged, ["fixed-point", "0.1..3.0", "1.0", "A", "K"]⟩),
  (.lanternState, ⟨[.w "lantern", .ix .chan, .w "state"], .enum ["OK", "OPEN", "DISABLED"],
    .num 0, .ro, .keep, .none, .none, .plain, ["enum_OK,OPEN,DISABLED", "-", "-", "-", "K"]⟩),
  (.lanternCompliance, ⟨[.w "lantern", .ix .chan, .w "compliance"], .int [],
    .num 0, .ro, .keep, .none, .none, .plain, ["u32", "-", "0", "count", "K"]⟩),
  (.actLanternCommit, ⟨[.w "lantern", .w "commit"], .action,
    .num 0, .no, .none, .keep, .none, .act, ["action", "-", "-", "-", "K"]⟩),
  (.lanternCommitted, ⟨[.w "lantern", .w "committed"], .bool,
    .num 0, .ro, .keep, .none, .none, .plain, ["bool", "-", "off", "-", "K"]⟩),
  (.lanternDarkLines, ⟨[.w "lantern", .w "dark_lines"], .int [],
    .num 0, .ro, .keep, .none, .none, .plain, ["u32", "-", "0", "count", "K"]⟩),
  (.lanternLateStarts, ⟨[.w "lantern", .w "late_starts"], .int [],
    .num 0, .ro, .keep, .none, .none, .plain, ["u32", "-", "0", "count", "K"]⟩),
  (.shadeWhiteTarget, ⟨[.w "shade", .w "white_target"], .int [(16384, 60000)],
    .num 52000, .no, .keep, .keep, .none, .plain, ["u16", "16384..60000", "52000", "code", "K"]⟩),
  (.shadeDefectMax, ⟨[.w "shade", .w "defect_max"], .int [(0, 512)],
    .num 32, .no, .keep, .keep, .none, .plain, ["u16", "0..512", "32", "pixels", "K"]⟩),
  (.actShadeCalibrate, ⟨[.w "shade", .w "calibrate"], .action,
    .num 0, .no, .none, .keep, .none, .act, ["action", "-", "-", "-", "K"]⟩),
  (.shadeDefects, ⟨[.w "shade", .ix .head, .w "defects"], .int [],
    .num 0, .ro, .keep, .none, .none, .plain, ["u16", "-", "0", "pixels", "K"]⟩),
  (.shadeState, ⟨[.w "shade", .w "state"], .enum ["DEFAULT", "CALIBRATED"],
    .num 0, .ro, .keep, .none, .none, .plain, ["enum_DEFAULT,CALIBRATED", "-", "DEFAULT", "-", "K"]⟩)]

/-- Paths `class.<h>.<j>.turret` to `track.v_max` of the settings tables. -/
def settingRows7 : List (Setting × Info) := [
  (.classTurret, ⟨[.w "class", .ix .head, .ix .slot4, .w "turret"], .int [(0, 63), (255, 255)],
    .num 255, .no, .keep, .keep, .none, .assignment, ["u8", "0..63/255_none", "255", "-", "K"]⟩),
  (.classCoef, ⟨[.w "class", .ix .head, .ix .slot4, .w "coef"], .bytes 36,
    .bytes (List.replicate 36 0), .staged, .owner, .owner, .classSlot, .classStaged, ["bytes", "36_bytes", "$000000000000000000000000000000000000000000000000000000000000000000000000", "Q2.14", "T_(slot_owner)"]⟩),
  (.classBias, ⟨[.w "class", .ix .head, .ix .slot4, .w "bias"], .bytes 6,
    .bytes (List.replicate 6 0), .staged, .owner, .owner, .classSlot, .classStaged, ["bytes", "6_bytes", "$000000000000", "code", "T_(slot_owner)"]⟩),
  (.classState, ⟨[.w "class", .ix .head, .ix .slot4, .w "state"], .enum ["EMPTY", "STAGED", "ACTIVE"],
    .num 0, .ro, .keepOrOwner, .none, .classSlot, .plain, ["enum_EMPTY,STAGED,ACTIVE", "-", "EMPTY", "-", "K/T"]⟩),
  (.classRule, ⟨[.w "class", .w "rule", .ix .rule], .bytes 16,
    .bytes (List.replicate 16 0), .staged, .inst, .inst, .none, .classStaged, ["bytes", "16_bytes", "$00000000000000000000000000000000", "-", "T"]⟩),
  (.classRuleCount, ⟨[.w "class", .w "rule", .ix .rule, .w "count"], .int [],
    .num 0, .ro, .inst, .none, .none, .plain, ["u32", "-", "0", "count", "T"]⟩),
  (.actClassCommit, ⟨[.w "class", .w "commit"], .action,
    .num 0, .yes, .none, .any, .none, .act, ["action", "-", "-", "-", "T"]⟩),
  (.classDegraded, ⟨[.w "class", .w "degraded"], .enum ["DECIDE", "ACCEPT", "REJECT"],
    .num 0, .yes, .inst, .inst, .none, .plain, ["enum_DECIDE,ACCEPT,REJECT", "-", "DECIDE", "-", "T"]⟩),
  (.classChipPhases, ⟨[.w "class", .w "chip_phases"], .mask 0 63,
    .num 1, .yes, .inst, .inst, .none, .plain, ["mask", "0x00..0x3F", "0x01", "-", "T"]⟩),
  (.classChipMaxBytes, ⟨[.w "class", .w "chip_max_bytes"], .int [(176, 65536)],
    .num 16384, .yes, .inst, .inst, .none, .plain, ["u32", "176..65536", "16384", "bytes", "T"]⟩),
  (.classStatPeriod, ⟨[.w "class", .w "stat_period_ms"], .int [(100, 60000)],
    .num 1000, .yes, .inst, .inst, .none, .plain, ["u16", "100..60000", "1000", "ms", "T"]⟩),
  (.classObjects, ⟨[.w "class", .w "objects"], .int [],
    .num 0, .ro, .inst, .none, .none, .plain, ["u32", "-", "0", "count", "T"]⟩),
  (.classAccepted, ⟨[.w "class", .w "accepted"], .int [],
    .num 0, .ro, .inst, .none, .none, .plain, ["u32", "-", "0", "count", "T"]⟩),
  (.classRejected, ⟨[.w "class", .w "rejected"], .int [],
    .num 0, .ro, .inst, .none, .none, .plain, ["u32", "-", "0", "count", "T"]⟩),
  (.classDiverted, ⟨[.w "class", .w "diverted"], .int [],
    .num 0, .ro, .inst, .none, .none, .plain, ["u32", "-", "0", "count", "T"]⟩),
  (.classLate, ⟨[.w "class", .w "late"], .int [],
    .num 0, .ro, .keep, .none, .none, .plain, ["u32", "-", "0", "count", "K"]⟩),
  (.classStatDropped, ⟨[.w "class", .w "stat_dropped"], .int [],
    .num 0, .ro, .keep, .none, .none, .plain, ["u32", "-", "0", "count", "K"]⟩),
  (.trackGeometry, ⟨[.w "track", .w "geometry"], .enum ["SINGLE", "STACKED", "OPPOSED"],
    .num 0, .no, .keep, .keep, .none, .plain, ["enum_SINGLE,STACKED,OPPOSED", "-", "SINGLE", "-", "K"]⟩),
  (.trackDMm, ⟨[.w "track", .w "d_mm"], .fix [(20000000, 150000000)] 100000 1,
    .num 80000000, .no, .keep, .keep, .none, .plain, ["fixed-point", "20.0..150.0", "80.0", "mm", "K"]⟩),
  (.trackValveMm, ⟨[.w "track", .w "valve_mm"], .fix [(10000000, 400000000)] 100000 1,
    .num 60000000, .no, .keep, .keep, .none, .plain, ["fixed-point", "10.0..400.0", "60.0", "mm", "K"]⟩),
  (.trackG, ⟨[.w "track", .w "g"], .fix [(9760000, 9840000)] 1000 3,
    .num 9810000, .no, .keep, .keep, .none, .plain, ["fixed-point", "9.760..9.840", "9.810", "m/s2", "K"]⟩),
  (.trackFallbackV, ⟨[.w "track", .w "fallback_v"], .fix [(2000000, 8000000)] 10000 2,
    .num 4000000, .no, .keep, .keep, .none, .plain, ["fixed-point", "2.00..8.00", "4.00", "m/s", "K"]⟩),
  (.trackVMin, ⟨[.w "track", .w "v_min"], .fix [(1000000, 8000000)] 10000 2,
    .num 2500000, .no, .keep, .keep, .none, .plain, ["fixed-point", "1.00..8.00", "2.50", "m/s", "K"]⟩),
  (.trackVMax, ⟨[.w "track", .w "v_max"], .fix [(1000000, 8000000)] 10000 2,
    .num 6000000, .no, .keep, .keep, .none, .plain, ["fixed-point", "1.00..8.00", "6.00", "m/s", "K"]⟩)]

/-- Paths `track.b_scale` to `eject.<n>.queue_share` of the settings tables. -/
def settingRows8 : List (Setting × Info) := [
  (.trackBScale, ⟨[.w "track", .w "b_scale"], .fix [((-2000000), 2000000)] 100 4,
    .num 1000000, .no, .keep, .keep, .none, .plain, ["fixed-point", "-2.0000..2.0000", "1.0000", "-", "K"]⟩),
  (.trackViewScale, ⟨[.w "track", .w "view_scale"], .fix [((-2000000), 2000000)] 100 4,
    .num 1000000, .no, .keep, .keep, .none, .plain, ["fixed-point", "-2.0000..2.0000", "1.0000", "-", "K"]⟩),
  (.trackBOffset, ⟨[.w "track", .w "b_offset"], .int [((-16384), 16383)],
    .num 0, .no, .keep, .keep, .none, .plain, ["i16", "-16384..16383", "0", "columns", "K"]⟩),
  (.trackViewOffset, ⟨[.w "track", .w "view_offset"], .int [((-16384), 16383)],
    .num 0, .no, .keep, .keep, .none, .plain, ["i16", "-16384..16383", "0", "columns", "K"]⟩),
  (.trackMatchCols, ⟨[.w "track", .w "match_cols"], .int [(1, 256)],
    .num 16, .no, .keep, .keep, .none, .plain, ["u16", "1..256", "16", "columns", "K"]⟩),
  (.trackMatchSim, ⟨[.w "track", .w "match_sim"], .int [(0, 1024)],
    .num 614, .no, .keep, .keep, .none, .plain, ["u16", "0..1024", "614", "-", "K"]⟩),
  (.trackOppWindow, ⟨[.w "track", .w "opp_window_us"], .int [(10, 2000)],
    .num 200, .no, .keep, .keep, .none, .plain, ["u16", "10..2000", "200", "us", "K"]⟩),
  (.trackViewDelay, ⟨[.w "track", .w "view_delay_us"], .int [((-100000), 100000)],
    .num 0, .no, .keep, .keep, .none, .plain, ["i32", "-100000..100000", "0", "us", "K"]⟩),
  (.trackViewWait, ⟨[.w "track", .w "view_wait_us"], .int [(0, 100)],
    .num 80, .no, .keep, .keep, .none, .plain, ["u8", "0..100", "80", "us", "K"]⟩),
  (.trackDrag, ⟨[.w "track", .w "drag"], .fix [(0, 5000000)] 10000 2,
    .num 500000, .yes, .inst, .inst, .none, .plain, ["fixed-point", "0.00..5.00", "0.50", "1/s", "T"]⟩),
  (.trackMatched, ⟨[.w "track", .w "matched"], .int [],
    .num 0, .ro, .keep, .none, .none, .plain, ["u32", "-", "0", "count", "K"]⟩),
  (.trackUnmatchedA, ⟨[.w "track", .w "unmatched_a"], .int [],
    .num 0, .ro, .keep, .none, .none, .plain, ["u32", "-", "0", "count", "K"]⟩),
  (.trackUnmatchedB, ⟨[.w "track", .w "unmatched_b"], .int [],
    .num 0, .ro, .keep, .none, .none, .plain, ["u32", "-", "0", "count", "K"]⟩),
  (.trackStoreOverflow, ⟨[.w "track", .w "store_overflow"], .int [],
    .num 0, .ro, .keep, .none, .none, .plain, ["u32", "-", "0", "count", "K"]⟩),
  (.trackViewUnused, ⟨[.w "track", .w "view_unused"], .int [],
    .num 0, .ro, .keep, .none, .none, .plain, ["u32", "-", "0", "count", "K"]⟩),
  (.ejectPeakBudget, ⟨[.w "eject", .w "peak_budget"], .int [(1000, 32000)],
    .num 24000, .yes, .keep, .keep, .none, .peakBudget, ["u16", "1000..32000,at_least_the_sum_of_shares", "24000", "mA", "K"]⟩),
  (.ejectMaxDelay, ⟨[.w "eject", .w "max_delay"], .int [(0, 500)],
    .num 200, .yes, .keep, .keep, .none, .plain, ["u16", "0..500", "200", "us", "K"]⟩),
  (.ejectMaxOn, ⟨[.w "eject", .w "max_on_ms"], .fix [(1000000, 100000000)] 100000 1,
    .num 20000000, .yes, .keep, .keep, .none, .plain, ["fixed-point", "1.0..100.0", "20.0", "ms", "K"]⟩),
  (.ejectMergeGap, ⟨[.w "eject", .w "merge_gap_us"], .int [(0, 5000)],
    .num 300, .yes, .keep, .keep, .none, .plain, ["u16", "0..5000", "300", "us", "K"]⟩),
  (.ejectCol0, ⟨[.w "eject", .w "col0"], .int [((-16384), 16383)],
    .num 0, .no, .keep, .keep, .none, .plain, ["i16", "-16384..16383", "0", "column", "K"]⟩),
  (.ejectPitch, ⟨[.w "eject", .w "pitch_cols"], .fix [(1000000, 512000000)] 10000 2,
    .num 32000000, .no, .keep, .keep, .none, .plain, ["fixed-point", "1.00..512.00", "32.00", "columns", "K"]⟩),
  (.ejectValve0, ⟨[.w "eject", .w "valve0"], .int [(0, 63)],
    .num 0, .no, .keep, .keep, .none, .plain, ["u8", "0..63", "0", "-", "K"]⟩),
  (.ejectOrder, ⟨[.w "eject", .w "order"], .enum ["ASC", "DESC"],
    .num 0, .no, .keep, .keep, .none, .plain, ["enum_ASC,DESC", "-", "ASC", "-", "K"]⟩),
  (.ejectQueueShare, ⟨[.w "eject", .ix .turret, .w "queue_share"], .int [(0, 4096)],
    .num 64, .no, .keep, .keep, .none, .assignment, ["u16", "0..4096", "64", "actions", "K"]⟩)]

/-- Paths `eject.queue_used` to `valve.<mm>.use` of the settings tables. -/
def settingRows9 : List (Setting × Info) := [
  (.ejectQueueUsed, ⟨[.w "eject", .w "queue_used"], .int [(0, 4096)],
    .num 0, .ro, .keep, .none, .none, .plain, ["u16", "0..4096", "0", "actions", "K"]⟩),
  (.ejectMarginCols, ⟨[.w "eject", .w "margin_cols"], .int [(0, 64)],
    .num 2, .yes, .inst, .inst, .none, .plain, ["u8", "0..64", "2", "columns", "T"]⟩),
  (.ejectPreUs, ⟨[.w "eject", .w "pre_us"], .int [(0, 5000)],
    .num 200, .yes, .inst, .inst, .none, .plain, ["u16", "0..5000", "200", "us", "T"]⟩),
  (.ejectPostUs, ⟨[.w "eject", .w "post_us"], .int [(0, 5000)],
    .num 200, .yes, .inst, .inst, .none, .plain, ["u16", "0..5000", "200", "us", "T"]⟩),
  (.ejectOverflowPolicy, ⟨[.w "eject", .w "overflow_policy"], .enum ["PASS", "DIVERT"],
    .num 0, .yes, .inst, .inst, .none, .plain, ["enum_PASS,DIVERT", "-", "PASS", "-", "T"]⟩),
  (.ejectMetalDelay, ⟨[.w "eject", .w "metal_delay_ms"], .fix [(1000000, 5000000000)] 100000 1,
    .num 100000000, .yes, .inst, .inst, .none, .plain, ["fixed-point", "1.0..5000.0", "100.0", "ms", "T"]⟩),
  (.ejectMetalWindow, ⟨[.w "eject", .w "metal_window_ms"], .fix [(10000000, 10000000000)] 100000 1,
    .num 250000000, .yes, .inst, .inst, .none, .plain, ["fixed-point", "10.0..10000.0", "250.0", "ms", "T"]⟩),
  (.ejectRejects, ⟨[.w "eject", .w "rejects"], .int [],
    .num 0, .ro, .inst, .none, .none, .plain, ["u32", "-", "0", "count", "T"]⟩),
  (.ejectDiverts, ⟨[.w "eject", .w "diverts"], .int [],
    .num 0, .ro, .inst, .none, .none, .plain, ["u32", "-", "0", "count", "T"]⟩),
  (.ejectActions, ⟨[.w "eject", .w "actions"], .int [],
    .num 0, .ro, .inst, .none, .none, .plain, ["u32", "-", "0", "count", "T"]⟩),
  (.ejectDelayed, ⟨[.w "eject", .w "delayed"], .int [],
    .num 0, .ro, .inst, .none, .none, .plain, ["u32", "-", "0", "count", "T"]⟩),
  (.ejectDenied, ⟨[.w "eject", .w "denied"], .int [],
    .num 0, .ro, .inst, .none, .none, .plain, ["u32", "-", "0", "count", "T"]⟩),
  (.ejectFaulted, ⟨[.w "eject", .w "faulted"], .int [],
    .num 0, .ro, .inst, .none, .none, .plain, ["u32", "-", "0", "count", "T"]⟩),
  (.ejectMerged, ⟨[.w "eject", .w "merged"], .int [],
    .num 0, .ro, .inst, .none, .none, .plain, ["u32", "-", "0", "count", "T"]⟩),
  (.ejectCapped, ⟨[.w "eject", .w "capped"], .int [],
    .num 0, .ro, .inst, .none, .none, .plain, ["u32", "-", "0", "count", "T"]⟩),
  (.ejectOverflow, ⟨[.w "eject", .w "overflow"], .int [],
    .num 0, .ro, .inst, .none, .none, .plain, ["u32", "-", "0", "count", "T"]⟩),
  (.ejectLate, ⟨[.w "eject", .w "late"], .int [],
    .num 0, .ro, .inst, .none, .none, .plain, ["u32", "-", "0", "count", "T"]⟩),
  (.ejectNovalve, ⟨[.w "eject", .w "novalve"], .int [],
    .num 0, .ro, .inst, .none, .none, .plain, ["u32", "-", "0", "count", "T"]⟩),
  (.ejectSpanTrimmed, ⟨[.w "eject", .w "span_trimmed"], .int [],
    .num 0, .ro, .inst, .none, .none, .plain, ["u32", "-", "0", "count", "T"]⟩),
  (.ejectDivertMissing, ⟨[.w "eject", .w "divert_missing"], .int [],
    .num 0, .ro, .inst, .none, .none, .plain, ["u32", "-", "0", "count", "T"]⟩),
  (.ejectMetal, ⟨[.w "eject", .w "metal"], .int [],
    .num 0, .ro, .inst, .none, .none, .plain, ["u32", "-", "0", "count", "T"]⟩),
  (.ejectMetalMissed, ⟨[.w "eject", .w "metal_missed"], .int [],
    .num 0, .ro, .inst, .none, .none, .plain, ["u32", "-", "0", "count", "T"]⟩),
  (.valveTurret, ⟨[.w "valve", .ix .valve, .w "turret"], .int [(0, 63), (255, 255)],
    .num 255, .no, .keepOrOwner, .keep, .valve, .assignment, ["u8", "0..63/255_none", "255", "-", "K/T_reads_own"]⟩),
  (.valveUse, ⟨[.w "valve", .ix .valve, .w "use"], .enum ["EJECT", "DIVERT", "OFF"],
    .num 0, .no, .keep, .keep, .none, .plain, ["enum_EJECT,DIVERT,OFF", "-", "EJECT", "-", "K"]⟩)]

/-- Paths `valve.<mm>.peak_a` to `seq.<e>.exc_p` of the settings tables. -/
def settingRows10 : List (Setting × Info) := [
  (.valvePeakA, ⟨[.w "valve", .ix .valve, .w "peak_a"], .fix [(300000, 2000000)] 10000 2,
    .num 1000000, .no, .keep, .keep, .none, .valveSetting, ["fixed-point", "0.30..2.00", "1.00", "A", "K"]⟩),
  (.valvePeakUs, ⟨[.w "valve", .ix .valve, .w "peak_us"], .int [(50, 2000)],
    .num 300, .no, .keep, .keep, .none, .plain, ["u16", "50..2000", "300", "us", "K"]⟩),
  (.valveHoldA, ⟨[.w "valve", .ix .valve, .w "hold_a"], .fix [(50000, 600000)] 10000 2,
    .num 200000, .no, .keep, .keep, .none, .valveSetting, ["fixed-point", "0.05..0.60", "0.20", "A", "K"]⟩),
  (.valveOnUs, ⟨[.w "valve", .ix .valve, .w "on_us"], .int [(0, 20000)],
    .num 2000, .no, .keep, .keep, .none, .plain, ["u16", "0..20000", "2000", "us", "K"]⟩),
  (.valveOffUs, ⟨[.w "valve", .ix .valve, .w "off_us"], .int [(0, 20000)],
    .num 1000, .no, .keep, .keep, .none, .plain, ["u16", "0..20000", "1000", "us", "K"]⟩),
  (.valveState, ⟨[.w "valve", .ix .valve, .w "state"], .enum ["IDLE", "PEAK", "HOLD", "OPEN", "SHORT", "OFF"],
    .num 0, .ro, .keepOrOwner, .none, .valve, .plain, ["enum_IDLE,PEAK,HOLD,OPEN,SHORT,OFF", "-", "-", "-", "K/T_reads_own"]⟩),
  (.valveActions, ⟨[.w "valve", .ix .valve, .w "actions"], .int [],
    .num 0, .ro, .keepOrOwner, .none, .valve, .plain, ["u32", "-", "0", "count", "K/T_reads_own"]⟩),
  (.valveDenied, ⟨[.w "valve", .ix .valve, .w "denied"], .int [],
    .num 0, .ro, .keep, .none, .none, .plain, ["u32", "-", "0", "count", "K"]⟩),
  (.valveLow, ⟨[.w "valve", .ix .valve, .w "low"], .int [],
    .num 0, .ro, .keep, .none, .none, .plain, ["u32", "-", "0", "count", "K"]⟩),
  (.actValveTest, ⟨[.w "valve", .ix .valve, .w "test"], .action,
    .num 0, .no, .none, .keep, .none, .act, ["action", "-", "-", "-", "K"]⟩),
  (.feChopDiv, ⟨[.w "fe", .w "chop_div"], .int [(16, 16), (32, 32), (64, 64), (128, 128), (256, 256)],
    .num 64, .no, .keep, .keep, .none, .seqStaged, ["u16", "16,32,64,128,256", "64", "-", "K"]⟩),
  (.fePinTurret, ⟨[.w "fe", .w "pin", .ix .pin, .w "turret"], .int [(0, 63), (255, 255)],
    .num 255, .no, .keep, .keep, .none, .assignment, ["u8", "0..63/255_none", "255", "-", "K"]⟩),
  (.fePinState, ⟨[.w "fe", .w "pin", .ix .pin, .w "state"], .enum ["OK", "OVER", "DISABLED"],
    .num 0, .ro, .keepOrOwner, .none, .pin, .plain, ["enum_OK,OVER,DISABLED", "-", "-", "-", "K/T_own"]⟩),
  (.feState, ⟨[.w "fe", .w "state"], .enum ["OK", "FAULT", "GATED", "OFF"],
    .num 0, .ro, .keep, .none, .none, .plain, ["enum_OK,FAULT,GATED,OFF", "-", "-", "-", "K"]⟩),
  (.feExcGrant, ⟨[.w "fe", .w "exc_grant"], .bool,
    .num 0, .ro, .keep, .none, .none, .plain, ["bool", "-", "off", "-", "K"]⟩),
  (.seqPartitioned, ⟨[.w "seq", .w "partitioned"], .bool,
    .num 0, .no, .keep, .keep, .none, .plain, ["bool", "on,off", "off", "-", "K"]⟩),
  (.seqFrameUs, ⟨[.w "seq", .w "frame_us"], .int [(1000, 100000)],
    .num 10000, .no, .keep, .keep, .none, .seqStaged, ["u32", "1000..100000", "10000", "us", "K"]⟩),
  (.seqSlotTurret, ⟨[.w "seq", .w "slot", .ix .pin, .w "turret"], .int [(0, 63), (255, 255)],
    .num 255, .no, .keep, .keep, .none, .assignment, ["u8", "0..63/255_none", "255", "-", "K"]⟩),
  (.seqSlotUs, ⟨[.w "seq", .w "slot", .ix .pin, .w "us"], .int [(0, 100000)],
    .num 0, .no, .keep, .keep, .none, .seqStaged, ["u32", "0..100000", "0", "us", "K"]⟩),
  (.seqTurret, ⟨[.w "seq", .ix .entry, .w "turret"], .int [(0, 63), (255, 255)],
    .num 255, .no, .keep, .keep, .none, .assignment, ["u8", "0..63/255_none", "255", "-", "K"]⟩),
  (.seqEnable, ⟨[.w "seq", .ix .entry, .w "enable"], .enum ["OFF", "LOOP", "URGENT"],
    .num 0, .staged, .owner, .owner, .entry, .seqStaged, ["enum_OFF,LOOP,URGENT", "-", "OFF", "-", "T"]⟩),
  (.seqInP, ⟨[.w "seq", .ix .entry, .w "in_p"], .int [(0, 15)],
    .num 0, .staged, .owner, .owner, .entry, .seqStaged, ["u8", "0..15", "0", "pin", "T"]⟩),
  (.seqInN, ⟨[.w "seq", .ix .entry, .w "in_n"], .int [(0, 16)],
    .num 16, .staged, .owner, .owner, .entry, .seqStaged, ["u8", "0..15/16_AGND", "16", "pin", "T"]⟩),
  (.seqExcP, ⟨[.w "seq", .ix .entry, .w "exc_p"], .int [(0, 15), (255, 255)],
    .num 255, .staged, .owner, .owner, .entry, .seqStaged, ["u8", "0..15/255_none", "255", "pin", "T"]⟩)]

/-- Paths `seq.<e>.exc_n` to `seq.<e>.raw` of the settings tables. `seq.e.bias_v` moves in steps of 5 V/4 096 (log entry 110). -/
def settingRows11 : List (Setting × Info) := [
  (.seqExcN, ⟨[.w "seq", .ix .entry, .w "exc_n"], .int [(0, 16), (255, 255)],
    .num 255, .staged, .owner, .owner, .entry, .seqStaged, ["u8", "0..15/16_AGND/255_none", "255", "pin", "T"]⟩),
  (.seqBiasPins, ⟨[.w "seq", .ix .entry, .w "bias_pins"], .mask 0 65535,
    .num 0, .staged, .owner, .owner, .entry, .seqStaged, ["mask", "0x0000..0xFFFF", "0x0000", "-", "T"]⟩),
  (.seqBiasV, ⟨[.w "seq", .ix .entry, .w "bias_v"], .steps 4096 5000000 3,
    .num 0, .staged, .owner, .owner, .entry, .seqStaged, ["fixed-point", "0..5.000", "0", "V", "T"]⟩),
  (.seqGain, ⟨[.w "seq", .ix .entry, .w "gain"], .int [(1, 1), (2, 2), (4, 4), (8, 8), (16, 16), (32, 32), (64, 64), (128, 128), (256, 256)],
    .num 1, .staged, .owner, .owner, .entry, .seqStaged, ["u16", "1,2,4_..._256", "1", "-", "T"]⟩),
  (.seqMode, ⟨[.w "seq", .ix .entry, .w "mode"], .enum ["DC", "IQ"],
    .num 0, .staged, .owner, .owner, .entry, .seqStaged, ["enum_DC,IQ", "-", "DC", "-", "T"]⟩),
  (.seqFreqHz, ⟨[.w "seq", .ix .entry, .w "freq_hz"], .fix [(10000000, 200000000000)] 100000 1,
    .num 1000000000, .staged, .owner, .owner, .entry, .seqStaged, ["fixed-point", "10.0..200000.0", "1000.0", "Hz", "T"]⟩),
  (.seqExcVpp, ⟨[.w "seq", .ix .entry, .w "exc_vpp"], .fix [(0, 10000000)] 2500 3,
    .num 0, .staged, .owner, .owner, .entry, .seqStaged, ["fixed-point", "0..10.000", "0", "V", "T"]⟩),
  (.seqPhase, ⟨[.w "seq", .ix .entry, .w "phase"], .fix [((-180000000), 180000000)] 100000 1,
    .num 0, .staged, .owner, .owner, .entry, .seqStaged, ["fixed-point", "-180.0..180.0", "0", "deg", "T"]⟩),
  (.seqSamples, ⟨[.w "seq", .ix .entry, .w "samples"], .int [(16, 65535)],
    .num 64, .staged, .owner, .owner, .entry, .seqStaged, ["u16", "16..65535,multiple_of_fe.chop_div", "64", "samples", "T"]⟩),
  (.seqSettleUs, ⟨[.w "seq", .ix .entry, .w "settle_us"], .int [(0, 65535)],
    .num 100, .staged, .owner, .owner, .entry, .seqStaged, ["u16", "0..65535", "100", "us", "T"]⟩),
  (.seqDelayUs, ⟨[.w "seq", .ix .entry, .w "delay_us"], .int [(0, 65535)],
    .num 0, .staged, .owner, .owner, .entry, .seqStaged, ["u16", "0..65535", "0", "us", "T"]⟩),
  (.seqRepeat, ⟨[.w "seq", .ix .entry, .w "repeat"], .int [(1, 65535)],
    .num 1, .staged, .owner, .owner, .entry, .seqStaged, ["u16", "1..65535", "1", "-", "T"]⟩),
  (.seqValue, ⟨[.w "seq", .ix .entry, .w "value"], .enum ["DC", "I", "Q", "M"],
    .num 0, .staged, .owner, .owner, .entry, .seqStaged, ["enum_DC,I,Q,M", "-", "DC", "-", "T"]⟩),
  (.seqRatio, ⟨[.w "seq", .ix .entry, .w "ratio"], .int [(0, 31), (255, 255)],
    .num 255, .staged, .owner, .owner, .entry, .seqStaged, ["u8", "0..31/255_none", "255", "-", "T"]⟩),
  (.seqTrigger, ⟨[.w "seq", .ix .entry, .w "trigger"], .int [(0, 31), (255, 255)],
    .num 255, .staged, .owner, .owner, .entry, .seqStaged, ["u8", "0..31/255_none", "255", "-", "T"]⟩),
  (.seqScale, ⟨[.w "seq", .ix .entry, .w "scale"], .fix [((-1000000000000000), 1000000000000000)] 1 0,
    .num 1000000, .staged, .owner, .owner, .entry, .seqStaged, ["fixed-point", "-10^9..10^9", "1", "-", "T"]⟩),
  (.seqOffset, ⟨[.w "seq", .ix .entry, .w "offset"], .fix [((-1000000000000000), 1000000000000000)] 1 0,
    .num 0, .staged, .owner, .owner, .entry, .seqStaged, ["fixed-point", "-10^9..10^9", "0", "-", "T"]⟩),
  (.seqEvent, ⟨[.w "seq", .ix .entry, .w "event"], .enum ["NONE", "ABOVE", "BELOW", "METAL"],
    .num 0, .staged, .owner, .owner, .entry, .seqStaged, ["enum_NONE,ABOVE,BELOW,METAL", "-", "NONE", "-", "T"]⟩),
  (.seqThresh, ⟨[.w "seq", .ix .entry, .w "thresh"], .fix [((-1000000000000000), 1000000000000000)] 1 0,
    .num 0, .staged, .owner, .owner, .entry, .seqStaged, ["fixed-point", "-10^9..10^9", "0", "-", "T"]⟩),
  (.seqHyst, ⟨[.w "seq", .ix .entry, .w "hyst"], .fix [(0, 1000000000000000)] 1 0,
    .num 0, .staged, .owner, .owner, .entry, .seqStaged, ["fixed-point", "0..10^9", "0", "-", "T"]⟩),
  (.actSeqCommit, ⟨[.w "seq", .w "commit"], .action,
    .num 0, .yes, .none, .any, .none, .act, ["action", "-", "-", "-", "T"]⟩),
  (.actSeqNow, ⟨[.w "seq", .ix .entry, .w "now"], .action,
    .num 0, .yes, .none, .owner, .entry, .act, ["action", "-", "-", "-", "T"]⟩),
  (.seqResult, ⟨[.w "seq", .ix .entry, .w "result"], .fix [] 1 0,
    .num 0, .ro, .owner, .none, .entry, .plain, ["fixed-point", "-", "-", "-", "T"]⟩),
  (.seqRaw, ⟨[.w "seq", .ix .entry, .w "raw"], .fix [] 1 0,
    .num 0, .ro, .owner, .none, .entry, .plain, ["fixed-point", "-", "-", "V", "T"]⟩)]

/-- Paths `seq.<e>.flags` to `loop.<l>.volts` of the settings tables. -/
def settingRows12 : List (Setting × Info) := [
  (.seqFlags, ⟨[.w "seq", .ix .entry, .w "flags"], .mask 0 0xFFFFFFFF,
    .num 0, .ro, .owner, .none, .entry, .plain, ["mask", "-", "0x0", "-", "T"]⟩),
  (.seqTick, ⟨[.w "seq", .ix .entry, .w "tick"], .tick,
    .num 0, .ro, .owner, .none, .entry, .plain, ["tick", "-", "-", "tick", "T"]⟩),
  (.seqFreqActual, ⟨[.w "seq", .ix .entry, .w "freq_actual"], .fix [] 1 0,
    .num 0, .ro, .owner, .none, .entry, .plain, ["fixed-point", "-", "-", "Hz", "T"]⟩),
  (.seqCount, ⟨[.w "seq", .ix .entry, .w "count"], .int [],
    .num 0, .ro, .owner, .none, .entry, .plain, ["u32", "-", "0", "count", "T"]⟩),
  (.seqPreempted, ⟨[.w "seq", .ix .entry, .w "preempted"], .int [],
    .num 0, .ro, .owner, .none, .entry, .plain, ["u32", "-", "0", "count", "T"]⟩),
  (.seqEvents, ⟨[.w "seq", .ix .entry, .w "events"], .int [],
    .num 0, .ro, .owner, .none, .entry, .plain, ["u32", "-", "0", "count", "T"]⟩),
  (.checkRMin, ⟨[.w "check", .ix .pin, .w "r_min"], .fix [(0, 100000000000000)] 1 0,
    .num 0, .yes, .owner, .owner, .pin, .plain, ["fixed-point", "0..100000000", "0", "ohm", "T_(pin_owner)"]⟩),
  (.checkRMax, ⟨[.w "check", .ix .pin, .w "r_max"], .fix [(0, 100000000000000)] 1 0,
    .num 100000000000000, .yes, .owner, .owner, .pin, .plain, ["fixed-point", "0..100000000", "100000000", "ohm", "T_(pin_owner)"]⟩),
  (.actCheckRun, ⟨[.w "check", .w "run"], .action,
    .num 0, .yes, .none, .any, .none, .act, ["action", "Kinds_of_Table_12-5", "-", "-", "T_for_open_on_own_pins/else_K"]⟩),
  (.checkIntervalS, ⟨[.w "check", .w "interval_s"], .int [(0, 86400)],
    .num 0, .yes, .keep, .keep, .none, .checkInterval, ["u32", "0..86400", "0", "s", "K"]⟩),
  (.checkFails, ⟨[.w "check", .w "fails"], .int [],
    .num 0, .ro, .keep, .none, .none, .plain, ["u32", "-", "0", "count", "K"]⟩),
  (.loopMode, ⟨[.w "loop", .ix .loop, .w "mode"], .enum ["PASSIVE", "ACTIVE"],
    .num 0, .no, .keep, .keep, .none, .plain, ["enum_PASSIVE,ACTIVE", "-", "PASSIVE", "-", "K"]⟩),
  (.loopTurret, ⟨[.w "loop", .ix .loop, .w "turret"], .int [(0, 63)],
    .num 0, .no, .keep, .keep, .none, .assignment, ["u8", "0..63", "0", "-", "K"]⟩),
  (.loopAlarmMa, ⟨[.w "loop", .ix .loop, .w "alarm_ma"], .fix [(3500000, 3600000), (21000000, 23000000)] 10000 2,
    .num 3600000, .yes, .keep, .keep, .none, .plain, ["fixed-point", "3.50..3.60,21.00..23.00", "3.60", "mA", "K"]⟩),
  (.loopWatch, ⟨[.w "loop", .ix .loop, .w "watch"], .enum ["HOLD", "LOW", "OFF"],
    .num 0, .yes, .keep, .keep, .none, .plain, ["enum_HOLD,LOW,OFF", "-", "HOLD", "-", "K"]⟩),
  (.loopQuantity, ⟨[.w "loop", .ix .loop, .w "quantity"], .enum ["NONE", "RATE", "MASS", "REJECT", "ENTRY", "METAL", "STATE", "FIXED"],
    .num 6, .yes, .owner, .owner, .loop, .loopQuantity, ["enum_NONE,RATE,MASS,REJECT,ENTRY,METAL,STATE,FIXED", "-", "STATE", "-", "T_(owner)"]⟩),
  (.loopEntry, ⟨[.w "loop", .ix .loop, .w "entry"], .int [(0, 31)],
    .num 0, .yes, .owner, .owner, .loop, .loopQuantity, ["u8", "0..31", "0", "-", "T_(owner)"]⟩),
  (.loopLo, ⟨[.w "loop", .ix .loop, .w "lo"], .fix [((-1000000000000000), 1000000000000000)] 1 0,
    .num 0, .yes, .owner, .owner, .loop, .loopQuantity, ["fixed-point", "-10^9..10^9", "0", "Quantity's_unit", "T_(owner)"]⟩),
  (.loopHi, ⟨[.w "loop", .ix .loop, .w "hi"], .fix [((-1000000000000000), 1000000000000000)] 1 0,
    .num 100000000, .yes, .owner, .owner, .loop, .loopQuantity, ["fixed-point", "-10^9..10^9", "100", "Quantity's_unit", "T_(owner)"]⟩),
  (.loopWindowMs, ⟨[.w "loop", .ix .loop, .w "window_ms"], .int [(100, 60000)],
    .num 1000, .yes, .owner, .owner, .loop, .plain, ["u16", "100..60000", "1000", "ms", "T_(owner)"]⟩),
  (.loopFixedMa, ⟨[.w "loop", .ix .loop, .w "fixed_ma"], .fix [(3500000, 23000000)] 10000 2,
    .num 4000000, .yes, .owner, .owner, .loop, .plain, ["fixed-point", "3.50..23.00", "4.00", "mA", "T_(owner)"]⟩),
  (.loopCommandedMa, ⟨[.w "loop", .ix .loop, .w "commanded_ma"], .fix [] 1 0,
    .num 0, .ro, .owner, .none, .loop, .plain, ["fixed-point", "-", "-", "mA", "T_(owner)"]⟩),
  (.loopActualMa, ⟨[.w "loop", .ix .loop, .w "actual_ma"], .fix [] 1 0,
    .num 0, .ro, .owner, .none, .loop, .plain, ["fixed-point", "-", "-", "mA", "T_(owner)"]⟩),
  (.loopVolts, ⟨[.w "loop", .ix .loop, .w "volts"], .fix [] 1 0,
    .num 0, .ro, .owner, .none, .loop, .plain, ["fixed-point", "-", "-", "V", "T_(owner)"]⟩)]

/-- Paths `loop.<l>.headroom` to `turret.<n>.destroy` of the settings tables. -/
def settingRows13 : List (Setting × Info) := [
  (.loopHeadroom, ⟨[.w "loop", .ix .loop, .w "headroom"], .bool,
    .num 0, .ro, .keepOrOwner, .none, .loop, .plain, ["bool", "-", "-", "-", "K/T_(owner)"]⟩),
  (.loopState, ⟨[.w "loop", .ix .loop, .w "state"], .enum ["MEASURE", "ALARM", "FALLBACK", "WATCH", "FAULT"],
    .num 0, .ro, .keepOrOwner, .none, .loop, .plain, ["enum_MEASURE,ALARM,FALLBACK,WATCH,FAULT", "-", "-", "-", "K/T_(owner)"]⟩),
  (.loopHeadroomFaults, ⟨[.w "loop", .ix .loop, .w "headroom_faults"], .int [],
    .num 0, .ro, .keep, .none, .none, .plain, ["u32", "-", "0", "count", "K"]⟩),
  (.memState, ⟨[.w "mem", .w "state"], .enum ["IDLE", "REKEY", "SCRUB"],
    .num 0, .ro, .keep, .none, .none, .plain, ["enum_IDLE,REKEY,SCRUB", "-", "IDLE", "-", "K"]⟩),
  (.memScrubH, ⟨[.w "mem", .w "scrub_h"], .int [(0, 720)],
    .num 168, .yes, .keep, .keep, .none, .plain, ["u16", "0..720/0_is_off", "168", "h", "K"]⟩),
  (.actMemRekey, ⟨[.w "mem", .w "rekey"], .action,
    .num 0, .yes, .none, .any, .none, .act, ["action_n_region", "PROT,CAPT,WORK", "-", "-", "K/T_for_own"]⟩),
  (.memProtKib, ⟨[.w "mem", .ix .turret, .w "prot_kib"], .int [],
    .num 0, .ro, .keepOrOwner, .none, .turret, .plain, ["u32", "-", "0", "KiB", "K/T_own"]⟩),
  (.memCaptKib, ⟨[.w "mem", .ix .turret, .w "capt_kib"], .int [],
    .num 0, .ro, .keepOrOwner, .none, .turret, .plain, ["u32", "-", "0", "KiB", "K/T_own"]⟩),
  (.memWorkKib, ⟨[.w "mem", .ix .turret, .w "work_kib"], .int [],
    .num 0, .ro, .keepOrOwner, .none, .turret, .plain, ["u32", "-", "0", "KiB", "K/T_own"]⟩),
  (.memMaxGen, ⟨[.w "mem", .ix .turret, .w "max_gen"], .int [],
    .num 0, .ro, .keepOrOwner, .none, .turret, .plain, ["u32", "-", "0", "-", "K/T_own"]⟩),
  (.memFenceMaxNs, ⟨[.w "mem", .w "fence_max_ns"], .int [],
    .num 0, .ro, .keep, .none, .none, .plain, ["u16", "-", "0", "ns", "K"]⟩),
  (.memLastFault, ⟨[.w "mem", .w "last_fault"], .record,
    .num 0, .ro, .keep, .none, .none, .plain, ["region,owner,sector,tick", "-", "empty", "-", "K"]⟩),
  (.memRefused, ⟨[.w "mem", .w "refused"], .int [],
    .num 0, .ro, .keep, .none, .none, .plain, ["u32", "-", "0", "count", "K"]⟩),
  (.memProbeFails, ⟨[.w "mem", .w "probe_fails"], .int [],
    .num 0, .ro, .keep, .none, .none, .plain, ["u32", "-", "0", "count", "K"]⟩),
  (.memRekeys, ⟨[.w "mem", .w "rekeys"], .int [],
    .num 0, .ro, .keep, .none, .none, .plain, ["u32", "-", "0", "count", "K"]⟩),
  (.memScrubs, ⟨[.w "mem", .w "scrubs"], .int [],
    .num 0, .ro, .keep, .none, .none, .plain, ["u32", "-", "0", "count", "K"]⟩),
  (.memScrubRepairs, ⟨[.w "mem", .w "scrub_repairs"], .int [],
    .num 0, .ro, .keep, .none, .none, .plain, ["u32", "-", "0", "count", "K"]⟩),
  (.actTurretCreate, ⟨[.w "turret", .w "create"], .action,
    .num 0, .no, .none, .keep, .none, .act, ["action_n", "1..63", "-", "-", "K"]⟩),
  (.turretState, ⟨[.w "turret", .ix .turret, .w "state"], .enum ["ABSENT", "CREATED", "CLAIMED", "REVOKED"],
    .num 0, .ro, .any, .none, .turret, .plain, ["enum_ABSENT,CREATED,CLAIMED,REVOKED", "-", "ABSENT/CREATED_for_0", "-", "Any"]⟩),
  (.turretOwner, ⟨[.w "turret", .ix .turret, .w "owner"], .bytes 49,
    .bytes [], .ro, .any, .none, .turret, .plain, ["bytes", "49_bytes", "-", "-", "Any"]⟩),
  (.actTurretClaim, ⟨[.w "turret", .ix .turret, .w "claim"], .action,
    .num 0, .yes, .none, .any, .none, .act, ["action", "-", "-", "-", "Any"]⟩),
  (.actTurretRevoke, ⟨[.w "turret", .ix .turret, .w "revoke"], .action,
    .num 0, .yes, .none, .keep, .none, .act, ["action", "-", "-", "-", "K"]⟩),
  (.actTurretRestore, ⟨[.w "turret", .ix .turret, .w "restore"], .action,
    .num 0, .no, .none, .keep, .none, .act, ["action", "-", "-", "-", "K"]⟩),
  (.actTurretDestroy, ⟨[.w "turret", .ix .turret, .w "destroy"], .action,
    .num 0, .no, .none, .keep, .none, .act, ["action", "-", "-", "-", "K"]⟩)]

/-- Paths `turret.<n>.xa_lo` to `stream.<s256>.next` of the settings tables. -/
def settingRows14 : List (Setting × Info) := [
  (.turretXaLo, ⟨[.w "turret", .ix .turret, .w "xa_lo"], .int [(0, 8191), (65535, 65535)],
    .num 65535, .no, .keepOrOwner, .keep, .turret, .xrange, ["u16", "0..8191/65535_none", "65535", "column", "K/T_reads_own"]⟩),
  (.turretXaHi, ⟨[.w "turret", .ix .turret, .w "xa_hi"], .int [(0, 8191), (65535, 65535)],
    .num 65535, .no, .keepOrOwner, .keep, .turret, .xrange, ["u16", "0..8191/65535_none", "65535", "column", "K/T_reads_own"]⟩),
  (.turretXbLo, ⟨[.w "turret", .ix .turret, .w "xb_lo"], .int [(0, 8191), (65535, 65535)],
    .num 65535, .no, .keepOrOwner, .keep, .turret, .xrange, ["u16", "0..8191/65535_none", "65535", "column", "K/T_reads_own"]⟩),
  (.turretXbHi, ⟨[.w "turret", .ix .turret, .w "xb_hi"], .int [(0, 8191), (65535, 65535)],
    .num 65535, .no, .keepOrOwner, .keep, .turret, .xrange, ["u16", "0..8191/65535_none", "65535", "column", "K/T_reads_own"]⟩),
  (.turretPeakShare, ⟨[.w "turret", .ix .turret, .w "peak_share"], .int [(0, 32000)],
    .num 0, .yes, .keepOrOwner, .keep, .turret, .peakShare, ["u16", "0..32000", "0", "mA", "K/T_reads_own"]⟩),
  (.turretJobs, ⟨[.w "turret", .ix .turret, .w "jobs"], .int [(0, 8)],
    .num 0, .no, .keepOrOwner, .keep, .turret, .assignment, ["u8", "0..8", "8_for_0,else_0", "entries", "K/T_reads_own"]⟩),
  (.turretProtKib, ⟨[.w "turret", .ix .turret, .w "prot_kib"], .int [(0, 57344)],
    .num 0, .no, .keepOrOwner, .keep, .turret, .assignment, ["u32", "0..57344", "4096_for_0,else_0", "KiB", "K/T_reads_own"]⟩),
  (.turretCaptKib, ⟨[.w "turret", .ix .turret, .w "capt_kib"], .int [(0, 262144)],
    .num 0, .no, .keepOrOwner, .keep, .turret, .assignment, ["u32", "0..262144", "65536_for_0,else_0", "KiB", "K/T_reads_own"]⟩),
  (.turretWorkKib, ⟨[.w "turret", .ix .turret, .w "work_kib"], .int [(0, 1310720)],
    .num 0, .no, .keepOrOwner, .keep, .turret, .assignment, ["u32", "0..1310720", "65536_for_0,else_0", "KiB", "K/T_reads_own"]⟩),
  (.turretAssignDigest, ⟨[.w "turret", .w "assign_digest"], .bytes 48,
    .bytes [], .ro, .keep, .none, .none, .plain, ["bytes", "48_bytes", "-", "-", "K"]⟩),
  (.actBlobWrite, ⟨[.w "turret", .w "blob", .ix .blob, .w "write"], .action,
    .num 0, .yes, .none, .any, .none, .act, ["action", "-", "-", "-", "T"]⟩),
  (.actBlobRead, ⟨[.w "turret", .w "blob", .ix .blob, .w "read"], .action,
    .num 0, .yes, .none, .any, .none, .act, ["action", "-", "-", "-", "T"]⟩),
  (.actBlobClear, ⟨[.w "turret", .w "blob", .ix .blob, .w "clear"], .action,
    .num 0, .yes, .none, .any, .none, .act, ["action", "-", "-", "-", "T"]⟩),
  (.keyNonce, ⟨[.w "key", .w "nonce"], .bytes 16,
    .bytes [], .ro, .shared, .none, .none, .plain, ["bytes", "16_bytes", "-", "-", "T"]⟩),
  (.actKeyImport, ⟨[.w "key", .w "import"], .action,
    .num 0, .yes, .none, .any, .none, .act, ["action", "-", "-", "-", "T"]⟩),
  (.actKeyErase, ⟨[.w "key", .w "erase"], .action,
    .num 0, .yes, .none, .any, .none, .act, ["action", "-", "-", "-", "T"]⟩),
  (.keyKind, ⟨[.w "key", .ix .slot8, .w "kind"], .enum ["EMPTY", "OWNER", "LOGIN", "STREAM", "PIN", "SECRET", "TOWER", "EC256", "EC384"],
    .num 0, .ro, .inst, .none, .none, .plain, ["enum_EMPTY,OWNER,LOGIN,STREAM,PIN,SECRET,TOWER,EC256,EC384", "-", "EMPTY", "-", "T"]⟩),
  (.keyDevice, ⟨[.w "key", .w "device"], .record,
    .num 0, .ro, .any, .none, .none, .plain, ["SHOW_only", "-", "-", "-", "Any"]⟩),
  (.streamTurret, ⟨[.w "stream", .ix .stream, .w "turret"], .int [(0, 63), (255, 255)],
    .num 255, .no, .keep, .keep, .none, .streamRate, ["u8", "0..63/255_none", "255", "-", "K"]⟩),
  (.streamType, ⟨[.w "stream", .ix .stream, .w "type"], .enum ["CHIP", "LINE", "STAT", "CON", "MGMT"],
    .num 0, .no, .keep, .keep, .none, .assignment, ["enum_CHIP,LINE,STAT,CON,MGMT", "-", "CHIP", "-", "K"]⟩),
  (.streamRateMbps, ⟨[.w "stream", .ix .stream, .w "rate_mbps"], .int [(0, 16000)],
    .num 0, .no, .keep, .keep, .none, .streamRate, ["u32", "0..16000", "0", "Mb/s", "K"]⟩),
  (.streamState, ⟨[.w "stream", .ix .stream, .w "state"], .enum ["CLOSED", "OPEN"],
    .num 0, .ro, .keepOrOwner, .none, .stream, .plain, ["enum_CLOSED,OPEN", "-", "CLOSED", "-", "K/T_own"]⟩),
  (.streamGen, ⟨[.w "stream", .ix .stream, .w "gen"], .int [],
    .num 0, .ro, .keepOrOwner, .none, .stream, .plain, ["u32", "-", "0", "-", "K/T_own"]⟩),
  (.actStreamNext, ⟨[.w "stream", .ix .stream, .w "next"], .action,
    .num 0, .yes, .none, .owner, .stream, .act, ["action", "-", "-", "-", "T_own"]⟩)]

/-- Paths `dome.pke.frame_ms` to `dome.rng.state` of the settings tables. -/
def settingRows15 : List (Setting × Info) := [
  (.domeFrameMs, ⟨[.w "dome", .w "pke", .w "frame_ms"], .int [(10, 1000)],
    .num 100, .no, .keep, .keep, .none, .assignment, ["u16", "10..1000,at_least_the_sum_of_slot_lengths", "100", "ms", "K"]⟩),
  (.domeSlotTurret, ⟨[.w "dome", .w "pke", .w "slot", .ix .slot8, .w "turret"], .int [(0, 63), (255, 255)],
    .num 0, .no, .keep, .keep, .none, .assignment, ["u8", "0..63/255_none", "0_for_slot_0,else_255", "-", "K"]⟩),
  (.domeSlotMs, ⟨[.w "dome", .w "pke", .w "slot", .ix .slot8, .w "ms"], .int [(0, 1000)],
    .num 0, .no, .keep, .keep, .none, .assignment, ["u16", "0..1000", "20_for_slot_0,else_0", "ms", "K"]⟩),
  (.domeSlotQueue, ⟨[.w "dome", .w "pke", .w "slot", .ix .slot8, .w "queue"], .int [(0, 8)],
    .num 0, .no, .keep, .keep, .none, .assignment, ["u8", "0..8,sum_at_most_8", "8_for_slot_0,else_0", "entries", "K"]⟩),
  (.actPkeSign, ⟨[.w "dome", .w "pke", .w "sign"], .action,
    .num 0, .yes, .none, .any, .none, .act, ["action", "Table_16-5", "-", "-", "T"]⟩),
  (.actPkeVerify, ⟨[.w "dome", .w "pke", .w "verify"], .action,
    .num 0, .yes, .none, .any, .none, .act, ["action", "Table_16-5", "-", "-", "T"]⟩),
  (.actPkeKeygen, ⟨[.w "dome", .w "pke", .w "keygen"], .action,
    .num 0, .yes, .none, .any, .none, .act, ["action", "Table_16-5", "-", "-", "T"]⟩),
  (.actPkeEcdh, ⟨[.w "dome", .w "pke", .w "ecdh"], .action,
    .num 0, .yes, .none, .any, .none, .act, ["action", "Table_16-5", "-", "-", "T"]⟩),
  (.actPkePublic, ⟨[.w "dome", .w "pke", .w "public"], .action,
    .num 0, .yes, .none, .any, .none, .act, ["action", "Table_16-5", "-", "-", "T"]⟩),
  (.actPkeDiag, ⟨[.w "dome", .w "pke", .w "diag"], .action,
    .num 0, .no, .none, .keep, .none, .act, ["action", "Open_mode_only", "-", "-", "K"]⟩),
  (.domeNotify, ⟨[.w "dome", .w "pke", .w "notify"], .bool,
    .num 0, .yes, .inst, .inst, .none, .plain, ["bool", "on,off", "off", "-", "T"]⟩),
  (.domeQueue, ⟨[.w "dome", .w "pke", .w "queue"], .int [(0, 8)],
    .num 0, .ro, .keep, .none, .none, .plain, ["u8", "0..8", "0", "entries", "K"]⟩),
  (.domeOps, ⟨[.w "dome", .w "pke", .w "ops"], .int [],
    .num 0, .ro, .inst, .none, .none, .plain, ["u32", "-", "0", "count", "K/T_own"]⟩),
  (.domeCrypto, ⟨[.w "dome", .w "pke", .w "crypto"], .int [],
    .num 0, .ro, .inst, .none, .none, .plain, ["u32", "-", "0", "count", "K/T_own"]⟩),
  (.domeAborts, ⟨[.w "dome", .w "pke", .w "aborts"], .int [],
    .num 0, .ro, .inst, .none, .none, .plain, ["u32", "-", "0", "count", "K/T_own"]⟩),
  (.domeMicrocode, ⟨[.w "dome", .w "pke", .w "microcode"], .int [],
    .num 0, .ro, .any, .none, .none, .plain, ["u32", "-", "-", "build", "Any"]⟩),
  (.actDigHash, ⟨[.w "dome", .w "dig", .w "hash"], .action,
    .num 0, .yes, .none, .any, .none, .act, ["action", "Table_16-3", "-", "-", "T"]⟩),
  (.actDigStart, ⟨[.w "dome", .w "dig", .w "start"], .action,
    .num 0, .yes, .none, .any, .none, .act, ["action", "Table_16-3", "-", "-", "T"]⟩),
  (.actDigUpdate, ⟨[.w "dome", .w "dig", .w "update"], .action,
    .num 0, .yes, .none, .any, .none, .act, ["action", "Table_16-3", "-", "-", "T"]⟩),
  (.actDigFinal, ⟨[.w "dome", .w "dig", .w "final"], .action,
    .num 0, .yes, .none, .any, .none, .act, ["action", "Table_16-3", "-", "-", "T"]⟩),
  (.actDigDrop, ⟨[.w "dome", .w "dig", .w "drop"], .action,
    .num 0, .yes, .none, .any, .none, .act, ["action", "Table_16-3", "-", "-", "T"]⟩),
  (.actDigTable, ⟨[.w "dome", .w "dig", .w "table"], .action,
    .num 0, .yes, .none, .any, .none, .act, ["action", "Table_16-3", "-", "-", "T"]⟩),
  (.domeDigHandles, ⟨[.w "dome", .w "dig", .w "handles"], .int [(0, 4)],
    .num 0, .ro, .inst, .none, .none, .plain, ["u8", "0..4", "0", "handles", "T"]⟩),
  (.domeRngState, ⟨[.w "dome", .w "rng", .w "state"], .enum ["OK", "FAULT"],
    .num 0, .ro, .keep, .none, .none, .plain, ["enum_OK,FAULT", "-", "-", "-", "K"]⟩)]

/-- Paths `dome.rng.fill` to `dome.rng.faults` of the settings tables. -/
def settingRows16 : List (Setting × Info) := [
  (.actRngFill, ⟨[.w "dome", .w "rng", .w "fill"], .action,
    .num 0, .yes, .none, .any, .none, .act, ["action", "1..4096_bytes", "-", "-", "T"]⟩),
  (.domeRngReseeds, ⟨[.w "dome", .w "rng", .w "reseeds"], .int [],
    .num 0, .ro, .keep, .none, .none, .plain, ["u32", "-", "0", "count", "K"]⟩),
  (.domeRngFaults, ⟨[.w "dome", .w "rng", .w "faults"], .int [],
    .num 0, .ro, .keep, .none, .none, .plain, ["u32", "-", "0", "count", "K"]⟩)]

/-- The settings tables of every chapter as one table, its rows in the order of `Setting`'s constructors. -/
def Setting.table : List (Setting × Info) :=
  settingRows0 ++ settingRows1 ++ settingRows2 ++ settingRows3 ++ settingRows4 ++ settingRows5 ++ settingRows6 ++ settingRows7 ++
  settingRows8 ++ settingRows9 ++ settingRows10 ++ settingRows11 ++ settingRows12 ++ settingRows13 ++ settingRows14 ++ settingRows15 ++ settingRows16

/-- The row of the owning settings table for a path (Table 18-1 names the owning chapters). -/
def Setting.info (s : Setting) : Info :=
  ((Setting.table[s.ctorIdx]?).map (·.2)).getD ⟨[], .action, .num 0, .ro, .none, .none, .none, .act, []⟩

/-- The default of one instance of a path: the table's default, and for the paths whose default differs by index
the table's words for that index. -/
def Key.dflt (k : Key) : Val :=
  match k.s with
  | .sessRequireCheck => .num (if k.i = 2 ∨ k.i = 3 then 1 else 0)
  | .headEnable => .num (if k.i = 0 then 1 else 0)
  | .lanternMask => .num (if k.i = 0 then 0x3F else 0)
  | .turretJobs => .num (if k.i = 0 then 8 else 0)
  | .turretProtKib => .num (if k.i = 0 then 4096 else 0)
  | .turretCaptKib => .num (if k.i = 0 then 65536 else 0)
  | .turretWorkKib => .num (if k.i = 0 then 65536 else 0)
  | .domeSlotTurret => .num (if k.i = 0 then 0 else 255)
  | .domeSlotMs => .num (if k.i = 0 then 20 else 0)
  | .domeSlotQueue => .num (if k.i = 0 then 8 else 0)
  | s => s.info.dflt

end Sys2Proof
end

