-- ==== Sys2Proof/Machine/State.lean ====
section
/-! DEFINITION. The state of one module: everything the chapters give it, as plain data, and the queue of commands
that wait. Each structure names the rules its fields come from. Numbered things (valves, turrets, streams, sessions,
ports, heads, entries, loops) are sparse maps whose unlisted entry is the `init` record of their kind. -/

namespace Sys2Proof.Machine

/-! ## Power, states and the Belfry -/

/-- The module states (Table 0-2). -/
inductive MState where
  | off | start | watch | ready | run | paused | halted
  deriving DecidableEq, Repr

/-- The modes (R8). `opn` is Open. -/
inductive Mode where
  | opn | sealed
  deriving DecidableEq, Repr

/-- Where `time.source` takes the count from (Table 2-6, R251, R256). -/
inductive TimeSource where
  | local | spire | free
  deriving DecidableEq, Repr

/-- Who is to be answered: the session, the tag, whether the line carried an address, and the turret the session was
logged in to when the command started (R163, R181). -/
structure ReplyTo where
  sess   : Nat
  tag    : Option Nat
  addrd  : Bool
  turret : Option Nat
  gen    : Nat := 0            -- R99, R186: the session has not ended since
  deriving DecidableEq, Repr

/-- Who waits for an operation: a Traop command, or a MGMT request by stream and tag (R516, R550, R551). -/
inductive DomeFrom where
  | traop (r : ReplyTo)
  | mgmt (stream tag : Nat)
  deriving DecidableEq, Repr

/-- The rails, the hold-up, the tamper mesh, the die sensor, the bank switches and chain sense (R24–R31, R45,
R50–R54, R59, R398, R571). -/
structure Pwr where
  l24Valid   : Bool := false   -- R24
  above19    : Bool := false   -- R82
  l24High    : Bool := false   -- R50
  holdCharged : Bool := false  -- R26
  logicOn    : Bool := false   -- R25, R140: the logic still runs, on L24 or on hold-up
  lostAt     : Option Tick := none -- R25: when L24 was declared lost, while the hold-up carries the logic
  p24Low     : Bool := false   -- R51
  p24Told    : Bool := false   -- R51: `EV pwr p24-low` has been raised for this low
  p24High    : Bool := false   -- R52
  p24Open    : Bool := false   -- R52: the P24 input switch is open
  p24Absent  : Bool := false   -- R53, R398: the low P24 is no P24 at all (log entry 93)
  meshBroken : Bool := false   -- R27, R28
  hot        : Bool := false   -- R571
  hotWaits   : List Bool := [] -- R583: `hot` (true) and `hot-ok` events that wait for the return to READY, the oldest first
  junction   : Int := 25000    -- R571: the last reading, in 1/1000 degree
  csout      : Bool := false   -- R45, R65
  csin       : Bool := false   -- R45
  vcom       : SMap Bool := [] -- R398, by bank
  shortReturn : SMap Bool := [] -- R59, by bank
  deriving DecidableEq, Repr

/-- The latched halt (R126, R127, R141). -/
structure HaltRec where
  cause : Nat
  tick  : Tick
  mask  : Nat := 0
  challenge : Option Nat := none
  announced : Bool := false    -- R124
  deriving DecidableEq, Repr

/-- State, mode, count, START's progress, halt and restart records (R6, R8, R71–R75, R108–R130). -/
structure Sys where
  state   : MState := .off
  mode    : Mode := .opn
  tick    : Tick := 0
  refOn   : Bool := false      -- R113: I27 counts from the 100 MHz reference
  crystal : Nat := 0           -- R75: the fraction of a tick carried between crystal cycles, in 1/128
  osc48   : Bool := false      -- R226, R227: the 48 MHz oscillator runs in WATCH
  step    : Nat := 0           -- Table 3-2: the last completed step of START
  epoch   : Nat := 0
  startTick : Tick := 0
  startMs : Nat := 0
  readyAt : Tick := 0
  halt    : Option HaltRec := none
  lastHalt : Option (Nat × Tick × Nat) := none
  restarts : Nat := 0
  restartFails : Nat := 0      -- R127
  restartLock : Option Tick := none -- R127: when the lockout ends
  aborts : List (ReplyTo × AbortArg) := [] -- the ABORTs of this tick (Table 4-6)
  stopReply : Option ReplyTo := none -- R111: the DO sys.stop that is to be answered
  watchEntry : Bool := false   -- R118, R119: WATCH entry has been accepted
  waking  : Option SerialPort := none -- R120, R121
  draws   : Nat := 0           -- R555: how many draws have been made
  free    : Nat := 0           -- the model's own: how many free values have been used
  deriving DecidableEq, Repr

/-! ## Islands and the ledger -/

/-- Gating, auto-gating and the reset of the command island (R68–R70, R98–R101). -/
structure Isl where
  gate     : Nat := 0          -- R68: the mask in effect
  auto05   : Bool := false     -- R70
  auto06   : Bool := false
  busy05   : Tick := 0         -- R70: when I05 and I06 last had work
  busy06   : Tick := 0
  cmdDown  : Bool := false     -- R99: I25 is in reset
  cmdLog   : List Tick := []   -- R100
  cmdResets : Nat := 0
  deriving DecidableEq, Repr

/-- The request classes of Table 2-3 by name column. -/
inductive Cls where
  | valve | strobe | stepper | pke | flash | train | excite | mem
  deriving DecidableEq, Repr

/-- What a queued request or a grant is for. -/
inductive ReqFor where
  | accel (goal : Nat)         -- a stepper acceleration step to a speed (R311)
  | flashWrite                 -- the running record write (R133)
  | flashErase                 -- the erase of a slot outside a record write (R133, R135)
  | pkeOp (id : Nat)           -- a public-key operation (R548)
  | train (port : Nat)         -- full training of a port (R267)
  | excite                     -- full-amplitude excitation (R426)
  | rekey (owner region : Nat)  -- a rekey pass (R484)
  | scrub                      -- a scrub pass (R487)
  deriving DecidableEq, Repr

/-- A request to the ledger other than a valve's (R77): class, turret, P24 peak in mA, L24 cost in mW, priority
(0 safety, 1 actuation, 2 housekeeping) and deadline. -/
structure Req where
  id    : Nat
  cls   : Cls
  turret : Nat
  peak  : Nat
  l24   : Nat
  prio  : Nat
  filed : Tick
  deadline : Tick
  what  : ReqFor
  deriving DecidableEq, Repr

/-- A piece of charge against the P24 average: the action it belongs to, the share it is charged to (a turret, or 64 for
the unassigned part), its current in millionths of a mA and its span (R76, R80, R89). -/
structure Charge where
  act   : Nat
  payer : Nat
  mA6   : Nat
  from_ : Tick
  until_ : Tick
  deriving DecidableEq, Repr

/-- The ledger (R76–R97, R104–R107). -/
structure Ledger where
  reqs    : List Req := []
  grants  : List Req := []
  nextId  : Nat := 0
  charges : List Charge := []
  strobe  : Option (Nat × Nat) := none  -- R91: peak and average of the line plan's reservation, mA
  stepper : Option (Nat × Nat) := none  -- R92
  refused : SMap Nat := []              -- by class
  wait    : SMap Nat := []              -- R107: ticks queued, by turret
  measured : Nat := 0                   -- R96
  overTold : Bool := false              -- R96
  deriving DecidableEq, Repr

/-! ## Turrets and their keys -/

/-- Turret states (Table 15-1). -/
inductive TurState where
  | absent | created | claimed | revoked
  deriving DecidableEq, Repr

/-- Kinds of key slot (Table 15-2). -/
inductive KeyKind where
  | empty | owner | login | stream | pin | secret | tower | ec256 | ec384
  deriving DecidableEq, Repr

/-- A key slot: its kind and its material, which no path returns (R501). -/
structure KeySlot where
  kind : KeyKind
  key  : List Byte
  deriving DecidableEq, Repr

/-- An empty slot. -/
def KeySlot.init : KeySlot := ⟨.empty, []⟩

/-- A turret as `keystore` holds it (R504): state, flash salt, owner public key, the claim's *K*c, slots and the PIN
lockout (R176), whose remaining time is in ticks with L24 valid. -/
structure Turret where
  state : TurState
  salt  : List Byte := []
  owner : List Byte := []
  kc    : List Byte := []
  slots : SMap KeySlot := []
  pinFails : Nat := 0
  pinLock : Option Tick := none
  deriving DecidableEq, Repr

/-- A turret that does not exist (Table 15-1). -/
def Turret.init : Turret := { state := .absent }

/-- A digest handle (R540, R541): its algorithm, its key slot and the bytes fed to it so far. -/
structure Handle where
  isOpen : Bool
  alg : DigAlg
  key : Option Nat
  fed : List Byte
  deriving DecidableEq, Repr

/-- A free handle. -/
def Handle.init : Handle := ⟨false, .sha256, none, []⟩

/-! ## Persistent records -/

/-- What `keystore` holds (R504). -/
structure KeyStore where
  mode : Mode
  turrets : SMap Turret
  deriving DecidableEq, Repr

/-- A turret's recipe (R370, R434, R463): the values of its class, sequencer and loop settings, and the contents of
its class tables (by address of the staged table). -/
structure Recipe where
  vals : List (Key × Val) := []
  table : Ram := []
  deriving DecidableEq, Repr

/-- Cumulative counters of a turret (R392, R421) and its rule counters. -/
structure TurStat where
  objects  : Nat := 0
  accepted : Nat := 0
  rejected : Nat := 0
  diverted : Nat := 0
  rules    : SMap Nat := []
  rejects  : Nat := 0
  diverts  : Nat := 0
  actions  : Nat := 0
  delayed  : Nat := 0
  denied   : Nat := 0
  faulted  : Nat := 0
  merged   : Nat := 0
  capped   : Nat := 0
  overflow : Nat := 0
  late     : Nat := 0
  novalve  : Nat := 0
  spanTrimmed : Nat := 0
  divertMissing : Nat := 0
  metal    : Nat := 0
  metalMissed : Nat := 0
  deriving DecidableEq, Repr

/-- Counters all 0. -/
def TurStat.init : TurStat := {}

/-- One pixel's shading: offset and gain (R354). -/
structure Shade where
  off : Int
  gain : Nat
  deriving DecidableEq, Repr

/-- What a calibration yields: the shading, and the heads and phases that it captured (R355, R356). -/
structure ShadeSet where
  tab : SMap Shade
  planes : List (Nat × Nat)
  deriving DecidableEq, Repr

/-- The default of Table 3-6: offset 0, gain 0x4000. -/
def Shade.init : Shade := ⟨0, 0x4000⟩

/-- The body of a record (Table 3-6). -/
inductive Body where
  | none
  | epoch (n : Nat)
  | keystore (k : KeyStore)
  | shade (tab : SMap Shade)
  | config (vals : SMap Val) (tag : Option (List Byte))  -- R506: the tag under turret 0's *K*c, if it ends in one
  | recipe (r : Recipe)
  | stats (t : TurStat)
  deriving DecidableEq, Repr

/-- How far a slot's content has come (R132, Table 3-8). -/
inductive SlotStage where
  | erased | partErased | body | header | partMarker | valid | superseded
  deriving DecidableEq, Repr

/-- A slot of a record: its stage, the sequence number of a complete header, its body, whether it fails a tag or
digest test (R136, R143), and how many of its sectors fail their tags (R483). -/
structure Slot where
  stage : SlotStage
  seq   : Option Nat
  body  : Body
  bad   : Bool
  fails : Nat := 0
  deriving DecidableEq, Repr

/-- An erased slot. -/
def Slot.init : Slot := { stage := .erased, seq := none, body := .none, bad := false }

/-- `nv.record.state` (R143). -/
inductive RecState where
  | ok | oneSlot | dflt
  deriving DecidableEq, Repr

/-- A record: its slots A and B, the slot in use (false A, true B) and its state. -/
structure Rec where
  a : Slot
  b : Slot
  cur : Option Bool
  state : RecState
  lost : Bool := false      -- R137: `EV nv lost` is due at READY
  damaged : Bool := false   -- R143: `EV nv slot` is due at READY
  deriving DecidableEq, Repr

/-- A record with no valid slot. -/
def Rec.init : Rec := { a := Slot.init, b := Slot.init, cur := none, state := .dflt }

/-- A change of the key store that takes effect when its write commits (R497): nothing further, a turret created with its
salt, a turret claimed with its owner key and *K*c, a slot filled or emptied, a turret restored, the mode. -/
inductive KsEdit where
  | none
  | create (n : Nat) (salt : List Byte)
  | claim (n : Nat) (owner kc : List Byte)
  | slot (n k : Nat) (v : KeySlot)
  | restore (n : Nat)
  | seal
  | unseal
  | destroy (n : Nat)
  deriving DecidableEq, Repr

/-- What takes effect when a record write commits (R114, R356, R370, R434, R497); the epoch's carries what the self-tests that
follow it will find. -/
inductive OnCommit where
  | answer
  | ks (e : KsEdit)
  | shade (x : ShadeSet)
  | recipe (turret : Nat) (classes entries : Bool) (frame : List (Key × Val))
  | epoch (n : Nat) (tests : SelfTest)
  deriving DecidableEq, Repr

/-- The answer that a command gets when its write commits. -/
inductive DoneAns where
  | plain | num (n : Int) | nonce (bs : List Byte) | bytes (bs : List Byte) | blob (turret b off : Nat) (bs : List Byte)
  | none
  deriving DecidableEq, Repr

/-- A record write (R131–R134): the record, its body, the command it answers, its step (1 erase, 2 body, 3 header,
4 marker, 5 superseded byte), the pages of step 2 still to write, whether a flash operation of it is granted, and
whether it is never abandoned (R114, R590). -/
structure Write where
  record : RecName
  body  : Body
  reply : Option DomeFrom
  done  : DoneAns := .plain
  onCommit : OnCommit := .answer
  step  : Nat := 0
  pages : Nat := 0
  granted : Bool := false
  stubborn : Bool := false
  stopNext : Bool := false   -- R184: an ABORT stops it at the next boundary
  turret : Nat := 0          -- R77: whom it serves at the ledger
  wipe : Option (Nat × Nat) := none -- R502: the turret and blob that are zeroised once the command is answered
  seq : Nat := 0             -- R132: the sequence number of its header
  deriving DecidableEq, Repr

/-- An erase of one slot outside a record write (R135, R523, R525): the record, the slot (false A, true B), and whether the
ledger has granted it. -/
structure Erase where
  record : RecName
  slot : Bool
  granted : Bool := false
  deriving DecidableEq, Repr

/-- The journal (R131–R148, R588). -/
structure Nv where
  recs    : SMap Rec := []
  writes  : List Write := []      -- waiting, in order of filing
  running : Option Write := none
  erases  : List (RecName × Bool) := [] -- R133: slots of destroyed turrets still to erase
  erasing : Option Erase := none        -- R133, R135: the erase that waits for its grant, or runs
  ckMade  : Bool := false         -- R588: the checkpoint that has fallen due is filed, and its write has not started
  ckLast  : Tick := 0             -- R588: the start of the last checkpoint write, or entry to READY
  ckDue   : Bool := false         -- a checkpoint fell due in WATCH
  unwrapBad : Bool := false       -- R504: an unwrap of the key store in use fails
  deriving DecidableEq, Repr

/-! ## Traop -/

/-- A field of an answer or event line. -/
inductive Fld where
  | int (v : Int)               -- decimal
  | fix (v : Int) (digits : Nat) -- fixed-point in millionths, with at least so many fraction digits
  | fine (v : Int) (digits : Nat) -- the same in millionths of a millionth
  | real (v : Frac)             -- a reading, written as R589 says of readings without a resolution
  | dec2 (n : Nat)              -- two decimal digits
  | hex (n digits : Nat)        -- upper-case hex, no prefix
  | mask (n : Nat)              -- 0x and upper-case hex
  | challenge (n : Nat)         -- four groups of four hex digits (R172)
  | word (w : String)
  | quoted (cs : List Char)
  | bytes (bs : List Byte)      -- $ and hex
  | groups (bs : List Byte)     -- hex digits in groups of four (R499)
  | path (k : Key)
  | chars (cs : List Char)
  deriving DecidableEq, Repr

/-- The body of a line that the module sends (R161, R163, R164). -/
inductive LineBody where
  | ok (fields : List Fld)
  | er (code : Nat) (detail : List Fld)
  | data (fields : List Fld)
  | ev (source word : String) (fields : List Fld)
  deriving DecidableEq, Repr

/-- A line the module sends on a session: with its own address or without, a tag
(R155, R163). -/
structure OutLine where
  addr : Option Nat
  tag  : Option Nat
  body : LineBody
  final : Bool := true          -- it ends an answer (R182): its job's entry is freed when it has left
  tick : Option Tick := none    -- R15: the count at which an event was reported (log entry 62)
  ready : Nat := 0              -- its place in the order in which the session's lines became ready (Table 5-2)
  deriving DecidableEq, Repr

/-- A watch (R162): its path, its period or none for `change`, when it falls due, and the value last reported. -/
structure WatchE where
  key : Key
  period : Option Nat
  due : Tick
  last : Option (List Fld)
  told : Option Tick := none        -- when it last raised an event
  deriving DecidableEq, Repr

/-- A live login challenge (R172, R173). -/
structure Chal where
  value : Nat
  turret : Nat
  issued : Tick
  deriving DecidableEq, Repr

/-- A session (R166–R180, R502). -/
structure Sess where
  isOpen  : Bool := false         -- R186; sessions 0 and 1 are open from READY
  stream  : Option Nat := none    -- R186: the CON stream of sessions 2 and 3
  login   : Option Nat := none
  challenge : Option Chal := none
  fails   : SMap Nat := []        -- R175, by turret
  lockEnd : SMap Nat := []        -- R175: when a turret's lockout ends; 0 none
  running : Option (Cmd × ReplyTo) := none -- R180
  waiting : Option (Hdr × Cmd) := none
  watches : List WatchE := []
  events  : List OutLine := []
  dropped : Nat := 0              -- dropped since the last report (R166)
  eventsLost : Nat := 0
  out     : List OutLine := []    -- answers waiting to be sent, in order
  ready   : Nat := 0              -- how many answers and events have become ready
  lastCheck : Bool := false       -- R155
  lastActive : Tick := 0          -- R178
  nonce   : Option (List Byte × Tick) := none -- R502
  setAt   : List (Key × Tick) := [] -- Table 4-6: the paths that it has set, and the tick
  gen     : Nat := 0              -- R99, R186: how many sessions under this number have ended with their answers discarded
  deriving DecidableEq, Repr

/-- A session before anything has happened on it. -/
def Sess.init : Sess := {}

/-- An entry of the job table (R181, R182): a tagged command in flight, or answered and not yet sent. -/
structure Job where
  sess : Nat
  tag  : Nat
  turret : Option Nat
  cmd  : Cmd
  reply : ReplyTo
  answered : Bool := false
  leaves : Option Tick := none  -- when the last character of its answer leaves
  deriving DecidableEq, Repr

/-! ## Serial ports -/

/-- What is to become of the line being received (R156, R204, R206). -/
inductive Fate where
  | undecided | execute | forward | both | withhold
  deriving DecidableEq, Repr

/-- A serial character format (Table 5-1). -/
structure Fmt where
  baud : Nat
  data : Nat
  parity : Nat
  stop : Nat
  deriving DecidableEq, Repr

/-- 115 200 baud, 8N1 (Table 5-1, R198). -/
def Fmt.init : Fmt := ⟨115200, 8, 0, 1⟩

/-- An entry of a receive FIFO (R200): a character with its tags. -/
structure RxEntry where
  c : Byte
  tags : CharTags := {}
  flood : Bool := false
  deriving DecidableEq, Repr

/-- A line as it arrives (R187, R190, R197–R206): the entries stored for it, what the address matcher has seen of it, how many
characters it has had, and the marks it carries. -/
structure LineBuf where
  entries : List RxEntry := []
  head  : List Byte := []       -- its first three characters, a bad one as 0x1A (R204, R206)
  count : Nat := 0
  overrun : Bool := false
  tooLong : Bool := false
  endFlood : Bool := false      -- its terminator, or a character not stored, fell in flood (R215)
  fate : Fate := .undecided
  deriving DecidableEq, Repr

/-- A character that the IR transmitter sends (R212): the bits that are pulses, 0 the start bit, and the width of its pulses, a
fraction of a ns. -/
structure IrChar where
  c : Byte
  pulses : List Nat
  widthNum : Nat
  widthDen : Nat
  deriving DecidableEq, Repr

/-- The answer to a `SET` of a serial format, which has to be sent before the format changes (R199, R231): its session, the
answer's place among its lines, and when its last character leaves. -/
structure AnsWait where
  sess : Nat
  gen : Nat
  ready : Nat
  until_ : Option Tick := none
  deriving DecidableEq, Repr

/-- The IR format in force until the answer to a `SET` of it has been sent (R231): the rate, the pulse and the answer. -/
structure IrHold where
  baud : Nat
  pulse : Nat
  ans : AnsWait
  deriving DecidableEq, Repr

/-- The two serial ports (R194–R231). `sent` is what was handed to the transmitter, in order; `none` is
an idle line (R207). -/
structure Serial where
  fmt   : Fmt := Fmt.init
  newFmt : Option Fmt := none       -- R199
  fmtWait : Option AnsWait := none  -- R199: the answer in the old format
  line  : LineBuf := {}
  taken : Nat := 0                  -- entries of `line` that I25 took before it was reset (R201)
  lastCr : Bool := false            -- the last character was a CR (R149, R208)
  lastRx : Option Tick := none      -- when the last character ended (R199, R202)
  brk   : Option Tick := none       -- R219: since when the pair has been held at space
  brkTold : Bool := false
  backlog : List (Option Byte) := [] -- R208
  sent  : List (Option Byte) := []
  sentEnd : Tick := 0               -- when the last of it ends
  charEnd : Tick := 0               -- when its last character ends (R199)
  ownLast : Bool := false           -- its last line is the module's own: no boundary of the forwarded stream (R208)
  edge  : Option Tick := none       -- Table 5-2: when its last character began at a boundary
  txFree : Tick := 0                -- until when a line of its own is being sent (R208)
  held  : List LineBuf := []        -- lines that wait in the FIFO for the command island (R99, R201)
  repeating : Bool := false         -- R224
  woke  : List LineBuf := []        -- R228: the waking line and one further
  wokeBusy : List LineBuf := []     -- R228: further lines to be answered ER 40 BUSY
  damaged : Nat := 0
  overruns : Nat := 0
  backlogMax : Nat := 0
  irLine : LineBuf := {}
  irTaken : Nat := 0
  irRx  : Option Tick := none       -- when the last IR character ended (R202)
  irPulse : Option Tick := none     -- when the last pulse ended (R214)
  irSent : List IrChar := []
  irNow : Option OutLine := none    -- the line that is being sent, or was last
  irRest : Option (OutLine × List IrChar) := none -- R217: what flood has kept back of it
  irFlood : Bool := false
  irFloodAt : Tick := 0             -- when flood was last flagged (R216)
  irClearAt : Tick := 0             -- when it was last cleared (R215, R217)
  irOver : Option Tick := none      -- R222: since when the photocurrent has been above 40 µA
  irMute : Bool := false            -- R217: flooded, or not yet clear for 50 ms
  irTold : Bool := false            -- R216
  irFault : Bool := false           -- R222
  irTxEnd : Tick := 0               -- until when the receiver is blanked: a line is being sent (R214)
  irHold : Option IrHold := none    -- R231
  irHeld : List LineBuf := []
  irDamaged : Nat := 0
  irFloods : Nat := 0
  deriving DecidableEq, Repr

/-! ## Towers -/

/-- A module's place in its tower, its line marks and its alignment (R232–R260). -/
structure Tower where
  addr   : Nat := 0
  spire  : Bool := false
  promoted : Bool := false
  locked : Bool := false
  source : TimeSource := .local
  good   : Nat := 0            -- consecutive marks within ±50 ns (R251)
  err16  : Int := 0            -- the last e, in 1/16 tick (R250)
  slew   : Int := 0            -- ticks still to withhold (positive) or add (negative) (R250)
  slewPhase : Nat := 0         -- ticks since the last one withheld or added (R250)
  marks  : List Mark := []     -- the marks whose lines are still to start, earliest first (R249)
  lastMark : Option (Nat × Nat) := none -- line index and origin tick of the last line mark
  period : Nat := 0            -- the mark period, in ticks
  markStart : Option Tick := none -- the start tick that the last line mark announced, or its bridging (R254)
  markSeen : Bool := false
  markHeard : Option Tick := none -- when a mark last arrived
  markAt : Option Tick := none -- R247: when this module, as a Spire, last sent a mark
  missing : Nat := 0           -- consecutive missing marks (R254)
  bridged : Nat := 0
  losses : Nat := 0
  lossAt : Option Tick := none -- R256
  lossTold : Bool := false
  twoTold : Bool := false      -- Table 6-3
  dup    : Bool := false       -- R240
  trainedAt : Option Tick := none -- R259: when the LINK U hop trained
  stepped : Bool := false      -- R253: the Spire has compared counts
  firstSent : Bool := false    -- R253
  epochs : SMap Nat := []      -- R294: the epoch each source announced (plus 1; 0 none)
  rates  : SMap Nat := []      -- R288: announced sums by module
  active : List Nat := []      -- R242: modules known to be in RUN or PAUSED
  roles  : SMap Nat := []      -- R246: announced roles by module (plus 1; 0 none)
  views  : SMap Nat := []      -- R383: the partners that VIEW modules have announced, by module
  reached : List Nat := []
  counts : SMap Nat := []      -- R253: counts returned (plus 1; 0 none)
  told   : Option Tmgmt := none -- what the module last announced of itself, without the addresses that it reaches (R288, R294)
  genTx  : Nat := 0            -- R515
  cntTx0 : Nat := 0            -- frames sent in this generation toward lower addresses (R291)
  cntTx1 : Nat := 0            -- and toward higher ones
  genRx  : SMap Nat := []      -- R294, R515: generation held for a source
  cntRx  : SMap Nat := []      -- last count accepted plus 1, by source and generation parity and direction
  outside : Nat := 0
  viewLate : Nat := 0
  deriving DecidableEq, Repr

/-! ## Links and streams -/

/-- `link.x.state` (Table 7-11). -/
inductive LinkState where
  | down | training | up | retrain
  deriving DecidableEq, Repr

/-- A bypass message (Table 7-5). -/
inductive BMsg where
  | mark (m : Mark) (replayed : Bool) (since : Tick) -- whether it met a replay on its way here (R250), and since when it waits (R280)
  | xoff | xon
  | addr (a : Nat)
  | countReq (a : Nat)
  | count (a : Nat) (c : Nat)
  | tmgmt (m : Tmgmt)
  | haltNotice (i : HaltInfo)
  | openS (m : KeyMsg)
  | openOk (m : KeyMsg)
  | close (stream modAddr : Nat) (r : CloseReason)
  | keyReady (m : KeyMsg)
  | keyConfirm (m : KeyMsg)
  | keyFail (stream modAddr : Nat) (r : CloseReason)
  deriving DecidableEq, Repr

/-- A frame's header and payload (Table 7-4), without the per-hop sequence number. `sealed` is the ciphertext and the
16-byte tag. -/
structure Frame where
  stream : Nat
  modAddr : Nat
  stype : Nat
  dir : Nat
  phase : Nat
  first : Bool
  last : Bool
  len : Nat
  epoch : Nat
  count : Nat
  body : List Byte
  deriving DecidableEq, Repr

/-- A frame in the replay buffer: its sequence number and how often it has been sent (R275, R276). -/
structure TxFrame where
  seq : Nat
  frame : Frame
  sends : Nat
  deriving DecidableEq, Repr

/-- A bypass set in the bypass replay (R281). -/
structure TxBypass where
  seq : Nat
  msg : BMsg
  deriving DecidableEq, Repr

/-- What a port puts on its lanes (R264, R265, R267, R270, R278, R279): control sets, frames, bypass sets and skip sets. A lane
map is the physical lane of each logical lane. -/
inductive LinkOut where
  | beacon (mask : Nat)
  | ts1 (mask : Nat)
  | ts2 (width : Nat) (map : List Nat) (spare : Option Nat)
  | time (echo : Bool) (tick16 residence16 : Nat)
  | ack (seq : Nat) (byp : Option Nat)
  | nak (seq : Nat) (byp : Option Nat)
  | repl (command : Bool) (lane : Nat) (map : List Nat) (spare : Option Nat)
  | widthSet (width : Nat) (map : List Nat) (spare : Option Nat)
  | halt (i : HaltInfo)
  | frame (seq : Nat) (f : Frame)
  | edb (bytes : List Byte)       -- a frame ended in EDB, from its header on (R278)
  | abandon                       -- the frame in progress is ended with EDB (Table 7-10)
  | bypass (seq : Nat) (replay : Bool) (ack : Option Nat) (m : BMsg)
  | skips (n : Nat)               -- skip sets, each between idle COM (R264)
  deriving DecidableEq, Repr

/-- A frame that waits to be sent, and what it is served under (R288): 256 for a TOWER frame of this module, 257 for one of another,
512 + *a* for a stream's frame of module *a*. -/
structure WaitFrame where
  cls : Nat
  frame : Frame
  deriving DecidableEq, Repr

/-- A link port (R261–R308). -/
structure Port where
  state : LinkState := .down
  width : Nat := 0
  map   : List Nat := []        -- physical lane of each logical lane
  spare : Option Nat := none
  failed : List Nat := []
  hop16 : Nat := 0              -- one-way hop latency, 1/16 tick (R268)
  trainReq : Bool := false      -- a train request is filed
  grantAt : Tick := 0           -- when training was granted (R267)
  beaconAt : Tick := 0          -- when the next beacon falls due (R267, R304)
  tsLanes : List Nat := []      -- the lanes on which TS1 was last received (Table 7-2)
  peerMask : Option Nat := none -- the mask of the TS1 last received
  healthy : List Nat := []      -- what training found
  heard : Tick := 0             -- when the link came up, or a set or frame last arrived on it (R303)
  busyTo : Tick := 0            -- when the last symbol of the frame in progress leaves (R270)
  skipAt : Nat := 0             -- the symbol time of the last skip set (R264)
  burstTo : Tick := 0           -- when the beacon burst in progress ends (R267)
  txSeq : Nat := 0
  rxSeq : Nat := 0              -- the next number expected
  unacked : List TxFrame := []
  nakSent : Bool := false       -- R274
  ackAt : Tick := 0             -- when an acknowledgment last advanced (R275)
  bTx   : Nat := 0
  bRx   : Nat := 0
  bGot  : Bool := false         -- a bypass set has been received in order (Table 7-2, R279)
  bUnacked : List TxBypass := []
  bWait : List BMsg := []
  waitQ : List WaitFrame := []
  deficit : SMap Int := []      -- R288
  xoffIn : Option Tick := none  -- since when the far end holds us off (R283, R285)
  xoffTold : Bool := false
  xoffOut : Bool := false       -- we hold the far end off
  winFrames : Nat := 0          -- R303: frames received since the link came up
  winBad : List Nat := []       -- which of them failed R271, while they lie in the window
  rxBusy : Nat := 0             -- bytes of the receive buffer beside the frames that wait to go on (R283)
  change : Option Tick := none  -- a lane change runs since then (R301, R302)
  changeWidth : Option Nat := none
  rxPartial : SMap (List (List Byte)) := [] -- R272: the payloads of the record being received, by stream, or 256 + a TOWER source
  crcErrors : Nat := 0
  replays : Nat := 0
  laneReps : Nat := 0
  downs : Nat := 0
  framesLost : Nat := 0
  authRejects : Nat := 0
  xoffs : Nat := 0
  towerAuthAt : Option Tick := none -- R294
  out : List LinkOut := []      -- what has been put on the lanes, in order
  wire : List (List LaneSet) := [] -- the same as symbols on the physical lanes; between them a lane carries COM (R263)
  deriving DecidableEq, Repr

/-- A port that has never been up. -/
def Port.init : Port := {}

/-- A stream at its module end (R286–R297, R513, R514). -/
structure Stream where
  isOpen : Bool := false
  sess  : Option Nat := none    -- the session of a CON stream
  assigned : Bool := false      -- a key generation has been installed in this epoch
  gen   : Nat := 0              -- the generation in use for transmission
  nextGen : Nat := 0            -- the lowest generation not used in this epoch
  slot0 : Option Nat := none    -- the generation in each phase's slot
  slot1 : Option Nat := none
  key0  : List Byte := []       -- the 36 bytes of the generation in each phase's slot (R514)
  key1  : List Byte := []
  txPhase : Nat := 0
  txCount : Nat := 0
  rx0   : Nat := 0              -- last count accepted plus 1, by phase
  rx1   : Nat := 0
  ctl0  : Nat := 0              -- control counts used, by phase (R292)
  ctl1  : Nat := 0
  authFails : Nat := 0
  authAt : Option Tick := none  -- R293: the last `EV stream auth`
  dueTold : Bool := false       -- R295
  exhausted : Bool := false
  readySent : Option (Nat × Tick) := none -- R297: tries of KEY-READY and when
  flipPending : Bool := false   -- R296: KEY-CONFIRM seen, the flip is to come
  window : Option Tick := none  -- R296: when the receive window of the old phase ends
  oldPhase : Nat := 0
  recs : List (Bool × List Byte) := [] -- records waiting to be framed (STAT, MGMT), and whether from their start
  deriving DecidableEq, Repr

/-- A closed stream with no key. -/
def Stream.init : Stream := {}

/-! ## Feed, seams and capture -/

/-- `feed.limit` (Table 8-1). -/
inductive FeedLimit where
  | target | maxSpeed | maxRate | capture | openObj | eject
  deriving DecidableEq, Repr

/-- `feed.state` (Table 8-6). -/
inductive FeedState where
  | off | hold | accel | steady | decel | fault
  deriving DecidableEq, Repr

/-- The metering roll and its rate loop (R309–R335). Rates are in millionths of their unit. -/
structure Feed where
  speed  : Nat := 0            -- microsteps/s
  cmd    : Frac := {}          -- the commanded speed S (R312)
  resumeTo : Nat := 0          -- R321
  ramping : Bool := false      -- a start or resume ramp is under way
  energised : Bool := false
  braked : Bool := false       -- Table 3-5: both coils shorted
  pauses : Nat := 0            -- R318
  firstPause : Option Tick := none
  pausedAt : Option Tick := none -- R334: when `DO feed.pause` was last accepted
  state  : FeedState := .off
  coil   : Option CoilFault := none
  steadyAt : Option Tick := none -- R322
  closes : List Tick := []     -- when objects closed on the counting head (R313)
  steps6 : List (Tick × Nat) := [] -- millionths of a microstep made in each 10 ms step (R313)
  masses : List (Tick × Frac) := [] -- results of the mass entry (R313), in kg
  k      : Option (Nat × Nat) := none -- R313: objects and microsteps (in millionths)
  capC   : Option Nat := none  -- R315: C, in millionths of an object/s
  stepAt : Tick := 0           -- R311: the last 10 ms step
  rateAt : Tick := 0           -- R312: the last step of the rate loop
  capAt  : Tick := 0           -- R315: the last update of C
  roll   : Int := 0            -- R309: the roll's position, in 1/25600 of a full step, positive in direction CW
  openMax : List (Tick × Nat) := [] -- open-object counts of the last 10 ms (Table 8-1)
  stalls : Nat := 0
  leave  : Nat := 0
  deriving DecidableEq, Repr

/-- A line as markers and records name it (Table 8-4): its line index, its product index and its start. -/
structure LineMark where
  line : Nat := 0
  product : Nat := 0
  tick : Tick := 0
  deriving DecidableEq, Repr

/-- Segments and seams (R322–R333). -/
structure Seam where
  isOpen : Bool := false
  number : Nat := 0            -- of the current or next segment (R326)
  firstLine : Nat := 0
  firstProduct : Nat := 0
  firstTick : Tick := 0
  line   : Nat := 0            -- line index of the current line (R325)
  next   : Nat := 0            -- the line index of the next line
  product : Nat := 0           -- the next product index
  lineTick : Tick := 0         -- the start of the current line
  clear  : Nat := 0            -- consecutive clear lines (R323)
  seen   : Option LineMark := none -- the line classified last, which is the last line of a segment that closes now (R323)
  captured : Nat := 0
  excludedHere : Nat := 0
  excluded : Nat := 0
  forced : Nat := 0
  timeoutLine : Option Nat := none -- R333
  deriving DecidableEq, Repr

/-- A record waiting in the capture buffer (R316): its stream, its owner's turret, its length and its bytes. -/
structure CapRec where
  stream : Nat
  turret : Nat
  data : List Byte
  sent : Nat := 0              -- bytes put into frames; the record stays until acknowledged
  deriving DecidableEq, Repr

/-- The capture buffer (R316, R317, R332). -/
structure Capture where
  recs : List CapRec := []
  dropped : Nat := 0
  gap : Option (LineMark × Nat) := none -- R332: the line of the first record dropped since one was written, and how many
  dropObj : Option Nat := none -- R332: the object whose later records are not written
  deriving DecidableEq, Repr

/-! ## Heads, Lantern, shading -/

/-- Head states (Table 9-2). -/
inductive HeadState where
  | absent | ident | badid | mismatch | supply | ready | active
  deriving DecidableEq, Repr

/-- What the identity memory declares (Table 9-1). -/
structure Ident where
  taps : Nat
  pixels : Nat
  lead : Nat
  trail : Nat
  rate : Nat
  needs12 : Bool
  cds : Bool
  sh : Bool
  reverse : Nat
  sg10 : Nat
  edges : List Byte
  lineRate100 : Nat
  type : List Char
  serial : List Char
  deriving DecidableEq, Repr

/-- A corrected plane: its pixels and its flags byte (R353, R354). -/
structure Plane where
  pixels : List Nat
  flags : Nat
  deriving DecidableEq, Repr

/-- A head (R33, R337–R346, R353–R358). -/
structure Head where
  present : Bool := false      -- HPRES is low
  state : HeadState := .absent
  v5    : Nat := 0             -- the +5V limit in mA: 0, 60 or 360 (R33)
  v12   : Bool := false
  tries : Nat := 0
  due   : Tick := 0            -- when the identity is to be read
  ident : Option Ident := none
  planeLine : Nat := 0         -- the line that `planes` belong to
  planes : SMap Plane := []    -- corrected planes of that line, by phase
  satLine : Option Nat := none -- the line that `saturated` counted last
  saturated : Nat := 0
  deriving DecidableEq, Repr

/-- A head connector with nothing on it. -/
def Head.init : Head := {}

/-- The line plan (R347): rate, phases, and per phase mask, offset and width (millionths of a µs), and per channel the
current (millionths of an A). -/
structure Plan where
  rate : Nat
  phases : Nat
  masks : List Nat
  offsets : List Nat
  widths : List Nat
  currents : List Nat
  deriving DecidableEq, Repr

/-- `lantern.c.state` (Table 9-8). -/
inductive ChanState where
  | ok | opn | disabled
  deriving DecidableEq, Repr

/-- A Lantern channel (R351, R363). -/
structure Chan where
  state : ChanState := .ok
  compliance : Nat := 0
  consec : Nat := 0
  toldAt : Option Tick := none
  deriving DecidableEq, Repr

/-- A healthy channel. -/
def Chan.init : Chan := {}

/-- A line cycle (R325, R344, R349): its line index, the product index when it lies inside a segment, its start, whether
its start was deferred, and the flags of each phase's plane. -/
structure Cycle where
  line : Nat
  product : Option Nat
  tick : Tick
  late : Bool
  flags : SMap Nat := []
  deriving DecidableEq, Repr

/-- A shading calibration that captures (R356): its command, its first line, and by head, phase and column the sums of the raw
codes of its 256 dark and its 256 white line cycles, which are the means in 1/256 of a code. -/
structure Calib where
  reply : ReplyTo
  first : Nat
  sums : SMap (Nat × Nat) := []
  deriving DecidableEq, Repr

/-- The Lantern and its line cycles (R344–R352). A plane is read out in the slot after its own, so that of the last phase
belongs to the cycle before (R345). -/
structure Lantern where
  plan : Option Plan := none        -- the running plan
  nextPlan : Option Plan := none    -- committed, to run from the next cycle (R361)
  committed : Bool := false
  chans : SMap Chan := []
  darkLines : Nat := 0
  lateStarts : Nat := 0
  cur  : Option Cycle := none       -- the running line cycle
  prev : Option Cycle := none       -- the one before
  waits : List Nat := []            -- R349: lines whose start is deferred to the end of the one before
  slot : Option Nat := none         -- the phase whose slot runs
  pulseAt : Option Tick := none     -- when the pulse of the running slot starts, until it has (R345)
  pulseLate : Nat := 0              -- ticks for which the verify fence held it (R480)
  on   : Nat := 0                   -- mask of channels conducting
  oldShade : SMap Shade := []       -- the shading before the last commit, for the cycles that started before it (Table 9-7)
  shadeAt : Tick := 0               -- when the shading in force was committed
  calib : Option Calib := none      -- R356
  deriving DecidableEq, Repr

/-! ## Classification and tracking -/

/-- `class.x.j.state` (Table 10-7), and the active coefficients, biases of a class-table slot (R366–R370). The active
table's bytes stand in `ram`. -/
inductive SlotState where
  | empty | staged | active
  deriving DecidableEq, Repr

/-- A class-table slot. -/
structure ClassSlot where
  state : SlotState := .empty
  coef : List Byte := []
  bias : List Byte := []
  arrival : Option Nat := some 0  -- R542: contiguous bytes digested on arrival; none once broken
  deriving DecidableEq, Repr

/-- An empty slot. -/
def ClassSlot.init : ClassSlot := {}

/-- A run of one line (R371): first and last column, and the areas of its classes. -/
structure Run where
  lo : Nat
  hi : Nat
  areas : SMap Nat
  deriving DecidableEq, Repr

/-- A feature set that fuses with an object (R382, R383). -/
structure Second where
  area : Nat
  areas : SMap Nat
  source : Nat
  modAddr : Nat
  firstLine : Nat
  deriving DecidableEq, Repr

/-- An object (R371–R374). Sums are for the centroid: of columns, and of line offsets, weighted by area. -/
structure Obj where
  id : Nat
  head : Nat
  turret : Nat
  first : Nat
  last : Nat
  firstRef : Tick              -- reference tick of the first line (R373)
  lo : Nat
  hi : Nat
  area : Nat
  areas : SMap Nat
  sumCol : Nat
  sumLine : Nat
  flags : Nat                  -- Table 10-2
  lastRef : Tick := 0          -- reference tick of its last line (R381)
  captured : Bool
  mark : LineMark := {}        -- its first line (R332)
  lastRuns : List (Nat × Nat)  -- runs of the last line
  second : Option Second := none
  velocity : Nat := 0          -- mm/s
  dt : Nat := 0                -- ticks between the two reference ticks of a matched pair
  similarity : Nat := 0
  refB : Option Tick := none   -- reference tick on head B of a matched pair
  c256 : Nat := 0              -- centroid line offset of the lower head's object of a matched pair (R384)
  lag256 : Nat := 0            -- last line minus centroid line of the same object
  readyAt : Tick := 0          -- the end of the readout of its decision line (R379)
  expires : Tick := 0          -- R381
  deriving DecidableEq, Repr

/-- A turret's counts of one STAT period (R393). -/
structure Period where
  start : Tick := 0            -- the end of the period before
  decided : Nat := 0
  accepted : Nat := 0
  rejected : Nat := 0
  diverted : Nat := 0
  tall : Nat := 0
  fallback : Nat := 0
  degraded : Nat := 0
  rules : SMap Nat := []
  deriving DecidableEq, Repr

/-- Counts of nothing, of a period that starts with the machine. -/
def Period.init : Period := {}

/-- The corrected planes of one line of one head, kept for the image of a CHIP record (R375). -/
structure LineImage where
  head : Nat
  line : Nat
  planes : SMap (List Nat)
  deriving DecidableEq, Repr

/-- The last runs of an object closed at 512 lines: a run that would have joined it opens a CONTINUED object (R372). -/
structure TallEnd where
  head : Nat
  turret : Nat
  line : Nat
  runs : List (Nat × Nat)
  deriving DecidableEq, Repr

/-- A decided object, as a VIEW record that comes later is held against it (R245, R383): its turret, its centroid column in 1/256
column, its reference tick, whether it was FUSED, and when it was decided. -/
structure Judged where
  turret : Nat
  col256 : Nat
  ref : Tick
  fused : Bool
  at_ : Tick
  deriving DecidableEq, Repr

/-- A line as its readout has left it (R379): its line index, its start, and when the readout of its last plane ended. -/
structure LineEnd where
  line : Nat
  start : Tick
  ended : Tick
  deriving DecidableEq, Repr

/-- Classification and tracking (R366–R394). -/
structure Track where
  slots : SMap ClassSlot := []
  opened : List Obj := []       -- open objects of both heads, oldest first
  toDecide : List Obj := []     -- closed, waiting for their decision
  store : List Obj := []        -- the match store (R381)
  nextId : Nat := 0
  talls : List TallEnd := []
  nextTables : List (Tick × Nat × Recipe) := [] -- R370: committed tables that wait for the next line cycle
  images : List LineImage := []
  readouts : List LineEnd := [] -- R379: the last lines read out
  readyAt : Tick := 0           -- the end of the readout of the line classified last (R379)
  lineTick : Tick := 0          -- the start of the line classified last
  rotation : Nat := 0           -- R388: the decision positions that have passed
  classified : Nat := 0         -- the line index after the last line classified
  stats : SMap TurStat := []
  periods : SMap Period := []
  late : Nat := 0
  statDropped : Nat := 0
  matched : Nat := 0
  unmatchedA : Nat := 0
  unmatchedB : Nat := 0
  storeOverflow : Nat := 0
  viewUnused : Nat := 0
  views : List ViewRec := []                -- R383: VIEW records that came while their object may still be open
  deciding : List Obj := []                 -- R390: objects decided in this tick that a VIEW record of it may still fill
  decided : List Judged := []               -- R245: the objects that have been decided
  decided10 : List (Tick × Nat × Nat) := [] -- tick, turret and actions of decisions of the last 10 s (R315)
  ratio : List (Tick × Nat × Bool) := []    -- tick, turret and rejected-or-diverted, for loops (R458)
  metals : List (Tick × Nat) := []          -- metal events by turret (R458)
  deriving DecidableEq, Repr

/-! ## Ejection -/

/-- `valve.mm.state` (Table 11-2). OFF is read when the valve cannot fire at all; it is computed. -/
inductive ValveState where
  | idle | peak | hold | opn | short
  deriving DecidableEq, Repr

/-- What a channel is latched in (R419). -/
inductive Latch where
  | clear | opn | short
  deriving DecidableEq, Repr

/-- The state of a channel at rest. -/
def Latch.rest : Latch → ValveState
  | .clear => .idle
  | .opn => .opn
  | .short => .short

/-- A valve channel (R395, R414, R419). -/
structure Valve where
  state : ValveState := .idle
  lowRun : Nat := 0            -- consecutive low peaks
  latch : Latch := .clear      -- OPEN or SHORT until a test passes, also while that test runs (R419)
  low : Nat := 0
  actions : Nat := 0
  denied : Nat := 0
  deriving DecidableEq, Repr

/-- An idle channel. -/
def Valve.init : Valve := {}

/-- What an action is for. -/
inductive ActKind where
  | eject | divert | metal | overflow | test
  deriving DecidableEq, Repr

/-- How far an action has come. -/
inductive ActStage where
  | scheduled | filed | peak | hold
  deriving DecidableEq, Repr

/-- A valve action in the eject queue (R404–R414). `parts` says from which shares its peak current is drawn (R88):
(turret or 64, mA). `needs` and `needs11` are the read numbers, of I12 and of I11, that its decision depends on (R406, R481), `waitFrom`
is when the time that its request waits counts from (R107), and `replies` are the valve tests that it answers (R420). -/
structure Action where
  id : Nat
  valve : Nat
  turret : Nat
  kind : ActKind
  s : Tick
  e : Tick
  stage : ActStage := .scheduled
  s0 : Tick                    -- the scheduled start
  waitFrom : Tick := s0
  parts : List (Nat × Nat) := []
  needs : Nat := 0
  needs11 : Nat := 0
  replies : List ReplyTo := []
  deriving DecidableEq, Repr

/-- The eject queue and the valves. -/
structure Eject where
  queue : List Action := []
  nextId : Nat := 0
  valves : SMap Valve := []
  charge10 : List (Tick × Nat × Nat) := [] -- tick, turret and charge (mA·tick) of actions started in the last 10 s
  deriving DecidableEq, Repr

/-! ## Measurement front end and loops -/

/-- `fe.pin.k.state`. -/
inductive PinState where
  | ok | exceeded | disabled
  deriving DecidableEq, Repr

/-- A SENSE pin (R449, R450). -/
structure Pin where
  state : PinState := .ok
  overAt : Tick := 0            -- when it last went OVER
  deriving DecidableEq, Repr

/-- A good pin. -/
def Pin.init : Pin := {}

/-- The results of a sequencer entry (R430, R431). -/
structure Entry where
  result : Option Frac := none  -- y
  raw    : Frac := {}           -- x, in V where it is no ratio
  flags  : Nat := 0
  tick   : Tick := 0
  armed  : Bool := true
  count  : Nat := 0
  preempted : Nat := 0
  events : Nat := 0
  lines  : List Tick := []      -- ticks of event lines of the last second
  deriving DecidableEq, Repr

/-- An entry with no result. -/
def Entry.init : Entry := {}

/-- A pending urgent request (R441): its entry and turret, whether a trigger asked for it, and the `DO seq.e.now` commands that
wait for it. -/
structure Urgent where
  entry : Nat
  turret : Nat
  trig : Bool
  replies : List ReplyTo
  at_ : Tick := 0               -- when it was filed
  deriving DecidableEq, Repr

/-- A check waiting for its passes, or a pass of it (R445, R446). -/
structure CheckJob where
  kind : CheckKind
  turret : Nat
  reply : Option ReplyTo
  pass : Nat := 0               -- passes done
  worst : Frac := {}
  fail : Bool := false
  deriving DecidableEq, Repr

/-- A readback pass that has fallen due (R440): a loop, whether it reads the terminal voltage, and what it reads, in millionths of
a mA or V. -/
structure ReadJob where
  loop : Nat
  volts : Bool
  value6 : Int
  at_ : Tick := 0               -- when it fell due
  deriving DecidableEq, Repr

/-- What the sequencer runs. -/
inductive PassKind where
  | loop (e : Nat) | urgent (u : Urgent) | check (c : CheckJob) | readback (r : ReadJob)
  deriving DecidableEq, Repr

/-- The pass that runs (R435, R442): its turret, the repetitions done, whether its switch and settle have ended, and whether
a pin of it has gone OVER meanwhile. -/
structure Pass where
  kind : PassKind
  turret : Nat
  reps : Nat := 0
  settled : Bool := false
  pinFault : Bool := false
  opened : Tick := 0            -- when its switch began
  from_ : Nat := 0              -- the repetitions done when it opened, before its settle (R425)
  due : Tick := 0               -- when its settle, or the last sample of its repetition, ends (Table 12-3)
  limitTold : Bool := false     -- R451
  deriving DecidableEq, Repr

/-- A turret's loop (R435): its next entry and the end of a delay. -/
structure TurLoop where
  next : Nat := 0
  delayTo : Option Tick := none
  resume : Option (Nat × Nat) := none -- an entry to open again and its repetitions done (R437, R442)
  deriving DecidableEq, Repr

/-- A loop at its lowest entry. -/
def TurLoop.init : TurLoop := {}

/-- The front end (R423–R453). -/
structure Fe where
  pins : SMap Pin := []
  fault : Bool := false
  excFault : Bool := false
  excWanted : Bool := false     -- R452: the request was refused and is filed again
  excAt : Tick := 0             -- when it was refused
  reads : List ReadJob := []    -- R440: readback passes that have fallen due
  checkAt : Tick := 0           -- R446: when the periodic checks last started, or READY began
  entries : SMap Entry := []
  pass : Option Pass := none
  loops : SMap TurLoop := []
  urgents : List Urgent := []
  begun : Bool := false         -- R452: the first frame since READY was entered has started
  frame : Tick := 0
  slot : Option Nat := none     -- the running slot
  checks : List CheckJob := []
  fails : Nat := 0
  nextEntries : List (Nat × List (Key × Val)) := [] -- R434: committed entries of a turret that wait for its next pass
  nextFrame : List (Key × Val) := [] -- R438: committed frame settings that wait for the next frame start
  partNext : Bool := false      -- R436: partitioning turns on at the next frame start
  commits : List Write := []    -- R426: commits that wait for the excite grant
  deriving DecidableEq, Repr

/-- `loop.n.state` (Table 13-4). -/
inductive LoopState where
  | measure | alarm | fallback | watch | fault
  deriving DecidableEq, Repr

/-- A current loop (R454–R469). Currents are in millionths of a mA. -/
structure CLoop where
  ma6 : Int := 3600000          -- what it is commanded to carry
  code : Nat := 333             -- D (R456)
  off : Bool := true            -- it conducts at most 1.0 mA (R64, R467)
  state : LoopState := .measure
  headroom : Bool := true
  faults : Nat := 0
  told : Bool := false          -- the headroom event of this loss was raised
  samples : List (Tick × Option Frac) := []
  badUntil : Option Tick := none -- invalid: measurement resumes after one whole window from then (R460)
  actual6 : Int := 0
  volts6 : Int := 0
  drift : Nat := 0
  offAt : Tick := 0             -- R464: when the count of the loss of headroom started, or started again
  lostAt : Tick := 0            -- R464: when headroom was lost
  sampleAt : Tick := 0          -- R459: when the next sample falls due
  readAt : Tick := 0            -- R440: when the next readback falls due
  deriving DecidableEq, Repr

/-- A loop without L24 (R64). -/
def CLoop.init : CLoop := {}

/-! ## Memory cipher -/

/-- A read delivered whose turn in the order of checks has not come (R479, R481): its number, where it was, and the generation and
the draw of the keys in force (Table 14-6). A read of a fresh page needs no check (R490). -/
structure PendRead where
  num : Nat
  owner : Nat
  region : Region
  sector : Nat
  free : Bool
  gen : Nat := 0
  keys : Nat := 0
  deriving DecidableEq, Repr

/-- A requester's reads: delivered, verified and pending in order (R481). -/
structure Requester where
  delivered : Nat := 0
  verified : Nat := 0
  pend : List PendRead := []
  heldAt : Option Tick := none  -- R482: since when an output of it waits for the fence
  deriving DecidableEq, Repr

/-- A requester with no reads. -/
def Requester.init : Requester := {}

/-- A rekey pass that waits or runs (R484, R485). -/
structure RekeyJob where
  owner : Nat
  region : Region
  reply : Option ReplyTo
  granted : Bool := false
  since : Tick := 0             -- when its request was granted
  deriving DecidableEq, Repr

/-- A write that waits for a rekey pass to cover its sector (R486). -/
structure HeldWrite where
  island : Nat
  owner : Nat
  sector : Nat
  off : Nat
  data : List Byte
  deriving DecidableEq, Repr

/-- `mem.last_fault` (R492): region, owner, sector and tick, and the requester that read. -/
structure MemFault where
  region : Region
  owner : Nat
  sector : Nat
  tick : Tick
  requester : Nat
  deriving DecidableEq, Repr

/-- The memory cipher (R470–R495). What the memories hold stands in `ram` as plaintext. -/
structure Mem where
  gens : SMap Nat := []          -- R478: the write generation of each PROT sector
  written : SMap Bool := []      -- R490: the sectors of each owner and region written by requesters
  reqs : SMap Requester := []
  rekey : List RekeyJob := []
  keyBase : Nat := 0             -- R472: the draw (plus 1) that gave the DRAM keys at step 5; 0 while there are none
  keyDraw : SMap Nat := []       -- R485: the draw (plus 1) that replaced an owner's keys of a region, numbered 32 × owner + code
  flashGens : SMap Nat := []     -- Table 14-1: the generation of each flash sector written
  stalled : List HeldWrite := [] -- R486
  scrubAt : Tick := 0            -- R487: when the last scrub pass ended
  scrubWaits : Bool := false
  scrubRuns : Bool := false
  lastFault : Option MemFault := none
  blobs : SMap Bool := []        -- R507: the blobs written since START, numbered 32 × turret + blob
  fenceMax : Nat := 0            -- ns
  refused : Nat := 0
  probeFails : Nat := 0
  rekeys : Nat := 0
  scrubs : Nat := 0
  scrubRepairs : Nat := 0
  deriving DecidableEq, Repr

/-! ## Dome -/

/-- A public-key operation (Table 16-5), or one the module makes itself: the ECDH of a claim and the signature check of a
diagnostic program (R537). -/
inductive PkeOp where
  | sign (k b : Nat)
  | verify (c : Curve) (b : Nat)
  | keygen (c : Curve) (k b : Nat)
  | ecdh (k b : Nat) (k2 : Option Nat)
  | pub (k b : Nat)
  | claim (n : Nat) (key nonce : List Byte)
  | diag (b : Nat)
  deriving DecidableEq, Repr

/-- An entry of the engine queue (R549): who asked and when, when it started, the operand bytes it fetched, whether its grant is
held, and whether its `keystore` write runs. -/
structure PkeJob where
  id : Nat
  turret : Nat
  op : PkeOp
  src : DomeFrom
  filed : Tick := 0
  started : Option Tick := none
  msg : List Byte := []
  granted : Bool := false
  writing : Bool := false
  recheck : Bool := false         -- R553: the microcode image is checked before it
  deriving DecidableEq, Repr

/-- An explicit digest job, or a random fill that runs as one (R540, R556). -/
inductive DigOp where
  | hash (alg : DigAlg) (k : Option Nat) (b off len : Nat) (out : Option (Nat × Nat))
  | update (h b off len : Nat)
  | final (h : Nat) (out : Option (Nat × Nat))
  | table (head slot : Nat)
  | fill (b off len : Nat)
  deriving DecidableEq, Repr

/-- A digest job that waits or runs (R557), and when it was accepted. -/
structure DigJob where
  id : Nat
  turret : Nat
  op : DigOp
  src : DomeFrom
  filed : Tick := 0
  started : Option Tick := none
  msg : List Byte := []          -- the bytes it read when it started
  deriving DecidableEq, Repr

/-- A turret's Dome counters and handles (R541, R563). -/
structure DomeTur where
  ops : Nat := 0
  crypto : Nat := 0
  aborts : Nat := 0
  handles : SMap Handle := []
  deriving DecidableEq, Repr

/-- No handle open. -/
def DomeTur.init : DomeTur := {}

/-- A Dome slot as the running frame has it (R535): its turret, its length in ms and its queue entries. -/
structure DomeSlot where
  turret : Nat
  ms : Nat
  queue : Nat
  deriving DecidableEq, Repr

/-- The Dome engines (R532–R563). -/
structure Dome where
  queue : List PkeJob := []
  jobs : List DigJob := []
  nextId : Nat := 0
  turs : SMap DomeTur := []
  microDirty : Bool := false      -- R553: check the microcode before the next operation
  rngFault : Bool := false
  rngReqs : Nat := 0
  reseedAt : Tick := 0            -- R555: when the DRBG was last seeded
  testAt : Option Tick := none    -- R560, R562: when the start-up or health tests last failed
  reseeds : Nat := 0
  faults : Nat := 0
  part : Bool := false            -- R535: Sealed frames run
  frame : Tick := 0               -- the start of the running frame
  frameMs : Nat := 100            -- R563: the settings that the running frame took
  sched : List DomeSlot := []
  deriving DecidableEq, Repr

/-! ## The whole -/

/-- The state of the module and the queue of commands that wait. -/
@[ext]
structure State where
  pwr : Pwr
  sys : Sys
  isl : Isl
  ledger : Ledger
  nv : Nv
  sess : SMap Sess
  jobs : List Job
  serial : Serial
  tower : Tower
  ports : SMap Port           -- 0 LINK U, 1 LINK D
  streams : SMap Stream
  feed : Feed
  seam : Seam
  capture : Capture
  heads : SMap Head           -- 0 HEAD A, 1 HEAD B
  lantern : Lantern
  shadeTab : SMap Shade       -- by head, phase and column
  track : Track
  eject : Eject
  fe : Fe
  loops : SMap CLoop          -- 1 and 2
  mem : Mem
  turrets : SMap Turret
  dome : Dome
  cfg : SMap Val              -- settings in force; an unlisted one has its default
  staged : SMap Val           -- staged writes (R370, R434)
  ram : Ram                   -- plaintext of what the memory cipher holds
  pending : List Instr        -- the model's queue of commands, first in, first out
  deriving DecidableEq, Repr

/-- Why the block stops. -/
inductive Fault where
  /-- Raised by the idle step when the 64-bit tick count would pass 2^64 − 1: "No rule in this manual provides for a
  wrap" (chapter 2). Safe: the model stops where the spec says nothing. -/
  | tickWrap
  deriving DecidableEq, Repr

/-- Why a command has no meaning. -/
inductive Refusal where
  /-- Raised by an arm of `exec` whose meaning is not written. Safe: nothing is claimed of such a command. -/
  | notModelled (mnemonic : String)
  deriving DecidableEq, Repr

/-- Turret 0 of a factory-new module is CREATED (R505, R145); every other turret is ABSENT. -/
def factoryTurrets : SMap Turret := [(0, { state := .created })]

/-- The records of a factory-new module (R145): an epoch of 0 and an Open key store, each in slot A. -/
def factoryRecs : SMap Rec :=
  [(0, { a := { stage := .valid, seq := some 0, body := .epoch 0, bad := false }, b := Slot.init, cur := some false, state := .ok }),
   (1, { a := { stage := .valid, seq := some 0, body := .keystore ⟨.opn, factoryTurrets⟩, bad := false }, b := Slot.init,
         cur := some false, state := .ok })]

/-- The module as it leaves the factory, with no supply: OFF, Open mode (R9), a factory key store (R145), every
other record without a valid slot, every output off, no command waiting. Log entry 6. -/
def State.reset : State :=
  { pwr := {}, sys := {}, isl := {}, ledger := {}, nv := { recs := factoryRecs }, sess := [], jobs := [], serial := {},
    tower := {}, ports := [], streams := [], feed := {}, seam := {}, capture := {}, heads := [], lantern := {},
    shadeTab := [], track := {}, eject := {}, fe := {}, loops := [], mem := {}, turrets := factoryTurrets, dome := {},
    cfg := [], staged := [], ram := [], pending := [] }

end Sys2Proof.Machine
end

