-- ==== Sys2Proof/Machine/Operands.lean ====
section
/-! DEFINITION. What the bytes on the wires mean: byte order (R16), control ordered sets (R265, Table 7-2), bypass sets
(R279, Table 7-5), frames (R270, R271, Table 7-4) and head identities (Table 9-1). -/

namespace Sys2Proof

/-- Big-endian number of bytes (R16). -/
def beNat (bs : List Byte) : Nat := bs.foldl (fun a b => a * 256 + b.toNat) 0

/-- Little-endian number of bytes (R16). -/
def leNat : List Byte → Nat
  | [] => 0
  | b :: bs => b.toNat + 256 * leNat bs

/-- `n` bytes, least significant first (R16). -/
def leBytes : Nat → Nat → List Byte
  | 0, _ => []
  | n + 1, x => BitVec.ofNat 8 x :: leBytes n (x / 256)

/-- `n` bytes, most significant first (R16). -/
def beBytes (n x : Nat) : List Byte := (leBytes n x).reverse

/-- A byte of a list; a missing one counts as 0. -/
def byteAt (bs : List Byte) (i : Nat) : Nat := ((bs[i]?).getD 0).toNat

/-- `n` bytes of a list from position `i`. -/
def sliceAt (bs : List Byte) (i n : Nat) : List Byte := (bs.drop i).take n

/-- A number read as two's complement of `w` bits. -/
def asSigned (w x : Nat) : Int := if x < 2 ^ (w - 1) then x else (x : Int) - 2 ^ w

end Sys2Proof

namespace Sys2Proof.Machine

/-! ## Control ordered sets (R265) -/

/-- A control set as symbols 1 to 15: its type and its 12 data bytes, or none where it is not whole or its CRC-16
fails. -/
def ctrlSet (set : List Byte) : Option (Nat × List Byte) :=
  if set.length = 15 ∧ crc16 (set.take 13) = beNat (set.drop 13) then some (byteAt set 0, sliceAt set 1 12) else none

/-- ACK and NAK data: the frame number, and the bypass number where it is valid (Table 7-2). -/
def ackData (d : List Byte) : Nat × Option Nat :=
  (beNat (sliceAt d 0 2) % 4096, if byteAt d 2 / 128 = 1 then some (byteAt d 2 % 8) else none)

/-- A lane map as bytes 4 to 8 of TS2, REPL and WIDTH carry it: the physical lane of each logical lane below `width`,
and the spare (Table 7-2). -/
def laneMap (width : Nat) (d : List Byte) : List Nat × Option Nat :=
  (((List.range width).map fun i => byteAt d (2 + i)), if byteAt d 6 = 0xFF then none else some (byteAt d 6))

/-- HALT data: address, cause and tick (Table 7-2). -/
def haltData (d : List Byte) : HaltInfo := ⟨byteAt d 0, byteAt d 1, beNat (sliceAt d 2 8)⟩

/-! ## Bypass sets (R279) -/

/-- The code of a close reason in a bypass body (log entry 20: no table gives the codes). -/
def CloseReason.ofCode (n : Nat) : CloseReason :=
  match n with
  | 1 => .key | 2 => .busy | 3 => .state | 4 => .bandwidth | 5 => .auth | n => .other n

/-- A bypass set as bytes 1 to 37. -/
structure BypassSet where
  seq : Nat
  ack : Option Nat
  replay : Bool
  kind : Nat
  body : List Byte
  deriving DecidableEq, Repr

/-- A bypass set read from bytes 1 to 37: none where it is not whole, its CRC-16 fails or its body is longer than 32
bytes (R279). -/
def bypassSet (bs : List Byte) : Option BypassSet :=
  if bs.length = 37 ∧ crc16 (bs.take 35) = beNat (bs.drop 35) ∧ byteAt bs 2 ≤ 32 then
    some { seq := byteAt bs 0 / 32, ack := if byteAt bs 0 / 16 % 2 = 1 then some (byteAt bs 0 / 2 % 8) else none,
           replay := decide (byteAt bs 0 % 2 = 1), kind := byteAt bs 1, body := sliceAt bs 3 (byteAt bs 2) }
  else none

/-- The body of OPEN, OPEN-OK, KEY-READY and KEY-CONFIRM. -/
def keyMsg (b : List Byte) : KeyMsg := ⟨byteAt b 0, byteAt b 1, byteAt b 2, beNat (sliceAt b 3 3), beNat (sliceAt b 6 8)⟩

/-- The body of a MARK (Table 7-5). -/
def markBody (b : List Byte) : Mark :=
  ⟨beNat (sliceAt b 0 6), beNat (sliceAt b 6 8), beNat (sliceAt b 14 2), beNat (sliceAt b 16 3),
   decide (byteAt b 19 % 2 = 1)⟩

/-- The addresses whose bits are set in a mask, bit `a − 1` for address `a` (log entry 20). -/
def addrsOf (mask : Nat) : List Nat := ((List.range 32).filter fun i => mask.testBit i).map (· + 1)

/-- The body of a TMGMT message: address, state, epoch, rates, then the reached addresses, the role and the
partner (log entry 20). -/
def tmgmtBody (b : List Byte) : Tmgmt :=
  ⟨byteAt b 0, byteAt b 1, beNat (sliceAt b 2 3), beNat (sliceAt b 5 2), addrsOf (beNat (sliceAt b 7 4)), byteAt b 11, byteAt b 12⟩

/-- The message of a bypass set (Table 7-5); none for a type the table does not list. -/
def BypassSet.msg (x : BypassSet) : Option BMsg :=
  match x.kind with
  | 0x01 => some (.mark (markBody x.body) x.replay 0)
  | 0x02 => some .xoff
  | 0x03 => some .xon
  | 0x04 => some (.addr (byteAt x.body 0))
  | 0x05 => some (if x.body.length ≤ 1 then .countReq (byteAt x.body 0)
                  else .count (byteAt x.body 0) (beNat (sliceAt x.body 1 8)))
  | 0x06 => some (.tmgmt (tmgmtBody x.body))
  | 0x08 => some (.haltNotice ⟨byteAt x.body 0, byteAt x.body 1, beNat (sliceAt x.body 2 8)⟩)
  | 0x10 => some (.openS (keyMsg x.body))
  | 0x11 => some (.openOk (keyMsg x.body))
  | 0x12 => some (.close (byteAt x.body 0) (byteAt x.body 1) (CloseReason.ofCode (byteAt x.body 2)))
  | 0x18 => some (.keyReady (keyMsg x.body))
  | 0x19 => some (.keyConfirm (keyMsg x.body))
  | 0x1A => some (.keyFail (byteAt x.body 0) (byteAt x.body 1) (CloseReason.ofCode (byteAt x.body 2)))
  | _ => none

/-! ## Frames (R270, R271) -/

/-- The 16 header bytes of a frame with a sequence number (Table 7-4). Reserved bits are 0. -/
def Frame.header (f : Frame) (seq : Nat) : List Byte :=
  [BitVec.ofNat 8 (0x10 + seq / 256 % 16), BitVec.ofNat 8 seq, BitVec.ofNat 8 f.stream, BitVec.ofNat 8 f.modAddr,
   BitVec.ofNat 8 (f.stype % 8 * 32 + f.dir % 2 * 16 + f.phase % 2 * 8 + (if f.first then 4 else 0)
     + (if f.last then 2 else 0))] ++
  beBytes 2 (f.len % 4096) ++ beBytes 3 f.epoch ++ beBytes 5 f.count ++ [0]

/-- The additional data of a frame: its header with the sequence number 0 (R290). -/
def Frame.aad (f : Frame) : List Byte := f.header 0

/-- The bytes of a frame between SOF and EOF: header, payload and tag, CRC-32C (R270). -/
def Frame.wire (f : Frame) (seq : Nat) : List Byte :=
  let b := f.header seq ++ f.body
  b ++ beBytes 4 (crc32c b)

/-- The symbols a frame takes on the wire: 38 and its payload (R270). -/
def Frame.symbols (f : Frame) : Nat := f.len + 38

/-- The fields of a frame's header; the body is what follows it, without the CRC (Table 7-4). -/
def headerOf (bs : List Byte) : Frame :=
  { stream := byteAt bs 2, modAddr := byteAt bs 3, stype := byteAt bs 4 / 32, dir := byteAt bs 4 / 16 % 2,
    phase := byteAt bs 4 / 8 % 2, first := decide (byteAt bs 4 / 4 % 2 = 1), last := decide (byteAt bs 4 / 2 % 2 = 1),
    len := beNat (sliceAt bs 5 2) % 4096, epoch := beNat (sliceAt bs 7 3), count := beNat (sliceAt bs 10 5),
    body := sliceAt bs 16 (bs.length - 20) }

/-- A received frame that passes R271: its sequence number and its fields. -/
def frameOf (bs : List Byte) (ending : FrameEnd) (codeError : Bool) : Option (Nat × Frame) :=
  let n := bs.length - 36
  let len := beNat (sliceAt bs 5 2) % 4096
  if ending = .eof ∧ codeError = false ∧ 36 < bs.length ∧ crc32c (bs.take (bs.length - 4)) = beNat (bs.drop (bs.length - 4))
      ∧ byteAt bs 0 / 16 = 1 ∧ len = n ∧ len ≤ 2048 then
    some (beNat (sliceAt bs 0 2) % 4096, headerOf bs)
  else none

/-! ## Capture buffer records -/

/-- The number of a stream type (Table 7-7), as `stream.s.type` counts them. -/
abbrev typeChip : Nat := 0
/-- LINE streams (Table 7-7). -/
abbrev typeLine : Nat := 1
/-- STAT streams (Table 7-7). -/
abbrev typeStat : Nat := 2
/-- CON streams (Table 7-7). -/
abbrev typeCon : Nat := 3
/-- MGMT streams (Table 7-7). -/
abbrev typeMgmt : Nat := 4
/-- TOWER frames (Table 7-7). -/
abbrev typeTower : Nat := 5

end Sys2Proof.Machine
end

