-- ==== Sys2Proof/Machine/Cipher.lean ====
section
/-! DEFINITION. AES-256-GCM as frames, their checks and import records use it (R290, R292, R502). The cipher's own steps are those
of FIPS 197 and NIST SP 800-38D and are PRESUMED: the spec names AES-256-GCM and does not restate it (log entry 4). -/

namespace Sys2Proof.Machine

/-! ## AES-256 -/

/-- A byte of the field of AES doubled. -/
def aesDouble (x : Nat) : Nat := if x < 128 then 2 * x else (2 * x) ^^^ 0x11B

/-- The product of two bytes of the field of AES. -/
def aesMul : Nat → Nat → Nat → Nat
  | 0, _, _ => 0
  | n + 1, a, b => (if b % 2 = 1 then a else 0) ^^^ aesMul n (aesDouble a) (b / 2)

/-- A byte of the field of AES raised to the power 2^n − 2: its inverse for n = 8. -/
def aesInv : Nat → Nat → Nat
  | 0, _ => 1
  | n + 1, x => let y := aesMul 8 x x; if n = 0 then 1 else aesMul 8 y (aesInv n y)

/-- The S-box. -/
def aesSub (x : Nat) : Nat :=
  let b := if x = 0 then 0 else aesInv 8 x
  let rot (n : Nat) : Nat := (b * 2 ^ n) % 256 + b / 2 ^ (8 - n)
  b ^^^ rot 1 ^^^ rot 2 ^^^ rot 3 ^^^ rot 4 ^^^ 0x63

/-- The S-box as a table. -/
def aesBox : List Nat := (List.range 256).map aesSub

/-- A byte looked up in the S-box. -/
def boxed (box : List Nat) (x : Nat) : Nat := (box[x]?).getD 0

/-- A number of a list; a missing one counts as 0. -/
def natAt (xs : List Nat) (i : Nat) : Nat := (xs[i]?).getD 0

/-- Two lists of bytes combined. -/
def xorList (a b : List Nat) : List Nat := (a.zip b).map fun p => p.1 ^^^ p.2

/-- `n` further words of the key schedule of AES-256, which stands with its last word first; `i` is the next word's number. -/
def aesExpand (box : List Nat) : Nat → Nat → Nat → List (List Nat) → List (List Nat)
  | 0, _, _, ws => ws
  | n + 1, i, rc, ws =>
    let last := (ws[0]?).getD []
    let g := if i % 8 = 0 then xorList ((last.drop 1 ++ last.take 1).map (boxed box)) [rc, 0, 0, 0]
             else if i % 8 = 4 then last.map (boxed box) else last
    aesExpand box n (i + 1) (if i % 8 = 0 then aesDouble rc else rc) (xorList ((ws[7]?).getD []) g :: ws)

/-- The 15 round keys of a 32-byte key. -/
def aesKeys (box : List Nat) (key : List Nat) : List (List Nat) :=
  let ws := (aesExpand box 52 8 1 ((List.range 8).map fun i => (key.drop (4 * i)).take 4).reverse).reverse
  (List.range 15).map fun i => ((ws.drop (4 * i)).take 4).flatten

/-- Bytes substituted and rows shifted. -/
def aesShift (box : List Nat) (s : List Nat) : List Nat :=
  (List.range 16).map fun i => boxed box (natAt s ((i + 4 * (i % 4)) % 16))

/-- Columns mixed. -/
def aesMix (s : List Nat) : List Nat :=
  (List.range 16).map fun i =>
    let c := 4 * (i / 4)
    let x (k : Nat) : Nat := natAt s (c + (i + k) % 4)
    aesDouble (x 0) ^^^ (aesDouble (x 1) ^^^ x 1) ^^^ x 2 ^^^ x 3

/-- One block enciphered with AES-256. -/
def aesBlock (box : List Nat) (keys : List (List Nat)) (b : List Nat) : List Nat :=
  let s := (List.range 13).foldl (fun s i => xorList (aesMix (aesShift box s)) ((keys[i + 1]?).getD []))
    (xorList b ((keys[0]?).getD []))
  xorList (aesShift box s) ((keys[14]?).getD [])

/-- The inverse of the S-box as a table. -/
def aesBoxInv : List Nat := (List.range 256).map fun y => aesBox.idxOf y

/-- One block deciphered with AES-256; `box` is the inverse table. -/
def aesUnblock (box : List Nat) (keys : List (List Nat)) (b : List Nat) : List Nat :=
  let unshift (s : List Nat) : List Nat := (List.range 16).map fun i => boxed box (natAt s ((i + 12 * (i % 4)) % 16))
  let unmix (s : List Nat) : List Nat :=
    (List.range 16).map fun i =>
      let x (k : Nat) : Nat := natAt s (4 * (i / 4) + (i + k) % 4)
      aesMul 8 (x 0) 14 ^^^ aesMul 8 (x 1) 11 ^^^ aesMul 8 (x 2) 13 ^^^ aesMul 8 (x 3) 9
  let key (i : Nat) : List Nat := (keys[i]?).getD []
  let s := (List.range 13).foldl (fun s i => unmix (xorList (unshift s) (key (13 - i)))) (xorList b (key 14))
  xorList (unshift s) (key 0)

/-! ## GCM -/

/-- The product of two blocks in the field of GCM, as numbers with the first bit highest. -/
def gcmMul : Nat → Nat → Nat → Nat
  | 0, _, _ => 0
  | n + 1, x, v =>
    (if x.testBit n then v else 0) ^^^ gcmMul n x (if v % 2 = 1 then (v / 2) ^^^ (0xE1 * 2 ^ 120) else v / 2)

/-- A list of bytes filled with zeros to whole blocks. -/
def toBlocks (bs : List Byte) : List Byte := bs ++ List.replicate ((16 - bs.length % 16) % 16) 0

/-- The hash of GCM over whole blocks. -/
def ghash (h : Nat) (bs : List Byte) : Nat :=
  (List.range (bs.length / 16)).foldl (fun y i => gcmMul 128 (y ^^^ beNat (sliceAt bs (16 * i) 16)) h) 0

/-- The key stream of GCM, `len` bytes from a counter on: the nonce and the counter, enciphered. -/
def gcmStream (block : List Nat → List Nat) (nonce : List Byte) (from_ len : Nat) : List Nat :=
  ((List.range ((len + 15) / 16)).flatMap fun i => block ((nonce ++ beBytes 4 (from_ + i)).map (·.toNat))).take len

/-- Bytes combined with a key stream. -/
def gcmXor (bs : List Byte) (ks : List Nat) : List Byte := (bs.zip ks).map fun p => p.1 ^^^ BitVec.ofNat 8 p.2

/-- A cipher under a key. -/
def aesOf (key : List Byte) : List Nat → List Nat :=
  let box := aesBox
  let keys := aesKeys box (key.map (·.toNat))
  aesBlock box keys

/-- The tag of a ciphertext and its additional data under a cipher. -/
def gcmTag (block : List Nat → List Nat) (nonce aad cipher : List Byte) : List Byte :=
  let h := beNat ((block (List.replicate 16 0)).map (BitVec.ofNat 8 ·))
  let y := ghash h (toBlocks aad ++ toBlocks cipher ++ beBytes 8 (8 * aad.length) ++ beBytes 8 (8 * cipher.length))
  gcmXor (beBytes 16 y) (gcmStream block nonce 1 16)

/-- AES-256-GCM: the ciphertext followed by the 16-byte tag (R290). -/
@[irreducible] def gcmSeal (key nonce aad plain : List Byte) : List Byte :=
  let block := aesOf key
  let c := gcmXor plain (gcmStream block nonce 2 plain.length)
  c ++ gcmTag block nonce aad c

/-- AES-256-GCM opened: the plaintext, or none when the tag fails (R290, R293, R502). -/
@[irreducible] def gcmOpen (key nonce aad sealed_ : List Byte) : Option (List Byte) :=
  let block := aesOf key
  let c := sealed_.take (sealed_.length - 16)
  if 16 ≤ sealed_.length ∧ gcmTag block nonce aad c = sealed_.drop (sealed_.length - 16) then
    some (gcmXor c (gcmStream block nonce 2 c.length))
  else none

/-- The first 8 bytes, as a number, of the tag of an empty plaintext (R292). -/
@[irreducible] def gcmCheck (key nonce aad : List Byte) : Nat := beNat ((gcmTag (aesOf key) nonce aad []).take 8)

/-! ## XTS and CMAC (R473, R474) -/

/-- The tweak of XTS for the next block: the last one, a number with its first byte lowest, doubled in its field. -/
def xtsDouble (t : Nat) : Nat := if t < 2 ^ 127 then 2 * t else (2 * t - 2 ^ 128) ^^^ 0x87

/-- `n` whole blocks enciphered under a tweak. -/
def xtsBlocks (block : List Nat → List Nat) : Nat → Nat → List Byte → List Byte
  | 0, _, _ => []
  | n + 1, t, bs =>
    let k := (leBytes 16 t).map (·.toNat)
    (xorList (block (xorList ((bs.take 16).map (·.toNat)) k)) k).map (BitVec.ofNat 8 ·) ++
      xtsBlocks block n (xtsDouble t) (bs.drop 16)

/-- XTS-AES-256 over whole blocks (R473): the first half of the key enciphers the data, the second the tweak, which is the number
of the data unit. -/
@[irreducible] def xtsSeal (key : List Byte) (unit : Nat) (plain : List Byte) : List Byte :=
  let t := aesOf ((key.drop 32).take 32) ((leBytes 16 unit).map (·.toNat))
  xtsBlocks (aesOf (key.take 32)) (plain.length / 16) (leNat (t.map (BitVec.ofNat 8 ·))) plain

/-- The AES-CMAC of a message of whole blocks (R474): the last block is combined with the first subkey. -/
@[irreducible] def cmac (key m : List Byte) : List Byte :=
  let block := aesOf key
  let l := beNat ((block (List.replicate 16 0)).map (BitVec.ofNat 8 ·))
  let k1 := if l < 2 ^ 127 then 2 * l else (2 * l - 2 ^ 128) ^^^ 0x87
  let n := m.length / 16
  ((List.range n).foldl (fun c i =>
    let b := (sliceAt m (16 * i) 16).map (·.toNat)
    block (xorList (xorList c b) (if i + 1 = n then (beBytes 16 k1).map (·.toNat) else List.replicate 16 0)))
    (List.replicate 16 0)).map (BitVec.ofNat 8 ·)

/-! ## Key wrap (R504) -/

/-- The six rounds of AES key wrap over the 8-byte halves `rs`, `i` the step's number: the chaining half and the others in turn.
-/
def wrapSteps (block : List Nat → List Nat) : Nat → Nat → List Nat → List (List Nat) → List Nat × List (List Nat)
  | 0, _, a, rs => (a, rs)
  | n + 1, i, a, rs =>
    match rs with
    | [] => (a, [])
    | r :: rest =>
      let b := block (a ++ r)
      wrapSteps block n (i + 1) (xorList (b.take 8) ((beBytes 8 i).map (·.toNat))) (rest ++ [b.drop 8])

/-- The same steps backward, from step `i` down. -/
def unwrapSteps (unblock : List Nat → List Nat) : Nat → List Nat → List (List Nat) → List Nat × List (List Nat)
  | 0, a, rs => (a, rs)
  | i + 1, a, rs =>
    match rs.getLast? with
    | none => (a, [])
    | some r =>
      let b := unblock (xorList a ((beBytes 8 (i + 1)).map (·.toNat)) ++ r)
      unwrapSteps unblock i (b.take 8) (b.drop 8 :: rs.dropLast)

/-- Halves of 8 bytes. -/
def halves (n : Nat) (bs : List Nat) : List (List Nat) := (List.range n).map fun i => (bs.drop (8 * i)).take 8

/-- AES key wrap with padding of a key (R504; NIST SP 800-38F). -/
@[irreducible] def kwpSeal (key plain : List Byte) : List Byte :=
  let n := (plain.length + 7) / 8
  let a := [0xA6, 0x59, 0x59, 0xA6] ++ (beBytes 4 plain.length).map (·.toNat)
  let p := (plain ++ List.replicate (8 * n - plain.length) 0).map (fun (x : Byte) => x.toNat)
  let c := if n ≤ 1 then aesOf key (a ++ p)
    else let w := wrapSteps (aesOf key) (6 * n) 1 a (halves n p); w.1 ++ w.2.flatten
  c.map (BitVec.ofNat 8 ·)

/-- What AES key wrap with padding holds, or none where its check fails (R504). -/
@[irreducible] def kwpOpen (key wrapped : List Byte) : Option (List Byte) :=
  let n := wrapped.length / 8 - 1
  let keys := aesKeys aesBox (key.map (·.toNat))
  let c := wrapped.map (·.toNat)
  let w := if n ≤ 1 then let b := aesUnblock aesBoxInv keys c; (b.take 8, [b.drop 8])
    else unwrapSteps (aesUnblock aesBoxInv keys) (6 * n) (c.take 8) (halves n (c.drop 8))
  let p := w.2.flatten
  let len := beNat ((w.1.drop 4).map (BitVec.ofNat 8 ·))
  if wrapped.length < 16 ∨ wrapped.length % 8 ≠ 0 then none
  else if w.1.take 4 = [0xA6, 0x59, 0x59, 0xA6] ∧ 8 * (n - 1) < len ∧ len ≤ 8 * n ∧ (p.drop len).all (· == 0) then
    some ((p.take len).map (BitVec.ofNat 8 ·))
  else none

end Sys2Proof.Machine
end

