-- ==== Sys2Proof/Config.lean ====
section
/-! DEFINITION. What the block's documents leave to the implementation, to chance or to the outside world: uninterpreted
constants. None has a body that a proof could see, so every statement holds whatever they are. Log entries 2 to 5. -/

namespace Sys2Proof.Config

/-- One byte of the `n`-th draw of the random source (R555: every draw comes from the DRBG). -/
opaque drawByte (n i : Nat) : Byte
/-- The `n`-th draw of the random source, `len` bytes long. -/
def draw (n len : Nat) : List Byte := (List.range len).map (drawByte n)
/-- The `n`-th challenge drawn, of 64 bits (R172, R126). -/
opaque challengeBits (n : Nat) : BitVec 64
/-- The `n`-th challenge drawn, as a number. -/
def drawChallenge (n : Nat) : Nat := (challengeBits n).toNat
/-- The `n`-th free value: a number the spec does not state. -/
opaque freeNat (n : Nat) : Nat
/-- The `n`-th free value, as an integer. -/
opaque freeInt (n : Nat) : Int

/-- What the engine derives a signature's nonce from: the key, the digest and 32 drawn bytes (R543). -/
opaque nonce (c : Curve) (priv digest drawn : List Byte) : Nat
/-- What key generation derives a private scalar from: drawn bytes (R544). -/
opaque scalar (c : Curve) (drawn : List Byte) : Nat

/-- The device root, derived from the on-die unclonable function (R112). -/
opaque deviceRoot : BitVec 256
/-- The bytes of a configuration body, over which its tag is made (R506). -/
opaque configBody (vals : List (Nat × Val)) : List Byte
/-- The label under which flash keys are derived from the device root (R472), which the spec does not state. -/
opaque flashLabel : String
/-- The build number of the stored image that a sector of NVFW belongs to (Table 14-1). -/
opaque imageBuild (sector : Nat) : Nat
/-- The serial number of the device certificate (Table 16-1). -/
opaque deviceSerial : List Char
/-- The signature of the device certificate, r and s (Table 16-1). -/
opaque deviceSignature : BitVec 768
/-- The maker root public key in the fuses, compressed (R532). -/
opaque makerKey : BitVec 392
/-- The build number of the microcode image (Table 16-7). -/
opaque microcodeBuild : Nat

/-- How many page programs the body of a record write takes (R133). -/
opaque bodyPages (r : RecName) : Nat
/-- Whether the `n`-th Lantern test pulse of a channel is a compliance pulse (R363). -/
opaque lanternTestLow (n channel : Nat) : Bool
/-- Whether P24, where it counts as low for the `n`-th free value, is absent altogether (R53, R398): no command tells the two apart. -/
opaque p24Absent (n : Nat) : Bool
/-- What the `n`-th coil test of `DO feed.resume` finds (R330). -/
opaque coilTest (n : Nat) : Option CoilFault
/-- The code and detail a maker-signed diagnostic program answers (R554). -/
opaque diagResult (program : List Byte) : Nat × Nat

end Sys2Proof.Config
end

