-- ==== Sys2Proof/Machine/Hash.lean ====
section
/-! DEFINITION. The digest functions that the spec takes from published standards: SHA-256 and SHA-384 (R538; FIPS 180-4), HMAC
(R172, R506, R538; FIPS 198-1) and the KDF in counter mode (R500; NIST SP 800-108). The standards' own constants and steps are
PRESUMED: the spec names them and does not restate them (log entry 4). -/

namespace Sys2Proof.Machine

/-! ## Words -/

/-- A word of `w` bits rotated right. -/
def rotr (w n x : Nat) : Nat := (x >>> n) ||| ((x <<< (w - n)) % 2 ^ w)

/-- The exclusive or of a word rotated right by three amounts. -/
def bigSigma (w : Nat) (r : Nat × Nat × Nat) (x : Nat) : Nat := rotr w r.1 x ^^^ rotr w r.2.1 x ^^^ rotr w r.2.2 x

/-- The exclusive or of a word rotated right by two amounts and shifted right by a third. -/
def smallSigma (w : Nat) (r : Nat × Nat × Nat) (x : Nat) : Nat := rotr w r.1 x ^^^ rotr w r.2.1 x ^^^ (x >>> r.2.2)

/-- The round constants of SHA-384; the upper halves of the first 64 are those of SHA-256. -/
def shaK : List Nat :=
  [0x428a2f98d728ae22, 0x7137449123ef65cd, 0xb5c0fbcfec4d3b2f, 0xe9b5dba58189dbbc, 0x3956c25bf348b538,
   0x59f111f1b605d019, 0x923f82a4af194f9b, 0xab1c5ed5da6d8118, 0xd807aa98a3030242, 0x12835b0145706fbe] ++
  [0x243185be4ee4b28c, 0x550c7dc3d5ffb4e2, 0x72be5d74f27b896f, 0x80deb1fe3b1696b1, 0x9bdc06a725c71235,
   0xc19bf174cf692694, 0xe49b69c19ef14ad2, 0xefbe4786384f25e3, 0x0fc19dc68b8cd5b5, 0x240ca1cc77ac9c65] ++
  [0x2de92c6f592b0275, 0x4a7484aa6ea6e483, 0x5cb0a9dcbd41fbd4, 0x76f988da831153b5, 0x983e5152ee66dfab,
   0xa831c66d2db43210, 0xb00327c898fb213f, 0xbf597fc7beef0ee4, 0xc6e00bf33da88fc2, 0xd5a79147930aa725] ++
  [0x06ca6351e003826f, 0x142929670a0e6e70, 0x27b70a8546d22ffc, 0x2e1b21385c26c926, 0x4d2c6dfc5ac42aed,
   0x53380d139d95b3df, 0x650a73548baf63de, 0x766a0abb3c77b2a8, 0x81c2c92e47edaee6, 0x92722c851482353b] ++
  [0xa2bfe8a14cf10364, 0xa81a664bbc423001, 0xc24b8b70d0f89791, 0xc76c51a30654be30, 0xd192e819d6ef5218,
   0xd69906245565a910, 0xf40e35855771202a, 0x106aa07032bbd1b8, 0x19a4c116b8d2d0c8, 0x1e376c085141ab53] ++
  [0x2748774cdf8eeb99, 0x34b0bcb5e19b48a8, 0x391c0cb3c5c95a63, 0x4ed8aa4ae3418acb, 0x5b9cca4f7763e373,
   0x682e6ff3d6b2b8a3, 0x748f82ee5defb2fc, 0x78a5636f43172f60, 0x84c87814a1f0ab72, 0x8cc702081a6439ec] ++
  [0x90befffa23631e28, 0xa4506cebde82bde9, 0xbef9a3f7b2c67915, 0xc67178f2e372532b, 0xca273eceea26619c,
   0xd186b8c721c0c207, 0xeada7dd6cde0eb1e, 0xf57d4f7fee6ed178, 0x06f067aa72176fba, 0x0a637dc5a2c898a6] ++
  [0x113f9804bef90dae, 0x1b710b35131c471b, 0x28db77f523047d84, 0x32caab7b40c72493, 0x3c9ebe0a15c9bebc,
   0x431d67c49c100d4c, 0x4cc5d4becb3e42b6, 0x597f299cfc657e2a, 0x5fcb6fab3ad6faec, 0x6c44198c4a475817]

/-! ## SHA-256 and SHA-384 -/

/-- The bits of a word of the two hashes: 64 for SHA-384, 32 for SHA-256. -/
def shaBits (wide : Bool) : Nat := if wide then 64 else 32

/-- `n` further words of a message schedule, which stands with its last word first. -/
def shaExtend (wide : Bool) : Nat → List Nat → List Nat
  | 0, ws => ws
  | n + 1, ws =>
    let w := shaBits wide
    let at_ (i : Nat) : Nat := (ws[i]?).getD 0
    let s0 := smallSigma w (if wide then (1, 8, 7) else (7, 18, 3)) (at_ 14)
    let s1 := smallSigma w (if wide then (19, 61, 6) else (17, 19, 10)) (at_ 1)
    shaExtend wide n ((s1 + at_ 6 + s0 + at_ 15) % 2 ^ w :: ws)

/-- The rounds over constants and schedule words, on the eight working words. -/
def shaRounds (wide : Bool) : List (Nat × Nat) → List Nat → List Nat
  | [], v => v
  | (k, x) :: rest, v =>
    let w := shaBits wide
    let r (i : Nat) : Nat := (v[i]?).getD 0
    let t1 := r 7 + bigSigma w (if wide then (14, 18, 41) else (6, 11, 25)) (r 4) +
      ((r 4 &&& r 5) ^^^ ((2 ^ w - 1 - r 4) &&& r 6)) + k + x
    let t2 := bigSigma w (if wide then (28, 34, 39) else (2, 13, 22)) (r 0) + ((r 0 &&& r 1) ^^^ (r 0 &&& r 2) ^^^ (r 1 &&& r 2))
    shaRounds wide rest [(t1 + t2) % 2 ^ w, r 0, r 1, r 2, (r 3 + t1) % 2 ^ w, r 4, r 5, r 6]

/-- The words of one block. -/
def shaWords (wide : Bool) (b : List Byte) : List Nat :=
  (List.range 16).map fun i => beNat (sliceAt b (shaBits wide / 8 * i) (shaBits wide / 8))

/-- One block is worked into the eight words of the hash. -/
def shaBlock (wide : Bool) (h : List Nat) (b : List Byte) : List Nat :=
  let n := if wide then 64 else 48
  let ks := if wide then shaK else (shaK.take 64).map (· / 2 ^ 32)
  let ws := (shaExtend wide n (shaWords wide b).reverse).reverse
  (h.zip (shaRounds wide (ks.zip ws) h)).map fun p => (p.1 + p.2) % 2 ^ shaBits wide

/-- A message padded to whole blocks: a one bit, zeros and its length in bits (R538: `L` + 9 or `L` + 17 bytes, rounded up). -/
def shaPad (wide : Bool) (m : List Byte) : List Byte :=
  let bs := if wide then 128 else 64
  let lb := if wide then 16 else 8
  m ++ 0x80 :: List.replicate ((2 * bs - (m.length + 1 + lb) % bs) % bs) 0 ++ beBytes lb (8 * m.length)

/-- The hash of a message before its output is cut: the blocks in turn. -/
def shaRun (wide : Bool) (h0 : List Nat) (m : List Byte) : List Byte :=
  let bs := if wide then 128 else 64
  let p := shaPad wide m
  let h := (List.range (p.length / bs)).foldl (fun h i => shaBlock wide h (sliceAt p (bs * i) bs)) h0
  h.flatMap (beBytes (shaBits wide / 8))

/-- SHA-256 (R538). -/
@[irreducible] def sha256 (m : List Byte) : List Byte :=
  shaRun false [0x6a09e667, 0xbb67ae85, 0x3c6ef372, 0xa54ff53a, 0x510e527f, 0x9b05688c, 0x1f83d9ab, 0x5be0cd19] m

/-- SHA-384 (R538). -/
@[irreducible] def sha384 (m : List Byte) : List Byte :=
  (shaRun true [0xcbbb9d5dc1059ed8, 0x629a292a367cd507, 0x9159015a3070dd17, 0x152fecd8f70e5939,
                0x67332667ffc00b31, 0x8eb44a8768581511, 0xdb0c2e0d64f98fa7, 0x47b5481dbefa4fa4] m).take 48

/-! ## HMAC and the KDF -/

/-- The bytes of a list, each combined with a constant. -/
def xorAll (c : Byte) (bs : List Byte) : List Byte := bs.map (· ^^^ c)

/-- A key made as long as a block: a longer one is hashed, and zeros follow. -/
def hmacKey (hash : List Byte → List Byte) (bs : Nat) (key : List Byte) : List Byte :=
  let k := if bs < key.length then hash key else key
  k ++ List.replicate (bs - k.length) 0

/-- HMAC with a hash of blocks of `bs` bytes. -/
def hmac (hash : List Byte → List Byte) (bs : Nat) (key m : List Byte) : List Byte :=
  let k := hmacKey hash bs key
  hash (xorAll 0x5C k ++ hash (xorAll 0x36 k ++ m))

/-- HMAC-SHA-256. -/
def hmac256 (key m : List Byte) : List Byte := hmac sha256 64 key m

/-- HMAC-SHA-384. -/
def hmac384 (key m : List Byte) : List Byte := hmac sha384 128 key m

/-- The ASCII bytes of a label. -/
def asciiOf (s : String) : List Byte := s.toList.map fun c => BitVec.ofNat 8 c.toNat

/-- The KDF of R500: the input to each HMAC-SHA-256 is a counter of 32 bits from 1, the label, a zero byte, the context and the
output length in bits, and the outputs are joined and cut to `len` bytes. -/
def kdf (key : List Byte) (label : String) (context : List Byte) (len : Nat) : List Byte :=
  ((List.range ((len + 31) / 32)).flatMap fun i =>
    hmac256 key (beBytes 4 (i + 1) ++ asciiOf label ++ [0] ++ context ++ beBytes 4 (8 * len))).take len

/-- The response to a challenge (R127, R172): the first 8 bytes, as a number, of HMAC-SHA-256 under the login key over the 8
challenge bytes, the turret and the session. -/
@[irreducible] def loginHmac (key : List Byte) (challenge turret session : Nat) : Nat :=
  beNat ((hmac256 key (beBytes 8 challenge ++ beBytes 1 turret ++ beBytes 1 session)).take 8)

end Sys2Proof.Machine
end

