-- ==== Sys2Proof/Machine/Curves.lean ====
section
/-! DEFINITION. The curves P-256 and P-384 and what the public-key engine computes on them (R499, R500, R543–R546). The curves'
numbers and ECDSA's steps are those of SP 800-186 and FIPS 186-5 and are PRESUMED: the spec names them and does not restate them
(log entry 4). -/

namespace Sys2Proof.Machine

/-- The octets of a scalar or a coordinate of a curve, *w* (R544). -/
def curveBytes : Curve → Nat
  | .p256 => 32
  | .p384 => 48

/-- The prime *p* of a curve's field. -/
def curveP : Curve → Nat
  | .p256 => 2 ^ 256 - 2 ^ 224 + 2 ^ 192 + 2 ^ 96 - 1
  | .p384 => 2 ^ 384 - 2 ^ 128 - 2 ^ 96 + 2 ^ 32 - 1

/-- The order *n* of a curve. -/
def curveN : Curve → Nat
  | .p256 => 0xffffffff00000000ffffffffffffffffbce6faada7179e84f3b9cac2fc632551
  | .p384 => 0xffffffffffffffffffffffffffffffffffffffffffffffffc7634d81f4372ddf581a0db248b0a77aecec196accc52973

/-- The coefficient *b* of a curve; *a* is −3. -/
def curveB : Curve → Nat
  | .p256 => 0x5ac635d8aa3a93e7b3ebbd55769886bc651d06b0cc53b0f63bce3c3e27d2604b
  | .p384 => 0xb3312fa7e23ee7e4988e056be3f82d19181d9c6efe8141120314088f5013875ac656398d8a2ed19d2a85c8edd3ec2aef

/-- The base point of a curve. -/
def curveG : Curve → Nat × Nat
  | .p256 => (0x6b17d1f2e12c4247f8bce6e563a440f277037d812deb33a0f4a13945d898c296,
              0x4fe342e2fe1a7f9b8ee7eb4a7c0f9e162bce33576b315ececbb6406837bf51f5)
  | .p384 => (0xaa87ca22be8b05378eb1c71ef320ad746e1d3b628ba79b9859f741e082542a385502f25dbf55296c3a545e3872760ab7,
              0x3617de4a96262c6f5d9e98bf9292dc29f8f41dbd289a147ce9da3113b5f0b8c00a60b1ce1d7e819d7a431d7c90ea0e5f)

/-- A power by the low `n` bits of an exponent, modulo `m`. -/
def powMod (m : Nat) : Nat → Nat → Nat → Nat
  | 0, _, _ => 1 % m
  | n + 1, b, e => let r := powMod m n (b * b % m) (e / 2); if e % 2 = 1 then b * r % m else r

/-- The inverse modulo a prime of at most 384 bits. -/
def invMod (m x : Nat) : Nat := powMod m 384 x (m - 2)

/-- The difference of two residues. -/
def subMod (m x y : Nat) : Nat := (x + m - y % m) % m

/-- A point: none is the point at infinity. -/
abbrev Point := Option (Nat × Nat)

/-- The sum of two points. -/
def addPoint (c : Curve) (a b : Point) : Point :=
  let p := curveP c
  match a, b with
  | none, y => y
  | x, none => x
  | some (x1, y1), some (x2, y2) =>
    if x1 = x2 ∧ (y1 + y2) % p = 0 then none
    else
      let l := if x1 = x2 then subMod p (3 * x1 * x1) 3 * invMod p (2 * y1) % p
               else subMod p y2 y1 * invMod p (subMod p x2 x1) % p
      let x3 := subMod p (l * l) (x1 + x2)
      some (x3, subMod p (l * subMod p x1 x3) y1)

/-- A multiple of a point by the low `n` bits of a scalar. -/
def mulPoint (c : Curve) : Nat → Nat → Point → Point
  | 0, _, _ => none
  | n + 1, k, a =>
    let r := mulPoint c n (k / 2) (addPoint c a a)
    if k % 2 = 1 then addPoint c a r else r

/-- The point of a SEC 1 compressed octet string; none for a wrong length, prefix or coordinate, or a point that is not on the
curve (R545, R546). -/
def readPoint (c : Curve) (pub : List Byte) : Point :=
  let p := curveP c
  let x := beNat (pub.drop 1)
  let y2 := subMod p (x * x % p * x + curveB c) (3 * x)
  let y := powMod p 384 y2 ((p + 1) / 4)
  let s := byteAt pub 0
  if pub.length = curveBytes c + 1 ∧ (s = 2 ∨ s = 3) ∧ x < p ∧ y * y % p = y2 then
    some (x, if y % 2 = s % 2 then y else (p - y) % p)
  else none

/-- A point as a SEC 1 compressed octet string (R545). -/
def writePoint (c : Curve) (a : Point) : List Byte :=
  match a with
  | some (x, y) => BitVec.ofNat 8 (2 + y % 2) :: beBytes (curveBytes c) x
  | none => List.replicate (curveBytes c + 1) 0

/-- Whether a compressed point is one that the engine takes (R499, R546). -/
@[irreducible] def pointOk (c : Curve) (pub : List Byte) : Bool := (readPoint c pub).isSome

/-- Whether an EC scalar is neither 0 nor at least the order (R502). -/
def scalarOk (c : Curve) (d : List Byte) : Bool := decide (0 < beNat d) && decide (beNat d < curveN c)

/-- The compressed public key of a private scalar (R544). -/
@[irreducible] def publicKey (c : Curve) (d : List Byte) : List Byte := writePoint c (mulPoint c 384 (beNat d) (some (curveG c)))

/-- The x-coordinate that two keys share (R500, R544). -/
@[irreducible] def ecdhX (c : Curve) (d pub : List Byte) : List Byte :=
  match mulPoint c 384 (beNat d) (readPoint c pub) with
  | some q => beBytes (curveBytes c) q.1
  | none => List.replicate (curveBytes c) 0

/-- The signature *r* then *s* of a digest, with the nonce that the engine derives from the key, the digest and 32 drawn bytes (R543). -/
@[irreducible] def ecdsaSign (c : Curve) (d digest drawn : List Byte) : List Byte :=
  let n := curveN c
  let k := 1 + Config.nonce c d digest drawn % (n - 1)
  let r := ((mulPoint c 384 k (some (curveG c))).map (·.1)).getD 0 % n
  let s := invMod n k * (beNat digest + r * beNat d) % n
  beBytes (curveBytes c) r ++ beBytes (curveBytes c) s

/-- Whether a signature *r*, *s* of a digest verifies (R543, R544). -/
@[irreducible] def ecdsaVerify (c : Curve) (pub digest r s : List Byte) : Bool :=
  let n := curveN c
  let w := invMod n (beNat s)
  let q := addPoint c (mulPoint c 384 (beNat digest * w % n) (some (curveG c))) (mulPoint c 384 (beNat r * w % n) (readPoint c pub))
  pointOk c pub && scalarOk c r && scalarOk c s && decide (q.map (fun a => a.1 % n) = some (beNat r))

/-- The device root as bytes (R112). -/
def rootBytes : List Byte := beBytes 32 Config.deviceRoot.toNat

/-- The key under which `keystore` holds a turret's slots wrapped (R504). -/
def wrapKey (n : Nat) : List Byte := kdf rootBytes "KZ-KEYSTORE" [BitVec.ofNat 8 n] 32

/-- A key as `keystore` holds it (R504). -/
def wrapped (n : Nat) (key : List Byte) : List Byte := kwpSeal (wrapKey n) key

/-- Whether a turret's wrapped key unwraps (R504): what was written does, and other bytes where the check of the wrap passes. -/
def unwraps (n : Nat) (w : Option (List Byte)) : Bool :=
  match w with
  | none => true
  | some b => (kwpOpen (wrapKey n) b).isSome

/-- The tag of a configuration body under turret 0's *K*c (R506). -/
@[irreducible] def configTag (kc : List Byte) (vals : List (Nat × Val)) : List Byte :=
  hmac256 (kdf kc "KZ-CONFIG" [0] 32) (Config.configBody vals)

/-- The device private key, on P-384 (R532). -/
@[irreducible] def deviceKey : List Byte :=
  beBytes 48 (beNat (kdf rootBytes "KZ-DEVICE-KEY" [] 64) % (curveN .p384 - 1) + 1)

/-- The signature of the device certificate: *r* (Table 16-1). -/
def deviceSigR : List Byte := beBytes 48 (Config.deviceSignature.toNat / 2 ^ 384)

/-- The signature of the device certificate: *s* (Table 16-1). -/
def deviceSigS : List Byte := beBytes 48 (Config.deviceSignature.toNat % 2 ^ 384)

/-- The maker root public key in the fuses, compressed (R532). -/
def makerRoot : List Byte := beBytes 49 Config.makerKey.toNat

/-- The private scalar that key generation makes of drawn bytes: never 0, 1 or at least the order (R546). -/
@[irreducible] def keygen (c : Curve) (drawn : List Byte) : List Byte :=
  beBytes (curveBytes c) (2 + Config.scalar c drawn % (curveN c - 2))

end Sys2Proof.Machine
end

