-- ==== Sys2Proof/Machine/Access.lean ====
section
/-! DEFINITION. The named reads and updates of the parts of the state: one update for each part, and for each numbered
thing (a session, a port, a valve …) its read and its update. Every operation goes through them. -/

namespace Sys2Proof

/-- The number of a record in the journal's map. -/
def RecName.code : RecName → Nat
  | .epoch => 0 | .keystore => 1 | .shade => 2 | .config => 3 | .recipe n => 16 + n | .stats n => 128 + n

/-- The code of a region (Table 14-1). -/
def Region.code : Region → Nat
  | .firm => 0x01 | .prot => 0x02 | .capt => 0x03 | .work => 0x04 | .nvrec => 0x11 | .nvfw => 0x12

end Sys2Proof

namespace Sys2Proof.Machine

/-- The state with its pwr part changed. -/
def State.onPwr (s : State) (f : Pwr → Pwr) : State := { s with pwr := f s.pwr }
/-- The state with its sys part changed. -/
def State.onSys (s : State) (f : Sys → Sys) : State := { s with sys := f s.sys }
/-- The state with its isl part changed. -/
def State.onIsl (s : State) (f : Isl → Isl) : State := { s with isl := f s.isl }
/-- The state with its ledger part changed. -/
def State.onLedger (s : State) (f : Ledger → Ledger) : State := { s with ledger := f s.ledger }
/-- The state with its nv part changed. -/
def State.onNv (s : State) (f : Nv → Nv) : State := { s with nv := f s.nv }
/-- The state with its serial part changed. -/
def State.onSerial (s : State) (f : Serial → Serial) : State := { s with serial := f s.serial }
/-- The state with its tower part changed. -/
def State.onTower (s : State) (f : Tower → Tower) : State := { s with tower := f s.tower }
/-- The state with its feed part changed. -/
def State.onFeed (s : State) (f : Feed → Feed) : State := { s with feed := f s.feed }
/-- The state with its seam part changed. -/
def State.onSeam (s : State) (f : Seam → Seam) : State := { s with seam := f s.seam }
/-- The state with its capture part changed. -/
def State.onCapture (s : State) (f : Capture → Capture) : State := { s with capture := f s.capture }
/-- The state with its lantern part changed. -/
def State.onLantern (s : State) (f : Lantern → Lantern) : State := { s with lantern := f s.lantern }
/-- The state with its track part changed. -/
def State.onTrack (s : State) (f : Track → Track) : State := { s with track := f s.track }
/-- The state with its eject part changed. -/
def State.onEject (s : State) (f : Eject → Eject) : State := { s with eject := f s.eject }
/-- The state with its fe part changed. -/
def State.onFe (s : State) (f : Fe → Fe) : State := { s with fe := f s.fe }
/-- The state with its mem part changed. -/
def State.onMem (s : State) (f : Mem → Mem) : State := { s with mem := f s.mem }
/-- The state with its dome part changed. -/
def State.onDome (s : State) (f : Dome → Dome) : State := { s with dome := f s.dome }

/-- One session. -/
def State.getSess (s : State) (k : Nat) : Sess := SMap.look Sess.init s.sess k
/-- The state with one session changed. -/
def State.modSess (s : State) (k : Nat) (f : Sess → Sess) : State :=
  { s with sess := SMap.put Sess.init s.sess k (f (s.getSess k)) }
/-- One link port. -/
def State.getPort (s : State) (k : Nat) : Port := SMap.look Port.init s.ports k
/-- The state with one link port changed. -/
def State.modPort (s : State) (k : Nat) (f : Port → Port) : State :=
  { s with ports := SMap.put Port.init s.ports k (f (s.getPort k)) }
/-- One stream. -/
def State.getStream (s : State) (k : Nat) : Stream := SMap.look Stream.init s.streams k
/-- The state with one stream changed. -/
def State.modStream (s : State) (k : Nat) (f : Stream → Stream) : State :=
  { s with streams := SMap.put Stream.init s.streams k (f (s.getStream k)) }
/-- One head. -/
def State.getHead (s : State) (k : Nat) : Head := SMap.look Head.init s.heads k
/-- The state with one head changed. -/
def State.modHead (s : State) (k : Nat) (f : Head → Head) : State :=
  { s with heads := SMap.put Head.init s.heads k (f (s.getHead k)) }
/-- One current loop. -/
def State.getLoop (s : State) (k : Nat) : CLoop := SMap.look CLoop.init s.loops k
/-- The state with one current loop changed. -/
def State.modLoop (s : State) (k : Nat) (f : CLoop → CLoop) : State :=
  { s with loops := SMap.put CLoop.init s.loops k (f (s.getLoop k)) }
/-- One turret. -/
def State.getTurret (s : State) (k : Nat) : Turret := SMap.look Turret.init s.turrets k
/-- The state with one turret changed. -/
def State.modTurret (s : State) (k : Nat) (f : Turret → Turret) : State :=
  { s with turrets := SMap.put Turret.init s.turrets k (f (s.getTurret k)) }
/-- One Lantern channel. -/
def State.getChan (s : State) (k : Nat) : Chan := SMap.look Chan.init s.lantern.chans k
/-- The state with one Lantern channel changed. -/
def State.modChan (s : State) (k : Nat) (f : Chan → Chan) : State :=
  s.onLantern fun y => { y with chans := SMap.put Chan.init y.chans k (f (s.getChan k)) }
/-- One valve. -/
def State.getValve (s : State) (k : Nat) : Valve := SMap.look Valve.init s.eject.valves k
/-- The state with one valve changed. -/
def State.modValve (s : State) (k : Nat) (f : Valve → Valve) : State :=
  s.onEject fun y => { y with valves := SMap.put Valve.init y.valves k (f (s.getValve k)) }
/-- One SENSE pin. -/
def State.getPin (s : State) (k : Nat) : Pin := SMap.look Pin.init s.fe.pins k
/-- The state with one SENSE pin changed. -/
def State.modPin (s : State) (k : Nat) (f : Pin → Pin) : State :=
  s.onFe fun y => { y with pins := SMap.put Pin.init y.pins k (f (s.getPin k)) }
/-- One sequencer entry. -/
def State.getEntry (s : State) (k : Nat) : Entry := SMap.look Entry.init s.fe.entries k
/-- The state with one sequencer entry changed. -/
def State.modEntry (s : State) (k : Nat) (f : Entry → Entry) : State :=
  s.onFe fun y => { y with entries := SMap.put Entry.init y.entries k (f (s.getEntry k)) }
/-- One sequencer loop of a turret. -/
def State.getTurLoop (s : State) (k : Nat) : TurLoop := SMap.look TurLoop.init s.fe.loops k
/-- The state with one sequencer loop of a turret changed. -/
def State.modTurLoop (s : State) (k : Nat) (f : TurLoop → TurLoop) : State :=
  s.onFe fun y => { y with loops := SMap.put TurLoop.init y.loops k (f (s.getTurLoop k)) }
/-- One class-table slot, numbered 4 × head + slot. -/
def State.getClassSlot (s : State) (k : Nat) : ClassSlot := SMap.look ClassSlot.init s.track.slots k
/-- The state with one class-table slot, numbered 4 × head + slot changed. -/
def State.modClassSlot (s : State) (k : Nat) (f : ClassSlot → ClassSlot) : State :=
  s.onTrack fun y => { y with slots := SMap.put ClassSlot.init y.slots k (f (s.getClassSlot k)) }
/-- One set of counters of a turret. -/
def State.getStat (s : State) (k : Nat) : TurStat := SMap.look TurStat.init s.track.stats k
/-- The state with one set of counters of a turret changed. -/
def State.modStat (s : State) (k : Nat) (f : TurStat → TurStat) : State :=
  s.onTrack fun y => { y with stats := SMap.put TurStat.init y.stats k (f (s.getStat k)) }
/-- One STAT period of a turret. -/
def State.getPeriod (s : State) (k : Nat) : Period := SMap.look Period.init s.track.periods k
/-- The state with one STAT period of a turret changed. -/
def State.modPeriod (s : State) (k : Nat) (f : Period → Period) : State :=
  s.onTrack fun y => { y with periods := SMap.put Period.init y.periods k (f (s.getPeriod k)) }
/-- One requester of the memory cipher. -/
def State.getReqr (s : State) (k : Nat) : Requester := SMap.look Requester.init s.mem.reqs k
/-- The state with one requester of the memory cipher changed. -/
def State.modReqr (s : State) (k : Nat) (f : Requester → Requester) : State :=
  s.onMem fun y => { y with reqs := SMap.put Requester.init y.reqs k (f (s.getReqr k)) }
/-- One set of Dome counters and handles of a turret. -/
def State.getDomeTur (s : State) (k : Nat) : DomeTur := SMap.look DomeTur.init s.dome.turs k
/-- The state with one set of Dome counters and handles of a turret changed. -/
def State.modDomeTur (s : State) (k : Nat) (f : DomeTur → DomeTur) : State :=
  s.onDome fun y => { y with turs := SMap.put DomeTur.init y.turs k (f (s.getDomeTur k)) }

/-- One record of the journal. -/
def State.getRec (s : State) (r : RecName) : Rec := SMap.look Rec.init s.nv.recs r.code

/-- The state with one record changed. -/
def State.modRec (s : State) (r : RecName) (f : Rec → Rec) : State :=
  s.onNv fun y => { y with recs := SMap.put Rec.init y.recs r.code (f (s.getRec r)) }

/-- The count of ticks (R15). -/
def State.now (s : State) : Tick := s.sys.tick

end Sys2Proof.Machine
end

