-- ==== Sys2Proof/Machine/Lanes.lean ====
section
/-! DEFINITION. The lanes of a link (R261–R265, R270, R279): control symbols, striping, skip sets, the copies of a control set,
and what a port sends as symbols on its physical lanes. -/

namespace Sys2Proof.Machine

/-! ## Control symbols (Table 7-1), by the value of their byte -/

/-- K28.5: it opens a control set and fills idle lanes. -/
abbrev kCom : Sym := .k 0xBC
/-- K28.0: clock compensation. -/
abbrev kSkp : Sym := .k 0x1C
/-- K27.7: start of a frame. -/
abbrev kSof : Sym := .k 0xFB
/-- K29.7: end of a good frame. -/
abbrev kEof : Sym := .k 0xFD
/-- K30.7: end of an abandoned frame. -/
abbrev kEdb : Sym := .k 0xFE
/-- K28.1: start of a bypass set. -/
abbrev kByp : Sym := .k 0x3C

/-! ## What arrives -/

/-- The bytes of symbols up to the first that is no data byte. -/
def leadBytes : List Sym → List Byte
  | .d b :: xs => b :: leadBytes xs
  | .k _ :: _ => []
  | .bad :: _ => []
  | [] => []

/-- The bytes of symbols that all are data bytes. -/
def dataBytes (xs : List Sym) : Option (List Byte) :=
  if (leadBytes xs).length = xs.length then some (leadBytes xs) else none

/-- A lane without its skip sets (R264): a COM that SKPs follow, and those SKPs, of which the receiver may have added or removed
one. -/
def stripSkips : Bool → List Sym → List Sym
  | _, [] => []
  | inSet, x :: xs =>
    if x = kCom ∧ xs.head? = some kSkp then stripSkips true xs
    else if inSet ∧ x = kSkp then stripSkips true xs
    else x :: stripSkips false xs

/-- The symbols of the data lanes in the order in which they were striped (R263). -/
def destripe (lanes : List (List Sym)) : List Sym :=
  (List.range ((lanes.map List.length).foldl max 0)).flatMap fun i => lanes.filterMap fun l => l[i]?

/-- A control set of 16 symbols: its type and its 12 data bytes where it is intact (R265). -/
def ctrlSyms : List Sym → Option (Nat × List Byte)
  | [] => none
  | x :: xs => if x = kCom then (dataBytes xs).bind ctrlSet else none

/-- The lanes on which a control set travels, in logical order: the data lanes and the spare, or every lane while none is a data
lane (R263, R267). -/
def Port.ctrlLanes (q : Port) : List Nat := if q.width = 0 then List.range 5 else q.map ++ q.spare.toList

/-- The first intact copy of a control set, the lanes taken in logical order (R263). -/
def Port.ctrlOf (q : Port) (sets : List LaneSet) : Option (Nat × List Byte) :=
  (q.ctrlLanes.filterMap fun l => (sets.find? fun x => decide (x.lane = l)).bind fun x => ctrlSyms x.syms).head?

/-- A frame as a port reads it from its lanes: its bytes up to the first code error, how it ended, and whether a code error stood
in it. A control symbol other than SOF before it and EOF or EDB after it, and a number of lanes other than the width, are code
errors (R262, R263, R270). -/
structure RxFrame where
  bytes : List Byte
  ending : FrameEnd
  error : Bool
  deriving DecidableEq, Repr

/-- What a port reads of a frame: `lanes` are the symbols of the data lanes in logical order, from SOF on and without the symbol
that ends it. -/
def Port.rxFrame (q : Port) (lanes : List (List Sym)) (ending : Sym) (codeError : Bool) : RxFrame :=
  let ss := destripe (lanes.map (stripSkips false))
  let body := ss.drop 1
  { bytes := if ss.head? = some kSof then leadBytes body else []
    ending := if ending = kEdb then .edb else .eof
    error := codeError || !(decide (ending = kEof) || decide (ending = kEdb)) || decide (lanes.length ≠ q.width) ||
      decide (ss.head? ≠ some kSof) || (dataBytes body).isNone }

/-- A received frame that passes R271. -/
def RxFrame.frame (x : RxFrame) : Option (Nat × Frame) := frameOf x.bytes x.ending x.error

/-- What a port reads of a bypass set of 38 symbols, padded with COM (R263, R279). -/
def Port.rxBypass (q : Port) (lanes : List (List Sym)) : Option BypassSet :=
  let ss := destripe (lanes.map (stripSkips false))
  if lanes.length = q.width ∧ ss.head? = some kByp then (dataBytes ((ss.drop 1).take 37)).bind bypassSet else none

/-! ## What is sent -/

/-- A control set on one lane (R265). -/
def ctrlLayout (kind : Byte) (dat : List Byte) : List Sym :=
  let body := kind :: dat ++ List.replicate (12 - dat.length) 0
  kCom :: (body ++ beBytes 2 (crc16 body)).map Sym.d

/-- The lane map of TS2, REPL and WIDTH (Table 7-2). -/
def mapBytes (map : List Nat) (spare : Option Nat) : List Byte :=
  (List.range 4).map (fun i => BitVec.ofNat 8 ((map[i]?).getD 0)) ++ [BitVec.ofNat 8 (spare.getD 0xFF)]

end Sys2Proof.Machine

namespace Sys2Proof

/-- The code of a close reason in a bypass body (log entry 20). -/
def CloseReason.code : CloseReason → Nat
  | .key => 1 | .busy => 2 | .state => 3 | .bandwidth => 4 | .auth => 5 | .other n => n

/-- The body of OPEN, OPEN-OK, KEY-READY and KEY-CONFIRM. -/
def KeyMsg.body (m : KeyMsg) : List Byte :=
  beBytes 1 m.stream ++ beBytes 1 m.modAddr ++ beBytes 1 m.phase ++ beBytes 3 m.ctl ++ beBytes 8 m.check

end Sys2Proof

namespace Sys2Proof.Machine

/-- The mask of some addresses: bit `a − 1` for address `a` (log entry 20). -/
def addrMask (as : List Nat) : Nat := as.foldl (fun m a => m ||| 2 ^ (a - 1)) 0

/-- The type of a bypass message and its body (Table 7-5; log entry 20). -/
def BMsg.layout (m : BMsg) : Nat × List Byte :=
  match m with
  | .mark x _ _ =>
    (0x01, beBytes 6 x.line ++ beBytes 8 x.origin ++ beBytes 2 x.lead ++ beBytes 3 x.delay16 ++ beBytes 1 (if x.timeOnly then 1 else 0))
  | .xoff => (0x02, [])
  | .xon => (0x03, [])
  | .addr a => (0x04, beBytes 1 a)
  | .countReq a => (0x05, beBytes 1 a)
  | .count a c => (0x05, beBytes 1 a ++ beBytes 8 c)
  | .tmgmt x =>
    (0x06, beBytes 1 x.addr ++ beBytes 1 x.state ++ beBytes 3 x.epoch ++ beBytes 2 x.rates ++ beBytes 4 (addrMask x.reached) ++
      beBytes 1 x.role ++ beBytes 1 x.partner)
  | .haltNotice i => (0x08, beBytes 1 i.addr ++ beBytes 1 i.cause ++ beBytes 8 i.tick)
  | .openS x => (0x10, x.body)
  | .openOk x => (0x11, x.body)
  | .close n a r => (0x12, beBytes 1 n ++ beBytes 1 a ++ beBytes 1 r.code)
  | .keyReady x => (0x18, x.body)
  | .keyConfirm x => (0x19, x.body)
  | .keyFail n a r => (0x1A, beBytes 1 n ++ beBytes 1 a ++ beBytes 1 r.code)

/-- Whether a message is a mark that met a replay on its way (R250). -/
def BMsg.replayed : BMsg → Bool
  | .mark _ r _ => r
  | .xoff | .xon | .addr _ | .countReq _ | .count _ _ | .tmgmt _ | .haltNotice _ | .openS _ | .openOk _ | .close _ _ _
  | .keyReady _ | .keyConfirm _ | .keyFail _ _ _ => false

/-- The 38 symbols of a bypass set (R279). -/
def bypassSyms (seq : Nat) (replay : Bool) (ack : Option Nat) (m : BMsg) : List Sym :=
  let l := m.layout
  let head := seq % 8 * 32 + (match ack with
    | some a => 16 + a % 8 * 2
    | none => 0) + (if replay || m.replayed then 1 else 0)
  let body := beBytes 1 head ++ beBytes 1 l.1 ++ beBytes 1 l.2.length ++ l.2 ++ List.replicate (32 - l.2.length) 0
  kByp :: (body ++ beBytes 2 (crc16 body)).map Sym.d

/-- Symbols striped over the data lanes, from logical lane 0 on, padded with COM (R263). -/
def Port.stripe (q : Port) (ss : List Sym) : List LaneSet :=
  let n := (ss.length + q.width - 1) / q.width
  q.map.zipIdx.map fun l => ⟨l.1, (List.range n).map fun i => (ss[i * q.width + l.2]?).getD kCom⟩

/-- A control set on every data lane and on the spare (R263). -/
def Port.ctrlOut (q : Port) (kind : Byte) (dat : List Byte) : List LaneSet := q.ctrlLanes.map fun l => ⟨l, ctrlLayout kind dat⟩

/-- What a port puts on its physical lanes; `down` is whether it is the downstream end of its hop (R265, R266). -/
def Port.layout (q : Port) (down : Bool) (o : LinkOut) : List LaneSet :=
  let side : Byte := if down then 1 else 0
  match o with
  | .beacon m | .ts1 m => (List.range 5).map fun l => ⟨l, ctrlLayout 0x10 [side, BitVec.ofNat 8 l, BitVec.ofNat 8 m]⟩
  | .ts2 w map sp => (map ++ sp.toList).map fun l => ⟨l, ctrlLayout 0x11 ([side, BitVec.ofNat 8 w] ++ mapBytes map sp)⟩
  | .time echo t r =>
    let set := ctrlLayout 0x12 ([if echo then 1 else 0] ++ beBytes 8 t ++ beBytes 3 r)
    (if echo then q.ctrlLanes else q.map.take 1).map fun l => ⟨l, set⟩
  | .ack n b => q.ctrlOut 0x01 (beBytes 2 n ++ beBytes 1 (match b with | some m => 128 + m % 8 | none => 0))
  | .nak n b => q.ctrlOut 0x02 (beBytes 2 n ++ beBytes 1 (match b with | some m => 128 + m % 8 | none => 0))
  | .repl cmd lane map sp => q.ctrlOut 0x13 ([if cmd then 1 else 0, BitVec.ofNat 8 lane] ++ mapBytes map sp)
  | .widthSet w map sp => q.ctrlOut 0x14 ([side, BitVec.ofNat 8 w] ++ mapBytes map sp)
  | .halt i => q.ctrlOut 0x20 ([BitVec.ofNat 8 i.addr, BitVec.ofNat 8 i.cause] ++ beBytes 8 i.tick)
  | .frame seq f => q.stripe (kSof :: (f.wire seq).map Sym.d ++ [kEof])
  | .edb bytes => q.stripe (kSof :: bytes.map Sym.d ++ [kEdb])
  | .abandon => q.stripe [kEdb]
  | .bypass seq r a m => q.stripe (bypassSyms seq r a m)
  | .skips n => q.ctrlLanes.map fun l => ⟨l, (List.replicate n [kCom, kSkp, kSkp, kSkp]).flatten⟩

/-- The symbol times of 1.6 ns that have passed at a tick (R261). -/
def symTime (t : Tick) : Nat := t * 25 / 4

/-- A port puts something on its lanes. -/
def Port.put (q : Port) (down : Bool) (xs : List LinkOut) : Port :=
  { q with out := q.out ++ xs, wire := q.wire ++ xs.map (q.layout down) }

/-- Whether a port's lanes carry symbols: its link is up, changes lanes or trains, or a beacon burst runs (R267, R306). -/
def Port.sending (q : Port) (now : Tick) : Bool := decide (q.state ≠ .down) || decide (now < q.burstTo)

/-- The skip set that is due (R264; log entry 71). -/
def Port.skip (q : Port) (now : Tick) (down : Bool) : Port :=
  if q.sending now = true ∧ q.skipAt + 4096 ≤ symTime now then { q.put down [.skips 1] with skipAt := q.skipAt + 4096 } else q

/-- The ticks that so many symbols take over a port's data lanes, rounded up (R261, R270). -/
def Port.symTicks (q : Port) (symbols : Nat) : Nat := ((symbols + q.width - 1) / q.width * 4 + 24) / 25

end Sys2Proof.Machine

namespace Sys2Proof

open Machine

/-- The lanes without an error in step 2 of training (Table 7-3). -/
def TrainIn.healthy (x : TrainIn) : List Nat := (List.range 5).filter fun l => decide ((x.errors[l]?).getD none = some 0)

/-- ((t4 − t1) − (t3 − t2)) of one exchange at the downstream end (R268): none for an echo that is not intact or is not of the
request that left at t1. -/
def Exchange.twice16 (x : Exchange) : Option Nat :=
  match ctrlSyms x.set with
  | some (0x12, d) =>
    if byteAt d 0 = 1 ∧ beNat (sliceAt d 1 8) = x.left16 % 2 ^ 64 then
      some ((x.came16 + 2 ^ 64 - x.left16 % 2 ^ 64 + 2 ^ 64 - beNat (sliceAt d 9 3)) % 2 ^ 64)
    else none
  | some _ => none
  | none => none

/-- The request that an exchange at the upstream end answers: its t1. -/
def Exchange.request (x : Exchange) : Option Nat :=
  match ctrlSyms x.set with
  | some (0x12, d) => if byteAt d 0 = 0 then some (beNat (sliceAt d 1 8)) else none
  | some _ => none
  | none => none

end Sys2Proof
end

