-- ==== Sys2Proof/Machine/Ops.lean ====
section
/-! DEFINITION. The operations that every chapter shares: settings, free values and draws, events and their audiences
(R164–R166), answers (R163), loop levels (R456) and the halt (R123). -/

namespace Sys2Proof

/-- The number of one instance of a path in the settings store. -/
def Key.code (k : Key) : Nat := (k.s.ctorIdx * 256 + k.i) * 256 + k.j

/-- A stored number; a string or bytes count as 0. -/
def Val.int : Val → Int
  | .num v => v
  | .text _ => 0
  | .bytes _ => 0

end Sys2Proof

namespace Sys2Proof.Machine

/-! ## Settings -/

/-- The value in force of one instance of a path. -/
def State.val (s : State) (k : Key) : Val := (SMap.find s.cfg k.code).getD k.dflt

/-- The number in force of a setting. -/
def State.int (s : State) (x : Setting) (i : Nat := 0) (j : Nat := 0) : Int := (s.val ⟨x, i, j⟩).int

/-- The number in force of a setting that is never negative. -/
def State.nat (s : State) (x : Setting) (i : Nat := 0) (j : Nat := 0) : Nat := (s.int x i j).toNat

/-- Whether a switch is on. -/
def State.on (s : State) (x : Setting) (i : Nat := 0) (j : Nat := 0) : Bool := decide (s.int x i j = 1)

/-- The bytes in force of a setting. -/
def State.bytesOf (s : State) (k : Key) : List Byte :=
  match s.val k with
  | .bytes b => b
  | .num _ => []
  | .text _ => []

/-- The string in force of a setting. -/
def State.textOf (s : State) (k : Key) : List Char :=
  match s.val k with
  | .text t => t
  | .num _ => []
  | .bytes _ => []

/-- The state with one instance of a path set. -/
def State.setVal (s : State) (k : Key) (v : Val) : State := { s with cfg := SMap.put k.dflt s.cfg k.code v }

/-- The value that a list of settings gives a path. -/
def valOf : List (Key × Val) → Key → Option Val
  | [], _ => none
  | (k, v) :: vs, q => if k = q then some v else valOf vs q

/-- The state with several settings set. -/
def State.setVals (s : State) (vs : List (Key × Val)) : State := vs.foldl (fun t p => t.setVal p.1 p.2) s

/-- The staged value of a staged setting: what was written since the last commit, else the value in force. -/
def State.stagedVal (s : State) (k : Key) : Val := (SMap.find s.staged k.code).getD (s.val k)

/-- The value that an entry's setting will have once what has been committed takes effect (R434). -/
def State.comingVal (s : State) (k : Key) : Val := (valOf (s.fe.nextEntries.flatMap (·.2)).reverse k).getD (s.val k)

/-- The value that an entry's setting has in a commit of its turret: the staged one, else what was committed last (R434). -/
def State.entryVal (s : State) (k : Key) : Val := (SMap.find s.staged k.code).getD (s.comingVal k)

/-- The staged number of a staged setting. -/
def State.stagedInt (s : State) (x : Setting) (i : Nat := 0) (j : Nat := 0) : Int := (s.stagedVal ⟨x, i, j⟩).int

/-- The state with one staged value written. -/
def State.stageVal (s : State) (k : Key) (v : Val) : State := { s with staged := SMap.ins s.staged k.code v }

/-- The state with the staged values of some paths dropped. -/
def State.dropStaged (s : State) (p : Nat → Bool) : State := { s with staged := s.staged.filter fun e => !p e.1 }

/-! ## Free values and draws -/

/-- The next free value (log entry 3). -/
def State.freeNat (s : State) : Nat := Config.freeNat s.sys.free

/-- The next free value as an integer. -/
def State.freeInt (s : State) : Int := Config.freeInt s.sys.free

/-- The next free value as a number of any size or sign. -/
def State.freeFrac (s : State) : Frac := Frac.make s.freeInt (s.freeNat + 1)

/-- A free value has been used. -/
def State.useFree (s : State) : State := s.onSys fun y => { y with free := y.free + 1 }

/-- The next draw of `n` bytes from the random source (R555). -/
def State.draw (s : State) (n : Nat) : List Byte := Config.draw s.sys.draws n

/-- The next 64-bit challenge (R126, R172). -/
def State.drawChallenge (s : State) : Nat := Config.drawChallenge s.sys.draws

/-- A draw has been made. -/
def State.useDraw (s : State) : State :=
  (s.onSys fun y => { y with draws := y.draws + 1 }).onDome fun d => { d with rngReqs := d.rngReqs + 1 }

/-! ## Module state and islands -/

/-- Whether the module is in RUN or PAUSED: it sorts. -/
def State.sorting (s : State) : Bool := decide (s.sys.state = .run ∨ s.sys.state = .paused)

/-- Whether the module is in READY, RUN or PAUSED. -/
def State.serving (s : State) : Bool := decide (s.sys.state = .ready) || s.sorting

/-- Whether the Keep has gated an island, with the mask in effect (R68). -/
def State.gated (s : State) (isl : Nat) : Bool := s.isl.gate.testBit isl

/-- Whether the verify fence holds the outputs of an island that leave now (R480, R481, Table 14-4): a read that its requester has
received is unchecked. A halt ends it, and nothing is read in OFF (log entry 41). -/
def State.fenced (s : State) (requester : Nat) : Bool :=
  decide (s.sys.state ≠ .halted ∧ s.sys.state ≠ .off) && !(s.getReqr requester).pend.isEmpty

/-- An output of an island that is ready waits for the verify fence (R480, R482). -/
def State.holdFor (s : State) (requester : Nat) : State :=
  s.modReqr requester fun q => { q with heldAt := some (q.heldAt.getD s.now) }

/-- Whether the module is Sealed (R8). -/
def State.isSealed (s : State) : Bool := decide (s.sys.mode = .sealed)

/-- The digest engine has work (R70): a crossing into I05 wakes it where it had gated itself, and its idle time begins anew. -/
def State.useDigest (s : State) : State := s.onIsl fun i => { i with auto05 := false, busy05 := s.now }

/-- The public-key engine has work (R70). -/
def State.usePke (s : State) : State := s.onIsl fun i => { i with auto06 := false, busy06 := s.now }

/-- The module's own address as its lines carry it: none until it has one (R163, R164). -/
def State.addr? (s : State) : Option Nat := if s.tower.addr = 0 then none else some s.tower.addr

/-! ## Events -/

/-- Who hears an event (Table 4-4). `turret n k` is the sessions of turret `n`, and those of the Keep where `k`; `keepAndChain` is
session 0 and every session logged in to the Keep (R216). -/
inductive Aud where
  | all
  | keep
  | turret (n : Nat) (keepToo : Bool)
  | one (sess : Nat)
  | keepAndChain
  deriving DecidableEq, Repr

/-- Whether an open session belongs to an audience and its `events` setting passes the event (R165). -/
def State.hears (s : State) (a : Aud) (src : String) (k : Nat) : Bool :=
  let y := s.getSess k
  y.isOpen &&
  (match s.int .sessEvents k with
   | 0 => true
   | 1 => decide (src = "sys")
   | _ => false) &&
  (match a with
   | .all => true
   | .keep => decide (y.login = some 0)
   | .turret n kt => decide (y.login = some n) || (kt && decide (y.login = some 0))
   | .one q => decide (k = q)
   | .keepAndChain => decide (k = 0) || decide (y.login = some 0))

/-- The bound on a session's queued events (R166). -/
def maxEvents : Nat := 64

/-- An event joins a session's queue, or is dropped and counted while the queue is full (R166). -/
def State.queueEvent (s : State) (k : Nat) (l : OutLine) : State :=
  s.modSess k fun y =>
    if y.events.length < maxEvents then { y with events := y.events ++ [{ l with ready := y.ready }], ready := y.ready + 1 }
    else { y with dropped := satInc y.dropped, eventsLost := satInc y.eventsLost }

/-- An event line (R15, R164): it carries the module's address whenever there is one, never a tag, and the count at which it was
reported (log entry 62). -/
def State.eventLine (s : State) (src word : String) (fs : List Fld) : OutLine :=
  { addr := s.addr?, tag := none, body := .ev src word fs, tick := some s.now }

/-- An event is raised: it joins the queue of every session of its audience (R165). -/
def State.emit (s : State) (a : Aud) (src word : String) (fs : List Fld) : State :=
  [0, 1, 2, 3].foldl (fun t k => if t.hears a src k then t.queueEvent k (s.eventLine src word fs) else t) s

/-- The place of a module state in `sys.state`. -/
def MState.place : MState → Nat
  | .off => 0 | .start => 1 | .watch => 2 | .ready => 3 | .run => 4 | .paused => 5 | .halted => 6

/-- The word of a module state (Table 0-2). -/
def MState.word : MState → String
  | .off => "OFF" | .start => "START" | .watch => "WATCH" | .ready => "READY" | .run => "RUN" | .paused => "PAUSED"
  | .halted => "HALTED"

/-- The module enters READY, RUN, PAUSED or HALTED and says so on every open session (R110). -/
def State.enter (s : State) (m : MState) : State :=
  (s.onSys fun y => { y with state := m }).emit .all "sys" "state" [.word m.word]

/-! ## Answers -/

/-- The words of the error codes (Table 4-5). -/
def erWord (code : Nat) : String :=
  match code with
  | 10 => "SYNTAX" | 11 => "DAMAGED" | 12 => "OVERRUN" | 13 => "FLOOD" | 14 => "TOO LONG" | 15 => "CHECK"
  | 20 => "NO PATH" | 21 => "RANGE" | 22 => "READ ONLY" | 23 => "STATE" | 30 => "DENIED" | 31 => "LOGIN"
  | 32 => "LOCKOUT" | 40 => "BUSY" | 41 => "LEAVE" | 42 => "ABORTED" | 50 => "CRYPTO" | 60 => "HALTED"
  | 61 => "LINK DOWN" | 70 => "HARDWARE" | _ => "INTERNAL"

/-- A line of an answer: it carries the module's address when the command's line carried one and the module has one,
and the line's tag (R163). -/
def State.answerLine (s : State) (r : ReplyTo) (b : LineBody) (final : Bool) : OutLine :=
  { addr := if r.addrd then s.addr? else none, tag := r.tag, body := b, final := final, ready := (s.getSess r.sess).ready }

/-- The lines of an answer join the output of an open session, in one piece (R161, R163). -/
def State.say (s : State) (r : ReplyTo) (dat : List LineBody) (b : LineBody) : State :=
  s.modSess r.sess fun y =>
    if y.isOpen = true ∧ r.gen = y.gen then
      { y with out := y.out ++ dat.map (s.answerLine r · false) ++ [s.answerLine r b true], ready := y.ready + 1,
               lastActive := s.now }
    else y

/-- A command ends: the session's running untagged command, or its job, whose entry waits for the answer to be sent
(R180–R182). A closed session's answer is discarded (R186) and its entry freed. -/
def State.release (s : State) (r : ReplyTo) : State :=
  match r.tag with
  | none => s.modSess r.sess fun y => { y with running := y.running.filter fun c => decide (c.2 ≠ r) }
  | some _ =>
    { s with jobs :=
        if (s.getSess r.sess).isOpen = true ∧ r.gen = (s.getSess r.sess).gen then
          s.jobs.map fun j => if j.reply = r then { j with answered := true } else j
        else s.jobs.filter fun j => decide (j.reply ≠ r) }

/-- A command is answered and ends. -/
def State.finish (s : State) (r : ReplyTo) (dat : List LineBody) (b : LineBody) : State :=
  (s.say r dat b).release r

/-- A command is answered `OK` with fields. -/
def State.ok (s : State) (r : ReplyTo) (fs : List Fld) : State := s.finish r [] (.ok fs)

/-- A command is answered with data lines, then `OK` and their count (R161). -/
def State.okLines (s : State) (r : ReplyTo) (ls : List (List Fld)) : State :=
  s.finish r (ls.map .data) (.ok [.int ls.length])

/-- A command is answered `ER`. -/
def State.er (s : State) (r : ReplyTo) (code : Nat) (detail : List Fld := []) : State := s.finish r [] (.er code detail)

/-- A command that may have no one to answer is answered `OK`. -/
def State.okTo (s : State) (r : Option ReplyTo) (fs : List Fld) : State :=
  match r with
  | none => s
  | some r => s.ok r fs

/-- A command that may have no one to answer is answered `ER`. -/
def State.erTo (s : State) (r : Option ReplyTo) (code : Nat) (detail : List Fld := []) : State :=
  match r with
  | none => s
  | some r => s.er r code detail

/-- Whether the command that is to be answered is still in flight. -/
def State.inFlight (s : State) (r : ReplyTo) : Bool :=
  match r.tag with
  | none => match (s.getSess r.sess).running with
    | some c => decide (c.2 = r)
    | none => false
  | some _ => s.jobs.any fun j => decide (j.reply = r) && !j.answered

/-- A job's entry and tag are free: its answer has been sent (R182). -/
def Job.gone (j : Job) (now : Tick) : Bool := j.leaves.any fun t => decide (t ≤ now)

/-- The entries of the job table that are not free (R181, R182). -/
def State.liveJobs (s : State) : List Job := s.jobs.filter fun j => !j.gone s.now

/-! ## The IR format in force (R231) -/

/-- Whether the answer that a change of a serial format waits for has been sent, or will never be: it waits no longer, and no part
of it has been kept back for flood (R217). -/
def State.answerSent (s : State) (w : AnsWait) : Bool :=
  match w.until_ with
  | some t => decide (t ≤ s.now)
  | none =>
    decide ((s.getSess w.sess).gen ≠ w.gen) ||
    !((s.getSess w.sess).out.any (fun l => decide (l.ready = w.ready)) ||
      (decide (w.sess = 1) && s.serial.irRest.any fun x => decide (x.1.ready = w.ready)))

/-- The answer that a session gives next, to be waited for. -/
def State.nextAnswer (s : State) (r : ReplyTo) : AnsWait :=
  { sess := r.sess, gen := (s.getSess r.sess).gen, ready := (s.getSess r.sess).ready }

/-- The answers that a change of format waits for, each changed. -/
def Serial.mapAnswers (p : Serial) (f : AnsWait → AnsWait) : Serial :=
  { p with fmtWait := p.fmtWait.map f, irHold := p.irHold.map fun h => { h with ans := f h.ans } }

/-- The rate and the pulse setting by which the IR port works now. -/
def State.irFormat (s : State) : Nat × Nat :=
  match s.serial.irHold.filter fun h => !s.answerSent h.ans with
  | some h => (h.baud, h.pulse)
  | none => (s.nat .irBaud, s.nat .irPulse)

/-- A `SET` of the IR format has been accepted, and its answer is the session's next: what is in force now stays so until that has
been sent. -/
def State.holdIr (s : State) (r : ReplyTo) : State :=
  s.onSerial fun p => { p with irHold := some { baud := s.irFormat.1, pulse := s.irFormat.2, ans := s.nextAnswer r } }

/-! ## Loop levels -/

/-- The code of a current in millionths of a mA (R456): D = round((I − 3.5 mA) / 0.3 µA), halves up. -/
def loopCode (ma6 : Int) : Nat := min (roundDivUp (ma6 - 3500000) 300).toNat 65000

/-- The current of a code, in millionths of a mA (R456). -/
def loopMa6 (code : Nat) : Int := 3500000 + 300 * (code : Int)

/-- A loop is commanded to carry a current. A loop that failed its check stays disabled until the next START (R467). -/
def CLoop.carry (c : CLoop) (ma6 : Int) (st : LoopState) : CLoop :=
  if c.state = .fault then c else { c with ma6 := ma6, code := loopCode ma6, off := false, state := st }

/-- A loop carries its alarm level, or the fallback that already stands in its place (R457, R464). -/
def CLoop.alarm (c : CLoop) (alarm6 : Int) : CLoop := if c.state = .fallback then c else c.carry alarm6 .alarm

/-- Every loop carries its alarm level (R123). -/
def State.loopsAlarm (s : State) : State :=
  [1, 2].foldl (fun t n => t.modLoop n fun c => c.alarm (s.int .loopAlarmMa n)) s

/-! ## Time queued at the ledger (R107) -/

/-- Ticks queued join `ledger.n.wait` (R107). -/
def Ledger.addWait (l : Ledger) (turret ticks : Nat) : Ledger :=
  { l with wait := SMap.put 0 l.wait turret (SMap.look 0 l.wait turret + ticks) }

/-- The queued requests that a test names leave the queue, and the time they were queued is counted (R107). -/
def Ledger.withdraw (l : Ledger) (now : Tick) (p : Req → Bool) : Ledger :=
  { ((l.reqs.filter p).foldl (fun l q => l.addWait q.turret (now - q.filed)) l) with reqs := l.reqs.filter fun q => !p q }

/-- Every grant and standing reservation is released and every queued request is withdrawn (R105, R123). -/
def Ledger.clear (l : Ledger) (now : Tick) : Ledger :=
  { l.withdraw now fun _ => true with grants := [], charges := [], strobe := none, stepper := none }

/-- The time that a valve request has been queued: from its scheduled start (R107). -/
def Action.waited (a : Action) (now : Tick) : Nat := if a.stage = .filed then now - a.waitFrom else 0

/-- The time that valve requests were queued is counted as they leave the queue (R107). -/
def State.countWaits (s : State) (as : List Action) : State :=
  s.onLedger fun l => as.foldl (fun l a => l.addWait a.turret (a.waited s.now)) l

/-! ## Valves, link ports and sessions at a stop -/

/-- Every valve off, with nothing queued; a channel latched OPEN or SHORT stays latched (R419). -/
def State.valvesOff (s : State) : State :=
  (s.countWaits s.eject.queue).onEject fun y =>
    { y with queue := [],
             valves := y.valves.map fun v =>
               (v.1, if v.2.state = .peak ∨ v.2.state = .hold then { v.2 with state := v.2.latch.rest } else v.2) }

/-- A port in electrical idle: nothing of the link is left but its counters and what it has put on the wire. -/
def Port.quiet (p : Port) : Port :=
  { Port.init with
      crcErrors := p.crcErrors, replays := p.replays, laneReps := p.laneReps, downs := p.downs,
      framesLost := p.framesLost, authRejects := p.authRejects, xoffs := p.xoffs, out := p.out, wire := p.wire,
      beaconAt := p.beaconAt }

/-- A session that has ended: nothing is left of it but its lost-event count, its failed responses and its lockouts. -/
def Sess.closed (y : Sess) : Sess :=
  { Sess.init with fails := y.fails, lockEnd := y.lockEnd, eventsLost := y.eventsLost, gen := y.gen + 1 }

/-! ## The halt -/

/-- Whether a port's transmitters leave electrical idle: after step 12 of START, outside WATCH, HALTED and OFF, with the
port enabled and LINK D not gated (R114, R119, R306, Table 2-1). -/
def State.portLive (s : State) (p : Nat) : Bool :=
  (match s.sys.state with
   | .start => decide (12 ≤ s.sys.step)
   | .ready | .run | .paused => true
   | .off | .watch | .halted => false) &&
  decide (p < 2) && s.on .linkEnable p && !(decide (p = 1) && s.gated 21)

/-- HALT ordered sets leave on a live port: 16 of them, and the port falls into electrical idle (R123, R305). -/
def State.haltPorts (s : State) (i : HaltInfo) : State :=
  [0, 1].foldl (fun t p =>
    t.modPort p fun q =>
      (q.put (decide (p = 0)) (if s.portLive p then List.replicate 16 (.halt i) else [])).quiet) s

/-- The flash at a halt: an operation in progress completes, no new one starts (R123). -/
def Nv.stopped (n : Nv) : Nv :=
  { n with writes := [], erases := [], erasing := n.erasing.filter (·.granted),
           running := (n.running.filter fun w => w.granted).map fun w =>
             { w with reply := none, onCommit := .answer, stopNext := true } }

/-- The sessions at a halt: every login of every session ends, every session but the chain's closes, and the chain's
commands wait for `HALT_ANNOUNCE` (R124, R125). -/
def State.haltSessions (s : State) : State :=
  let c := s.getSess 0
  { s with
    sess := SMap.put Sess.init [] 0
      { Sess.init with isOpen := true, running := c.running, waiting := c.waiting, out := c.out, events := c.events,
                       dropped := c.dropped, eventsLost := c.eventsLost, ready := c.ready, lastCheck := c.lastCheck,
                       lastActive := c.lastActive, gen := c.gen },
    jobs := s.jobs.filter fun j => decide (j.sess = 0) }

/-- The stores that a halt zeroises (R123, R128): the DRAM cipher keys, and with them all that DRAM holds; the keys of
turrets, streams and Dome; operand memories. -/
def State.zeroise (s : State) : State :=
  { s with
    ram := s.ram.flash, turrets := [], streams := [], capture := { s.capture with recs := [] },
    mem := { s.mem with gens := [], written := [], rekey := [], scrubWaits := false, scrubRuns := false, keyBase := 0,
                        keyDraw := [], stalled := [], blobs := [] },
    dome := { s.dome with queue := [], jobs := [], turs := s.dome.turs.map fun d => (d.1, { d.2 with handles := [] }),
                          microDirty := false, part := false } }

/-- The outputs and the ledger at a halt (Table 3-5): both VCOM switches open, the Lantern off, the coils shorted for
braking, the front end open, head supplies off, grants released and requests withdrawn, the IR port mute. -/
def State.haltOutputs (s : State) : State :=
  { s with
    pwr := { s.pwr with vcom := [] },
    lantern := { s.lantern with on := 0, slot := none, cur := none, prev := none, waits := [], pulseAt := none, calib := none },
    feed := { s.feed with speed := 0, cmd := {}, ramping := false, braked := true },
    fe := { s.fe with pass := none, urgents := [], checks := [], reads := [], slot := none, commits := [] },
    nv := s.nv.stopped,
    ledger := s.ledger.clear s.now,
    heads := s.heads.map fun h => (h.1, { h.2 with state := .absent, v5 := 0, v12 := false }),
    serial := { s.serial with irLine := {}, irTaken := 0, irHeld := [], irTxEnd := 0, irRest := none, irHold := none } }

/-- A halt latches its cause with its timestamp (R126). -/
def State.latchHalt (s : State) (cause : Nat) : State :=
  s.onSys fun y => { y with halt := some { cause := cause, tick := s.now }, stopReply := none, watchEntry := false,
                            waking := none }

/-- A further cause while HALTED (R141): of two causes in one tick the lower is the one latched, and the other sets its bit in the
mask; any later one sets its bit. -/
def HaltRec.further (h : HaltRec) (cause : Nat) (now : Tick) : HaltRec :=
  if h.tick = now ∧ cause < h.cause then { h with cause := cause, mask := h.mask ||| 2 ^ h.cause }
  else { h with mask := h.mask ||| 2 ^ cause }

/-- A halt cause is detected (R122, R123). The first is latched with its timestamp and the actions of Table 3-5 are
taken; a further one is kept as R141 says. -/
def State.halt (s : State) (cause : Nat) : State :=
  match s.sys.state with
  | .off => s
  | .halted => s.onSys fun y => { y with halt := y.halt.map fun h => h.further cause s.now }
  | .start | .watch | .ready | .run | .paused =>
    (((((((s.haltPorts ⟨s.tower.addr, cause, s.now⟩).valvesOff).loopsAlarm).zeroise).haltSessions).haltOutputs).latchHalt
      cause).enter .halted

/-- Halt causes (Table 3-4). -/
abbrev causeTag : Nat := 1
/-- Halt cause 02: the firmware signature. -/
abbrev causeFirmware : Nat := 2
/-- Halt cause 03: the microcode signature. -/
abbrev causeMicrocode : Nat := 3
/-- Halt cause 04: a signature self-check. -/
abbrev causeSelfCheck : Nat := 4
/-- Halt cause 05: L24 lost. -/
abbrev causePower : Nat := 5
/-- Halt cause 06: the junction. -/
abbrev causeHot : Nat := 6
/-- Halt cause 07: the watchdog. -/
abbrev causeWatchdog : Nat := 7
/-- Halt cause 08: the key store or the epoch. -/
abbrev causeKeyStore : Nat := 8
/-- Halt cause 09: tamper. -/
abbrev causeTamper : Nat := 9
/-- Halt cause 10: `DO sys.halt`. -/
abbrev causeCommand : Nat := 10

/-- Whether an action of a valve has started (R80). -/
def Action.running (a : Action) : Bool := decide (a.stage = .peak ∨ a.stage = .hold)

end Sys2Proof.Machine
end

