-- ==== Sys2Proof/Machine/Ledger.lean ====
section
/-! DEFINITION. The ledger (R76–R107): its budgets, its queue of requests other than a valve's, standing reservations,
and the room that a valve action finds in shares of peak and of average. -/

namespace Sys2Proof.Machine

/-! ## Budgets (Table 2-2) -/

/-- The P24 peak in total, mA (Table 2-2). -/
abbrev peakTotal : Nat := 32000
/-- The L24 headroom, mW (Table 2-2). -/
abbrev l24Headroom : Nat := 2500
/-- The window of the P24 average: 100 ms (Table 2-2). -/
abbrev avgWindow : Nat := 10000000
/-- The payer that stands for the unassigned part of the pool. -/
abbrev unassigned : Nat := 64

/-- The valve pool, `eject.peak_budget` (R83). -/
def State.valvePool (s : State) : Nat := s.nat .ejectPeakBudget

/-- The peak of the standing reservations. -/
def Ledger.standPeak (l : Ledger) : Nat :=
  (match l.strobe with | some p => p.1 | none => 0) + (match l.stepper with | some p => p.1 | none => 0)

/-- The average of the standing reservations. -/
def Ledger.standAvg (l : Ledger) : Nat :=
  (match l.strobe with | some p => p.2 | none => 0) + (match l.stepper with | some p => p.2 | none => 0)

/-- The L24 cost of the grants held. -/
def Ledger.l24Used (l : Ledger) : Nat := (l.grants.map (·.l24)).sum

/-- The non-valve peak of the grants held (ramps). -/
def Ledger.rampPeak (l : Ledger) : Nat := (l.grants.map (·.peak)).sum

/-- Whether standing reservations of these peaks and averages fit their budgets (R91–R93). -/
def State.standingFits (s : State) (strobe stepper : Option (Nat × Nat)) : Bool :=
  let l := { s.ledger with strobe := strobe, stepper := stepper }
  decide (l.standPeak ≤ peakTotal - s.valvePool) && decide (l.standAvg ≤ s.nat .ledgerAvgLimit)

/-! ## Requests (R77–R79, Table 2-3) -/

/-- The cost in L24 mW of a class (Table 2-3). -/
def Cls.l24 : Cls → Nat
  | .pke => 380 | .flash => 250 | .train => 600 | .excite => 450 | .mem => 300
  | .valve => 0 | .strobe => 0 | .stepper => 0

/-- The name column of Table 2-3. -/
def Cls.word : Cls → String
  | .valve => "valve" | .strobe => "strobe" | .stepper => "stepper" | .pke => "pke" | .flash => "flash"
  | .train => "train" | .excite => "excite" | .mem => "mem"

/-- The number of a class in `ledger.refused`, by the order of Table 2-3. -/
def Cls.code : Cls → Nat
  | .valve => 0 | .strobe => 1 | .stepper => 2 | .pke => 3 | .flash => 4 | .train => 5 | .excite => 6 | .mem => 7

/-- The record that the running write belongs to. -/
def State.writeSafety (s : State) : Bool :=
  match s.nv.running with
  | some w => decide (w.record = .epoch ∨ w.record = .keystore)
  | none => false

/-- A request that cannot be granted for a reason other than room (R78): it holds back no other. -/
def State.heldBack (s : State) (r : Req) : Bool :=
  match r.cls with
  | .flash => !(s.pwr.above19 && s.pwr.holdCharged && s.pwr.l24Valid)
  | .train => decide (s.sys.state = .start ∧ s.sys.step < 12)
  | .valve | .strobe | .stepper => s.pwr.p24Low || !s.serving
  | .pke | .excite | .mem => false

/-- Whether two requests draw on a common budget (R78): the L24 headroom, or the non-valve peak. -/
def Req.meets (a b : Req) : Bool := (decide (0 < a.l24) && decide (0 < b.l24)) || (decide (0 < a.peak) && decide (0 < b.peak))

/-- The island that files a request (Table 2-1): I02 for flash, I04 for memory passes, I06 for public-key operations, I16 for the
stepper, I17 for excitation, I20 and I21 for training of LINK U and LINK D. -/
def ReqFor.island : ReqFor → Nat
  | .accel _ => 16 | .flashWrite => 2 | .flashErase => 2 | .pkeOp _ => 6 | .train p => 20 + p | .excite => 17
  | .rekey _ _ => 4 | .scrub => 4

/-- The order of filing (R78, R97): by tick, then by the filer's island, then by turret, then as they came. -/
def Req.earlier (a b : Req) : Bool :=
  if a.filed ≠ b.filed then decide (a.filed < b.filed)
  else if a.what.island ≠ b.what.island then decide (a.what.island < b.what.island)
  else if a.turret ≠ b.turret then decide (a.turret < b.turret)
  else decide (a.id < b.id)

/-- Whether a request is served before another (R78): by priority, then by filing. -/
def Req.before (a b : Req) : Bool := decide (a.prio < b.prio) || (decide (a.prio = b.prio) && a.earlier b)

/-- Whether every budget the request draws on has room for it (R76). -/
def State.fits (s : State) (r : Req) : Bool :=
  (decide (r.l24 = 0) || decide (s.ledger.l24Used + r.l24 ≤ l24Headroom)) &&
  (decide (r.peak = 0) ||
    decide (s.ledger.standPeak + s.ledger.rampPeak + r.peak ≤ peakTotal - s.valvePool))

/-- A request that has not been granted by its deadline can only be refused (R79). Room that appears in the tick of the deadline
still counts (Table 2-4). -/
def Req.overdue (r : Req) (now : Tick) : Bool := decide (r.deadline < now)

/-- Whether the ledger may grant a queued request now (R78, R79). -/
def State.grantable (s : State) (r : Req) : Bool :=
  !r.overdue s.now && !s.heldBack r && s.fits r &&
  !(s.ledger.reqs.any fun q => q.before r && q.meets r && !s.heldBack q && !q.overdue s.now)

/-- What a grant starts: the flash operation, the public-key operation, training, excitation or the pass that asked for
it may begin. -/
def State.started (s : State) (w : ReqFor) : State :=
  match w with
  | .accel goal => s.onFeed fun f => if f.pauses = 0 then { f with speed := goal, state := .accel } else f
  | .flashWrite => s.onNv fun n => { n with running := n.running.map fun w => { w with granted := true } }
  | .flashErase => s.onNv fun n => { n with erasing := n.erasing.map fun e => { e with granted := true } }
  | .pkeOp id => s.onDome fun d => { d with queue := d.queue.map fun j => if j.id = id then { j with granted := true } else j }
  | .train p => s.modPort p fun q => { q with state := .training, trainReq := false, grantAt := s.now, skipAt := symTime s.now }
  | .excite =>
    (s.onNv fun n => { n with writes := n.writes ++ s.fe.commits }).onFe fun f => { f with excWanted := false, commits := [] }
  | .scrub => s.onMem fun m => { m with scrubRuns := true, scrubWaits := false }
  | .rekey o r => s.onMem fun m =>
    { m with rekey := m.rekey.map fun j => if j.owner = o ∧ j.region.code = r then { j with granted := true, since := s.now } else j }

/-- The ledger grants a request: it leaves the queue, its budgets are held and what it is for starts (R78, R80). -/
def State.grant (s : State) (r : Req) : State :=
  (s.onLedger fun l => { (l.addWait r.turret (s.now - r.filed)) with
    reqs := l.reqs.filter fun q => decide (q.id ≠ r.id), grants := l.grants ++ [r] }).started r.what

/-- The first of some requests by the order of R78. -/
def firstReq (rs : List Req) : Option Req :=
  rs.foldl (fun a r => match a with
    | none => some r
    | some q => if r.before q then some r else some q) none

/-- The first request, by the order of R78, that may be granted. One filed in this tick is judged when the tick ends, with all that
were filed in it (R77, R97). -/
def State.firstGrant (s : State) : Option Req :=
  firstReq (s.ledger.reqs.filter fun r => decide (r.filed < s.now) && s.grantable r)

/-- Grant the first request that may be granted, if any. -/
def State.grantNext (s : State) : State :=
  match s.firstGrant with
  | some r => s.grant r
  | none => s

/-- As many requests as may be granted are granted, one after the other in the order of R78. -/
def State.grantAll : Nat → State → State
  | 0, s => s
  | n + 1, s => match firstReq (s.ledger.reqs.filter s.grantable) with
    | some r => State.grantAll n (s.grant r)
    | none => s

/-- The tick ends for the ledger: what was filed in it is granted where its budgets have room and nothing ahead of it waits (R77, R78,
R97). -/
def State.ledgerTick (s : State) : State := State.grantAll s.ledger.reqs.length s

/-- File a request (R77): it joins the queue, and the end of the tick grants it where it may. -/
def State.file (s : State) (cls : Cls) (turret peak prio wait : Nat) (what : ReqFor) : State :=
  s.onLedger fun l => { l with
    reqs := l.reqs ++ [{ id := l.nextId, cls := cls, turret := turret, peak := peak, l24 := cls.l24, prio := prio,
                         filed := s.now, deadline := s.now + wait, what := what }],
    nextId := l.nextId + 1 }

/-- The grants for some purpose are released (R80). -/
def State.releaseGrant (s : State) (what : ReqFor) : State :=
  s.onLedger fun l => { l with grants := l.grants.filter fun q => decide (q.what ≠ what) }

/-- The queued requests and grants for some purpose are withdrawn (Table 2-4). -/
def State.withdrawReq (s : State) (what : ReqFor) : State :=
  s.onLedger fun l =>
    { l.withdraw s.now fun q => decide (q.what = what) with grants := l.grants.filter fun q => decide (q.what ≠ what) }

/-- An acceleration that waits for its grant is withdrawn: the roll is to speed up no more (R320). -/
def State.withdrawAccel (s : State) : State := s.onLedger fun l => l.withdraw s.now fun q => decide (q.cls = .stepper)

/-- The stepper's acceleration requests and grants are withdrawn: the roll stands. -/
def State.dropAccel (s : State) : State :=
  s.withdrawAccel.onLedger fun l => { l with grants := l.grants.filter fun q => decide (q.cls ≠ .stepper) }

/-- The request of the queue with the earliest deadline, the earlier filed of two. -/
def State.firstDue (s : State) : Option Req :=
  s.ledger.reqs.foldl
    (fun a r => match a with
      | none => some r
      | some q => if r.deadline < q.deadline then some r else some q) none

/-- A refusal is counted under its class, `ledger.refused` (Table 2-6). -/
def State.countRefused (s : State) (c : Cls) : State :=
  s.onLedger fun l => { l with refused := SMap.put 0 l.refused c.code (satInc (SMap.look 0 l.refused c.code)) }

/-- A refused request leaves the queue and is counted under its class (R79). -/
def State.dropRefused (s : State) (r : Req) : State :=
  (s.onLedger fun l => { (l.addWait r.turret (s.now - r.filed)) with
    reqs := l.reqs.filter fun q => decide (q.id ≠ r.id) }).countRefused r.cls

/-- `ledger.cmd_deadline` of a turret, in ticks. -/
def State.cmdDeadline (s : State) (turret : Nat) : Nat := s.nat .ledgerCmdDeadline turret * msTicks

/-! ## Shares of peak and of average (R83–R89) -/

/-- The share of a payer in the valve pool: a turret's `peak_share`, or what no share covers (R83). -/
def State.peakShare (s : State) (payer : Nat) : Nat :=
  if payer = unassigned then s.valvePool - ((List.range 64).map fun n => s.nat .turretPeakShare n).sum
  else s.nat .turretPeakShare payer

/-- The hold current of a valve, mA. -/
def State.holdMa (s : State) (mm : Nat) : Nat := s.nat .valveHoldA mm / 1000

/-- The peak current of a valve, mA. -/
def State.peakMa (s : State) (mm : Nat) : Nat := s.nat .valvePeakA mm / 1000

/-- The end of a running action's peak: the peak time after its start, and no later than its end (R395). -/
def State.peakEnd (s : State) (a : Action) : Tick := min (a.s + s.nat .valvePeakUs a.valve * usTicks) a.e

/-- The parts that a hold current keeps of the parts of its peak (R80, R88): every part keeps its proportion, and the whole is the
hold current (log entry 14). `cum` is the peak current of the parts already seen. -/
def holdSplit (peak hold : Nat) : Nat → List (Nat × Nat) → List (Nat × Nat)
  | _, [] => []
  | cum, (p, x) :: ps => (p, (cum + x) * hold / peak - cum * hold / peak) :: holdSplit peak hold (cum + x) ps

/-- The parts of a peak as they stand during the hold (R80, R88). -/
def holdParts (parts : List (Nat × Nat)) (hold : Nat) : List (Nat × Nat) := holdSplit (parts.map (·.2)).sum hold 0 parts

/-- What a running action occupies at a tick (R80, R84): its peak until that ends, then its hold until the valve closes. -/
def State.partsAt (s : State) (a : Action) (t : Tick) : List (Nat × Nat) :=
  if a.e ≤ t then []
  else if a.stage = .peak ∧ s.peakEnd a ≤ t then holdParts a.parts (s.holdMa a.valve)
  else a.parts

/-- What the valve actions that run at a tick take of a payer's share (R80, R84, R88). -/
def State.peakUsed (s : State) (t : Tick) (payer : Nat) : Nat :=
  ((s.eject.queue.filter fun a => decide (a.stage = .peak ∨ a.stage = .hold)).map fun a =>
    (((s.partsAt a t).filter fun p => decide (p.1 = payer)).map (·.2)).sum).sum

/-- The room of a payer's share at a tick. -/
def State.peakRoom (s : State) (t : Tick) (payer : Nat) : Nat := s.peakShare payer - s.peakUsed t payer

/-- The valve average pool (R89). -/
def State.avgPool (s : State) : Nat := s.nat .ledgerAvgLimit - s.ledger.standAvg

/-- The charge that a payer's average share allows in one window, times `eject.peak_budget`, in millionths of a mA and ticks: the
share of R89 without a rounding. -/
def State.avgLimit (s : State) (payer : Nat) : Nat := s.avgPool * s.peakShare payer * avgWindow * 1000000

/-- How much of `[a, b)` lies in `[c, d)`. -/
def overlap (a b c d : Nat) : Nat := min b d - max a c

/-- The charge of a payer that falls in the window that ends at `e` (R76). -/
def windowUse (cs : List Charge) (payer e : Nat) : Nat :=
  ((cs.filter fun c => decide (c.payer = payer)).map fun c => c.mA6 * overlap c.from_ c.until_ (e - avgWindow) e).sum

/-- The current, in whole millionths of a mA, that a payer's average share can still carry over `[a, b)`, so that the charge of no
100 ms window exceeds the share (R76, R89; log entry 63). The charge in a window is linear in the window's end between the ends
listed here. -/
def State.avgRoom (s : State) (cs : List Charge) (payer a b want : Nat) : Nat :=
  let own := cs.filter fun c => decide (c.payer = payer)
  let ends := (own.flatMap fun c => [c.from_, c.until_, c.from_ + avgWindow, c.until_ + avgWindow]) ++
    [a, b, a + avgWindow, b + avgWindow]
  ends.foldl (fun x e =>
    let ov := overlap a b (e - avgWindow) e
    if ov = 0 then x
    else min x ((s.avgLimit payer - windowUse own payer e * s.valvePool) / (ov * s.valvePool))) want

/-- Who may pay for a turret's action, in the order of R88: its own share, and in Open mode the unassigned part and the
other turrets' shares in ascending number. -/
def State.payers (s : State) (turret : Nat) : List Nat :=
  if s.isSealed then [turret]
  else turret :: unassigned :: (List.range 64).filter fun n => decide (n ≠ turret ∧ 0 < s.peakShare n)

/-- Split a current over payers, each giving what room it has, in order; none when they cannot carry it all (R88). -/
def splitOver (room : Nat → Nat) : List Nat → Nat → Option (List (Nat × Nat))
  | [], need => if need = 0 then some [] else none
  | p :: ps, need =>
    if need = 0 then some []
    else
      let x := min need (room p)
      (splitOver room ps (need - x)).map fun r => if x = 0 then r else (p, x) :: r

/-- The charges of one span split over payers (R89). -/
def State.chargeSpan (s : State) (cs : List Charge) (act turret mA a b : Nat) : Option (List Charge) :=
  if mA = 0 ∨ b ≤ a then some []
  else (splitOver (fun p => s.avgRoom cs p a b (mA * 1000000)) (s.payers turret) (mA * 1000000)).map fun ps =>
    ps.map fun p => { act := act, payer := p.1, mA6 := p.2, from_ := a, until_ := b }

/-- The room that a valve action finds at its start: the parts of its peak, and the charges of its peak and its hold; none
when it finds no room (R76, R86, R88, R89). -/
def State.valveRoom (s : State) (act turret peak hold t0 t1 t2 : Nat) : Option (List (Nat × Nat) × List Charge) :=
  match splitOver (s.peakRoom t0) (s.payers turret) peak with
  | none => none
  | some parts =>
    match s.chargeSpan s.ledger.charges act turret peak t0 t1 with
    | none => none
    | some c1 =>
      match s.chargeSpan (s.ledger.charges ++ c1) act turret hold t1 t2 with
      | none => none
      | some c2 => some (parts, c1 ++ c2)

/-- New charges join those that some window from now on can still hold. -/
def Ledger.addCharges (l : Ledger) (now : Tick) (cs : List Charge) : Ledger :=
  { l with charges := (l.charges.filter fun c => decide (now < c.until_ + avgWindow)) ++ cs }

/-- An action ends: its charge stops. -/
def Ledger.endCharges (l : Ledger) (now : Tick) (act : Nat) : Ledger :=
  { l with charges := l.charges.filterMap fun c =>
      if c.act ≠ act then some c else if c.from_ < now then some { c with until_ := min c.until_ now } else none }

/-- `ledger.p24_peak_used` (Table 2-6): the P24 current of all grants and reservations, mA. -/
def State.p24PeakUsed (s : State) : Nat :=
  s.ledger.standPeak + s.ledger.rampPeak +
  ((s.eject.queue.filter fun a => decide (a.stage = .peak ∨ a.stage = .hold)).map fun a => ((s.partsAt a s.now).map (·.2)).sum).sum

/-- `ledger.p24_avg_used` (Table 2-6): the average over the last 100 ms, mA. -/
def State.p24AvgUsed (s : State) : Nat :=
  s.ledger.standAvg +
  ((s.ledger.charges.map fun c => c.mA6 * overlap c.from_ c.until_ (s.now - avgWindow) s.now).sum / (avgWindow * 1000000))

/-! ## Commands -/

/-- LEDGER_GRANT (R78): room has appeared, and the first request that may be granted is granted. -/
def execLedgerGrant (s : State) : Host.Outcome State Fault Refusal := .next s.grantNext

/-- LEDGER_P24_CHECK (R96): the measured average is compared with the limit; the event is raised once, until a comparison
finds the average at or below the limit again. -/
def execLedgerP24Check (measured : Nat) (s : State) : Host.Outcome State Fault Refusal :=
  .next (
    let t := s.onLedger fun l => { l with measured := measured }
    let lim := s.nat .ledgerAvgLimit
    if lim * 110 < measured * 100 then
      if s.ledger.overTold then t
      else (t.onLedger fun l => { l with overTold := true }).emit .keep "ledger" "p24-over" []
    else if measured ≤ lim then t.onLedger fun l => { l with overTold := false }
    else t)

end Sys2Proof.Machine
end

