-- ==== Sys2Proof/Machine/Nv.lean ====
section
/-! DEFINITION. The NV journal (R131–R143, R588): slots and their choice, record writes and their flash operations. -/

namespace Sys2Proof.Machine

/-! ## Where things stand in memory -/

/-- The flat address of a byte of a turret's blob (R507). -/
def blobAddr (turret b off : Nat) : Nat := 2 ^ 40 + turret * 2 ^ 32 + b * 2 ^ 24 + off

/-- The flat address of a byte of a staged class table; slots are numbered 4 × head + slot (R368, R370). -/
def stagedAddr (slot off : Nat) : Nat := 2 * 2 ^ 40 + slot * 2 ^ 32 + off

/-- The flat address of a byte of an active class table. -/
def activeAddr (slot off : Nat) : Nat := 3 * 2 ^ 40 + slot * 2 ^ 32 + off

/-- The bytes of a class table (R368). -/
abbrev tableBytes : Nat := 131072

/-! ## Slots (R136, R137, R143) -/

/-- A slot is valid: its marker is complete, it is not superseded, and its tags and digest verify (R136). -/
def Slot.valid (x : Slot) : Bool := decide (x.stage = .valid) && !x.bad && x.seq.isSome

/-- A slot is damaged: its marker is complete and it is not superseded, and another test fails (R143). -/
def Slot.damaged (x : Slot) : Bool := decide (x.stage = .valid) && (x.bad || x.seq.isNone)

/-- Sequence number `n` is later than `o`: their difference modulo 2^32 lies in 1 to 2^31 − 1 (R137). -/
def seqLater (n o : Nat) : Bool :=
  decide (1 ≤ (n + 2 ^ 32 - o) % 2 ^ 32 ∧ (n + 2 ^ 32 - o) % 2 ^ 32 ≤ 2 ^ 31 - 1)

/-- The slot that START uses: the valid one, the later of two (R137). -/
def Rec.choose (r : Rec) : Option Bool :=
  match r.a.valid, r.b.valid with
  | true, true => some (seqLater (r.b.seq.getD 0) (r.a.seq.getD 0))
  | true, false => some false
  | false, true => some true
  | false, false => none

/-- A slot of a record: false A, true B. -/
def Rec.slot (r : Rec) (b : Bool) : Slot := if b then r.b else r.a

/-- The record with a slot changed. -/
def Rec.setSlot (r : Rec) (b : Bool) (x : Slot) : Rec := if b then { r with b := x } else { r with a := x }

/-- The body in use; none while the default applies. -/
def Rec.body (r : Rec) : Body := match r.cur with
  | some b => (r.slot b).body
  | none => .none

/-- The record as START finds it (R136, R137, R143): the slot in use and the record's state. -/
def Rec.start (r : Rec) : Rec :=
  let c := r.choose
  let dmg := match c with
    | some b => (r.slot !b).damaged
    | none => false
  { r with
    cur := c
    state := match c with
      | none => .dflt
      | some _ => if dmg then .oneSlot else .ok
    lost := c.isNone
    damaged := dmg }

/-- The spare slot that a write goes to: the one that is not current; slot A when none is (R132). -/
def Rec.spare (r : Rec) : Bool := match r.cur with
  | some b => !b
  | none => false

/-- The sequence number of a write that starts: the current one plus 1 modulo 2^32; with no valid slot, 1 plus the highest number
that a complete header in either slot shows, or 1 (R132). -/
def Rec.nextSeq (r : Rec) : Nat :=
  match r.cur with
  | some b => (((r.slot b).seq.getD 0) + 1) % 2 ^ 32
  | none =>
    match r.a.seq, r.b.seq with
    | some x, some y => (max x y + 1) % 2 ^ 32
    | some x, none => (x + 1) % 2 ^ 32
    | none, some y => (y + 1) % 2 ^ 32
    | none, none => 1

/-! ## Record writes (R131–R134) -/

/-- Writes that wait or run, `nv.pending` (Table 3-9; log entry 98). -/
def State.nvPendingCount (s : State) : Nat := s.nv.writes.length + (if s.nv.running.isSome then 1 else 0)

/-- The turret that a record belongs to; the Keep's are turret 0's. -/
def recTurret : RecName → Nat
  | .epoch => 0 | .keystore => 0 | .shade => 0 | .config => 0 | .recipe n => n | .stats n => n

/-- The turret that a write serves (R77): the one it claims, else that of the command or MGMT stream that caused it, else the
owner of the record. -/
def State.servedBy (s : State) (w : Write) : Nat :=
  match w.onCommit with
  | .ks (.claim n _ _) => n
  | _ => match w.reply with
    | some (.traop r) => r.turret.getD 0
    | some (.mgmt st _) => s.nat .streamTurret st
    | none => recTurret w.record

/-- File a record write (R77, R134). -/
def State.fileWrite (s : State) (w : Write) : State :=
  s.onNv fun n => { n with writes := n.writes ++ [{ w with turret := s.servedBy w }] }

/-- Whether a write goes ahead of the others (R134). -/
def Write.urgent (w : Write) : Bool := decide (w.record = .epoch ∨ w.record = .keystore)

/-- Take the next write to start: the first of `epoch` or `keystore`, else the first filed (R134). -/
def nextWrite (ws : List Write) : Option (Write × List Write) :=
  match ws.find? (·.urgent) with
  | some w => some (w, ws.erase w)
  | none => match ws with
    | [] => none
    | w :: rest => some (w, rest)

/-- File the ledger request for the next erase or page program of the running write (R133). Its deadline is the
command's, or 5 s for an internal write; its priority is safety for `epoch` and `keystore` (Table 2-3). -/
def State.fileFlash (s : State) : State :=
  match s.nv.running with
  | none => s
  | some w =>
    s.file .flash w.turret 0 (if w.urgent then 0 else 2)
      (match w.reply with
       | some _ => s.cmdDeadline w.turret
       | none => 5 * secTicks) .flashWrite

/-- An erase of a slot outside a record write asks for its own grant (R82, R133): internal, with 5 s. -/
def State.fileErase (s : State) (rec : RecName) (slot : Bool) : State :=
  (s.onNv fun n => { n with erasing := some { record := rec, slot := slot } }).file .flash (recTurret rec) 0
    (if rec = .epoch ∨ rec = .keystore then 0 else 2) (5 * secTicks) .flashErase

/-- Whether the flash controller runs nothing (R134). -/
def Nv.idle (n : Nv) : Bool := n.running.isNone && n.erasing.isNone

/-- The turrets with an edit of the key store made (R497). -/
def KsEdit.apply (e : KsEdit) (ts : SMap Turret) : SMap Turret :=
  let upd (n : Nat) (f : Turret → Turret) := SMap.put Turret.init ts n (f (SMap.look Turret.init ts n))
  match e with
  | .none => ts
  | .create n salt => upd n fun _ => { state := .created, salt := salt }
  | .claim n owner kc =>
    upd n fun t => { t with
      state := .claimed
      owner := owner
      kc := kc
      slots := SMap.put KeySlot.init (SMap.put KeySlot.init (SMap.put KeySlot.init t.slots 0 ⟨.owner, owner ++ kc⟩)
        1 ⟨.login, kdf kc "KZ-LOGIN" [BitVec.ofNat 8 n] 32⟩) 2 ⟨.stream, kdf kc "KZ-STREAM" [BitVec.ofNat 8 n] 32⟩ }
  | .slot n k v => upd n fun t => { t with slots := SMap.put KeySlot.init t.slots k v }
  | .restore n => upd n fun t => { t with state := if t.owner = [] then .created else .claimed }
  | .seal => ts
  | .unseal => ts
  | .destroy _ => ts

/-- The mode with an edit of the key store made (R524, R525). -/
def KsEdit.mode (e : KsEdit) (m : Mode) : Mode :=
  match e with
  | .seal => .sealed
  | .unseal => .opn
  | .none => m
  | .create _ _ => m
  | .claim _ _ _ => m
  | .slot _ _ _ => m
  | .restore _ => m
  | .destroy _ => m

/-- The body that a write puts into the spare slot, as it stands when the write starts: the key store with the write's
edit, a turret's counters, or what was filed (R131). -/
def State.bodyOf (s : State) (w : Write) : Body :=
  match w.record with
  | .keystore => .keystore (match w.onCommit with
    | .ks e => ⟨e.mode s.sys.mode, e.apply s.turrets⟩
    | .answer => ⟨s.sys.mode, s.turrets⟩
    | .shade _ => ⟨s.sys.mode, s.turrets⟩
    | .recipe _ _ _ _ => ⟨s.sys.mode, s.turrets⟩
    | .epoch _ _ => ⟨s.sys.mode, s.turrets⟩)
  | .stats n => .stats (s.getStat n)
  | .epoch => w.body
  | .shade => w.body
  | .config => w.body
  | .recipe _ => w.body

/-- A record write starts (R132, R133): step 1 erases the spare slot, and is skipped when it is wholly erased. The checkpoints of all
turrets have one schedule, which the start of any of their writes moves (R588; log entry 95). -/
def State.startWrite (s : State) (w : Write) (rest : List Write) : State :=
  let r := s.getRec w.record
  let step := if (r.slot r.spare).stage = .erased then 2 else 1
  let w' := { w with step := step, pages := max 1 (Config.bodyPages w.record), body := s.bodyOf w, seq := r.nextSeq }
  let stat := match w.record with
    | .stats _ => true
    | .epoch => false | .keystore => false | .shade => false | .config => false | .recipe _ => false
  (s.onNv fun n => { n with
    writes := rest
    erases := n.erases.filter fun e => decide (e ≠ (w.record, r.spare))
    running := some w'
    ckLast := if stat then s.now else n.ckLast
    ckMade := n.ckMade && !stat }).fileFlash

/-- An erase that still waits for its grant makes way for a record write (R134, R135). -/
def State.shelveErase (s : State) : State :=
  if s.nv.erasing.any fun e => !e.granted then (s.withdrawReq .flashErase).onNv fun n => { n with erasing := none } else s

/-- RECORD_WRITE_START (R133, R134): the flash controller, running nothing, starts the next waiting write, and with none waiting
the next erase of what a destroyed turret left. -/
def execRecordWriteStart (s : State) : Host.Outcome State Fault Refusal :=
  .next (
    if s.serving ∨ s.sys.state = .start then
      match nextWrite s.nv.writes, s.nv.erases with
      | some (w, rest), _ => if s.shelveErase.nv.idle then s.shelveErase.startWrite w rest else s
      | none, (rec, slot) :: _ => if s.nv.idle then s.fileErase rec slot else s
      | none, [] => s
    else s)

/-- The flash effect of a completed erase or page program of the running write (Table 3-8). -/
def Write.flashEffect (w : Write) (r : Rec) : Rec :=
  let sp := r.spare
  match w.step with
  | 1 => r.setSlot sp Slot.init
  | 2 => r.setSlot sp { Slot.init with stage := .body }
  | 3 => r.setSlot sp { stage := .header, seq := some w.seq, body := w.body, bad := false }
  | 4 => r.setSlot sp { r.slot sp with stage := .valid }
  | _ => match r.cur with
    | some b => r.setSlot (!b) { r.slot (!b) with stage := .superseded }
    | none => r

/-- The flash after a supply collapse in the middle of an erase or page program (Table 3-8): a part-erased spare, a part
body, a part header, a part marker, or a superseded byte at least partly programmed. -/
def Write.collapseEffect (w : Write) (r : Rec) : Rec :=
  let sp := r.spare
  match w.step with
  | 1 => r.setSlot sp { Slot.init with stage := .partErased }
  | 2 => r.setSlot sp { Slot.init with stage := .body }
  | 3 => r.setSlot sp { Slot.init with stage := .body }
  | 4 => r.setSlot sp { r.slot sp with stage := .partMarker }
  | _ => match r.cur with
    | some b => r.setSlot (!b) { r.slot (!b) with stage := .superseded }
    | none => r

/-- The supply has collapsed under the flash controller: an operation in progress is cut short (Table 3-8). -/
def State.flashCollapse (s : State) : State :=
  let t := match s.nv.running with
    | some w => if w.granted then s.modRec w.record w.collapseEffect else s
    | none => s
  let u := match s.nv.erasing with
    | some e => if e.granted then t.modRec e.record fun r => r.setSlot e.slot { Slot.init with stage := .partErased } else t
    | none => t
  u.onNv fun n => { n with running := none, writes := [], erases := [], erasing := none }

/-- The slot that was current before a commit exists and holds a superseded byte to program (R132 step 5). After the
commit the record uses the new slot. -/
def Rec.committed (r : Rec) : Rec :=
  { r with cur := some r.spare, state := .ok, lost := false, damaged := false }

/-- SUPERSEDED_SLOT_ERASE (R133, R135): with no write pending, housekeeping asks to erase a record's superseded slot. -/
def execSupersededSlotErase (rec : RecName) (s : State) : Host.Outcome State Fault Refusal :=
  .next (
    if s.nvPendingCount = 0 ∧ s.nv.idle = true ∧ s.serving = true then
      let r := s.getRec rec
      if r.a.stage = .superseded then s.fileErase rec false
      else if r.b.stage = .superseded then s.fileErase rec true
      else s
    else s)

/-- RECORD_REPAIR (R143): a record with one damaged slot is rewritten with the content in use. -/
def execRecordRepair (rec : RecName) (s : State) : Host.Outcome State Fault Refusal :=
  .next (
    let r := s.getRec rec
    if r.damaged ∧ s.serving = true ∧ ¬ (s.nv.writes.any fun w => decide (w.record = rec)) then
      s.fileWrite { record := rec, body := r.body, reply := none }
    else s)

/-- Record names as paths and events spell them (Table 3-6). -/
def recWord : RecName → String
  | .epoch => "epoch" | .keystore => "keystore" | .shade => "shade" | .config => "config"
  | .recipe _ => "recipe." | .stats _ => "stats."

/-- A record's name as a field of a line. -/
def recFld : RecName → Fld
  | .recipe n => .chars ("recipe.".toList ++ (toString n).toList)
  | .stats n => .chars ("stats.".toList ++ (toString n).toList)
  | .epoch => .word "epoch" | .keystore => .word "keystore" | .shade => .word "shade" | .config => .word "config"

/-- Who hears of a record (Table 4-4). -/
def recAud : RecName → Aud
  | .recipe n => .turret n true
  | .stats n => .turret n true
  | .epoch => .keep | .keystore => .keep | .shade => .keep | .config => .keep

/-- The turrets that are not ABSENT. -/
def State.presentTurrets (s : State) : List Nat :=
  (List.range 64).filter fun n => decide ((s.getTurret n).state ≠ .absent)

/-- The records that the module holds: the module's four, and recipe and statistics of every turret that exists. In this order
`DO nv.verify` tells their slots, A before B (R148; log entry 97). -/
def State.records (s : State) : List RecName :=
  [.epoch, .keystore, .shade, .config] ++ s.presentTurrets.map .recipe ++ s.presentTurrets.map .stats

/-- The statistics checkpoint that has fallen due is filed for every turret (R588), unless it has been. -/
def State.fileCheckpoints (s : State) : State :=
  if s.nv.ckMade then s
  else (s.presentTurrets.foldl (fun t n => t.fileWrite { record := .stats n, body := .none, reply := none }) s).onNv fun n =>
    { n with ckMade := true }

/-- When the next checkpoint falls due (R588): `nv.checkpoint_s` after the start of the last checkpoint write, or after READY. -/
def State.checkpointAt (s : State) : Tick := s.nv.ckLast + s.nat .nvCheckpointS * secTicks

/-- Slots that no longer pass their probe (R136): from then on they are invalid. `nv.record.state` is what START found, until the
record is written (R143; log entry 96). -/
def State.markBad (s : State) (bs : List BadSlot) : State :=
  bs.foldl (fun t b => t.modRec b.record fun r =>
    r.setSlot b.slot { r.slot b.slot with bad := true, fails := b.sectors }) s

/-- Sectors that fail their tags in probe reads join `mem.probe_fails` (R483). -/
def State.countProbes (s : State) (n : Nat) : State := s.onMem fun m => { m with probeFails := satAdd m.probeFails n }

/-- Both slots of records are read in probe mode (R136, R148, R483). -/
def State.probed (s : State) (rs : List RecName) : State :=
  s.countProbes (rs.map fun n => (s.getRec n).a.fails + (s.getRec n).b.fails).sum

/-- CHECKPOINT_DUE (R588): once it falls due, in READY, RUN and PAUSED the checkpoints are filed; in WATCH they wait for READY. -/
def execCheckpointDue (s : State) : Host.Outcome State Fault Refusal :=
  .next (
    if s.now < s.checkpointAt then s
    else if s.serving then s.fileCheckpoints
    else if s.sys.state = .watch then s.onNv fun n => { n with ckDue := true } else s)

/-- `DO nv.checkpoint` (R131): the caller's statistics checkpoint is filed. -/
def doNvCheckpoint (r : ReplyTo) (s : State) : State :=
  s.fileWrite { record := .stats (r.turret.getD 0), body := .none, reply := some (.traop r) }

/-- `DO nv.verify` (R136, R148, R483): both slots of every record the Keep may read are probed; the bad slots among them are what the
probe finds. -/
def doNvVerify (r : ReplyTo) (bad : List BadSlot) (s0 : State) : State :=
  let s := (s0.markBad bad).probed s0.records
  let t := s.records.foldl (fun t n =>
    let k := t.getRec n
    let word (x : Slot) : Fld := .word (if x.valid then "valid" else "invalid")
    (t.emit (recAud n) "nv" "verify" [recFld n, .word "A", word k.a]).emit (recAud n) "nv" "verify" [recFld n, .word "B", word k.b]) s
  t.ok r [.int (2 * s.records.length)]

end Sys2Proof.Machine
end

