-- ==== Sys2Proof/Machine/Feed.lean ====
section
/-! DEFINITION. The feed, the capture buffer and the segments (R309–R335): pause reasons, the ramp and the rate loop, the
caps of the speed, capture marks, record writes and seam markers. -/

namespace Sys2Proof.Machine

/-! ## Pause reasons (Table 8-2) -/

/-- COMMAND (Table 8-2). -/
abbrev pauseCommand : Nat := 1
/-- CAPTURE. -/
abbrev pauseCapture : Nat := 2
/-- STOP. -/
abbrev pauseStop : Nat := 4
/-- SPIRE. -/
abbrev pauseSpire : Nat := 8
/-- STALL. -/
abbrev pauseStall : Nat := 16
/-- COIL. -/
abbrev pauseCoil : Nat := 32

/-- The reasons of a mask that are not in another. -/
def maskOff (m off : Nat) : Nat := m - (m &&& off)

/-- A pause reason is set (R318, R320): with the first, the roll's speed is kept for the resume, a ramp ends, and an
opening that has not happened is cancelled (R322). An acceleration that waits for its grant is withdrawn. The
clear timeout counts from the first reason (log entry 105). -/
def State.setPause (s : State) (bit : Nat) : State :=
  s.withdrawAccel.onFeed fun f =>
    if f.pauses = 0 then
      { f with pauses := bit, firstPause := some s.now, resumeTo := f.speed,
               ramping := false, steadyAt := none, state := if f.state = .fault then .fault else .decel }
    else { f with pauses := f.pauses ||| bit }

/-- Whether the module drives a stepper (`feed.mode`). -/
def State.stepperMode (s : State) : Bool := decide (s.int .feedMode = 0)

/-- The standing reservation of an energised stepper (R92): 2 × the running current as peak and 2 × the acceleration
current as average, mA rounded up. -/
def State.stepperReserve (s : State) : Nat × Nat :=
  ((2 * s.nat .feedRunCurrent + 999) / 1000, (2 * s.nat .feedAccelCurrent + 999) / 1000)

/-- Whether the coils can be given current: a stepper that is not energised, its coils without a fault (R330), its island not
gated (R69). -/
def State.coilsFree (s : State) : Bool :=
  s.stepperMode && !s.feed.energised && s.feed.coil.isNone && !s.gated 16

/-- Whether the stepper's reservation fits its budgets beside the plan's (R92, R93). -/
def State.stepperFits (s : State) : Bool := s.standingFits s.ledger.strobe (some s.stepperReserve)

/-- The coils are energised, where the stepper's reservation fits its budgets; else the ledger refuses it (R92, R93, R335). -/
def State.energise (s : State) : State :=
  if s.coilsFree = false then s
  else if s.stepperFits then
    (s.onFeed fun f => { f with energised := true, braked := false, state := .hold }).onLedger fun l =>
      { l with stepper := some s.stepperReserve }
  else s.countRefused .stepper

/-- The coils at standstill where they have had no current: they are energised at `feed.hold_current`, unless that is 0 (R310,
R335). -/
def State.holdCoils (s : State) : State := if s.int .feedHoldCurrent = 0 then s else s.energise

/-- Whether a change of settings calls for coils at standstill that find no room (R93). -/
def State.coilsRefused (s : State) : Bool :=
  s.serving && s.coilsFree && decide (s.int .feedHoldCurrent ≠ 0) && !s.stepperFits

/-- The coils lose their current, and the stepper its reservation. -/
def State.deEnergise (s : State) : State :=
  (s.onFeed fun f => { f with energised := false, state := if f.state = .fault then .fault else .off }).onLedger fun l =>
    { l with stepper := none }

/-- The coils at standstill: a hold current of 0 de-energises them (R310). -/
def State.restCoils (s : State) : State := if s.int .feedHoldCurrent = 0 then s.deEnergise else s

/-- Pause reasons are cleared (R318, R321): when the last goes, the roll ramps to the speed it had, PAUSED becomes RUN,
and with `feed.mode` NONE steadiness counts from now (R322). -/
def State.clearPause (s : State) (bits : Nat) : State :=
  let left := maskOff s.feed.pauses bits
  if left = s.feed.pauses then s
  else if left ≠ 0 then s.onFeed fun f => { f with pauses := left }
  else
    let t := (s.onFeed fun f =>
      { f with pauses := 0, firstPause := none, ramping := s.stepperMode && s.sorting,
               steadyAt := if s.stepperMode then none else some s.now }).onSeam fun m => { m with timeoutLine := none }
    let u := if s.sorting then t.energise else t
    if s.sys.state = .paused then u.enter .run else u

/-! ## The capture buffer (R316, R317, R332) -/

/-- The size of the capture buffer (R316). -/
abbrev captureBytes : Nat := 268435456

/-- Bytes of records not yet acknowledged. -/
def Capture.used (c : Capture) : Nat := (c.recs.map fun r => r.data.length).sum

/-- Bytes that a turret's records occupy. -/
def Capture.usedBy (c : Capture) (turret : Nat) : Nat :=
  ((c.recs.filter fun r => decide (r.turret = turret)).map fun r => r.data.length).sum

/-- `capture.fill` in millionths of a percent, to 0.1 % (R316). -/
def State.fill6 (s : State) : Int := roundDiv ((s.capture.used : Int) * 1000) captureBytes * 100000

/-- The fill is judged against the pause and resume marks (R317). -/
def State.fillCross (s : State) : State :=
  if s.int .capturePauseMark < s.fill6 then s.setPause pauseCapture
  else if s.fill6 < s.int .captureResumeMark then s.clearPause pauseCapture
  else s

/-- A seam marker (Table 8-4). -/
def marker (kind addr forced mask line product tick segment n excluded : Nat) : List Byte :=
  leBytes 2 kind ++ leBytes 2 48 ++ leBytes 1 addr ++ leBytes 1 forced ++ leBytes 2 mask ++ leBytes 6 line ++
  leBytes 6 product ++ leBytes 8 tick ++ leBytes 4 segment ++ leBytes 4 n ++ leBytes 4 excluded ++ leBytes 8 0

/-- The product index of the current line, or of the last line inside a segment (R325). -/
def Seam.index (m : Seam) : Nat := m.product - 1

/-- The running line as a marker names it. -/
def Seam.mark (m : Seam) : LineMark := ⟨m.line, m.index, m.lineTick⟩

/-- The open CHIP and LINE streams (R327). -/
def State.imageStreams (s : State) : List Nat :=
  (List.range 256).filter fun n => (s.getStream n).isOpen && decide (s.int .streamType n ≤ 1)

/-- Whether a turret's record of some bytes fits in what is free of the buffer, and of the turret's CAPT quota (R332, R511). -/
def State.captureFits (s : State) (turret len : Nat) : Bool :=
  decide (s.capture.used + len ≤ captureBytes) && decide (s.capture.usedBy turret + len ≤ s.nat .turretCaptKib turret * 1024)

/-- Records join the buffer. -/
def State.putRecs (s : State) (stream : Nat) (rs : List (List Byte)) : State :=
  s.onCapture fun c => { c with recs := c.recs ++ rs.map fun d => { stream := stream, turret := s.nat .streamTurret stream, data := d } }

/-- A record is dropped and counted (R332). The first since one was written gives the GAP marker its line. -/
def State.dropRec (s : State) (obj : Option Nat) (line : LineMark) : State :=
  s.onCapture fun c =>
    { c with dropped := satInc c.dropped
             gap := some (match c.gap with
               | some (l, n) => (l, n + 1)
               | none => (line, 1))
             dropObj := match obj with
               | some o => some o
               | none => c.dropObj }

/-- The GAP marker that is due, if any (R326, R332). -/
def State.gapDue (s : State) : List (List Byte) :=
  match s.capture.gap with
  | some (l, n) => [marker 0x0102 s.tower.addr 0 0 l.line l.product l.tick s.seam.number n 0]
  | none => []

/-- A GAP marker goes into the open CHIP and LINE streams other than one (R327); where it does not fit it is dropped and counted. -/
def State.spreadGap (s : State) (stream : Nat) (gs : List (List Byte)) : State :=
  if gs = [] then s
  else (s.imageStreams.filter fun k => decide (k ≠ stream)).foldl (fun t k =>
    if t.captureFits (t.nat .streamTurret k) 48 then t.putRecs k gs else t.onCapture fun c => { c with dropped := satInc c.dropped }) s

/-- A record is written into the capture buffer for an open CHIP or LINE stream (R316, R332). `obj` is the object it belongs to, if
any, and `line` the line. A record that does not fit, and every later record of its object, is dropped and counted, and a GAP marker
goes ahead of the next that is written, into every open CHIP and LINE stream (R327). -/
def State.captureWrite (s : State) (stream : Nat) (obj : Option Nat) (line : LineMark) (data : List Byte) : State :=
  let gs := s.gapDue
  if !(s.getStream stream).isOpen then s
  else if (obj.isSome ∧ s.capture.dropObj = obj) ∨
      s.captureFits (s.nat .streamTurret stream) (data.length + (gs.map (·.length)).sum) = false then s.dropRec obj line
  else (((s.onCapture fun c => { c with gap := none, dropObj := none }).putRecs stream (gs ++ [data])).spreadGap stream gs).fillCross

/-- A marker of a line is written once into every open CHIP and LINE stream (R327). -/
def State.writeMarker (s : State) (line : LineMark) (m : List Byte) : State :=
  s.imageStreams.foldl (fun t n => t.captureWrite n none line m) s

/-! ## The cap of the speed (R314, Table 8-1) -/

/-- A number of objects per second, in millionths, as a speed by the measured objects per microstep *k* (R313): none
while *k* is not known. -/
def State.byK (s : State) (rate6 : Nat) : Option Nat :=
  match s.feed.k with
  | some (o, ms6) => if o = 0 then none else some (rate6 * ms6 / (o * 1000000000000))
  | none => none

/-- The highest open-object count of the last 10 ms (Table 8-1). -/
def State.openHigh (s : State) : Nat :=
  (s.feed.openMax.filter fun p => decide (s.now < p.1 + 10 * msTicks)).foldl (fun a p => max a p.2) 0

/-- The capture term (Table 8-1). -/
def State.captureTerm (s : State) : Option Nat :=
  let f := s.fill6
  let lo := s.int .captureSlowMark
  let hi := s.int .capturePauseMark
  if lo < f then some (max (s.nat .feedMaxSpeed / 10) (((s.nat .feedMaxSpeed : Int) * (hi - f) / (hi - lo)).toNat)) else none

/-- The segmenter's term (Table 8-1). -/
def State.openTerm (s : State) : Option Nat :=
  let o := s.openHigh
  let mk := s.nat .feedOpenMark
  if mk < o then some (max (s.nat .feedMaxSpeed / 10) (s.nat .feedMaxSpeed * (256 - o) / (256 - mk))) else none

/-- The terms of the cap in the order of Table 8-1; a term whose inputs are not known imposes no limit. -/
def State.capTerms (s : State) : List (FeedLimit × Nat) :=
  let opt (l : FeedLimit) (v : Option Nat) : List (FeedLimit × Nat) := match v with
    | some x => [(l, x)]
    | none => []
  [(FeedLimit.maxSpeed, s.nat .feedMaxSpeed)] ++ opt .maxRate (s.byK (s.nat .feedMaxRate * 1000000)) ++
  opt .capture s.captureTerm ++ opt .openObj s.openTerm ++ opt .eject (s.feed.capC.bind s.byK)

/-- The least term of the cap. -/
def State.cap (s : State) : FeedLimit × Nat :=
  s.capTerms.foldl (fun a t => if t.2 < a.2 then t else a) (.maxSpeed, s.nat .feedMaxSpeed)

/-- `feed.limit` (R314): the term that sets the cap where the cap holds the commanded speed, or the target of a ramp or of the resume
that is to follow a pause; TARGET where the rate loop alone sets the speed. -/
def State.feedLimit (s : State) : FeedLimit :=
  let want : Frac := if s.feed.ramping ∨ s.feed.pauses ≠ 0 then { num := s.feed.resumeTo } else s.feed.cmd
  if Frac.le { num := s.cap.2 } want then s.cap.1 else .target

/-! ## The ramp (R310, R311) -/

/-- One 10 ms step of the ramp, in microsteps/s: `feed.ramp` is in (microsteps/s)/ms (R311). -/
def State.rampStep (s : State) : Nat := s.nat .feedRamp * 10

/-- The speed that the roll moves toward: the target of a ramp, limited by the cap, or the commanded speed, in whole microsteps/s
(log entry 91). Standstill, while a pause reason is held or the module does not sort. -/
def State.speedGoal (s : State) : Nat :=
  if s.feed.pauses ≠ 0 ∨ s.sorting = false then 0
  else if s.feed.ramping then min s.feed.resumeTo s.cap.2
  else min s.feed.cmd.floor.toNat s.cap.2

/-- The further peak of an acceleration (R92): 2 × (acceleration − running phase current), mA. -/
def State.accelPeak (s : State) : Nat := (2 * (s.int .feedAccelCurrent - s.int .feedRunCurrent) / 1000).toNat

/-- What the roll made in a 10 ms step, in millionths of a microstep, for the window of R313. -/
def Feed.made (f : Feed) (now : Tick) : Feed :=
  { f with stepAt := now, steps6 := (f.steps6.filter fun p => decide (now < p.1 + 5000 * msTicks)) ++ [(now, f.speed * 10000)] }

/-- The roll turns by what it makes in a 10 ms step (R309): its microsteps are 1/`feed.microstep` of a full step each, in the
sense of `feed.direction`. -/
def State.turnRoll (s : State) : State :=
  let d : Int := (s.feed.speed * 256 / s.nat .feedMicrostep : Nat)
  s.onFeed fun f => { f with roll := if s.int .feedDirection = 0 then f.roll + d else f.roll - d }

/-- The current of each phase by the motion, in the unit of its settings (R310): the acceleration current while the speed rises,
the running current while the roll turns otherwise, and the hold current at standstill; none in coils without current. -/
def State.phaseCurrent (s : State) : Nat :=
  if s.feed.energised = false then 0
  else if s.feed.state = .accel then s.nat .feedAccelCurrent
  else if 0 < s.feed.speed then s.nat .feedRunCurrent
  else s.nat .feedHoldCurrent

/-- A roll that stands still, with no speed wanted of it, rests on its hold current (R310). -/
def State.rested (s : State) : State := if s.feed.speed = 0 ∧ s.speedGoal = 0 then s.restCoils else s

/-- The 10 ms step before this one has ended (R79, R311): its grant is released, and a request that still waits has come to its
deadline, is refused and counted. -/
def State.endAccel (s : State) : State :=
  ((s.ledger.reqs.filter fun q => decide (q.cls = .stepper)).foldl
    (fun t q => (t.dropRefused q).onFeed fun f => { f with leave := satInc f.leave }) s).onLedger fun l =>
    { l with grants := l.grants.filter fun q => decide (q.cls ≠ .stepper) }

/-- The feed's state at a speed that does not change. -/
def Feed.settledState (f : Feed) : FeedState := if f.state = .fault then .fault else if f.speed = 0 then .hold else .steady

/-- STEPPER_SPEED_STEP (R309, R311): 10 ms after the last step, the speed moves one ramp step; an increase waits for its ledger
grant. A roll that still turns when READY is entered comes to rest there. The verify fence holds its microsteps (R480). -/
def execStepperSpeedStep (s : State) : Host.Outcome State Fault Refusal :=
  .next (
    if s.serving ∧ s.stepperMode ∧ s.feed.energised ∧ s.feed.stepAt + 10 * msTicks ≤ s.now then
      if s.fenced 16 then s.holdFor 16
      else
      let t := (s.endAccel.turnRoll).onFeed fun f => f.made s.now
      let goal := t.speedGoal
      if t.feed.speed < goal then
        ((t.onFeed fun f => { f with state := f.settledState }).file .stepper 0 t.accelPeak 1 (10 * msTicks)
          (.accel (min goal (t.feed.speed + t.rampStep))))
      else
        (t.onFeed fun f =>
          { f with
            speed := max goal (f.speed - t.rampStep)
            state := if f.state ≠ .fault ∧ goal < f.speed then .decel else f.settledState }).rested
    else s)

/-! ## The rate loop (R312, R313, R328) -/

/-- Objects per second over `feed.rate_window` (R313). -/
def State.objRate (s : State) : Frac :=
  let w := s.nat .feedRateWindow
  Frac.make (((s.feed.closes.filter fun t => decide (s.now < t + w * msTicks)).length * 1000 : Nat) : Int) w

/-- The readings of the hopper mass, the last older than 6 s among them: what stood at the start of any window. -/
def keepMasses (now : Tick) (ms : List (Tick × Frac)) : List (Tick × Frac) :=
  (ms.filter fun p => decide (p.1 + 6000 * msTicks ≤ now)).getLast?.toList ++ ms.filter fun p => decide (now < p.1 + 6000 * msTicks)

/-- A reading of the hopper mass (R313). -/
def Feed.addMass (f : Feed) (now : Tick) (y : Frac) : Feed := { f with masses := keepMasses now f.masses ++ [(now, y)] }

/-- The fall in hopper mass over `feed.rate_window`, in t/h (R313), from the reading that stood at the window's start, or else the
first, to the last: a kg in a ms is 3 600 t/h. None without a reading. -/
def State.massRate (s : State) : Option Frac :=
  let w := s.nat .feedRateWindow
  match s.feed.masses with
  | [] => none
  | p :: ps =>
    let before := (p :: ps).filter fun q => decide (q.1 + w * msTicks ≤ s.now)
    some (((before.getLastD p).2.sub (ps.getLastD p).2).mul (Frac.make 3600 w))

/-- *k* is brought up to date (R313), only over windows in which the roll turned. -/
def State.measureRate (s : State) : State :=
  let w := s.nat .feedRateWindow
  let steps := ((s.feed.steps6.filter fun p => decide (s.now < p.1 + w * msTicks)).map (·.2)).sum
  let objs := (s.feed.closes.filter fun t => decide (s.now < t + w * msTicks)).length
  s.onFeed fun f =>
    { f with k := if steps = 0 then f.k else some (objs, steps),
             closes := f.closes.filter fun t => decide (s.now < t + 5000 * msTicks), masses := keepMasses s.now f.masses }

/-- The measured rate in the unit of the target; none while there is no mass reading. -/
def State.measured (s : State) : Option Frac := if s.int .feedTargetUnit = 0 then some s.objRate else s.massRate

/-- The speed that a start ramp aims at: T / k, or the cap while that is not known (log entry 15). -/
def State.startGoal (s : State) : Nat :=
  if s.int .feedTargetUnit = 0 then (s.byK (s.nat .feedTarget)).getD s.cap.2 else s.cap.2

/-- A ramp from standstill begins (R321, R322, R328): the coils are energised for it where they had no current. -/
def State.startRamp (s : State) : State :=
  if s.stepperMode ∧ s.int .feedTarget ≠ 0 then
    (s.energise).onFeed fun f => { f with ramping := true, resumeTo := s.startGoal }
  else s

/-- The new commanded speed: S × (1 + gain × 0.01 s × (T − m) / T), exact, clamped to the cap, and at least 1 microstep/s unless
the cap is 0 (R312, R328). -/
def State.newCmd (s : State) (m : Frac) : Frac :=
  let t := Frac.of6 (s.nat .feedTarget)
  let x := s.feed.cmd.mul (Frac.add { num := 1 } ((Frac.make (s.int .feedGain) 100000000).mul ((t.sub m).div t)))
  Frac.min (Frac.max x { num := 1 }) { num := s.cap.2 }

/-- RATE_LOOP_STEP (R312): 10 ms after the last step, in RUN, with no pause reason held and no ramp under way, the commanded speed
is set from the measured rate; the fill is judged first (Table 8-5). -/
def execRateLoopStep (s : State) : Host.Outcome State Fault Refusal :=
  .next (
    if s.sorting ∧ s.feed.rateAt + 10 * msTicks ≤ s.now then
      let t := ((s.onFeed fun f => { f with rateAt := s.now }).measureRate).fillCross
      if t.sys.state = .run ∧ t.feed.pauses = 0 ∧ t.stepperMode = true ∧ t.feed.ramping = false then
        if t.int .feedTarget = 0 then t.onFeed fun f => { f with cmd := {} }
        else if t.feed.cmd.num = 0 ∧ t.feed.speed = 0 then t.startRamp
        else match t.measured with
          | none => t
          | some m => t.onFeed fun f => { f with cmd := t.newCmd m }
      else t
    else s)

/-- RAMP_REACHES_TARGET (R321, R322): the ramp ends at its target, limited by the cap; the feed is steady from now,
provided that it turns, and the rate loop resumes from this speed. -/
def execRampReachesTarget (s : State) : Host.Outcome State Fault Refusal :=
  .next (
    if s.sorting ∧ s.feed.ramping ∧ s.feed.pauses = 0 ∧ s.speedGoal ≤ s.feed.speed then
      s.onFeed fun f => { f with ramping := false, cmd := { num := f.speed }, state := .steady,
                                 steadyAt := if f.speed = 0 then none else some s.now }
    else s)

/-- ROLL_STANDSTILL (R320): the roll stands still while a pause reason is held, and the module enters PAUSED. -/
def execRollStandstill (s : State) : Host.Outcome State Fault Refusal :=
  .next (
    if s.sys.state = .run ∧ s.feed.pauses ≠ 0 ∧ (s.feed.speed = 0 ∨ ¬ s.stepperMode) then
      ((s.onFeed fun f => { f with cmd := {}, state := if f.state = .fault then .fault else .hold }).restCoils).enter .paused
    else s)

/-- EJECT_CAPACITY_UPDATE (R315): *C* from the last 10 s, in millionths of an object per second. With q × n × w equal to
a turret's charge over all objects decided, the least of A × decided / charge stands. -/
def execEjectCapacityUpdate (s : State) : Host.Outcome State Fault Refusal :=
  .next (
    if s.sorting ∧ s.feed.capAt + secTicks ≤ s.now then
      let recent (t : Tick) : Bool := decide (s.now < t + 10 * secTicks)
      let dec := s.track.decided10.filter fun d => recent d.1
      let chg := s.eject.charge10.filter fun c => recent c.1
      let turs := (List.range 64).filter fun n => chg.any (fun c => decide (c.2.1 = n)) && dec.any fun d => decide (d.2.1 = n)
      let cap (n : Nat) : Nat :=
        let q := ((chg.filter fun c => decide (c.2.1 = n)).map fun c => c.2.2).sum
        s.nat .feedEjectMargin * s.avgPool * s.peakShare n * dec.length * secTicks / (s.valvePool * q)
      let c := turs.foldl (fun a n => match a with
        | none => some (cap n)
        | some x => some (min x (cap n))) none
      ((s.onFeed fun f => { f with capC := c, capAt := s.now }).onTrack fun t => { t with decided10 := dec }).onEject
        fun e => { e with charge10 := chg }
    else s)

/-! ## Failures (R329, R330) -/

/-- FEED_STALL (R329): the driver has found the back-EMF below `feed.stall_level` for 4 full steps. While the roll turns at or
above the stall speed, stepping stops at once and STALL is set. -/
def execFeedStall (s : State) : Host.Outcome State Fault Refusal :=
  .next (
    if s.sorting ∧ s.stepperMode ∧ 0 < s.feed.speed ∧ s.nat .feedStallMinSpeed ≤ s.feed.speed then
      ((s.setPause pauseStall).dropAccel.onFeed fun f =>
        { f with speed := 0, cmd := {}, stalls := satInc f.stalls, state := .hold }).restCoils.emit .keep "feed" "stall" []
    else s)

/-- FEED_COIL_FAULT (R330, Table 1-8): the driver refuses to energise or disables a coil, and the coils lose their current. -/
def execFeedCoilFault (f : CoilFault) (s : State) : Host.Outcome State Fault Refusal :=
  .next (
    if s.serving ∧ s.stepperMode then
      (((s.setPause pauseCoil).dropAccel.deEnergise).onFeed fun y =>
        { y with speed := 0, cmd := {}, coil := some f, state := .fault }).emit
        .keep "feed" "coil" [.word (if f.phaseB then "b" else "a"), .word (if f.short then "short" else "open")]
    else s)

/-! ## Commands of the Keep (R319) -/

/-- `DO feed.pause` (R319, R334): refused where the stepper's island is gated (R69). -/
def doFeedPause (r : ReplyTo) (s : State) : State :=
  if s.stepperMode && s.gated 16 then s.er r 23
  else ((s.setPause pauseCommand).onFeed fun f => { f with pausedAt := some s.now }).ok r []

/-- `DO feed.resume`: it clears every reason that it may clear, or none (R319, R330). Of a pause and a resume in one tick the resume is
applied first, so that the feed stays paused (Table 8-5). -/
def doFeedResume (r : ReplyTo) (s : State) : State :=
  let has (b : Nat) : Bool := decide (s.feed.pauses &&& b ≠ 0)
  if s.stepperMode && s.gated 16 then s.er r 23
  else if has pauseSpire && decide (s.tower.source = .free) then s.er r 23 [.word "spire"]
  else
    let t := if has pauseCoil then s.useFree else s
    if has pauseCoil && (Config.coilTest s.sys.free).isSome then t.er r 70 [.word "coil"]
    else
      let u := if has pauseCoil then (t.onFeed fun f => { f with coil := none, state := .hold }).holdCoils else t
      let v := u.clearPause (pauseCommand ||| pauseSpire ||| pauseStall ||| pauseCoil)
      (if s.feed.pausedAt = some s.now then v.setPause pauseCommand else v).ok r [.mask v.feed.pauses]

/-! ## Segments (R322–R327, R333) -/

/-- Whether the current line began after the feed had been steady for `seam.settle_ms` (R322). -/
def State.settled (s : State) : Bool :=
  match s.feed.steadyAt with
  | some t => decide (t + s.nat .seamSettleMs * msTicks ≤ s.seam.lineTick)
  | none => false

/-- SEGMENT_OPEN (R322): the first line after the feed has settled opens a segment, and SEAM-OPEN is written. -/
def execSegmentOpen (s : State) : Host.Outcome State Fault Refusal :=
  .next (
    if s.sys.state = .run ∧ s.seam.isOpen = false ∧ s.feed.pauses = 0 ∧ s.settled = true then
      let m := s.seam
      let t := s.onSeam fun m =>
        { m with isOpen := true, firstLine := m.line, firstProduct := m.product, firstTick := m.lineTick,
                 product := m.product + 1, captured := 0, excludedHere := 0, clear := 0 }
      (t.onLantern fun l => { l with cur := l.cur.map fun c => { c with product := some m.product } }).writeMarker
          ⟨m.line, m.product, m.lineTick⟩
        (marker 0x0100 s.tower.addr 0 0 m.line m.product m.lineTick m.number 0 0)
    else s)

/-- The last line of a segment that closes now: the line classified last (R323, R333). -/
def Seam.lastLine (m : Seam) : LineMark := m.seen.getD m.mark

/-- A cycle after the last line of its segment lies inside none (R325). -/
def Cycle.outside (c : Cycle) (last : LineMark) : Cycle := if last.line < c.line then { c with product := none } else c

/-- The open segment closes at the line classified last, and SEAM-CLOSE is written (R323, R326, R333). The product index goes on from
that line (R325). -/
def State.closeSegment (s : State) (forced : Bool) : State :=
  let m := s.seam
  let e := m.lastLine
  ((s.writeMarker e (marker 0x0101 s.tower.addr (if forced then 1 else 0) s.feed.pauses e.line e.product e.tick m.number
      m.captured m.excludedHere)).onLantern fun l => { l with cur := l.cur.map (·.outside e), prev := l.prev.map (·.outside e) }).onSeam
    fun m =>
      { m with isOpen := false, number := m.number + 1, product := (e.product + 1) % 2 ^ 48, captured := 0, excludedHere := 0,
               timeoutLine := none, forced := if forced then satInc m.forced else m.forced }

/-- Whether `seam.clear_timeout_s` has passed since the first pause reason (R333). -/
def State.clearLate (s : State) : Bool :=
  match s.feed.firstPause with
  | some t => decide (t + s.nat .seamClearTimeoutS * secTicks ≤ s.now)
  | none => false

/-- CLEAR_TIMEOUT (R333): the curtain has not cleared in time, and the line that runs is the timeout line. -/
def execClearTimeout (s : State) : Host.Outcome State Fault Refusal :=
  .next (
    if s.sorting ∧ s.feed.pauses ≠ 0 ∧ s.clearLate = true ∧ s.seam.timeoutLine = none ∧ s.seam.clear < s.nat .seamClearLines then
      s.onSeam fun m => { m with timeoutLine := some m.line }
    else s)

end Sys2Proof.Machine
end

