-- ==== Sys2Proof/Machine/Sequencer.lean ====
section
/-! DEFINITION. The sequencer (R423, R434–R448): entries, slots and frames, and which pass runs next. -/

namespace Sys2Proof.Machine

/-! ## Entries (R423–R426, R435) -/

/-- The entry runs in its turret's loop. -/
abbrev enLoop : Int := 1

/-- The pins that an entry names (Table 12-1). -/
def State.entryPins (s : State) (e : Nat) : List Nat :=
  ([s.nat .seqInP e, s.nat .seqInN e, s.nat .seqExcP e, s.nat .seqExcN e].filter fun k => decide (k < 16)) ++
  ((List.range 16).filter fun k => (s.nat .seqBiasPins e).testBit k)

/-- Whether a pin is not routed for a turret: another's, or not OK (R423). -/
def State.pinBad (s : State) (n k : Nat) : Bool :=
  decide (s.nat .fePinTurret k ≠ n) || decide ((s.getPin k).state ≠ .ok)

/-- Whether the excite grant is held (R426). -/
def State.exciteHeld (s : State) : Bool := s.ledger.grants.any fun q => decide (q.what = .excite)

/-- Whether an entry drives excitation: IQ mode with its EXC pins named (R425). -/
def State.usesExc (s : State) (e : Nat) : Bool := decide (s.int .seqMode e = 1) && decide (s.nat .seqExcP e ≠ 255)

/-- Whether the front end runs passes: in READY, RUN and PAUSED, with no fault and its islands not gated (R450, R452). -/
def State.feRuns (s : State) : Bool := s.serving && !s.fe.fault && !s.gated 17

/-- Whether an entry may run (R426, R435, R450, R452, R521). -/
def State.runnable (s : State) (e : Nat) : Bool :=
  decide (s.int .seqEnable e ≠ 0) && decide (s.nat .seqTurret e < 64) &&
  decide ((s.getTurret (s.nat .seqTurret e)).state ≠ .revoked) && !(s.usesExc e && s.fe.excFault) &&
  !(decide (5000000 < s.int .seqExcVpp e) && !s.exciteHeld)

/-- Switch and settle of an entry, in ticks (Table 12-3). -/
def State.setupTicks (s : State) (e : Nat) : Nat := 200 + s.nat .seqSettleUs e * usTicks

/-- One repetition of an entry, in ticks: a conversion every 0.5 µs (R427). -/
def State.repTicks (s : State) (e : Nat) : Nat := s.nat .seqSamples e * 50

/-- Switch and settle of a check's pass, in ticks (Table 12-5). -/
def checkSetup : CheckKind → Nat
  | .gain => 200 + 10000
  | .openPin _ => 200 + 100000
  | .exc => 200 + 100000
  | .bias => 200 + 100000

/-- The samples of a check's pass (Table 12-5). -/
abbrev checkSamples : Nat := 4096

/-- One pass of a check, in ticks. -/
def checkTicks (k : CheckKind) : Nat := checkSetup k + checkSamples * 50

/-- Switch and settle, and the samples, of a readback pass (R440). -/
abbrev readSetup : Nat := 2200
/-- The samples of a readback pass. -/
abbrev readSamples : Nat := 64

/-- Switch and settle of a pass of some kind, in ticks. -/
def State.passSetup (s : State) : PassKind → Nat
  | .loop e => s.setupTicks e
  | .urgent u => s.setupTicks u.entry
  | .check c => checkSetup c.kind
  | .readback _ => readSetup

/-- The samples of one repetition of a pass of some kind. -/
def State.passSamples (s : State) : PassKind → Nat
  | .loop e => s.nat .seqSamples e
  | .urgent u => s.nat .seqSamples u.entry
  | .check _ => checkSamples
  | .readback _ => readSamples

/-! ## Frames and slots (R436, R437) -/

/-- Whether the sequencer is partitioned (R436). -/
def State.partitioned (s : State) : Bool := s.on .seqPartitioned

/-- The end of a sequencer slot of the running frame (R437). -/
def State.slotEnd (s : State) (k : Nat) : Tick :=
  s.fe.frame + ((List.range (k + 1)).map fun j => s.nat .seqSlotUs j).sum * usTicks

/-- The turret whose slot runs. -/
def State.slotTurret (s : State) : Option Nat := s.fe.slot.map fun k => s.nat .seqSlotTurret k

/-- Whether a turret may start at a tick something that takes so many ticks: while partitioned, in its own slot and with its end
before the slot's (R437, R443). -/
def State.mayRunAt (s : State) (t : Tick) (n ticks : Nat) : Bool :=
  !s.partitioned ||
  (match s.fe.slot with
   | some k => decide (s.nat .seqSlotTurret k = n) && decide (t + ticks ≤ s.slotEnd k)
   | none => false)

/-- Whether a turret may start now something that takes so many ticks. -/
def State.mayRun (s : State) (n ticks : Nat) : Bool := s.mayRunAt s.now n ticks

/-- The longest slot of a turret in a frame's settings, in µs; none where it has no slot. -/
def longestSlot (turret us : Nat → Nat) (n : Nat) : Option Nat :=
  ((List.range 16).filter fun k => decide (turret k = n ∧ 0 < us k)).foldl (fun a k => some (max (a.getD 0) (us k))) none

/-! ## What runs next (R435–R443) -/

/-- The loop that a turret's entries run in: its own while partitioned, else the one loop of all turrets, numbered 64 (R436). -/
def State.loopKey (s : State) (n : Nat) : Nat := if s.partitioned then n else 64

/-- The LOOP entries of a loop that may run. -/
def State.loopMembers (s : State) (key : Nat) : List Nat :=
  (List.range 32).filter fun e => decide (s.int .seqEnable e = enLoop) && s.runnable e &&
    decide (s.loopKey (s.nat .seqTurret e) = key)

/-- The entry at or after a place in a loop, in ascending number, and from the lowest again after the highest (R435). -/
def nextMember (es : List Nat) (from_ : Nat) : Option Nat :=
  match es.find? fun e => decide (from_ ≤ e) with
  | some e => some e
  | none => es.head?

/-- Committed entries take effect between passes (R434): all the turret's entries change together. -/
def State.applyEntries (s : State) : State :=
  (s.fe.nextEntries.foldl (fun t p => t.setVals p.2) s).onFe fun f => { f with nextEntries := [] }

/-- The pass of a loop that may start now: its entry, with the repetitions already done. -/
def State.loopPass (s : State) (key : Nat) : Option Pass :=
  let l := s.getTurLoop key
  let es := s.loopMembers key
  let pick : Option (Nat × Nat) := match l.resume with
    | some (e, reps) => if e ∈ es then some (e, reps) else (nextMember es l.next).map fun e => (e, 0)
    | none => (nextMember es l.next).map fun e => (e, 0)
  match l.delayTo, pick with
  | none, some (e, reps) =>
    let n := s.nat .seqTurret e
    if s.mayRun n (s.setupTicks e + s.repTicks e) then some { kind := .loop e, turret := n, reps := reps } else none
  | some _, _ => none
  | none, none => none

/-- The loop that the sequencer turns to: the running slot's turret's, or the one of all turrets; none before the first frame since
READY was entered (R452). -/
def State.currentLoop (s : State) : Option Nat :=
  if s.fe.begun = false then none else if s.partitioned then s.slotTurret else some 64

/-- The first urgent request that may run now, in order of filing (R441, R443). -/
def State.nextUrgent (s : State) : Option Urgent :=
  s.fe.urgents.find? fun u => s.runnable u.entry && s.mayRun u.turret (s.setupTicks u.entry + s.repTicks u.entry)

/-- The pins that a pass of some kind is flagged for (R449): those of its entry. -/
def State.passPins (s : State) : PassKind → List Nat
  | .loop e => s.entryPins e
  | .urgent u => s.entryPins u.entry
  | .check _ => []
  | .readback _ => []

/-- Whether a pin of a pass is OVER: its switches are open (R449). -/
def State.pinOver (s : State) (k : PassKind) : Bool := (s.passPins k).any fun p => decide ((s.getPin p).state = .exceeded)

/-- A pass opens with its switch and settle (R435). -/
def State.openPass (s : State) (p : Pass) : State :=
  s.onFe fun f => { f with pass := some { p with opened := s.now, from_ := p.reps, settled := false, pinFault := s.pinOver p.kind,
                                                 due := s.now + s.passSetup p.kind } }

/-- The first readback pass that may run now, in a Keep slot while partitioned (R440). -/
def State.nextRead (s : State) : Option ReadJob :=
  if s.mayRun 0 (readSetup + readSamples * 50) then s.fe.reads.head? else none

/-- With no pass running, the sequencer starts the next: an urgent request, a readback, a check, or the next entry of the loop. -/
def State.startPass (s0 : State) : State :=
  if s0.fe.pass.isSome ∨ s0.feRuns = false then s0
  else
    let s := s0.applyEntries
    match s.nextUrgent with
    | some u =>
      (s.onFe fun f => { f with urgents := f.urgents.filter fun v => decide (v.entry ≠ u.entry) }).openPass
          { kind := .urgent u, turret := u.turret }
    | none =>
      match s.nextRead with
      | some r => (s.onFe fun f => { f with reads := f.reads.tail }).openPass { kind := .readback r, turret := 0 }
      | none =>
        match s.fe.checks.find? fun c => s.mayRun c.turret (checkTicks c.kind) with
        | some c => (s.onFe fun f => { f with checks := f.checks.erase c }).openPass { kind := .check c, turret := c.turret }
        | none =>
          match s.currentLoop with
          | none => s
          | some key =>
            match s.loopPass key with
            | none => s
            | some p => (s.modTurLoop key fun l => { l with resume := none }).openPass p

/-- The next pass starts, unless the verify fence holds its change of excitation and bias (R480). -/
def State.startNext (s : State) : State :=
  let t := s.startPass
  if s.fenced 18 ∧ s.fe.pass.isNone = true ∧ t.fe.pass.isSome = true then s.holdFor 18 else t

/-- A running loop pass is suspended: it opens again with its switch and settle (R437, R442). -/
def State.suspend (s : State) (e reps : Nat) : State :=
  (s.modTurLoop (s.loopKey (s.nat .seqTurret e)) fun l => { l with resume := some (e, reps) }).onFe fun f => { f with pass := none }

/-- An urgent request that may run pre-empts a loop pass: its repetition, if one runs, is discarded and counted (R442, R443); one
whose last sample ends in this tick stands (Table 12-6). It never interrupts another urgent pass, a check or a readback. -/
def State.preempt (s : State) : State :=
  match s.fe.pass with
  | none => s.startNext
  | some p =>
    match p.kind with
    | .urgent _ => s
    | .check _ => s
    | .readback _ => s
    | .loop e =>
      match s.nextUrgent with
      | none => s
      | some _ =>
        if p.settled = true ∧ p.due ≤ s.now then s
        else ((s.suspend e p.reps).modEntry e fun y =>
          { y with preempted := if p.settled then satInc y.preempted else y.preempted }).startNext

/-- An urgent request is filed, or merges with the pending one of its entry (R441). -/
def State.fileUrgent (s : State) (e : Nat) (trig : Bool) (rs : List ReplyTo) : State :=
  if s.fe.urgents.any fun u => decide (u.entry = e) then
    s.onFe fun f => { f with urgents := f.urgents.map fun u =>
      if u.entry = e then { u with trig := u.trig || trig, replies := u.replies ++ rs } else u }
  else s.onFe fun f => { f with
      urgents := f.urgents ++ [{ entry := e, turret := s.nat .seqTurret e, trig := trig, replies := rs, at_ := s.now }] }

/-- SEQ_SLOT_START (R437, R443): a slot of the frame starts at its place in the frame, and its turret's urgent requests, checks
and loop resume. -/
def execSeqSlotStart (slot : Nat) (s : State) : Host.Outcome State Fault Refusal :=
  .next (
    if s.feRuns ∧ s.partitioned ∧ slot < 16 ∧ s.slotEnd slot - s.nat .seqSlotUs slot * usTicks ≤ s.now ∧ s.now < s.slotEnd slot then
      (s.onFe fun f => { f with slot := some slot }).startNext
    else s)

/-- SEQ_SETTLE_END (R435): switch and settle of the pass have ended, and its repetitions start. -/
def execSeqSettleEnd (s : State) : Host.Outcome State Fault Refusal :=
  .next (s.onFe fun f =>
    { f with pass := f.pass.map fun p =>
        if p.settled = false ∧ p.due ≤ s.now then { p with settled := true, due := p.due + s.passSamples p.kind * 50 } else p })

/-- SEQ_DELAY_END (R435): a pass's delay ends, and the loop moves on. -/
def execSeqDelayEnd (turret : Nat) (s : State) : Host.Outcome State Fault Refusal :=
  .next (
    if (s.getTurLoop (s.loopKey turret)).delayTo.any (fun t => decide (t ≤ s.now)) = true then
      (s.modTurLoop (s.loopKey turret) fun l => { l with delayTo := none }).startNext
    else s)

/-- The ticks of a frame. -/
def State.frameTicks (s : State) : Nat := s.nat .seqFrameUs * usTicks

/-- SEQ_FRAME_START (R436–R438, R452): at a tick that is a multiple of the frame's length, committed frame settings and a partitioning
that was turned on take effect, and a frame starts; with the first since READY was entered the loops begin. -/
def execSeqFrameStart (s : State) : Host.Outcome State Fault Refusal :=
  .next (
    if s.serving = true ∧ s.now % s.frameTicks = 0 then
      let t := s.setVals s.fe.nextFrame
      let u := if s.fe.partNext then
          (t.setVal ⟨.seqPartitioned, 0, 0⟩ (.num 1)).onFe fun f => { f with pass := none, loops := [] }
        else t
      (u.onFe fun f => { f with begun := true, frame := s.now, slot := none, nextFrame := [], partNext := false }).startNext
    else s)

/-- What a turret does at the front end stops (R448, R521): its passes, its urgent requests and its checks; the commands that
waited for them are returned. -/
def State.stopFe (s : State) (n : Nat) : State × List ReplyTo :=
  let mine : List ReplyTo := ((s.fe.urgents.filter fun u => decide (u.turret = n)).flatMap (·.replies)) ++
    ((s.fe.checks.filter fun c => decide (c.turret = n)).filterMap (·.reply)) ++
    (match s.fe.pass with
     | some p => if p.turret = n then (match p.kind with
         | .urgent u => u.replies
         | .check c => c.reply.toList
         | .readback _ => []
         | .loop _ => []) else []
     | none => [])
  ((s.onFe fun f =>
    { f with urgents := f.urgents.filter fun u => decide (u.turret ≠ n),
             checks := f.checks.filter fun c => decide (c.turret ≠ n),
             pass := f.pass.filter fun p => decide (p.turret ≠ n) }).startNext, mine)

/-- Whether any of some entries, with given settings, wants more than 5 V and may run (R426). -/
def wantsExcite (get : Key → Val) (es : List Nat := List.range 32) : Bool :=
  es.any fun e => decide ((get ⟨.seqEnable, e, 0⟩).int ≠ 0) && decide (5000000 < (get ⟨.seqExcVpp, e, 0⟩).int)

/-- Whether a write is the commit of entries one of which wants more than 5 V (R426). -/
def Write.excites (w : Write) : Bool :=
  match w.onCommit, w.body with
  | .recipe _ _ true _, .recipe r => wantsExcite fun k => (valOf r.vals k).getD k.dflt
  | _, _ => false

/-- The excite grant is released when no committed entry, and no commit under way, needs it (R426). -/
def State.settleExcite (s : State) : State :=
  if (s.nv.running.toList ++ s.nv.writes ++ s.fe.commits).any (·.excites) ∨ wantsExcite s.comingVal then s
  else (s.withdrawReq .excite).onFe fun f => { f with excWanted := false }

/-- What a command waits for at the front end is withdrawn (R184, R441, R445): its urgent request, its check, or its part in the
pass that runs, which is discarded where nothing else asked for it. -/
def State.dropFe (s : State) (r : ReplyTo) : State :=
  let strip (u : Urgent) : Urgent := { u with replies := u.replies.filter fun q => decide (q ≠ r) }
  let keep (u : Urgent) : Bool := u.trig || !u.replies.isEmpty
  (s.onFe fun f =>
    { f with urgents := (f.urgents.map strip).filter keep
             checks := f.checks.filter fun c => decide (c.reply ≠ some r)
             commits := f.commits.filter fun w => decide (w.reply ≠ some (.traop r))
             pass := match f.pass with
               | none => none
               | some p => match p.kind with
                 | .urgent u => if keep (strip u) then some { p with kind := .urgent (strip u) } else none
                 | .check c => if c.reply = some r then none else some p
                 | .readback _ => some p
                 | .loop _ => some p }).startNext

end Sys2Proof.Machine
end

