-- ==== Sys2Proof/Machine/DomeQueue.lean ====
section
/-! DEFINITION. Engine time in the Dome (R534–R538, R543, R548, R549): how long operations and digest jobs take, Dome frames and
slots, and which operation starts next. -/

namespace Sys2Proof.Machine

/-! ## Keys and curves -/

/-- A key slot of a turret. -/
def State.keySlot (s : State) (n k : Nat) : KeySlot := SMap.look KeySlot.init (s.getTurret n).slots k

/-- The curve of an EC slot; a slot of another kind counts as P-256 (log entry 30). -/
def KeySlot.curve (k : KeySlot) : Curve := if k.kind = .ec384 then .p384 else .p256

/-! ## Order of acceptance (R534, Table 16-6) -/

/-- The place of a requester among those of one tick: sessions by number, then MGMT streams by number. -/
def DomeFrom.rank : DomeFrom → Nat
  | .traop r => r.sess
  | .mgmt st _ => 4 + st

/-- An entry joins behind those it must not pass. -/
def joinAfter {α : Type} (behind : α → Bool) (x : α) (l : List α) : List α := l.takeWhile behind ++ x :: l.dropWhile behind

/-- An operation joins the engine queue: in order of acceptance, those of one tick by rank. -/
def joinPke (j : PkeJob) (q : List PkeJob) : List PkeJob :=
  joinAfter (fun x => !(decide (x.filed = j.filed) && x.started.isNone && decide (j.src.rank < x.src.rank))) j q

/-- A digest job joins the others in the same order. -/
def joinDig (j : DigJob) (q : List DigJob) : List DigJob :=
  joinAfter (fun x => !(decide (x.filed = j.filed) && x.started.isNone && decide (j.src.rank < x.src.rank))) j q

/-! ## Durations (R538, Table 16-4) -/

/-- The padded time of an operation in ticks (Table 16-4). -/
def State.padTicks (s : State) (n : Nat) (op : PkeOp) : Nat :=
  let pick (c : Curve) (a b : Nat) : Nat := match c with
    | .p256 => a
    | .p384 => b
  match op with
  | .sign k _ => pick (s.keySlot n k).curve 360000 900000
  | .verify c _ => pick c 240000 600000
  | .keygen c _ _ => pick c 480000 1200000
  | .ecdh k _ _ => pick (s.keySlot n k).curve 130000 310000
  | .pub k _ => pick (s.keySlot n k).curve 120000 300000
  | .claim _ _ _ => 310000
  | .diag _ => 600000

/-- Whether an algorithm is one of SHA-384. -/
def alg384 : DigAlg → Bool
  | .sha256 => false
  | .hmac256 => false
  | .sha384 => true
  | .hmac384 => true

/-- Whether an algorithm is an HMAC. -/
def algHmac : DigAlg → Bool
  | .sha256 => false
  | .sha384 => false
  | .hmac256 => true
  | .hmac384 => true

/-- The bytes of a digest. -/
def algBytes (a : DigAlg) : Nat := if alg384 a then 48 else 32

/-- The blocks of a message of `len` bytes (R538). -/
def digBlocks (a : DigAlg) (len : Nat) : Nat :=
  (if alg384 a then (len + 17 + 127) / 128 else (len + 9 + 63) / 64) + if algHmac a then 3 else 0

/-- The time of a digest job in ticks, rounded up: 2 µs and its blocks (R536, R538). -/
def digTicks (a : DigAlg) (blocks : Nat) : Nat := (2000 + blocks * (if alg384 a then 336 else 272) + 9) / 10

/-- A digest handle of a turret. -/
def State.getHandle (s : State) (n h : Nat) : Handle := SMap.look Handle.init (s.getDomeTur n).handles h

/-- The duration of an explicit digest job, or of a random fill (R536, R542, R556). -/
def State.jobTicks (s : State) (n : Nat) (op : DigOp) : Nat :=
  match op with
  | .hash a _ _ _ len _ => digTicks a (digBlocks a len)
  | .update h _ _ len =>
    let x := s.getHandle n h
    let bs := if alg384 x.alg then 128 else 64
    digTicks x.alg ((x.fed.length % bs + len) / bs)
  | .final h _ =>
    let x := s.getHandle n h
    let bs := if alg384 x.alg then 128 else 64
    digTicks x.alg (digBlocks x.alg x.fed.length - x.fed.length / bs)
  | .table _ _ => digTicks .sha256 2049
  | .fill _ _ len => (2000 + 20 * len + 9) / 10

/-! ## Frames and slots (R535) -/

/-- The running Dome slot: its turret and its end. -/
def DomeSlot.running : List DomeSlot → Tick → Tick → Option (Nat × Tick)
  | [], _, _ => none
  | d :: ds, start, now =>
    let e := start + d.ms * msTicks
    if start ≤ now ∧ now < e then some (d.turret, e) else DomeSlot.running ds e now

/-- The Dome slot that runs now. -/
def State.domeSlotNow (s : State) : Option (Nat × Tick) := DomeSlot.running s.dome.sched s.dome.frame s.now

/-- Whether an operation of a turret may start now: in Open order, or inside its own slot with its end before the slot's. -/
def State.domeMay (s : State) (n ticks : Nat) : Bool :=
  !s.dome.part ||
  (match s.domeSlotNow with
   | some (t, e) => decide (t = n) && decide (s.now + ticks ≤ e)
   | none => false)

/-- The Dome slots that bind an operation accepted now (R549, R558): those of the running frame, or before the first frame those
of the settings. -/
def State.domeSched (s : State) : List DomeSlot :=
  if s.dome.part then s.dome.sched
  else (List.range 8).map fun k => ⟨s.nat .domeSlotTurret k, s.nat .domeSlotMs k, s.nat .domeSlotQueue k⟩

/-- The longest Dome slot of a turret, in ms (R558). -/
def State.domeLongest (s : State) (n : Nat) : Nat :=
  (s.domeSched.filter fun d => decide (d.turret = n)).foldl (fun a d => max a d.ms) 0

/-- Whether an operation could never start in Sealed mode (R558). -/
def State.domeNever (s : State) (n ticks : Nat) : Bool := s.isSealed && decide (s.domeLongest n * msTicks < ticks)

/-- The start of the Dome frame that runs now: the last multiple of `dome.pke.frame_ms` (R535). -/
def State.domeGrid (s : State) : Tick := s.now / (s.nat .domeFrameMs * msTicks) * (s.nat .domeFrameMs * msTicks)

/-! ## Starts (R534, R540, R548) -/

/-- The operand bytes that an operation fetches from its blob when it starts (Table 16-5, R554). -/
def State.operands (s : State) (n : Nat) (op : PkeOp) : List Byte :=
  match op with
  | .sign _ b => s.ram.read (blobAddr n b 0) 48
  | .verify _ b => s.ram.read (blobAddr n b 0) 240
  | .ecdh _ b _ => s.ram.read (blobAddr n b 0) 128
  | .diag b => s.ram.read (blobAddr n b 0) 4096
  | .keygen _ _ _ => []
  | .pub _ _ => []
  | .claim _ _ _ => []

/-- The public-key engine, running nothing, starts its next operation and files its request (R548). After a diagnostic run the
microcode image is checked first (R553). -/
def State.pkeNext (s : State) : State :=
  if s.dome.queue.any fun j => j.started.isSome && !j.writing then s
  else match s.dome.queue.find? fun j => j.started.isNone && s.domeMay j.turret (s.padTicks j.turret j.op) with
    | none => s
    | some j =>
      let t := s.usePke.onDome fun d =>
        { d with microDirty := false,
                 queue := d.queue.map fun x =>
                   if x.id = j.id then { x with started := some s.now, msg := s.operands j.turret j.op, recheck := s.dome.microDirty }
                   else x }
      t.file .pke j.turret 0 2 (s.cmdDeadline j.turret) (.pkeOp j.id)

/-- The handle that a job works on. -/
def DigOp.handle : DigOp → Option Nat
  | .update h _ _ _ => some h
  | .final h _ => some h
  | .hash _ _ _ _ _ _ => none
  | .table _ _ => none
  | .fill _ _ _ => none

/-- Whether an earlier job of the same handle has not ended (R557). -/
def State.jobBehind (s : State) (j : DigJob) : Bool :=
  j.op.handle.isSome && (s.dome.jobs.takeWhile fun x => decide (x.id ≠ j.id)).any fun x =>
    decide (x.turret = j.turret) && decide (x.op.handle = j.op.handle)

/-- The bytes that a digest job reads when it starts (R540). -/
def State.jobBytes (s : State) (n : Nat) (op : DigOp) : List Byte :=
  match op with
  | .hash _ _ b off len _ => s.ram.read (blobAddr n b off) len
  | .update _ b off len => s.ram.read (blobAddr n b off) len
  | .table h j => s.ram.read (stagedAddr (4 * h + j) 0) tableBytes
  | .final _ _ => []
  | .fill _ _ _ => []

/-- The next digest job that may start: contexts 2 and 3 run two (R539, R557). -/
def State.digNext1 (s : State) : State :=
  if 2 ≤ (s.dome.jobs.filter fun j => j.started.isSome).length then s
  else match s.dome.jobs.find? fun j => j.started.isNone && !s.jobBehind j && s.domeMay j.turret (s.jobTicks j.turret j.op) with
    | none => s
    | some j =>
      s.useDigest.onDome fun d => { d with jobs := d.jobs.map fun x =>
        if x.id = j.id then { x with started := some s.now, msg := s.jobBytes j.turret j.op } else x }

/-- At the end of a tick what may start in the engines starts (R534, R535): those accepted in it have taken their order. -/
def State.domeNext (s : State) : State := if s.serving then s.pkeNext.digNext1.digNext1 else s

end Sys2Proof.Machine
end

