-- ==== Sys2Proof/Machine/Sessions.lean ====
section
/-! DEFINITION. Sessions and logins (R169–R179), commands in flight and their abort (R180–R184, R186), and the reset of
the command island (R99, R100). -/

namespace Sys2Proof.Machine

/-! ## Abort (R183, R184) -/

/-- A blob is zeroised (R502). -/
def State.wipe (s : State) : Option (Nat × Nat) → State
  | some (n, b) => { s with ram := s.ram.clear (blobAddr n b 0) 4096 }
  | none => s

/-- The waiting writes of a command are taken out; none where one of them is never abandoned (R590). -/
def State.dropWrites (s : State) (f : DomeFrom) : Option State :=
  let mine := s.nv.writes.filter fun w => decide (w.reply = some f)
  if mine.any (·.stubborn) then none
  else some (mine.foldl (fun t w => t.wipe w.wipe)
    (s.onNv fun n => { n with writes := n.writes.filter fun w => decide (w.reply ≠ some f) }))

/-- Withdraw a command's record write before its commit marker (R184): one that waits is taken out; one that runs stops
at once while it waits for the ledger, else at the next boundary between its erases and page programs. None where the
write has passed its commit point. -/
def State.stopWrite (s : State) (f : DomeFrom) : Option State :=
  match s.nv.running with
  | some w =>
    if w.reply = some f then
      if w.stubborn ∨ 4 < w.step ∨ (w.step = 4 ∧ w.granted) then none
      else if w.granted then
        some ((s.onNv fun n =>
          { n with running := some { w with reply := none, onCommit := .answer, stopNext := true, wipe := none } }).wipe w.wipe)
      else some (((s.withdrawReq .flashWrite).onNv fun n => { n with running := none }).wipe w.wipe)
    else s.dropWrites f
  | none => s.dropWrites f

/-- Withdraw the Dome operations that a command or a MGMT request waits for (R552): a queued or running one frees its
entry and its grant, and its operand memory is cleared. -/
def State.stopDome (s : State) (f : DomeFrom) : State :=
  let mine := s.dome.queue.filter fun j => decide (j.src = f)
  let aborted := (mine.map (·.turret)) ++ ((s.dome.jobs.filter fun j => decide (j.src = f)).map (·.turret))
  let t := mine.foldl (fun t j => t.withdrawReq (.pkeOp j.id)) s
  let u := t.onDome fun d => { d with queue := d.queue.filter fun j => decide (j.src ≠ f),
                                      jobs := d.jobs.filter fun j => decide (j.src ≠ f) }
  aborted.foldl (fun t n => t.modDomeTur n fun x => { x with aborts := satInc x.aborts }) u

/-- An action without the valve test of a command. -/
def Action.without (a : Action) (r : ReplyTo) : Action := { a with replies := a.replies.filter fun q => decide (q ≠ r) }

/-- Whether an action is nothing but the valve test of a command (R420). -/
def Action.onlyFor (a : Action) (r : ReplyTo) : Bool := decide (a.kind = .test) && decide (a.replies = [r])

/-- A command in flight is withdrawn before its commit point, with no effect left; none where it has passed it (R184). A
valve test has passed it once its action has started, a rekey pass once it is granted (Table 14-6), a stop once it is accepted: STOP
is cleared on entry to READY alone (Table 8-2; log entry 43). -/
def State.abortable (s : State) (r : ReplyTo) : Option State :=
  if s.sys.stopReply = some r then none
  else if s.eject.queue.any (fun a => decide (r ∈ a.replies) && a.running) then none
  else if s.mem.rekey.any (fun j => decide (j.reply = some r) && j.granted) then none
  else
    match s.stopWrite (.traop r) with
    | none => none
    | some t =>
      let d := (t.stopDome (.traop r)).dropFe r
      let u := (d.countWaits (d.eject.queue.filter fun a => a.onlyFor r)).onEject fun e =>
        { e with queue := (e.queue.filter fun a => !a.onlyFor r).map (·.without r) }
      let v := if (u.mem.rekey.any fun j => decide (j.reply = some r)) then
          ((u.mem.rekey.filter fun j => decide (j.reply = some r)).foldl (fun t j => t.withdrawReq (.rekey j.owner j.region.code)) u).onMem
            fun m => { m with rekey := m.rekey.filter fun j => decide (j.reply ≠ some r) }
        else u
      let w := v.onLantern fun l =>
        { l with calib := match l.calib with
            | some c => if c.reply = r then none else some c
            | none => none }
      some w.settleExcite

/-- Abort one command: it ends `ER 42 ABORTED` unless it has passed its commit point, in which case it completes with
its normal answer (R171, R184). The second part says whether it was aborted. -/
def State.abortCmd (s : State) (r : ReplyTo) : State × Bool :=
  match s.abortable r with
  | some t => (t.er r 42, true)
  | none => (s, false)

/-- The answers address of a line on a session. -/
def Hdr.reply (h : Hdr) (y : Sess) : ReplyTo :=
  { sess := h.sess, tag := h.tag, addrd := decide (h.addr ≠ .absent), turret := y.login, gen := y.gen }

/-- Abort a list of commands; the second part counts those aborted. -/
def State.abortAll (s : State) : List ReplyTo → State × Nat
  | [] => (s, 0)
  | r :: rs =>
    let t := s.abortCmd r
    let u := t.1.abortAll rs
    (u.1, u.2 + if t.2 then 1 else 0)

/-- The tagged commands in flight of a session. -/
def State.jobsOf (s : State) (k : Nat) : List ReplyTo :=
  (s.jobs.filter fun j => decide (j.sess = k) && !j.answered).map (·.reply)

/-- The running untagged command of a session. -/
def State.runningOf (s : State) (k : Nat) : List ReplyTo :=
  match (s.getSess k).running with
  | some c => [c.2]
  | none => []

/-- A session's waiting untagged line is answered `ER 42 ABORTED` without being executed (R171, R183). The second part
counts it. -/
def State.dropWaiting (s : State) (k : Nat) : State × Nat :=
  match (s.getSess k).waiting with
  | some w =>
    ((s.modSess k fun y => { y with waiting := none }).say (Hdr.reply w.1 (s.getSess k)) [] (.er 42 []), 1)
  | none => (s, 0)

/-- `ABORT` (R183): it aborts the commands that its form names and answers how many. -/
def State.abortNow (s : State) (r : ReplyTo) (a : AbortArg) : State :=
  let k := r.sess
  match a with
  | .untagged =>
    let t := s.abortAll (s.runningOf k)
    let u := t.1.dropWaiting k
    u.1.say r [] (.ok [.int ((t.2 + u.2 : Nat) : Int)])
  | .tag n =>
    let t := s.abortAll ((s.jobsOf k).filter fun q => decide (q.tag = some n))
    t.1.say r [] (.ok [.int (t.2 : Int)])
  | .all =>
    let t := s.abortAll (s.runningOf k ++ s.jobsOf k)
    let u := t.1.dropWaiting k
    u.1.say r [] (.ok [.int ((t.2 + u.2 : Nat) : Int)])

/-- `ABORT` (R183): it acts as its tick ends, for a command that completes in that tick stands (Table 4-6). -/
def doAbort (r : ReplyTo) (a : AbortArg) (s : State) : State := s.onSys fun y => { y with aborts := y.aborts ++ [(r, a)] }

/-- The tick ends: what an `ABORT` of it names is aborted; a module that has halted in it answers as HALTED does (R125). -/
def State.abortTick (s : State) : State :=
  s.sys.aborts.foldl (fun t x =>
    match s.sys.halt, s.sys.state with
    | some h, .halted => t.say x.1 [] (.er 60 [.dec2 h.cause])
    | _, _ => t.abortNow x.1 x.2) (s.onSys fun y => { y with aborts := [] })

/-! ## Logins (R170–R179) -/

/-- A session's login ends (R171): its commands in flight end `ER 42 ABORTED`, except the one that ends the login and
those past their commit points; its waiting line is answered; its watches end; its challenge is used up (R173). -/
def State.endLogin (s : State) (k : Nat) (keep : Option ReplyTo) : State :=
  let t := (s.abortAll ((s.jobsOf k ++ s.runningOf k).filter fun q => decide (some q ≠ keep))).1
  ((t.dropWaiting k).1).modSess k fun y => { y with login := none, challenge := none, watches := [], nonce := none }

/-- A session closes (R186): its commands are aborted as under R171, and their answers are discarded; a job whose answer was
waiting is free (R182). -/
def State.closeSession (s : State) (k : Nat) : State :=
  let t := ((s.modSess k fun y => { y with isOpen := false }).endLogin k none).modSess k Sess.closed
  { t with jobs := t.jobs.filter fun j => !(decide (j.sess = k) && j.answered && j.leaves.isNone) }

/-- The login that a session has, if any, ends, and its challenge is used up (R171, R173). -/
def State.leaveLogin (s : State) (r : ReplyTo) : State :=
  if (s.getSess r.sess).login.isSome then s.endLogin r.sess (some r) else s.modSess r.sess fun y => { y with challenge := none }

/-- A session is logged in to a turret, and whatever login it had ends (R171, R179). -/
def State.logIn (s : State) (r : ReplyTo) (n : Nat) : State :=
  let t := (s.leaveLogin r).modSess r.sess fun y =>
    { y with login := some n, fails := SMap.put 0 y.fails n 0 }
  (t.emit .keep "session" "login" [.int r.sess, .int n]).ok r []

/-- Fifteen minutes (R127, R175, R176). -/
abbrev lockTicks : Nat := 900 * secTicks

/-- Whether a session's challenge login to a turret is locked out (R175). -/
def State.locked (s : State) (k n : Nat) : Bool := decide (s.now < SMap.look 0 (s.getSess k).lockEnd n)

/-- The seconds that remain until a tick, rounded up (Table 4-5). -/
def State.secsTo (s : State) (t : Tick) : Nat := (t - s.now + secTicks - 1) / secTicks

/-- A response is answered `ER 31 LOGIN` and counts toward a lockout, which the fifth in a row begins (R175). -/
def State.loginFails (s : State) (r : ReplyTo) (n : Nat) : State :=
  let k := r.sess
  let c := SMap.look 0 (s.getSess k).fails n + 1
  if c < 5 then (s.modSess k fun y => { y with fails := SMap.put 0 y.fails n c }).er r 31
  else ((s.modSess k fun y => { y with fails := SMap.put 0 y.fails n 0,
                                       lockEnd := SMap.put 0 y.lockEnd n (s.now + lockTicks) }).emit
        .keep "session" "lockout" [.int k, .int n]).er r 31

/-- `LOGIN n` (R172–R175): a fresh challenge, which replaces any other. -/
def doLoginChallenge (r : ReplyTo) (n : Int) (s : State) : State :=
  if 2 ≤ r.sess then s.er r 23
  else if n < 0 ∨ 63 < n then s.er r 21
  else if s.locked r.sess n.toNat then s.er r 32 [.int (s.secsTo (SMap.look 0 (s.getSess r.sess).lockEnd n.toNat))]
  else if s.dome.rngFault then s.er r 50
  else
    ((s.modSess r.sess fun y => { y with challenge := some ⟨s.drawChallenge, n.toNat, s.now⟩ }).useDraw).ok r
      [.challenge s.drawChallenge]

/-- Sixty seconds (R173, R502). -/
abbrev challengeTicks : Nat := 60 * secTicks

/-- Whether the key store in use fails its unwrap (R504). -/
def State.unwrapFails (s : State) : Bool := s.nv.unwrapBad

/-- An unwrap finds what the key store holds of a turret's key (R504); none where that is what was written. -/
def State.findWrap (s : State) (n : Nat) (w : Option (List Byte)) : State := s.onNv fun v => { v with unwrapBad := !unwraps n w }

/-- `LOGIN n response` (R172–R175). -/
def doLoginResponse (r : ReplyTo) (n : Int) (x : LoginIn) (s : State) : State :=
  let k := r.sess
  let m := n.toNat
  if 2 ≤ k then s.er r 23
  else if 0 ≤ n ∧ n ≤ 63 ∧ (s.getTurret m).state = .revoked then s.er r 23
  else if n < 0 ∨ 63 < n then s.er r 21
  else if s.locked k m then s.er r 32 [.int (s.secsTo (SMap.look 0 (s.getSess k).lockEnd m))]
  else
    let t := s.modSess k fun y => { y with challenge := none }
    match (s.getSess k).challenge with
    | none => t.loginFails r m
    | some c =>
      let key := SMap.look KeySlot.init (s.getTurret m).slots 1
      if c.turret ≠ m ∨ c.issued + challengeTicks ≤ s.now ∨ key.kind ≠ .login then t.loginFails r m
      else if (t.findWrap m x.wrap).unwrapFails then (t.findWrap m x.wrap).halt causeKeyStore
      else if x.response = loginHmac key.key c.value m k then t.useDigest.logIn r m
      else t.useDigest.loginFails r m

/-- Whether the digits of a PIN login are 6 to 10 decimal digits (R176). -/
def pinForm (digits : List Char) : Bool :=
  decide (6 ≤ digits.length ∧ digits.length ≤ 10) && digits.all fun c => decide ('0' ≤ c ∧ c ≤ '9')

/-- The PINs of a turret: the contents of its PIN slots (R503). -/
def Turret.pins (t : Turret) : List (List Byte) :=
  [3, 4, 5, 6, 7].filterMap fun k =>
    let x := SMap.look KeySlot.init t.slots k
    if x.kind = .pin then some x.key else none

/-- `LOGIN n pin digits` (R176): on the IR session, where the turret holds a PIN. -/
def doLoginPin (r : ReplyTo) (n : Int) (digits : List Char) (s : State) : State :=
  let m := n.toNat
  let t := s.getTurret m
  if r.sess ≠ 1 then s.er r 23
  else if 0 ≤ n ∧ n ≤ 63 ∧ (t.state = .revoked ∨ t.pins = []) then s.er r 23
  else if n < 0 ∨ 63 < n then s.er r 21
  else match t.pinLock.filter fun e => decide (s.now < e) with
    | some e => s.er r 32 [.int (s.secsTo e)]
    | none =>
      if s.unwrapFails then s.halt causeKeyStore
      else if (digits.map fun c => BitVec.ofNat 8 c.toNat) ∈ t.pins then
        (s.modTurret m fun t => { t with pinFails := 0, pinLock := none }).logIn r m
      else if t.pinFails + 1 < 5 then (s.modTurret m fun t => { t with pinFails := t.pinFails + 1 }).er r 31
      else
        (((s.modTurret m fun t => { t with pinFails := 0, pinLock := some (s.now + lockTicks) }).fileWrite
          { record := .keystore, body := .none, reply := none }).emit .keep "session" "lockout" [.int r.sess, .int m]).er r 31

/-- `LOGOUT` (R171, R177). -/
def doLogout (r : ReplyTo) (s : State) : State :=
  if 2 ≤ r.sess then s.er r 23 else (s.leaveLogin r).ok r []

/-- CHALLENGE_EXPIRY (R173): a session's challenge has been out for 60 s and expires. -/
def execChallengeExpiry (sess : Nat) (s : State) : Host.Outcome State Fault Refusal :=
  .next (s.modSess sess fun y => { y with challenge := y.challenge.filter fun c => decide (s.now < c.issued + challengeTicks) })

/-- Whether a session has a command in flight or a line waiting (R178). -/
def State.busySess (s : State) (k : Nat) : Bool :=
  (s.getSess k).running.isSome || (s.getSess k).waiting.isSome || !(s.jobsOf k).isEmpty

/-- SESSION_IDLE_TIMEOUT (R178): a serial session with a login, a nonzero timeout that has passed and nothing in flight is logged
out. -/
def execSessionIdleTimeout (sess : Nat) (s : State) : Host.Outcome State Fault Refusal :=
  .next (
    if sess < 2 ∧ (s.getSess sess).login.isSome ∧ s.nat .sessIdleS sess ≠ 0 ∧ s.busySess sess = false ∧
       (s.getSess sess).lastActive + s.nat .sessIdleS sess * secTicks ≤ s.now then
      (s.endLogin sess none).emit .keep "session" "timeout" [.int sess]
    else s)

/-- LOCKOUT_EXPIRY (R127, R175): the 15 minutes of a session's challenge-login lockout of a turret, or of the restart lockout,
have passed. -/
def execLockoutExpiry (who : Option (Nat × Nat)) (s : State) : Host.Outcome State Fault Refusal :=
  .next (match who with
    | some (k, n) => if s.locked k n then s else s.modSess k fun y => { y with lockEnd := SMap.put 0 y.lockEnd n 0 }
    | none => s.onSys fun y => { y with restartLock := y.restartLock.filter fun t => decide (s.now < t) })

/-- PIN_LOCKOUT_EXPIRY (R176): a turret has had 15 minutes with L24 valid; the record follows. -/
def execPinLockoutExpiry (n : Nat) (s : State) : Host.Outcome State Fault Refusal :=
  .next (
    if s.pwr.l24Valid = true ∧ (s.getTurret n).pinLock.any (fun t => decide (t ≤ s.now)) = true then
      (s.modTurret n fun t => { t with pinLock := none }).fileWrite { record := .keystore, body := .none, reply := none }
    else s)

/-! ## The command island (R99, R100) -/

/-- The LOGIN of every session ends, with no line sent about it. -/
def State.endLogins (s : State) : State :=
  [0, 1, 2, 3].foldl (fun t k => t.endLogin k none)
    ([0, 1, 2, 3].foldl (fun t k => t.modSess k fun y => { y with isOpen := false }) s)

/-- Every session drops its login, its commands, its lines and its queued events; the sessions that were open stay so. There is
room in its queue again, so a count of events dropped before stands first in it (R166; log entry 65). -/
def State.dropCommands (s : State) (was : SMap Sess) : State :=
  [0, 1, 2, 3].foldl (fun t k => t.modSess k fun y =>
    { y with isOpen := (SMap.look Sess.init was k).isOpen, login := none, running := none, waiting := none, out := [],
             gen := y.gen + 1, dropped := 0,
             events := if y.dropped = 0 then []
               else [{ s.eventLine "session" "lost" [.int k, .int y.dropped] with ready := y.ready }],
             ready := if y.dropped = 0 then y.ready else y.ready + 1 }) s

/-- I25 is reset (R99): open handshakes close with an abort result, commands that wait are withdrawn and not answered,
every session is logged out and the job table is cleared. More than 3 resets in 10 s halt the module (R100). -/
def State.resetCommandIsland (s : State) : State :=
  let u := s.endLogins.dropCommands s.sess
  let log := (u.isl.cmdLog.filter fun x => decide (s.now < x + 10 * secTicks)) ++ [s.now]
  let w := ({ u with jobs := [] }.onSys fun y => { y with aborts := [] }).onSerial fun p =>
    { p with taken := p.line.entries.length, irTaken := p.irLine.entries.length }
  let v := w.onIsl fun i =>
    { i with cmdDown := true, cmdLog := log, cmdResets := satInc i.cmdResets }
  if 3 < log.length then v.halt causeWatchdog else v

/-- I25_RESET (R99): I25 runs from step 9 of START. -/
def execI25Reset (s : State) : Host.Outcome State Fault Refusal :=
  .next (if s.serving = true ∨ (s.sys.state = .start ∧ 9 ≤ s.sys.step) then s.resetCommandIsland else s)

end Sys2Proof.Machine
end

