-- ==== Sys2Proof/Machine/Render.lean ====
section
/-! DEFINITION. The text of the lines that the module sends: numbers (R153, R589, Table 4-2), paths (R152), answers and
events (R163, R164), their check (R155) and their bound of 200 characters (R188). -/

namespace Sys2Proof.Machine

/-! ## Numbers -/

/-- Decimal digits of a number. -/
def decChars (n : Nat) : List Char := Nat.toDigits 10 n

/-- A signed decimal number. -/
def intChars (v : Int) : List Char := if v < 0 then '-' :: decChars (-v).toNat else decChars v.toNat

/-- The character of an upper-case hex digit. -/
def hexDigit (n : Nat) : Char := if n < 10 then Char.ofNat (48 + n) else Char.ofNat (55 + n)

/-- `w` upper-case hex digits of a number. -/
def hexChars : Nat → Nat → List Char
  | 0, _ => []
  | w + 1, n => hexChars w (n / 16) ++ [hexDigit (n % 16)]

/-- Upper-case hex digits of a number, without leading zeros. -/
def hexShort (n : Nat) : List Char := (Nat.toDigits 16 n).map Char.toUpper

/-- Upper-case hex digits of bytes, first byte first. -/
def bytesHex (bs : List Byte) : List Char := bs.flatMap fun b => hexChars 2 b.toNat

/-- Drop zeros from the end of a fraction, keeping at least `keep` digits. -/
def trimZeros (keep : Nat) (ds : List Char) : List Char :=
  let body := ds.drop keep
  ds.take keep ++ (body.reverse.dropWhile (· = '0')).reverse

/-- `w` decimal digits of a number, with leading zeros. -/
def decPad (w n : Nat) : List Char := let d := decChars n; List.replicate (w - d.length) '0' ++ d

/-- A fixed-point value with so many decimal places, with the fewest fraction digits that show it and at least `digits` (R589). -/
def fixedChars (places : Nat) (v : Int) (digits : Nat) : List Char :=
  let a := v.natAbs
  let frac := trimZeros digits (decPad places (a % 10 ^ places))
  (if v < 0 then ['-'] else []) ++ decChars (a / 10 ^ places) ++ (if frac = [] then [] else '.' :: frac)

/-- A fixed-point value in millionths. -/
def fixChars (v : Int) (digits : Nat) : List Char := fixedChars 6 v digits

/-- The power of ten of a positive fraction's first digit. -/
def powerOfTen (a d : Nat) : Int :=
  let la := (decChars a).length
  let ld := (decChars d).length
  let e : Int := (la : Int) - ld
  if (if ld ≤ la then d * 10 ^ (la - ld) ≤ a else d ≤ a * 10 ^ (ld - la)) then e else e - 1

/-- A reading, rounded half away from zero to nine significant digits, without trailing fraction zeros but with at least one
fraction digit, and without a sign where it is zero (R589). -/
def realChars (v : Frac) : List Char :=
  let a := v.num.natAbs
  let f : Int := 8 - powerOfTen a v.den
  if a = 0 then "0.0".toList
  else
    (if v.num < 0 then ['-'] else []) ++
    (if 0 ≤ f then
      let r := (roundDiv (a * 10 ^ f.toNat : Nat) v.den).toNat
      decChars (r / 10 ^ f.toNat) ++ ('.' :: trimZeros 1 (decPad (max f.toNat 1) (r % 10 ^ f.toNat)))
    else
      decChars ((roundDiv a (v.den * 10 ^ (-f).toNat)).toNat * 10 ^ (-f).toNat) ++ ".0".toList)

/-- Characters in groups of four joined by `-` (R172, R499). -/
def groupsOf4 : List Char → List Char
  | a :: b :: c :: d :: e :: rest => a :: b :: c :: d :: '-' :: groupsOf4 (e :: rest)
  | cs => cs

/-! ## Paths (R152) -/

/-- The name column of Table 2-3 by number. -/
def classWord (i : Nat) : String :=
  match i with
  | 0 => "valve" | 1 => "strobe" | 2 => "stepper" | 3 => "pke" | 4 => "flash" | 5 => "train" | 6 => "excite" | _ => "mem"

/-- The word of a head or a port by number. -/
def headWord (i : Nat) : String := if i = 0 then "a" else "b"

/-- The word of a link port. -/
def portWord (i : Nat) : String := if i = 0 then "u" else "d"

/-- The name of a record by its number in a path: epoch, keystore, shade, config, then recipes and statistics. -/
def recordChars (i : Nat) : List Char :=
  match i with
  | 0 => "epoch".toList | 1 => "keystore".toList | 2 => "shade".toList | 3 => "config".toList
  | i => if i < 128 then "recipe.".toList ++ decChars (i - 16) else "stats.".toList ++ decChars (i - 128)

/-- An index of a path as its settings table writes it. -/
def ixChars (k : Ix) (i : Nat) : List Char :=
  match k with
  | .head => (headWord i).toList
  | .port => (portWord i).toList
  | .record => recordChars i
  | .cls => (classWord i).toList
  | .valve => decPad 2 i
  | .island => decPad 2 i
  | .turret | .sess | .phase | .chan | .slot4 | .pin | .slot8 | .rule | .entry | .loop | .blob | .stream => decChars i

/-- The segments of a path with its indices put in: the first index is `i`, the second `j`. -/
def segChars : List Seg → List Nat → List (List Char)
  | [], _ => []
  | .w x :: ss, ix => x.toList :: segChars ss ix
  | .ix k :: ss, [] => ixChars k 0 :: segChars ss []
  | .ix k :: ss, i :: ix => ixChars k i :: segChars ss ix

/-- Lists of characters joined by one. -/
def joinWith (c : Char) : List (List Char) → List Char
  | [] => []
  | [x] => x
  | x :: y :: rest => x ++ c :: joinWith c (y :: rest)

/-- A path in the form of its owning settings table (R152). -/
def pathChars (k : Key) : List Char := joinWith '.' (segChars k.s.info.path [k.i, k.j])

/-! ## Lines -/

/-- A field of a line. -/
def fldChars (f : Fld) : List Char :=
  match f with
  | .int v => intChars v
  | .fix v d => fixChars v d
  | .fine v d => fixedChars 12 v d
  | .real v => realChars v
  | .dec2 n => decPad 2 n
  | .hex n w => hexChars w n
  | .mask n => '0' :: 'x' :: hexShort n
  | .challenge n => groupsOf4 (hexChars 16 n)
  | .word w => w.toList
  | .quoted cs => '"' :: cs ++ ['"']
  | .bytes bs => '$' :: bytesHex bs
  | .groups bs => groupsOf4 (bytesHex bs)
  | .path k => pathChars k
  | .chars cs => cs

/-- The address and tag of a line of the module, with the blank that follows them. -/
def prefixChars (l : OutLine) : List Char :=
  let a := match l.addr with
    | some n => '@' :: decPad 2 n
    | none => []
  let t := match l.tag with
    | some n => '#' :: decChars n
    | none => []
  if a ++ t = [] then [] else a ++ t ++ [' ']

/-- The bound on a line of the module (R188). -/
abbrev maxLine : Nat := 200

/-- Fields after a head, as many whole ones as fit in `room` characters; `..+` stands for the rest (R188). -/
def fitFields : List Char → List (List Char) → Nat → List Char
  | acc, [], _ => acc
  | acc, f :: fs, room =>
    let next := acc ++ ' ' :: f
    if (joinWith ' ' (next :: fs)).length ≤ room then joinWith ' ' (next :: fs)
    else if next.length + 4 ≤ room then fitFields next fs room
    else acc ++ " ..+".toList

/-- The text of a line's body within `room` characters (R163, R164, R188). -/
def bodyChars (b : LineBody) (room : Nat) : List Char :=
  match b with
  | .ok fs => joinWith ' ' ("OK".toList :: fs.map fldChars)
  | .er code fs => fitFields (joinWith ' ' ["ER".toList, decPad 2 code, (erWord code).toList]) (fs.map fldChars) room
  | .data fs => joinWith ' ' ("=".toList :: fs.map fldChars)
  | .ev src word fs => fitFields (joinWith ' ' ["EV".toList, src.toList, word.toList]) (fs.map fldChars) room

/-- A line as the module sends it, without its terminator; with a check where the session calls for one (R155). -/
def lineChars (l : OutLine) (check : Bool) : List Byte :=
  let pre := prefixChars l
  let txt := pre ++ bodyChars l.body (maxLine - pre.length - (if check then 3 else 0))
  let bs := txt.map fun c => BitVec.ofNat 8 c.toNat
  if check then bs ++ (('*' :: hexChars 2 (crc8 bs)).map fun c => BitVec.ofNat 8 c.toNat) else bs

/-- Whether the module appends a check to what it sends on a session (R155). -/
def State.checked (s : State) (k : Nat) : Bool := s.on .sessRequireCheck k || (s.getSess k).lastCheck

/-- A line of a session has been handed to its transmitter, and its last character leaves at a tick. The last line of a job's
answer frees the job's entry then (R182), and the answer to a `SET` of a serial format lets it take effect (R199, R231). -/
def State.lineLeaves (s : State) (k : Nat) (l : OutLine) (at_ : Tick) : State :=
  let t := s.onSerial fun p => p.mapAnswers fun w =>
    if w.sess = k ∧ w.ready = l.ready ∧ l.final = true ∧ w.until_.isNone = true then { w with until_ := some at_ } else w
  match l.tag with
  | some n =>
    if l.final then
      { t with jobs := t.jobs.map fun j =>
          if j.sess = k ∧ j.tag = n ∧ j.answered = true ∧ j.leaves.isNone = true then { j with leaves := some at_ } else j }
    else t
  | none => t

/-- A session's next event leaves. When room returns in a full queue, the count of dropped events is queued first (R166). -/
def State.takeEvent (s : State) (k : Nat) (rest : List OutLine) : State :=
  s.modSess k fun y =>
    if y.dropped = 0 then { y with events := rest }
    else { y with events := rest ++ [{ s.eventLine "session" "lost" [.int k, .int y.dropped] with ready := y.ready }],
                  ready := y.ready + 1, dropped := 0 }

/-- The next line that a session has to send, and the state without it: answers and events in the order in which they became ready
(Table 5-2), nothing between the lines of one answer (R161). -/
def State.takeLine (s : State) (k : Nat) : Option (OutLine × State) :=
  let y := s.getSess k
  match y.out, y.events with
  | [], [] => none
  | l :: rest, [] => some (l, s.modSess k fun y => { y with out := rest })
  | [], e :: rest => some (e, s.takeEvent k rest)
  | l :: out, e :: events => if e.ready < l.ready then some (e, s.takeEvent k events)
    else some (l, s.modSess k fun y => { y with out := out })

end Sys2Proof.Machine
end

