-- ==== Sys2Proof/Machine/Link.lean ====
section
/-! DEFINITION. Ecnio Link (R261–R308): the bypass channel, acknowledgment and replay, training, lane changes, flow control,
and a link that goes down. -/

namespace Sys2Proof.Machine

/-! ## The bypass channel (R279–R282) -/

/-- The priority of a bypass message (R280). -/
def BMsg.rank (m : BMsg) : Nat :=
  match m with
  | .haltNotice _ => 0
  | .mark _ _ _ => 1
  | .xoff => 2 | .xon => 2
  | .addr _ | .countReq _ | .count _ _ | .tmgmt _ | .openS _ | .openOk _ | .close _ _ _ | .keyReady _
  | .keyConfirm _ | .keyFail _ _ _ => 3

/-- A message joins those that wait, behind every one of its own or a higher priority (R280). -/
def insertMsg (m : BMsg) : List BMsg → List BMsg
  | [] => [m]
  | x :: xs => if m.rank < x.rank then m :: x :: xs else x :: insertMsg m xs

/-- The number of the last bypass set received in order, if any was (Table 7-2, R279). -/
def Port.bypAck (q : Port) : Option Nat := if q.bGot then some ((q.bRx + 7) % 8) else none

/-- A bypass message as it leaves: a Spire's mark carries the count at which its first symbol leaves (Table 6-2); the time that a
forwarded one has waited is part of its residence (R280). -/
def BMsg.leave (m : BMsg) (spire : Bool) (now : Tick) : BMsg :=
  match m with
  | .mark x r t =>
    .mark (if spire then { x with origin := now } else { x with delay16 := (x.delay16 + 16 * (now - t)) % 2 ^ 24 }) r now
  | .xoff | .xon | .addr _ | .countReq _ | .count _ _ | .tmgmt _ | .haltNotice _ | .openS _ | .openOk _ | .close _ _ _
  | .keyReady _ | .keyConfirm _ | .keyFail _ _ _ => m

/-- The first waiting bypass set leaves at a boundary between frames while fewer than 7 are unacknowledged, and takes its 38 symbol
places (R279–R281). The timer of R275 starts with the first that is unacknowledged (log entry 72). -/
def Port.pump (now : Tick) (down spire : Bool) (p : Port) : Port :=
  match p.bWait with
  | [] => p
  | m :: ms =>
    if p.bUnacked.length < 7 ∧ p.state = .up ∧ p.busyTo ≤ now then
      let x := m.leave spire now
      ({ p with bWait := ms, bTx := (p.bTx + 1) % 8, bUnacked := p.bUnacked ++ [⟨p.bTx, x⟩], busyTo := now + p.symTicks 38,
                ackAt := if p.bUnacked = [] ∧ p.unacked = [] then now else p.ackAt } : Port).put down [.bypass p.bTx false p.bypAck x]
    else p

/-- Whether a bypass message is one that this module originates (R480): what names another module is forwarded, and so is every mark
but a Spire's. -/
def State.originates (s : State) (m : BMsg) : Bool :=
  match m with
  | .mark _ _ _ => s.tower.spire
  | .xoff | .xon | .addr _ => true
  | .countReq _ => s.tower.spire
  | .count a _ => decide (a = s.tower.addr)
  | .tmgmt t => decide (t.addr = s.tower.addr)
  | .haltNotice i => decide (i.addr = s.tower.addr)
  | .openS k | .openOk k | .keyReady k | .keyConfirm k => decide (k.modAddr = s.tower.addr)
  | .close _ a _ | .keyFail _ a _ => decide (a = s.tower.addr)

/-- Whether the verify fence holds what a port's bypass channel would send next (R480). -/
def State.bypassHeld (s : State) (p : Nat) : Bool := s.fenced 22 && (s.getPort p).bWait.head?.any s.originates

/-- What waits on a port's bypass channel leaves as far as it may. LINK U is the downstream end of its hop. -/
def State.pump (s : State) (p : Nat) : State :=
  if s.bypassHeld p then s
  else s.modPort p (Port.pump s.now (decide (p = 0)) (s.tower.spire && decide (p = 1)))

/-- A port puts something on its lanes. -/
def State.put (s : State) (p : Nat) (xs : List LinkOut) : State := s.modPort p fun q => q.put (decide (p = 0)) xs

/-- A bypass message is sent on a port whose link is up or changes lanes; on any other it is lost. -/
def State.sendBypass (s : State) (p : Nat) (m : BMsg) : State :=
  match (s.getPort p).state with
  | .up | .retrain => (s.modPort p fun q => { q with bWait := insertMsg m q.bWait }).pump p
  | .down | .training => s

/-- Unacknowledged entries after an acknowledgment that names one of them: those that follow it. -/
def afterAck {α : Type} (seqOf : α → Nat) (n : Nat) (xs : List α) : List α :=
  if xs.any (fun x => decide (seqOf x = n)) then ((xs.dropWhile fun x => decide (seqOf x ≠ n)).drop 1) else xs

/-- A bypass acknowledgment frees the entries up to the one named, and those that wait may leave (R281). -/
def State.ackBypass (s : State) (p : Nat) (byp : Option Nat) : State :=
  match byp with
  | none => s
  | some m =>
    (s.modPort p fun q =>
      let left := afterAck TxBypass.seq m q.bUnacked
      { q with bUnacked := left, ackAt := if left.length < q.bUnacked.length then s.now else q.ackAt }).pump p

/-! ## Frames: acknowledgment and replay (R273–R276) -/

/-- Whether a frame carries a CHIP or LINE stream of this module. -/
def State.ownImage (s : State) (f : Frame) : Bool :=
  decide (f.dir = 0) && decide (f.stype ≤ 1) && decide (f.modAddr = s.tower.addr)

/-- The first record of a stream that has wholly been sent leaves the capture buffer. -/
def dropSent (stream : Nat) : List CapRec → List CapRec
  | [] => []
  | r :: rs => if r.stream = stream ∧ r.data.length ≤ r.sent then rs else r :: dropSent stream rs

/-- Frames freed by an acknowledgment: the capture records that they end are acknowledged (R275, R316). -/
def State.freeFrames (s : State) (fs : List TxFrame) : State :=
  fs.foldl (fun t x =>
    if s.ownImage x.frame && x.frame.last then t.onCapture fun c => { c with recs := dropSent x.frame.stream c.recs }
    else t) s

/-- An acknowledgment that names frame `n` frees it and every frame before it, and the fill is judged again (R275, R317). -/
def State.ackFrames (s : State) (p n : Nat) : State :=
  let q := s.getPort p
  let left := afterAck TxFrame.seq n q.unacked
  let freed := q.unacked.take (q.unacked.length - left.length)
  if freed = [] then s
  else ((s.modPort p fun q => { q with unacked := left, ackAt := s.now }).freeFrames freed).fillCross

/-- `EV link x word` of a port, to the Keep (Table 4-4). -/
def State.linkEvent (s : State) (p : Nat) (word : String) (fs : List Fld) : State :=
  s.emit .keep "link" (portWord p) (.word word :: fs)

/-! ## Streams that close (R289, R304) -/

/-- The frames that bytes take. -/
def framesOf (n : Nat) : Nat := (n + 2047) / 2048

/-- A stream closes at this end: its session with it (R186), its unsent frames are discarded and counted, and a rekey
under way is abandoned (R289, R304, Table 7-9). `all` discards what was sent and not acknowledged as well. -/
def State.shutStream (s : State) (n : Nat) (all : Bool) : State :=
  let st := s.getStream n
  if !st.isOpen then s
  else
    let unsent := s.capture.recs.filter fun r => decide (r.stream = n) && (all || decide (r.sent < r.data.length))
    let lines := match st.sess with
      | some k => (s.getSess k).out.length + (s.getSess k).events.length
      | none => 0
    let lost := (unsent.map fun r => framesOf (r.data.length - r.sent)).sum + (st.recs.map fun r => framesOf r.2.length).sum + lines
    let t := match st.sess with
      | some k => s.closeSession k
      | none => s
    (((t.modStream n fun y => { y with isOpen := false, sess := none, recs := [], readySent := none, flipPending := false,
                                       authFails := 0 }).onCapture fun c =>
        { c with recs := c.recs.filter fun r =>
            !(decide (r.stream = n) && (all || decide (r.sent < r.data.length))) }).modPort 0 fun q =>
        { q with framesLost := satAdd q.framesLost lost, rxPartial := SMap.del q.rxPartial n }).fillCross

/-- The open streams of this module. -/
def State.openStreams (s : State) : List Nat := (List.range 256).filter fun n => (s.getStream n).isOpen

/-- A stream closes and the other end is told (R289). -/
def State.closeStream (s : State) (n : Nat) (why : CloseReason) : State :=
  if (s.getStream n).isOpen then (s.shutStream n false).sendBypass 0 (.close n s.tower.addr why) else s

/-! ## Link down (R303, R304) -/

/-- A link is declared down: the port's buffers are discarded; on LINK U every stream of the module closes, and with it
its console sessions; `EV link x down` says why, and beacons resume after 100 ms (R304). -/
def State.linkDown (s : State) (p : Nat) (reason : String) : State :=
  match (s.getPort p).state with
  | .down => s
  | .training => (s.releaseGrant (.train p)).modPort p Port.quiet
  | .up | .retrain =>
    let t := if p = 0 then s.openStreams.foldl (fun t n => t.shutStream n true) s else s
    ((t.modPort p fun q => { q.quiet with
        downs := satInc q.downs
        beaconAt := s.now + 100 * msTicks
        framesLost := satAdd q.framesLost q.waitQ.length }).linkEvent p "down" [.word reason])

/-- A frame that has been sent 8 times without acknowledgment brings the link down (R276). -/
abbrev maxSends : Nat := 8

/-- Every unacknowledged frame is sent again, in order, before any new one (R275); with `byp`, the unacknowledged bypass
sets too, with their replay flag (R281). A frame already sent 8 times brings the link down (R276). -/
def State.replay (s : State) (p : Nat) (byp : Bool) : State :=
  let q := s.getPort p
  if q.unacked.any fun x => decide (maxSends ≤ x.sends) then s.linkDown p "replay"
  else
    s.modPort p fun q =>
      ({ q with unacked := q.unacked.map fun x => { x with sends := x.sends + 1 }
                replays := if q.unacked = [] then q.replays else satInc q.replays
                ackAt := s.now
                busyTo := max q.busyTo s.now + (q.unacked.map fun x => q.symTicks x.frame.symbols).sum +
                  (if byp then q.bUnacked.length * q.symTicks 38 else 0) } : Port).put (decide (p = 0))
        ((q.unacked.map fun x => LinkOut.frame x.seq x.frame) ++
         (if byp then q.bUnacked.map fun x => LinkOut.bypass x.seq true q.bypAck x.msg else []))

/-- A set or frame has arrived on a link that is up (R303). -/
def State.hear (s : State) (p : Nat) : State := s.modPort p fun q => { q with heard := s.now }

/-- ACK (R275): an acknowledgment frees frames and bypass sets. -/
def execAck (port : Nat) (sets : List LaneSet) (s : State) : Host.Outcome State Fault Refusal :=
  .next (
    match (s.getPort port).ctrlOf sets with
    | some (0x01, d) => if (s.getPort port).state = .up then
        ((s.hear port).ackFrames port (ackData d).1).ackBypass port (ackData d).2
      else s
    | some _ => s
    | none => s)

/-- NAK (R275): the frames up to the one named are acknowledged, and every frame after it is sent again. -/
def execNak (port : Nat) (sets : List LaneSet) (s : State) : Host.Outcome State Fault Refusal :=
  .next (
    match (s.getPort port).ctrlOf sets with
    | some (0x02, d) => if (s.getPort port).state = .up then
        (((s.hear port).ackFrames port (ackData d).1).ackBypass port (ackData d).2).replay port false
      else s
    | some _ => s
    | none => s)

/-- The replay timer in ticks: 4 times the round trip, which is twice the hop latency, and 4 µs (R275). -/
def Port.replayTicks (q : Port) : Nat := (q.hop16 + 1) / 2 + 4 * usTicks

/-- REPLAY_TIMER (R275, R281): nothing has been acknowledged in time, and everything unacknowledged is sent again. -/
def execReplayTimer (port : Nat) (s : State) : Host.Outcome State Fault Refusal :=
  .next (
    let q := s.getPort port
    if q.state = .up ∧ (q.unacked ≠ [] ∨ q.bUnacked ≠ []) ∧ q.ackAt + q.replayTicks ≤ s.now then s.replay port true else s)

/-! ## Receiving frames (R271, R274, R303) -/

/-- An ACK or NAK set with the last frame and the last bypass set received in order (Table 7-2). -/
def Port.ackSet (q : Port) (nak : Bool) : LinkOut :=
  let n := (q.rxSeq + 4095) % 4096
  if nak then .nak n q.bypAck else .ack n q.bypAck

/-- The frames that failed R271 among the last 2^`link.x.crc_window` received, the one received now among them (R303). -/
def State.badIn (s : State) (p : Nat) (bad : Bool) : List Nat :=
  let q := s.getPort p
  (q.winBad.filter fun i => decide (q.winFrames < i + 2 ^ s.nat .linkCrcWindow p)) ++ (if bad then [q.winFrames] else [])

/-- A frame arrives on a port: the frame accepted, if any, and the state (R274). A frame counts in the window of R303, and
too many bad ones bring the link down. -/
def State.frameIn (s : State) (p : Nat) (x : RxFrame) : State × Option Frame :=
  let q := s.getPort p
  if q.state ≠ .up then (s, none)
  else
    match x.frame with
    | none =>
      let t := (s.modPort p fun q =>
        { q with crcErrors := satInc q.crcErrors, winFrames := q.winFrames + 1, winBad := s.badIn p true,
                 nakSent := q.nakSent || decide (x.ending = .eof),
                 heard := s.now }).put p (if q.nakSent ∨ x.ending = .edb then [] else [q.ackSet true])
      if s.nat .linkCrcLimit p < (s.badIn p true).length then (t.linkDown p "crc", none) else (t, none)
    | some (seq, f) =>
      let t := s.modPort p fun q => { q with winFrames := q.winFrames + 1, winBad := s.badIn p false, heard := s.now }
      if seq = q.rxSeq then
        let u := t.modPort p fun q => { q with rxSeq := (q.rxSeq + 1) % 4096, nakSent := false }
        (u.put p [(u.getPort p).ackSet false], some f)
      else if (q.rxSeq + 4096 - seq) % 4096 ≤ 2047 then (t.put p [q.ackSet false], none)
      else ((t.modPort p fun q => { q with nakSent := true }).put p (if q.nakSent then [] else [q.ackSet true]), none)

/-! ## Training (R266–R269) -/

/-- The mask of the lanes on which TS1 was last received (Table 7-2). -/
def Port.tsMask (q : Port) : Nat := q.tsLanes.foldl (fun m l => m ||| 2 ^ l) 0

/-- LINK_BEACON (R267): a down port that is live sends its burst of TS1, 100 µs long, every 100 ms. -/
def execLinkBeacon (port : Nat) (s : State) : Host.Outcome State Fault Refusal :=
  .next (
    if s.portLive port ∧ (s.getPort port).state = .down ∧ (s.getPort port).beaconAt ≤ s.now then
      (s.modPort port fun q =>
        { q with beaconAt := s.now + 100 * msTicks, burstTo := s.now + 100 * usTicks, skipAt := symTime s.now }).put port
           [.beacon (s.getPort port).tsMask]
    else s)

/-- The lanes on which an intact TS1 has arrived. -/
def ts1Lanes (sets : List LaneSet) : List Nat :=
  (List.range 5).filter fun l => sets.any fun x => decide (x.lane = l) && decide ((ctrlSyms x.syms).map (·.1) = some 0x10)

/-- TS1 on a port that is down or trains: it notes the lanes, and a down one files a train request (Table 2-3: 50 ms, then refiled).
-/
def State.ts1In (s : State) (port : Nat) (sets : List LaneSet) (d : List Byte) : State :=
  if s.portLive port ∧ ((s.getPort port).state = .down ∨ (s.getPort port).state = .training) then
    let t := s.modPort port fun q => { q with tsLanes := ts1Lanes sets, peerMask := some (byteAt d 2) }
    if (s.getPort port).state = .down ∧ (s.getPort port).trainReq = false then
      (t.modPort port fun q => { q with trainReq := true }).file .train 0 0 1 (50 * msTicks) (.train port)
    else t
  else s

/-- TS1 (R267, R299): TS1 on a down port makes it file a train request. The downstream end of a hop whose upstream end sends TS1 gives
up a lane change of its own, and trains with it (log entry 100). -/
def execTs1 (port : Nat) (sets : List LaneSet) (s : State) : Host.Outcome State Fault Refusal :=
  .next (
    match (s.getPort port).ctrlOf sets with
    | some (0x10, d) =>
      if port = 0 ∧ (s.getPort port).state = .retrain then (s.linkDown port "retrain").ts1In port sets d else s.ts1In port sets d
    | some _ => s
    | none => s)

/-- The width that healthy lanes allow (R267, R302). -/
def widthOf (healthy : List Nat) : Nat :=
  if 4 ≤ healthy.length then 4 else if 2 ≤ healthy.length then 2 else healthy.length

/-- Training fails or is abandoned: the grant is released, and beacons go on (R267). -/
def State.trainFails (s : State) (p : Nat) : State := (s.releaseGrant (.train p)).modPort p Port.quiet

/-- The mask of the lanes on which the other end receives TS1: that of the TS1 last received, every lane where none was. -/
def State.peerLanes (s : State) (p : Nat) (sets : List LaneSet) : Nat :=
  match (s.getPort p).ctrlOf sets with
  | some (0x10, d) => byteAt d 2
  | some _ => (s.getPort p).peerMask.getD 31
  | none => (s.getPort p).peerMask.getD 31

/-- TRAINING (R261, R266, R267, Table 7-3): a granted port finds its healthy lanes. The upstream end, LINK D, sends the width and
the map: the four lowest lanes that are healthy at both ends become data lanes and the next the spare. The downstream end takes
and echoes the TS2 that it receives. With no healthy lane training fails. -/
def execTraining (port : Nat) (found : TrainIn) (s : State) : Host.Outcome State Fault Refusal :=
  .next (
    if s.portLive port = true ∧ (s.getPort port).state = .training ∧ (s.getPort port).width = 0 then
      let own := found.healthy
      let h := if port = 1 then own.filter fun l => (s.peerLanes port found.sets).testBit l else own
      let w := widthOf h
      if w = 0 then s.trainFails port
      else
        let set (w : Nat) (m : List Nat × Option Nat) : State :=
          (s.put port [.ts1 (own.foldl (fun k l => k ||| 2 ^ l) 0), .ts2 w m.1 m.2]).modPort port fun q =>
            { q with healthy := h, width := w, map := m.1, spare := m.2 }
        if port = 1 then set w (h.take w, h[w]?)
        else match (s.getPort port).ctrlOf found.sets with
          | some (0x11, d) =>
            let v := byteAt d 1
            if v = 1 ∨ v = 2 ∨ v = 4 then set v (laneMap v d) else s
          | some _ => s
          | none => s
    else s)

/-- TRAINING_TIMEOUT (R267): 10 ms after its grant training has not completed: it is abandoned, its grant released, and beacons
go on. -/
def execTrainingTimeout (port : Nat) (s : State) : Host.Outcome State Fault Refusal :=
  .next (
    if (s.getPort port).state = .training ∧ (s.getPort port).grantAt + 10 * msTicks ≤ s.now then s.trainFails port else s)

/-- The hop's latency in 1/16 tick: the mean over so many exchanges, rounded to the nearest (R268; log entry 73). -/
def hopOf (n : Nat) (xs : List Exchange) : Option Nat :=
  let ys := xs.filterMap Exchange.twice16
  if xs.length = n ∧ ys.length = n then some (roundDiv (ys.sum : Nat) (2 * n)).toNat else none

/-- What the exchanges of a hop give (R268): at the downstream end the requests it has sent and the latency; at the upstream end
the echoes it has sent, each with its residence, and a latency that no rule gives: `hop16` (log entry 73). None where an exchange
is missing or not intact. -/
def exchanged (port n : Nat) (xs : List Exchange) (hop16 : Nat) : Option (List LinkOut × Nat) :=
  if port = 0 then (hopOf n xs).map fun h => (xs.map fun x => LinkOut.time false (x.left16 % 2 ^ 64) 0, h)
  else
    let ys := xs.filterMap fun x => x.request.map fun t => LinkOut.time true t ((x.left16 - x.came16) % 2 ^ 24)
    if xs.length = n ∧ ys.length = n then some (ys, hop16) else none

/-- The reserved rates of the streams assigned on this module, Mb/s (R288). -/
def State.rateSum (s : State) : Nat :=
  ((List.range 256).map fun n => if s.int .streamTurret n = 255 then 0 else s.nat .streamRateMbps n).sum

/-- The reserved rates of the tower's streams, as announced to this module (R288). -/
def State.towerRates (s : State) : Nat := s.rateSum + (s.tower.rates.map (·.2)).sum

/-- The module's own TMGMT message (Table 7-5). -/
def State.ownTmgmt (s : State) : Tmgmt :=
  { addr := s.tower.addr, state := s.sys.state.place, epoch := s.sys.epoch, rates := s.rateSum, reached := s.tower.reached,
    role := (s.int .towerRole).toNat, partner := s.nat .towerPartner }

/-- A TMGMT message goes to every module that is reached: out of both ports (R288, R294). -/
def State.sendTmgmt (s : State) : State :=
  (s.sendBypass 0 (.tmgmt s.ownTmgmt)).sendBypass 1 (.tmgmt s.ownTmgmt)

/-- The tick ends: what has changed of the module's address, state, epoch, sum of rates, role or partner is announced (R240, R242, R246,
R288, R294; log entry 112). -/
def State.tmgmtTick (s : State) : State :=
  let m : Tmgmt := { s.ownTmgmt with reached := [] }
  if s.tower.told = some m then s else (s.onTower fun t => { t with told := some m }).sendTmgmt

/-- TRAINING_COMPLETE (R267–R269): within 10 ms of the grant and after 64 TIME exchanges the link is up with its numbers at 0, the
grant is released, addresses and epochs are exchanged (R233, R294). -/
def execTrainingComplete (port : Nat) (times : List Exchange) (s : State) : Host.Outcome State Fault Refusal :=
  .next (
    let q := s.getPort port
    if s.portLive port = true ∧ q.state = .training ∧ 0 < q.width ∧ s.now < q.grantAt + 10 * msTicks then
      match exchanged port 64 times (s.freeNat % 2 ^ 16) with
      | none => s
      | some r =>
        let f := if port = 0 then s else s.useFree
        let t := ((f.put port r.1).releaseGrant (.train port)).modPort port fun q =>
          { q.quiet with
            state := .up, width := q.width, map := q.map, spare := q.spare, healthy := q.healthy, hop16 := r.2,
            ackAt := s.now, heard := s.now, skipAt := q.skipAt }
        let u := t.linkEvent port "up" [.int q.width]
        let v := if port = 0 then u.onTower fun y => { y with trainedAt := some s.now } else u
        (v.sendBypass port (.addr s.tower.addr)).sendTmgmt
    else s)

/-! ## Flow control (R283–R285) -/

/-- `link.x.headroom_min` (R284): R_B × (RTT + 400 ns + T_F) + 2 × 2 086 bytes, rounded up. With R_B = 5/8 byte/ns per lane,
RTT = 5/4 ns per 1/16 tick of hop latency and T_F = 8/5 ns per symbol time, that is width × (25/32 hop + 250 + symbol
times) + 4 172. -/
def Port.headroomMin (q : Port) : Nat :=
  if q.width = 0 then 0
  else (q.width * 25 * q.hop16 + 31) / 32 + q.width * (250 + (2086 + q.width - 1) / q.width) + 4172

/-- The size of a receive buffer (R283). -/
abbrev rxSize : Nat := 131072

/-- The bytes of a port's receive buffer that hold frames which wait to go on: they leave by the other port. -/
def State.rxWaiting (s : State) (p : Nat) : Nat :=
  (((s.getPort (1 - p)).waitQ.filter fun w => decide (w.cls ≠ 256)).map fun w => w.frame.symbols).sum

/-- The free space of a port's receive buffer (R283). -/
def State.rxFree (s : State) (p : Nat) : Nat := rxSize - (s.rxWaiting p + (s.getPort p).rxBusy)

/-- The far end is held off once free space falls below the effective headroom, and let go once it rises above that and the hysteresis
(R283, R284). -/
def State.flow (s : State) (p : Nat) : State :=
  let q := s.getPort p
  let h := max (s.nat .linkHeadroom p) q.headroomMin
  if q.state = .up ∧ s.rxFree p < h ∧ q.xoffOut = false then
    (s.modPort p fun q => { q with xoffOut := true, xoffs := satInc q.xoffs }).sendBypass p .xoff
  else if q.state = .up ∧ h + s.nat .linkHysteresis p < s.rxFree p ∧ q.xoffOut = true then
    (s.modPort p fun q => { q with xoffOut := false }).sendBypass p .xon
  else s

/-- RECEIVE_BUFFER_THRESHOLD (R283, R284): free space as it stands now, what the receiving circuits hold beside the frames that wait
among it (log entry 101). -/
def execReceiveBufferThreshold (port free : Nat) (s : State) : Host.Outcome State Fault Refusal :=
  .next ((s.modPort port fun q => { q with rxBusy := rxSize - free - s.rxWaiting port }).flow port)

/-- What a port does as time passes: its skip set, its bypass set that waits for a frame to end, and XOFF and XON by what its buffer
holds (R264, R280, R283). A bypass set that the verify fence holds waits (R482). -/
def State.portTick (s : State) (p : Nat) : State :=
  let t := if s.bypassHeld p then s.holdFor 22 else s
  ((t.modPort p fun q => q.skip s.now (decide (p = 0))).pump p).flow p

/-- What both ports do as time passes. -/
def State.linkTick (s : State) : State := (s.portTick 0).portTick 1

/-- XOFF (R283): the far end holds new frames off. -/
def execXoff (port : Nat) (s : State) : Host.Outcome State Fault Refusal :=
  .next (
    if (s.getPort port).state = .up ∨ (s.getPort port).state = .retrain then
      s.modPort port fun q => { q with xoffIn := some (q.xoffIn.getD s.now) }
    else s)

/-- XON (R283): frames may start again. -/
def execXon (port : Nat) (s : State) : Host.Outcome State Fault Refusal :=
  .next (
    if (s.getPort port).state = .up ∨ (s.getPort port).state = .retrain then
      s.modPort port fun q => { q with xoffIn := none, xoffTold := false }
    else s)

/-- LINK_STALLED (R285): XOFF has been in force for 1 s. -/
def execLinkStalled (port : Nat) (s : State) : Host.Outcome State Fault Refusal :=
  .next (
    if ((s.getPort port).xoffIn.any fun t => decide (t + secTicks ≤ s.now)) ∧ (s.getPort port).xoffTold = false then
      (s.modPort port fun q => { q with xoffTold := true }).linkEvent port "stalled" []
    else s)

/-! ## Lane replacement and width fallback (R299, R301, R302) -/

/-- A frame in progress is ended with EDB (Table 7-10). -/
def Port.cut (q : Port) (now : Tick) : List LinkOut := if now < q.busyTo then [.abandon] else []

/-- A port stops frames and bypass sets for a change to another lane map, and sends what the change takes (Table 7-10). Its times run
from the detection: an end that follows after it has asked keeps its own. -/
def State.beginChange (s : State) (p w : Nat) (map : List Nat) (spare : Option Nat) (failed : List Nat) (xs : List LinkOut) :
    State :=
  (s.put p ((s.getPort p).cut s.now ++ xs)).modPort p fun q =>
    { q with state := .retrain, change := some (q.change.getD s.now), changeWidth := some w, map := map, spare := spare,
             failed := q.failed ++ failed, busyTo := s.now }

/-- A lane is replaced by the spare, or the width falls, at the upstream end (R301, R302). A healthy lane that is no data lane is
the spare (R261). -/
def State.changeLanes (s : State) (p lane : Nat) : State :=
  let q := s.getPort p
  match q.spare with
  | some sp =>
    let m := q.map.map fun l => if l = lane then sp else l
    ((s.beginChange p q.width m none [lane] [.repl true lane m none]).modPort p fun q =>
      { q with laneReps := satInc q.laneReps }).linkEvent p "lane" [.int lane]
  | none =>
    let h := (List.range 5).filter fun l => decide (l ∈ q.map ∧ l ≠ lane)
    let w := if 2 ≤ h.length then 2 else h.length
    if w = 0 then s.linkDown p "lanes"
    else (s.beginChange p w (h.take w) h[w]? [lane] [.widthSet w (h.take w) h[w]?]).linkEvent p "width" [.int w]

/-- LANE_ERROR_LIMIT (R301, R302): a data lane's errors in 1 ms exceed the limit. The upstream end (LINK D) changes lanes;
the downstream end asks for it. -/
def execLaneErrorLimit (port lane errors : Nat) (s : State) : Host.Outcome State Fault Refusal :=
  .next (
    let q := s.getPort port
    if q.state = .up ∧ lane ∈ q.map ∧ s.nat .linkLaneLimit port < errors then
      if port = 1 then s.changeLanes port lane
      else s.beginChange port q.width q.map q.spare [] [.repl false lane q.map q.spare]
    else s)

/-- REPL (R301): a request makes the upstream end change lanes; a command is followed by the downstream end, which gives up
an attempt of its own (R299). -/
def execRepl (port : Nat) (sets : List LaneSet) (s : State) : Host.Outcome State Fault Refusal :=
  .next (
    let q := s.getPort port
    match q.ctrlOf sets with
    | some (0x13, d) =>
      if q.state ≠ .up ∧ q.state ≠ .retrain then s
      else if byteAt d 0 = 0 then
        if port = 1 ∧ q.state = .up ∧ byteAt d 1 ∈ q.map then (s.hear port).changeLanes port (byteAt d 1) else s
      else if port = 0 then
        let m := laneMap q.width d
        (((s.hear port).beginChange port q.width m.1 m.2 [byteAt d 1] []).modPort port fun q =>
          { q with laneReps := satInc q.laneReps }).linkEvent port "lane" [.int (byteAt d 1)]
      else s
    | some _ => s
    | none => s)

/-- WIDTH (R302): the downstream end follows the width and the lane map that the upstream end sends. -/
def execWidth (port : Nat) (sets : List LaneSet) (s : State) : Host.Outcome State Fault Refusal :=
  .next (
    let q := s.getPort port
    match q.ctrlOf sets with
    | some (0x14, d) =>
      let w := byteAt d 1
      if port = 0 ∧ (q.state = .up ∨ q.state = .retrain) then
        if w = 0 then s.linkDown port "lanes"
        else if w = 1 ∨ w = 2 then
          let m := laneMap w d
          (((s.hear port).beginChange port w m.1 m.2 (q.map.filter fun l => decide (l ∉ m.1 ∧ some l ≠ m.2)) [])).linkEvent
            port "width" [.int w]
        else s
      else s
    | some _ => s
    | none => s)

/-- LANE_CHANGE_COMPLETE (R301, Table 7-10): within 100 µs of the detection, and after 8 TIME exchanges, the link resumes with its
replays first; later it is declared down. -/
def execLaneChangeComplete (port : Nat) (times : List Exchange) (s : State) : Host.Outcome State Fault Refusal :=
  .next (
    let q := s.getPort port
    match q.change with
    | none => s
    | some t =>
      if t + 100 * usTicks < s.now then s.linkDown port "retrain"
      else match exchanged port 8 times q.hop16 with
        | none => s
        | some r =>
          (((s.modPort port fun q =>
            { q with state := .up, change := none, changeWidth := none, width := q.changeWidth.getD q.width, heard := s.now,
                     hop16 := r.2 }).put port r.1).replay port true).pump port)

/-- LOCK_TIMEOUT (R303): symbol lock on every data lane has been lost for longer than `link.x.lock_timeout`: nothing has arrived
within it. -/
def execLockTimeout (port : Nat) (s : State) : Host.Outcome State Fault Refusal :=
  .next (
    let q := s.getPort port
    if (q.state = .up ∨ q.state = .retrain) ∧ q.heard + s.nat .linkLockTimeout port / 10 < s.now then s.linkDown port "lock" else s)

/-- HALT_SET (R305): the neighbour has halted: the link is down, also one that trains, and from LINK D the host is told. -/
def execHaltSet (port : Nat) (sets : List LaneSet) (s : State) : Host.Outcome State Fault Refusal :=
  .next (
    match (s.getPort port).ctrlOf sets with
    | some (0x20, d) =>
      if (s.getPort port).state ≠ .down ∨ s.portLive port = true then
        let i := haltData d
        let t := (s.linkDown port "peer-halt").linkEvent port "peer-halt" [.dec2 i.addr, .dec2 i.cause]
        if port = 1 then t.sendBypass 0 (.haltNotice i) else t
      else s
    | some _ => s
    | none => s)

/-- HALT_NOTICE (R305): forwarded upstream, unchanged (R282). -/
def execHaltNotice (info : HaltInfo) (s : State) : Host.Outcome State Fault Refusal :=
  .next (s.sendBypass 0 (.haltNotice info))

end Sys2Proof.Machine
end

