-- ==== Sys2Proof/Machine/Streams.lean ====
section
/-! DEFINITION. Streams (R286–R297, R513–R515): their keys and generations, opening and closing, transmission, encryption and
rekey. -/

namespace Sys2Proof.Machine

/-! ## Keys (R290–R292, R514, R515) -/

/-- The 36 bytes of a stream's key generation as it is derived when it is installed: the KDF of R514 under the owner's stream
root. -/
def State.deriveKey (s : State) (n g : Nat) : List Byte :=
  let owner := s.nat .streamTurret n
  kdf (SMap.look KeySlot.init (s.getTurret owner).slots 2).key "KZ-STREAM-KEY"
    (beBytes 1 n ++ beBytes 3 s.sys.epoch ++ beBytes 4 g) 36

/-- The TOWER key that the Keep has imported, if any (R515, Table 15-2). -/
def State.towerRoot (s : State) : Option (List Byte) :=
  ([3, 4, 5, 6, 7].filterMap fun k =>
    let x := SMap.look KeySlot.init (s.getTurret 0).slots k
    if x.kind = .tower then some x.key else none).head?

/-- The 36 bytes of a source's TOWER key generation (R515). -/
def towerKey (root : List Byte) (source epoch g : Nat) : List Byte :=
  kdf root "KZ-TOWER-KEY" (beBytes 1 source ++ beBytes 3 epoch ++ beBytes 4 g) 36

/-- A salt for a direction: bit 31 is inverted for direction 1 (R290). -/
def dirSalt (salt : List Byte) (dir : Nat) : List Byte :=
  match salt with
  | [] => []
  | b :: bs => (if dir = 1 then b ^^^ 0x80 else b) :: bs

/-- The nonce of a stream's frame (R290). -/
def frameNonce (key36 : List Byte) (dir epoch count : Nat) : List Byte :=
  dirSalt (key36.drop 32) dir ++ beBytes 3 epoch ++ beBytes 5 count

/-- The nonce of a TOWER frame: the salt's low byte is replaced by the source address (R290). -/
def towerNonce (key36 : List Byte) (dir source epoch count : Nat) : List Byte :=
  dirSalt ((key36.drop 32).take 3 ++ beBytes 1 source) dir ++ beBytes 3 epoch ++ beBytes 5 count

/-- Frame counts stay below this (R292, R295). -/
abbrev countLimit : Nat := 2 ^ 40 - 2 ^ 20

/-- The generation in a phase's slot. -/
def Stream.slot (st : Stream) (phase : Nat) : Option Nat := if phase = 0 then st.slot0 else st.slot1

/-- The key in a phase's slot. -/
def Stream.key (st : Stream) (phase : Nat) : List Byte := if phase = 0 then st.key0 else st.key1

/-- A phase's slot filled with a generation and its key. -/
def Stream.setSlot (st : Stream) (phase : Nat) (g : Option Nat) (key : List Byte) : Stream :=
  if phase = 0 then { st with slot0 := g, key0 := key } else { st with slot1 := g, key1 := key }

/-- The check of a control message under the key of a generation (R292): additional data of its type and body bytes 0 to 5. -/
def State.ctlCheck (s : State) (n g dir kind phase ctl : Nat) : Nat :=
  let k := (s.getStream n).key (g % 2)
  gcmCheck (k.take 32) (frameNonce k dir s.sys.epoch (countLimit + ctl))
    ([BitVec.ofNat 8 kind, BitVec.ofNat 8 n, BitVec.ofNat 8 s.tower.addr, BitVec.ofNat 8 phase] ++ beBytes 3 ctl)

/-- The control count of a phase's key (R292). -/
def Stream.ctl (st : Stream) (phase : Nat) : Nat := if phase = 0 then st.ctl0 else st.ctl1

/-- A control count has been used. -/
def Stream.useCtl (st : Stream) (phase : Nat) : Stream :=
  if phase = 0 then { st with ctl0 := st.ctl0 + 1 } else { st with ctl1 := st.ctl1 + 1 }

/-- A generation is installed as the one in use (R514): it occupies phase g mod 2 and counts start at 0. -/
def Stream.install (st : Stream) (g : Nat) (key : List Byte) : Stream :=
  { (({ st with slot0 := none, slot1 := none, key0 := [], key1 := [] }).setSlot (g % 2) (some g) key) with
    assigned := true, gen := g, nextGen := g + 1, txPhase := g % 2, txCount := 0, rx0 := 0, rx1 := 0, ctl0 := 0, ctl1 := 0,
    dueTold := false, exhausted := false, readySent := none, flipPending := false, window := none }

/-- Control counts have 20 bits (R292). -/
abbrev ctlLimit : Nat := 2 ^ 20

/-- Whether a received control message bears out its check under a key generation (R292); a count of more than 20 bits does not. -/
def State.ctlGood (s : State) (m : KeyMsg) (g kind : Nat) : Bool :=
  decide (m.ctl < ctlLimit) && decide (m.check = s.ctlCheck m.stream g 1 kind m.phase m.ctl)

/-- A message of the module with its own check under a key generation leaves on LINK U, and its control count is used. No count is
used twice: with the last one gone under a key nothing more is sent under it (R292; log entry 102). -/
def State.sendKeyed (s : State) (n g kind phase : Nat) (wrap : KeyMsg → BMsg) : State :=
  let c := (s.getStream n).ctl (g % 2)
  if c < ctlLimit then
    (s.modStream n fun y => y.useCtl (g % 2)).sendBypass 0 (wrap ⟨n, s.tower.addr, phase, c, s.ctlCheck n g 0 kind phase c⟩)
  else s

/-- The owner of a stream, if it has one that is not REVOKED. -/
def State.streamOwner (s : State) (n : Nat) : Option Nat :=
  if s.int .streamTurret n = 255 ∨ (s.getTurret (s.nat .streamTurret n)).state = .revoked then none
  else some (s.nat .streamTurret n)

/-- An event about a stream, to its owner's sessions (Table 4-4). -/
def State.streamEvent (s : State) (n : Nat) (word : String) : State :=
  s.emit (.turret (s.nat .streamTurret n) false) "stream" word [.int n]

/-- Two CON streams at most are open: the session that the next one becomes (R287). -/
def State.freeConsole (s : State) : Option Nat :=
  if !(s.getSess 2).isOpen then some 2 else if !(s.getSess 3).isOpen then some 3 else none

/-! ## Opening and closing (R287–R289, R513) -/

/-- An OPEN for a stream of this module (R287–R289, R292, R513, Table 7-9). -/
def State.openHere (s : State) (m : KeyMsg) : State :=
  let n := m.stream
  let st := s.getStream n
  let no (w : CloseReason) : State := s.sendBypass 0 (.close n s.tower.addr w)
  match s.streamOwner n with
  | none => no .state
  | some owner =>
    if !s.serving then no .state
    else match st.slot m.phase with
      | none => no .key
      | some g =>
        if m.phase ≠ st.txPhase ∨ s.ctlGood m g 0x10 = false then no .key
        else
          let con := decide (s.int .streamType n = 3)
          if !st.isOpen && con && s.freeConsole.isNone then no .busy
          else if !st.isOpen && decide (16000 < s.towerRates) then no .bandwidth
          else
            let t := if st.isOpen then s
              else
                let u := s.modStream n fun y => { y with isOpen := true, sess := if con then s.freeConsole else none }
                let v := match (if con then s.freeConsole else none) with
                  | some k => u.modSess k fun y => { y with isOpen := true, stream := some n, login := some owner,
                                                            lastActive := s.now }
                  | none => u
                if s.seam.isOpen ∧ s.int .streamType n ≤ 1 then
                  v.captureWrite n none ⟨s.seam.firstLine, s.seam.firstProduct, s.seam.firstTick⟩
                      (marker 0x0100 s.tower.addr 0 0 s.seam.firstLine s.seam.firstProduct
                    s.seam.firstTick s.seam.number 0 0)
                else v
            t.sendKeyed n g 0x11 m.phase .openOk

/-- OPEN (R289): answered here when it names this module, else routed on toward its module. -/
def execOpenStream (m : KeyMsg) (s : State) : Host.Outcome State Fault Refusal :=
  .next (
    if (s.getPort 0).state = .up then
      if m.modAddr = s.tower.addr then s.openHere m else s.sendBypass 1 (.openS m)
    else s)

/-- OPEN_OK (R289): a module opens no stream, so the message is one of a module further down, on its way to the host. -/
def execOpenOk (m : KeyMsg) (s : State) : Host.Outcome State Fault Refusal :=
  .next (if m.modAddr = s.tower.addr then s else s.sendBypass 0 (.openOk m))

/-- CLOSE (R289): it ends a stream of this module, or is routed on to the module it names. -/
def execCloseStream (stream modAddr : Nat) (reason : CloseReason) (s : State) : Host.Outcome State Fault Refusal :=
  .next (
    if modAddr = s.tower.addr then s.shutStream stream false else s.sendBypass 1 (.close stream modAddr reason))

/-! ## Rekey (R295–R297, R514) -/

/-- Whether a next key is installed and not in use, or the old slot is not retired (R297, R514). -/
def Stream.keyPending (st : Stream) : Bool := (st.slot (1 - st.txPhase)).isSome

/-- The next generation is installed, and KEY-READY offered where the stream is open (R296, R514; log entry 16). One that was
installed before and discarded keeps its counts, so that no count is used twice (R514). -/
def State.installNext (s : State) (n : Nat) : State :=
  let st := s.getStream n
  if st.keyPending ∨ !st.assigned then s
  else
    let g := st.gen + 1
    let t := s.useDigest.modStream n fun y =>
      let z := { y.setSlot (g % 2) (some g) (s.deriveKey n g) with nextGen := max y.nextGen (g + 1) }
      if g < y.nextGen then z else if g % 2 = 0 then { z with ctl0 := 0, rx0 := 0 } else { z with ctl1 := 0, rx1 := 0 }
    if st.isOpen then (t.modStream n fun y => { y with readySent := some (0, s.now) }).sendKeyed n g 0x18 (g % 2) .keyReady else t

/-- A stream is assigned: the lowest generation that it has not used in this epoch is installed (R514). -/
def State.assignStream (s : State) (n : Nat) : State :=
  let g := (s.getStream n).nextGen
  s.useDigest.modStream n fun y => y.install g (s.deriveKey n g)

/-- `DO stream.s.next` (R514): the owner installs the next generation. -/
def doStreamNext (r : ReplyTo) (n : Nat) (s : State) : State :=
  let st := s.getStream n
  if !st.assigned then s.er r 23
  else if st.keyPending then s.er r 40
  else if (s.getPort 0).state = .down ∨ (s.getPort 0).state = .training then s.er r 61
  else if s.unwrapFails then s.halt causeKeyStore
  else (s.installNext n).ok r []

/-- KEY_READY for a stream of this module (R296, R297). -/
def State.readyHere (s : State) (m : KeyMsg) : State :=
  let n := m.stream
  let st := s.getStream n
  let fail : State := (s.sendBypass 0 (.keyFail n s.tower.addr .key)).streamEvent n "rekey-failed"
  if !st.isOpen then s
  else match st.slot m.phase with
    | none => fail
    | some g =>
      if g ≠ st.gen + 1 then s.sendBypass 0 (.keyFail n s.tower.addr .key)
      else if s.ctlGood m g 0x18 = false then fail
      else (s.modStream n fun y => { y with flipPending := true, readySent := none }).sendKeyed n g 0x19 m.phase .keyConfirm

/-- KEY_READY (R296). -/
def execKeyReady (m : KeyMsg) (s : State) : Host.Outcome State Fault Refusal :=
  .next (if m.modAddr = s.tower.addr then s.readyHere m else s.sendBypass 1 (.keyReady m))

/-- KEY_CONFIRM for a stream of this module: a valid one lets the module flip at a frame boundary (R296); a bad check draws
KEY-FAIL (R297). -/
def State.confirmHere (s : State) (m : KeyMsg) : State :=
  let n := m.stream
  let st := s.getStream n
  if !st.isOpen ∨ st.readySent.isNone then s
  else match st.slot m.phase with
    | none => s
    | some g =>
      if g = st.gen + 1 ∧ s.ctlGood m g 0x19 = true then
        s.modStream n fun y => { y with flipPending := true, readySent := none }
      else ((s.modStream n fun y => { y with readySent := none }).sendBypass 0 (.keyFail n s.tower.addr .key)).streamEvent
        n "rekey-failed"

/-- KEY_CONFIRM (R296). -/
def execKeyConfirm (m : KeyMsg) (s : State) : Host.Outcome State Fault Refusal :=
  .next (if m.modAddr = s.tower.addr then s.confirmHere m else s.sendBypass 1 (.keyConfirm m))

/-- KEY_FAIL (R297): the attempt is abandoned. -/
def execKeyFail (stream modAddr : Nat) (reason : CloseReason) (s : State) : Host.Outcome State Fault Refusal :=
  .next (
    if modAddr = s.tower.addr then s.modStream stream fun y => { y with readySent := none, flipPending := false }
    else s.sendBypass 1 (.keyFail stream modAddr reason))

/-- KEY_READY_RETRY (R297): there has been no answer for 100 ms: KEY-READY is sent again, up to 3 times, and then the event is
raised. -/
def execKeyReadyRetry (stream : Nat) (s : State) : Host.Outcome State Fault Refusal :=
  .next (
    let st := s.getStream stream
    match st.readySent with
    | none => s
    | some (tries, sent) =>
      if s.now < sent + 100 * msTicks then s
      else if tries < 3 then
        let g := st.gen + 1
        (s.modStream stream fun y => { y with readySent := some (tries + 1, s.now) }).sendKeyed stream g 0x18 (g % 2) .keyReady
      else (s.modStream stream fun y => { y with readySent := none }).streamEvent stream "rekey-failed")

/-- REKEY_WINDOW_END (R296): after 50 ms the receiver zeroises the old slot. -/
def execRekeyWindowEnd (stream : Nat) (s : State) : Host.Outcome State Fault Refusal :=
  .next (
    let st := s.getStream stream
    match st.window with
    | some t =>
      if s.now < t + 50 * msTicks then s
      else s.modStream stream fun y => { y.setSlot st.oldPhase none [] with window := none }
    | none => s)

/-- The transmit phase flips at a frame boundary; counts restart at 0 (R291, R296). A stream that only sends has no frame
in the new phase to wait for, so its window starts at the flip (log entry 16). -/
def State.flip (s : State) (n : Nat) : State :=
  let st := s.getStream n
  if st.flipPending then
    s.modStream n fun y =>
      { y with txPhase := 1 - y.txPhase, gen := y.gen + 1, txCount := 0, flipPending := false, dueTold := false,
               exhausted := false, oldPhase := y.txPhase,
               window := if s.int .streamType n ≤ 2 then some s.now else y.window }
  else s

/-! ## Transmission (R270, R275, R277, R288, R295) -/

/-- What a stream has to send next: a chunk of at most 2 048 bytes, whether it starts and ends a record, and the state
without it. A console line has been sent once the frame that carries it has (R182). -/
def State.nextChunk (s : State) (n : Nat) : Option (List Byte × Bool × Bool × State) :=
  let st := s.getStream n
  if !st.isOpen then none
  else if s.int .streamType n ≤ 1 then
    match s.capture.recs.find? fun r => decide (r.stream = n) && decide (r.sent < r.data.length) with
    | none => none
    | some r =>
      let c := (r.data.drop r.sent).take 2048
      let rec mark : List CapRec → List CapRec
        | [] => []
        | x :: xs => if x.stream = n ∧ x.sent < x.data.length then { x with sent := x.sent + c.length } :: xs else x :: mark xs
      some (c, decide (r.sent = 0), decide (r.data.length ≤ r.sent + c.length),
        s.onCapture fun y => { y with recs := mark y.recs })
  else if s.int .streamType n = 3 then
    match st.sess with
    | none => none
    | some k =>
      match s.takeLine k with
      | none => none
      | some (l, t) =>
        let bs := lineChars l (s.checked k) ++ [0x0A]
        some (bs, true, true, t.lineLeaves k l (s.now + (s.getPort 0).symTicks (bs.length + 38)))
  else
    match st.recs with
    | [] => none
    | (b, x) :: xs =>
      if x.length ≤ 2048 then some (x, b, true, s.modStream n fun y => { y with recs := xs })
      else some (x.take 2048, b, false, s.modStream n fun y => { y with recs := (false, x.drop 2048) :: xs })

/-- A stream's transmit count has grown: a rekey falls due at 2^39, and the next generation is installed (R295, R514); at
2^40 − 2^20 the phase is exhausted, which a pending flip forestalls (Table 7-9). -/
def State.countBound (s : State) (n : Nat) : State :=
  let st := s.getStream n
  let t := if 2 ^ 39 ≤ st.txCount ∧ st.dueTold = false then
      ((s.modStream n fun y => { y with dueTold := true }).streamEvent n "rekey-due").installNext n
    else s
  if countLimit ≤ st.txCount ∧ st.exhausted = false ∧ st.flipPending = false then
    (t.modStream n fun y => { y with exhausted := true }).streamEvent n "exhaust"
  else t

/-- Whether a stream has something to send on LINK U and may send it. -/
def State.mayStream (s : State) (n : Nat) : Bool :=
  let st := s.getStream n
  (st.flipPending || decide (st.txCount < countLimit)) && (s.nextChunk n).isSome

/-- The bytes of the replay buffer in use (R275). -/
def Port.replayBytes (q : Port) : Nat := (q.unacked.map fun x => x.frame.symbols).sum

/-- Whether a port may start a new frame of so many symbols: the one before has left, and no bypass set that may leave waits (R275,
R280, R283). -/
def Port.mayStart (q : Port) (now : Tick) (symbols : Nat) : Bool :=
  (decide (q.bWait = []) || decide (7 ≤ q.bUnacked.length)) &&
  decide (q.state = .up) && q.xoffIn.isNone && decide (q.unacked.length < 2047) &&
  decide (q.replayBytes + symbols ≤ 65536) && decide (q.busyTo ≤ now)

/-- A frame leaves with the port's next sequence number and joins the replay buffer (R273, R275). The timer of R275 starts with
the first that is unacknowledged (log entry 72). -/
def State.putFrame (s : State) (p : Nat) (f : Frame) : State :=
  s.modPort p fun q =>
    ({ q with txSeq := (q.txSeq + 1) % 4096, unacked := q.unacked ++ [⟨q.txSeq, f, 1⟩],
              ackAt := if q.unacked = [] ∧ q.bUnacked = [] then s.now else q.ackAt,
              busyTo := s.now + q.symTicks f.symbols } : Port).put (decide (p = 0)) [.frame q.txSeq f]

/-- A stream's next frame is encrypted and leaves on LINK U (R290, R291, R295). -/
def State.sendStream (s : State) (n : Nat) : State :=
  match (s.flip n).nextChunk n with
  | none => s
  | some (c, first, last, t) =>
    let st := t.getStream n
    let k := st.key st.txPhase
    let f : Frame := { stream := n, modAddr := s.tower.addr, stype := s.nat .streamType n, dir := 0, phase := st.txPhase,
                       first := first, last := last, len := c.length, epoch := s.sys.epoch, count := st.txCount, body := [] }
    let g := { f with body := gcmSeal (k.take 32) (frameNonce k 0 s.sys.epoch st.txCount) f.aad c }
    ((t.modStream n fun y => { y with txCount := y.txCount + 1 }).putFrame 0 g).countBound n

/-! ## Deficit round-robin (R288) -/

/-- The weight in Mb/s of what a port serves (R288; log entry 74): a stream of this module by its reserved rate; frames of another
module's streams toward the host by that module's announced rates; 1 for whatever has none. -/
def State.weight (s : State) (p cls : Nat) : Nat :=
  max 1 (if p = 1 then 0 else if cls < 256 then s.nat .streamRateMbps cls else if 512 ≤ cls then SMap.look 0 s.tower.rates (cls - 512)
    else 0)

/-- The first waiting frame of each class. -/
def firstOfClass : List WaitFrame → List Nat → List WaitFrame
  | [], _ => []
  | w :: ws, seen => if w.cls ∈ seen then firstOfClass ws seen else w :: firstOfClass ws (w.cls :: seen)

/-- What a port can send next: each class that waits, with the symbols of its next frame. A frame of this module waits for the
verify fence (R480). -/
def State.offers (s : State) (p : Nat) : List (Nat × Nat) :=
  ((firstOfClass (s.getPort p).waitQ []).filter fun w => decide (w.cls ≠ 256) || !s.fenced 22).map
    (fun w => (w.cls, w.frame.symbols)) ++
  (if p = 0 ∧ s.fenced 22 = false then
    ((List.range 256).filter s.mayStream).filterMap fun n => (s.nextChunk n).map fun c => (n, c.1.length + 38)
   else [])

/-- Deficit round-robin by symbols (R288): the class with the largest deficit is served; for each symbol that it sends every class
that waits gains its weight, and the one served pays the sum. -/
def State.serve (s : State) (p : Nat) (os : List (Nat × Nat)) : Option (Nat × SMap Int) :=
  let d (c : Nat) : Int := SMap.look 0 (s.getPort p).deficit c + s.weight p c
  let total := (os.map fun o => s.weight p o.1).sum
  match os with
  | [] => none
  | o :: rest =>
    let best := rest.foldl (fun a x => if d a.1 < d x.1 then x else a) o
    some (best.1, os.foldl (fun m x => SMap.put 0 m x.1 (SMap.look 0 (s.getPort p).deficit x.1 + (s.weight p x.1 * best.2 : Nat) -
      (if x.1 = best.1 then (total * best.2 : Nat) else (0 : Nat)))) [])

/-- The queue without the first frame of a class. -/
def dropClass (c : Nat) : List WaitFrame → List WaitFrame
  | [] => []
  | w :: ws => if w.cls = c then ws else w :: dropClass c ws

/-- The next frame of a class leaves. -/
def State.sendClass (s : State) (p c : Nat) : State :=
  match (s.getPort p).waitQ.find? fun w => decide (w.cls = c) with
  | some w => (s.modPort p fun q => { q with waitQ := dropClass c q.waitQ }).putFrame p w.frame
  | none => s.sendStream c

/-- Whether a frame of the module's own waits at a port for nothing but the verify fence (R480, R482). -/
def State.frameHeld (s : State) (p : Nat) : Bool :=
  s.fenced 22 && ((firstOfClass (s.getPort p).waitQ []).any (fun w => decide (w.cls = 256) && (s.getPort p).mayStart s.now w.frame.symbols) ||
    (decide (p = 0) && (List.range 256).any fun n => s.mayStream n &&
      (s.nextChunk n).any fun c => (s.getPort 0).mayStart s.now (c.1.length + 38)))

/-- FRAME_TRANSMIT (R288): the port starts its next frame by deficit round-robin, once the frame before has left and the replay
buffer, the acknowledgment bound and XOFF allow. -/
def execFrameTransmit (port : Nat) (s0 : State) : Host.Outcome State Fault Refusal :=
  .next (
    let s := if s0.frameHeld port then s0.holdFor 22 else s0
    match s.serve port ((s.offers port).filter fun o => (s.getPort port).mayStart s.now o.2) with
    | some (c, d) => (s.modPort port fun q => { q with deficit := d }).sendClass port c
    | none => s)

end Sys2Proof.Machine
end

