-- ==== Sys2Proof/Machine/Heads.lean ====
section
/-! DEFINITION. Heads and their identification (R33, R337–R341), the line plan and the line cycle (R344–R352), readout and
shading (R353–R358), and shading calibration (R356, R357). -/

namespace Sys2Proof.Machine

/-! ## Identity (R337, R338) -/

/-- ASCII characters up to the first NUL (Table 9-1). -/
def asciiz (bs : List Byte) : List Char := ((bs.takeWhile fun b => decide (b ≠ 0)).map fun b => Char.ofNat b.toNat)

/-- The fields of an identity memory (Table 9-1). -/
def identOf (m : List Byte) : Ident :=
  let fl := byteAt m 11
  { taps := byteAt m 5, pixels := leNat (sliceAt m 6 2), lead := byteAt m 8, trail := byteAt m 9, rate := byteAt m 10,
    needs12 := decide (fl % 2 = 1), cds := decide (fl / 2 % 2 = 1), sh := decide (fl / 4 % 2 = 1), reverse := fl / 8 % 16,
    sg10 := byteAt m 12, edges := sliceAt m 14 8, lineRate100 := leNat (sliceAt m 24 2),
    type := asciiz (sliceAt m 30 16), serial := asciiz (sliceAt m 46 16) }

/-- Whether an identity memory has the magic, version, CRC, ranges and currents of R338. Reserved bytes are not judged
(log entry 21). -/
def identGood (m : List Byte) : Bool :=
  let fl := byteAt m 11
  decide (m.length = 128) && decide (beNat (m.take 4) = 0x4B484431) && decide (byteAt m 4 = 1) &&
  decide (crc16 (m.take 126) = leNat (sliceAt m 126 2)) &&
  decide (1 ≤ byteAt m 5 ∧ byteAt m 5 ≤ 4) && decide (64 ≤ leNat (sliceAt m 6 2) ∧ leNat (sliceAt m 6 2) ≤ 2048) &&
  decide (byteAt m 8 ≤ 64) && decide (byteAt m 9 ≤ 64) && decide (5 ≤ byteAt m 10 ∧ byteAt m 10 ≤ 40) &&
  (sliceAt m 14 8).all (fun b => decide (b.toNat ≤ 63)) && decide (leNat (sliceAt m 26 2) ≤ 300) &&
  decide (leNat (sliceAt m 28 2) ≤ 300) && (decide (fl % 2 = 1) || decide (leNat (sliceAt m 28 2) = 0)) &&
  (sliceAt m 30 32).all fun b => decide (b.toNat < 128)

/-- `EV head x word`, to the Keep (Table 4-4). -/
def State.headEvent (s : State) (x : Nat) (word : String) : State := s.emit .keep "head" (headWord x) [.word word]

/-- Whether a head is configured (R339). -/
def State.configured (s : State) (x : Nat) : Bool := s.on .headEnable x

/-- The configured heads. -/
def State.configuredHeads (s : State) : List Nat := [0, 1].filter s.configured

/-- HPRES is low and the supplies may run: +5V comes on at 60 mA and the identity is to be read 25 ms later (R33, R338). -/
def Head.identify (h : Head) (now : Tick) : Head :=
  { h with state := .ident, v5 := 60, v12 := false, tries := 0, due := now + 25 * msTicks, ident := none }

/-- Whether head supplies follow HPRES in this state: in START, READY, RUN and PAUSED (R33, R63). -/
def State.headsPowered (s : State) : Bool := s.serving || decide (s.sys.state = .start)

/-- Whether identities are read in this state: from step 13 of START on, and in READY, RUN and PAUSED (R112, R364). -/
def State.headsRead (s : State) : Bool := s.serving || (decide (s.sys.state = .start) && decide (12 ≤ s.sys.step))

/-- Every head whose HPRES is low, and that has had no supply, is identified (R120, R364). -/
def State.identifyHeads (s : State) : State :=
  [0, 1].foldl (fun t x => t.modHead x fun h => if h.present ∧ h.state = .absent then h.identify s.now else h) s

/-- HPRES_LOW (R33, Table 9-2). -/
def execHpresLow (head : Nat) (s : State) : Host.Outcome State Fault Refusal :=
  .next (
    s.modHead head fun h =>
      let g := { h with present := true }
      if s.headsPowered ∧ s.pwr.l24Valid = true ∧ h.state = .absent then g.identify s.now else g)

/-- HEAD_IDENTITY_READ (R338, R339): once it is due, two equal, good reads are accepted; a bad try is repeated, up to 3 times. -/
def execHeadIdentityRead (head : Nat) (first second : List Byte) (s : State) : Host.Outcome State Fault Refusal :=
  .next (
    let h := s.getHead head
    if h.state ≠ .ident ∨ s.headsRead = false ∨ s.now < h.due then s
    else
      let i := identOf first
      let mode := if s.int .headSample head = 0 then i.cds else i.sh
      if first = second ∧ identGood first = true ∧ mode = true then
        let want := s.textOf ⟨.headExpectType, head, 0⟩
        let ok := decide (want = []) || decide (want = i.type)
        let t := s.modHead head fun h =>
          { h with state := if ok then .ready else .mismatch, v5 := 360, v12 := i.needs12, ident := some i }
        if ok then t else t.headEvent head "mismatch"
      else if h.tries < 3 then s.modHead head fun h => { h with tries := h.tries + 1, due := s.now + 10 * msTicks }
      else (s.modHead head fun h => { h with state := .badid, v5 := 0, v12 := false }).headEvent head "id-bad")

/-- `SET head.x.expect_type` (R340): it can accept a head whose type did not match. -/
def setHeadExpectType (r : ReplyTo) (k : Key) (v : Val) (s : State) : State :=
  let t := s.setVal k v
  (t.modHead k.i fun h =>
    if h.state = .mismatch ∧ s.sys.state = .ready then
      let want := t.textOf k
      if want = [] ∨ some want = h.ident.map (·.type) then { h with state := .ready } else h
    else h).ok r []

/-! ## The line plan (R344, R347, R348) -/

/-- The line cycle *C* of a line rate, in ticks (R344). -/
def cycleTicks (rate : Nat) : Nat := (roundDiv (10 ^ 8) rate).toNat

/-- The ticks of each slot but the last (R344). -/
def Plan.slotTicks (p : Plan) : Nat := cycleTicks p.rate / p.phases

/-- The ticks of a phase's slot: the last one also takes the remainder (R344). -/
def Plan.slotOf (p : Plan) (ph : Nat) : Nat :=
  if ph + 1 < p.phases then p.slotTicks else cycleTicks p.rate - (p.phases - 1) * p.slotTicks

/-- The staged line plan (R347): the line-plan settings as written. -/
def State.stagedPlan (s : State) : Plan :=
  { rate := s.nat .lanternLineRate, phases := s.nat .lanternPhases,
    masks := (List.range 6).map fun p => s.nat .lanternMask p,
    offsets := (List.range 6).map fun p => s.nat .lanternOffset p,
    widths := (List.range 6).map fun p => s.nat .lanternWidth p,
    currents := (List.range 6).map fun c => s.nat .lanternCurrent c }

/-- A phase's channel mask. -/
def Plan.mask (p : Plan) (ph : Nat) : Nat := (p.masks[ph]?).getD 0
/-- A phase's pulse offset, millionths of a µs. -/
def Plan.offset (p : Plan) (ph : Nat) : Nat := (p.offsets[ph]?).getD 0
/-- A phase's pulse width, millionths of a µs. -/
def Plan.width (p : Plan) (ph : Nat) : Nat := (p.widths[ph]?).getD 0
/-- A channel's current, millionths of an A. -/
def Plan.current (p : Plan) (c : Nat) : Nat := (p.currents[c]?).getD 0

/-- The sum of the channel currents of a phase, mA. -/
def Plan.phaseMa (p : Plan) (ph : Nat) : Nat :=
  (((List.range 6).filter fun c => (p.mask ph).testBit c).map p.current).sum / 1000

/-- The channels that any phase of a plan uses. -/
def Plan.channels (p : Plan) : List Nat :=
  (List.range 6).filter fun c => (List.range p.phases).any fun ph => (p.mask ph).testBit c

/-- The standing reservation of a line plan (R91): the largest phase sum as peak, and the charge of the pulses as average,
in mA rounded up. -/
def Plan.reserve (p : Plan) : Nat × Nat :=
  ((List.range p.phases).foldl (fun a ph => max a (p.phaseMa ph)) 0,
   (((List.range p.phases).map fun ph => p.phaseMa ph * p.width ph).sum * p.rate + 10 ^ 12 - 1) / 10 ^ 12)

/-- `head.x.sg_ns` in force: the setting, or the identity's where the configuration holds none (R365). -/
def State.sgNs (s : State) (x : Nat) : Nat :=
  let v := s.nat .headSgNs x
  if v = 0 then ((s.getHead x).ident.map fun i => i.sg10 * 10).getD 0 else v

/-- `head.x.edges` in force (R365). -/
def State.edgesOf (s : State) (x : Nat) : List Byte :=
  let v := s.bytesOf ⟨.headEdges, x, 0⟩
  if v = [] then ((s.getHead x).ident.map (·.edges)).getD [] else v

/-- Columns of a head (R341). -/
def State.columns (s : State) (x : Nat) : Nat := ((s.getHead x).ident.map fun i => i.taps * i.pixels).getD 0

/-- The readout of one plane in eighths of a ns (R342, R345): all pixels of a tap at 25/8 ns times the divisor. -/
def State.readout8 (s : State) (x : Nat) : Nat :=
  ((s.getHead x).ident.map fun i => (i.lead + i.pixels + i.trail) * 25 * s.nat .headPixelDiv x).getD 0

/-- The longest SG of the configured heads, ns. -/
def State.longestSg (s : State) : Nat := s.configuredHeads.foldl (fun a x => max a (s.sgNs x)) 0

/-- Whether a plan keeps the limits of R348 and R359. A head that has not been identified sets none (log entry 21). -/
def State.planFits (s : State) (p : Plan) : Bool :=
  decide (p.phases * p.rate ≤ 40000) &&
  s.configuredHeads.all (fun x =>
    ((s.getHead x).ident.map fun i => decide (p.phases * p.rate ≤ i.lineRate100 * 100) &&
      decide (s.sgNs x * 8 + 400 + s.readout8 x + 4000 ≤ p.slotTicks * 80)).getD true) &&
  (List.range p.phases).all (fun ph =>
    decide (s.longestSg * 1000 + 500000 ≤ p.offset ph) && decide (p.offset ph + p.width ph + 1000000 ≤ p.slotOf ph * 10000)) &&
  (List.range 6).all fun c =>
    decide ((((List.range p.phases).filter fun ph => (p.mask ph).testBit c).map p.width).sum * 4 ≤ cycleTicks p.rate * 10000)

/-- Whether the module starts its lines by its own plan (Table 6-1, R349). -/
def State.ownLines (s : State) : Bool := s.tower.spire || decide (s.int .towerRole = 2)

/-- Whether a plan's cycle is longer than the Spire's mark period on a module that starts its lines on marks (R249). -/
def State.tooLong (s : State) (p : Plan) : Bool :=
  !s.ownLines && decide (s.tower.period ≠ 0) && decide (s.tower.period < cycleTicks p.rate)

/-- The test of every channel that a plan uses (R363): one whose test pulse is a compliance pulse becomes DISABLED. -/
def State.testChannels (s : State) (p : Plan) : State :=
  (p.channels.foldl (fun t c =>
    if (t.getChan c).state ≠ .disabled ∧ Config.lanternTestLow s.sys.free c = true then
      (t.modChan c fun y => { y with state := .disabled }).emit .keep "lantern" (toString c) [.word "open"]
    else t) s).useFree

/-- A plan is committed, or why not (R348): its channels are tested, it stands in reserve, and runs from the next line cycle
(R361, R363). -/
def State.tryPlan (s : State) : State × Option (Nat × List Fld) :=
  let p := s.stagedPlan
  let t := s.testChannels p
  if s.planFits p = false ∨ s.tooLong p = true then (t, some (21, []))
  else
    match p.channels.find? fun c => decide ((t.getChan c).state = .disabled) with
    | some c => (t, some (70, [.chars ("lantern.".toList ++ (toString c).toList)]))
    | none =>
      if t.standingFits (some p.reserve) t.ledger.stepper then
        ((t.onLedger fun l => { l with strobe := some p.reserve }).onLantern fun l =>
          { l with nextPlan := some p, committed := true }, none)
      else (t.countRefused .strobe, some (41, []))

/-- `DO lantern.commit` (R348). -/
def doLanternCommit (r : ReplyTo) (s : State) : State :=
  if s.sys.state ≠ .ready then s.er r 23
  else match s.tryPlan with
    | (t, none) => t.ok r []
    | (t, some (c, d)) => t.er r c d

/-- The configuration layer's plan is committed on entry to READY (R364). -/
def State.commitPlanAtStart (s : State) : State :=
  match s.tryPlan with
  | (t, none) => t
  | (t, some (c, _)) => t.emit .keep "lantern" "commit-refused" [.dec2 c]

/-- A write of a line-plan setting changes only the staged plan (R347). -/
def setLanternStaged (r : ReplyTo) (k : Key) (v : Val) (s : State) : State :=
  ((s.setVal k v).onLantern fun l => { l with committed := false }).ok r []

/-! ## The line cycle (R325, R344, R345, R349) -/

/-- The plan that the next line cycle runs. -/
def Lantern.planNext (l : Lantern) : Option Plan := match l.nextPlan with
  | some p => some p
  | none => l.plan

/-- Whether the previous cycle still runs at a tick, and when its last slot ends. -/
def Lantern.busyTo (l : Lantern) (now : Tick) : Option Tick :=
  match l.cur, l.plan with
  | some c, some p => if now < c.tick + cycleTicks p.rate then some (c.tick + cycleTicks p.rate) else none
  | _, _ => none

/-- A line cycle begins (R325, R361): a committed plan takes effect, and inside a segment the product index advances. -/
def State.beginCycle (s : State) (line : Nat) (start : Tick) (late : Bool) : State :=
  match s.lantern.planNext with
  | none => s
  | some p =>
    let c : Cycle := { line := line, product := if s.seam.isOpen then some s.seam.product else none, tick := start, late := late }
    (s.onLantern fun l =>
      { l with plan := some p, nextPlan := none, prev := l.cur, cur := some c, slot := none, pulseAt := none, on := 0 }).onSeam fun m =>
      { m with line := line, lineTick := start, product := if m.isOpen then (m.product + 1) % 2 ^ 48 else m.product }

/-- A line starts (R349): where the cycle before it still runs, its start is deferred to that end, and its lines are LATE. -/
def State.startLine (s : State) (line : Nat) : State :=
  if s.lantern.planNext.isNone then s
  else
    let t := s.onSeam fun m => { m with next := (line + 1) % 2 ^ 48 }
    if (s.lantern.busyTo s.now).isSome ∨ s.lantern.waits ≠ [] then
      t.onLantern fun l => { l with waits := l.waits ++ [line], lateStarts := satInc l.lateStarts }
    else t.beginCycle line s.now false

/-- The line that waits begins once the cycle before it has ended (R349). -/
def State.lineTurn (s : State) : State :=
  match s.lantern.waits, s.lantern.cur, s.lantern.plan with
  | line :: rest, some c, some p =>
    let e := c.tick + cycleTicks p.rate
    if s.now < e then s else (s.onLantern fun l => { l with waits := rest }).beginCycle line e true
  | _, _, _ => s

/-- The start tick of the next line by the marks (R254, R256): one mark period after that of the last mark, of its bridging or of
the last line of a free run. None before the marks have given a period. -/
def State.nextMarkStart (s : State) : Option Tick :=
  if s.tower.period = 0 then none else s.tower.markStart.map fun t => t + s.tower.period

/-- LINE_CYCLE_START (R349, R256): a Spire or a LANE module starts its next line a line cycle after the last; a module that
free-runs one mark period after it, and by its own plan where no marks have given a period (log entry 78). -/
def execLineCycleStart (s : State) : Host.Outcome State Fault Refusal :=
  .next (
    if s.serving = false then s
    else match (if s.ownLines then none else s.nextMarkStart) with
      | some d =>
        if s.tower.source = .free ∧ d ≤ s.now then (s.onTower fun t => { t with markStart := some d }).startLine s.seam.next else s
      | none =>
        if (s.ownLines = true ∨ s.tower.source = .free) ∧ s.lantern.busyTo s.now = none then s.startLine s.seam.next else s)

/-- A calibration that cannot go on is answered and leaves the tables as they were (R357). -/
def State.failCalib (s : State) (code : Nat) (d : List Fld) : State :=
  match s.lantern.calib with
  | some k => (s.onLantern fun l => { l with calib := none }).er k.reply code d
  | none => s

/-- A field that names one of several things: a word, a dot and a letter or number. -/
def dotFld (w i : String) : Fld := .chars (w.toList ++ '.' :: i.toList)

/-- Whether a calibration holds the channels off in the running line (R356). -/
def State.darkCapture (s : State) : Bool :=
  match s.lantern.calib, s.lantern.cur with
  | some k, some c => decide (k.first ≤ c.line ∧ c.line < k.first + 256)
  | _, _ => false

/-- Whether the running line is one of a calibration's white capture (R356). -/
def State.whiteCapture (s : State) : Bool :=
  match s.lantern.calib, s.lantern.cur with
  | some k, some c => decide (k.first + 256 ≤ c.line ∧ c.line < k.first + 512)
  | _, _ => false

/-- A channel spoils a plane of the white capture: the calibration fails (Table 9-5). -/
def State.spoilWhite (s : State) (bad : List Nat) : State :=
  match bad with
  | c :: _ => if s.whiteCapture then s.failCalib 70 [dotFld "lantern" (toString c)] else s
  | [] => s

/-- The start of a phase's slot (R344). -/
def slotStart (c : Cycle) (p : Plan) (phase : Nat) : Tick := c.tick + phase * p.slotTicks

/-- Whether a channel can fire (R95, R352): P24 is not low, the channel is not DISABLED and the plan's reservation stands. -/
def State.canFire (s : State) (c : Nat) : Bool :=
  !s.pwr.p24Low && decide ((s.getChan c).state ≠ .disabled) && s.ledger.strobe.isSome

/-- The flags of a phase's plane gain a flag. -/
def Cycle.flag (c : Cycle) (ph bit : Nat) : Cycle := { c with flags := SMap.put 0 c.flags ph (SMap.look 0 c.flags ph ||| bit) }

/-- NOSTROBE (Table 9-4). -/
abbrev fNoStrobe : Nat := 1
/-- COMPLIANCE. -/
abbrev fCompliance : Nat := 2
/-- SATURATED. -/
abbrev fSaturated : Nat := 4
/-- DEFAULT-SHADE. -/
abbrev fDefaultShade : Nat := 8
/-- LATE. -/
abbrev fLate : Nat := 16

/-- Whether a plane of a line is flagged already. -/
def Cycle.has (c : Cycle) (bit : Nat) : Bool := c.flags.any fun p => decide (p.2 &&& bit ≠ 0)

/-- The pulse of the running slot starts once its offset has passed and the verify fence lets it (R345, R352, R480): the channels of the
phase's mask that can fire conduct. A channel that does not makes the plane NOSTROBE. -/
def State.pulseStart (s : State) : State :=
  match s.lantern.pulseAt, s.lantern.cur, s.lantern.plan, s.lantern.slot with
  | some t, some c, some p, some phase =>
    if s.now < t then s
    else if s.fenced 15 then (s.holdFor 15).onLantern fun l => { l with pulseLate := s.now + 1 - t }
    else
      let want := if s.darkCapture then [] else (List.range 6).filter fun ch => (p.mask phase).testBit ch
      let fire := want.filter s.canFire
      let missing := want.filter fun ch => !s.canFire ch
      (s.onLantern fun l =>
        { l with pulseAt := none, on := (fire.map fun ch => 2 ^ ch).sum,
                 cur := some (if missing ≠ [] then c.flag phase fNoStrobe else c),
                 darkLines := if missing ≠ [] ∧ c.has fNoStrobe = false then satInc l.darkLines else l.darkLines }).spoilWhite missing
  | _, _, _, _ => s

/-- What the Lantern does as time passes: a line that was deferred begins, and a pulse starts. -/
def State.lanternTick (s : State) : State := if s.serving then s.lineTurn.pulseStart else s

/-- PHASE_SLOT_START (R344, R345): the slots run in ascending phase order, each at its tick; charge is transferred, and the pulse is
due after the phase's offset. -/
def execPhaseSlotStart (phase : Nat) (s0 : State) : Host.Outcome State Fault Refusal :=
  .next (
    let s := s0.lineTurn
    match s.lantern.cur, s.lantern.plan with
    | some c, some p =>
      let nextSlot := match s.lantern.slot with
        | none => 0
        | some q => q + 1
      if phase = nextSlot ∧ phase < p.phases ∧ slotStart c p phase ≤ s.now then
        (s.onLantern fun l =>
          { l with slot := some phase, pulseAt := some (slotStart c p phase + p.offset phase / 10000), pulseLate := 0, on := 0 }).pulseStart
      else s
    | some _, none => s
    | none, _ => s)

/-- One compliance pulse of a channel (R351). -/
def State.compliancePulse (s : State) (c : Nat) : State :=
  let y := s.getChan c
  let told := match y.toldAt with
    | some t => decide (s.now < t + secTicks)
    | none => false
  let t := s.modChan c fun y =>
    { y with compliance := satInc y.compliance, consec := y.consec + 1, toldAt := if told then y.toldAt else some s.now }
  let u := if told then t else t.emit .keep "lantern" (toString c) [.word "compliance"]
  if 100 ≤ y.consec + 1 ∧ y.state = .ok then
    (u.modChan c fun y => { y with state := .opn }).emit .keep "lantern" (toString c) [.word "open"]
  else u

/-- Whether a pulse of a width was a compliance pulse (R351): for more than 10 % of it, both in ps, the current was below 95 %. -/
def lowPulse (width low : Nat) : Bool := decide (width < 10 * low)

/-- LANTERN_PULSE_END (R350, R351): the pulse of the running slot ends, and each channel of it is judged by the time, in ps, for
which its current was below 95 % of its setting. -/
def execLanternPulseEnd (phase : Nat) (lows : List (Nat × Nat)) (s0 : State) : Host.Outcome State Fault Refusal :=
  .next (
    let s := s0.pulseStart
    match s.lantern.cur, s.lantern.plan with
    | some c, some p =>
      if s.lantern.slot = some phase ∧ s.lantern.pulseAt = none ∧
          slotStart c p phase + (p.offset phase + p.width phase) / 10000 + s.lantern.pulseLate ≤ s.now then
        let lit := (List.range 6).filter fun ch => s.lantern.on.testBit ch
        let low := lit.filter fun ch => lows.any fun x => decide (x.1 = ch) && lowPulse (p.width phase) x.2
        let t := lit.foldl (fun t ch => if low.contains ch then t.compliancePulse ch else t.modChan ch fun y => { y with consec := 0 }) s
        (t.onLantern fun l =>
          { l with on := 0, cur := if low = [] then l.cur else l.cur.map fun c => c.flag phase fCompliance }).spoilWhite low
      else s
    | some _, none => s
    | none, _ => s)

/-! ## Readout and shading (R341, R346, R353–R355) -/

/-- What a pixel gives before it is clamped (R346), in nV: the video level less the reset level with CDS, the video level alone
with SH, which is measured against REF. -/
def State.pixelNv (s : State) (x : Nat) (p : Int × Int) : Int := if s.int .headSample x = 0 then p.2 - p.1 else p.2

/-- The code of a difference (R346): 0 V gives 0 and 2.0 V / gain gives 65 535, to the nearest (log entry 79). -/
def codeOf (gain : Nat) (nv : Int) : Nat := (max 0 (min 65535 (roundDiv (nv * gain * 65535) 2000000000))).toNat

/-- Whether a difference lies below 0 V or above full scale (R346). -/
def clampedAt (gain : Nat) (nv : Int) : Bool := decide (nv < 0 ∨ 2000000000 < nv * gain)

/-- The differences of a plane's valid pixels, tap by tap, without the dummies (R341, R346). -/
def State.plainNv (s : State) (x : Nat) (i : Ident) (r : Readout) : List Int :=
  (List.range i.taps).flatMap fun t => ((((r.taps[t]?).getD []).drop i.lead).take i.pixels).map (s.pixelNv x)

/-- The codes of a plane's valid pixels, and whether any was clamped. -/
def State.codesOf (s : State) (x : Nat) (i : Ident) (r : Readout) : List Nat × Bool :=
  let g := s.nat .headGain x
  ((s.plainNv x i r).map (codeOf g), (s.plainNv x i r).any (clampedAt g))

/-- Columns from the codes of a readout: tap *t* gives its pixels in ascending or descending column order (R341). -/
def Ident.columnsOf (i : Ident) (codes : List Nat) : List Nat :=
  (List.range i.taps).flatMap fun t =>
    let c := (codes.drop (t * i.pixels)).take i.pixels
    if i.reverse.testBit t then c.reverse else c

/-- The place of a pixel's shading in the table. -/
def shadeKey (head phase col : Nat) : Nat := (head * 6 + phase) * 8192 + col

/-- The corrected value of a raw code (R354). -/
def Shade.apply (h : Shade) (r : Nat) : Nat := (max 0 (min 65535 ((((r : Int) + h.off) * h.gain + 8192) / 16384))).toNat

/-- The shading that the planes of a cycle take (Table 9-7): that of before the last commit, where the cycle had started by then (log
entry 113). -/
def State.shadeFor (s : State) (c : Cycle) : SMap Shade := if c.tick < s.lantern.shadeAt then s.lantern.oldShade else s.shadeTab

/-- A row of corrected values, none at a defective pixel (R354). -/
def State.correct (s : State) (head phase : Nat) (c : Cycle) (cols : List Nat) : List (Option Nat) :=
  cols.zipIdx.map fun p =>
    let h := SMap.look Shade.init (s.shadeFor c) (shadeKey head phase p.2)
    if h.gain = 0 then none else some (h.apply p.1)

/-- The nearest value before each position. -/
def nearestBefore : Option Nat → List (Option Nat) → List (Option Nat)
  | _, [] => []
  | last, none :: xs => last :: nearestBefore last xs
  | _, some v :: xs => some v :: nearestBefore (some v) xs

/-- Defective pixels take the mean, rounded down, of their nearest good neighbours, or copy the one there is (R355). A row
without a good pixel reads 0 (log entry 21). -/
def repairRow (row : List (Option Nat)) : List Nat :=
  let l := nearestBefore none row
  let r := (nearestBefore none row.reverse).reverse
  (l.zip r).map fun p =>
    match p with
    | (some a, some b) => (a + b) / 2
    | (some a, none) => a
    | (none, some b) => b
    | (none, none) => 0

/-- Whether the shading in use is the default (Table 3-6). -/
def State.shadeDefault (s : State) : Bool := (s.getRec .shade).cur.isNone

/-- Whether the shading that the planes of a cycle take is the default (Table 9-4). -/
def State.defaultFor (s : State) (c : Cycle) : Bool :=
  if c.tick < s.lantern.shadeAt then decide (s.lantern.oldShade = []) else s.shadeDefault

/-- A line of a head that holds a clamped pixel is counted once (R346). -/
def Head.countSat (h : Head) (line : Nat) (sat : Bool) : Head :=
  if sat ∧ h.satLine ≠ some line then { h with saturated := satInc h.saturated, satLine := some line } else h

/-- The cycle that a plane read out now belongs to: the last phase's is that of the cycle before (R345). -/
def Lantern.readCycle (l : Lantern) (phase : Nat) : Option Cycle :=
  match l.slot with
  | some q => if phase < q then l.cur else l.prev
  | none => l.prev

/-- The x-range of a turret on a head, if it has a complete one (R509). -/
def State.xrange (s : State) (head n : Nat) : Option (Nat × Nat) :=
  let lo := if head = 0 then s.nat .turretXaLo n else s.nat .turretXbLo n
  let hi := if head = 0 then s.nat .turretXaHi n else s.nat .turretXbHi n
  if lo = 65535 ∨ hi = 65535 then none else some (lo, hi)

/-- Means, rounded down, of each `n` adjacent pixels; the last may hold fewer (R358). -/
def binned (n : Nat) : Nat → List Nat → List Nat
  | 0, _ => []
  | _, [] => []
  | f + 1, xs => ((xs.take n).sum / (xs.take n).length) :: binned n f (xs.drop n)

/-- A LINE record (Table 9-6). -/
def lineRecord (addr head phase flags : Nat) (c : Cycle) (first bin : Nat) (px : List Nat) : List Byte :=
  leBytes 2 0x0200 ++ leBytes 2 (40 + 2 * px.length) ++ leBytes 1 addr ++ leBytes 1 head ++ leBytes 1 phase ++
  leBytes 1 flags ++ leBytes 6 c.line ++ leBytes 6 (c.product.getD 0xFFFFFFFFFFFF) ++ leBytes 8 c.tick ++ leBytes 2 first ++
  leBytes 2 px.length ++ leBytes 1 bin ++ leBytes 7 0 ++ px.flatMap (leBytes 2)

/-- LINE records of a plane go to every open LINE stream whose turret has columns on the head (R358). -/
def State.writeLines (s : State) (head phase : Nat) (c : Cycle) (pl : Plane) : State :=
  let d := s.nat .headLineDecimate head
  if d = 0 ∨ c.line % d ≠ 0 ∨ (s.nat .headLinePhases head).testBit phase = false then s
  else
    s.imageStreams.foldl (fun t n =>
      if s.int .streamType n = 1 then
        match s.xrange head (s.nat .streamTurret n) with
        | none => t
        | some (lo, hi) =>
          let px := (pl.pixels.drop lo).take (hi + 1 - lo)
          if px = [] then t
          else
            let b := s.nat .headLineBin head
            t.captureWrite n none ⟨c.line, c.product.getD s.seam.index, c.tick⟩
                (lineRecord s.tower.addr head phase pl.flags c lo b (binned b px.length px))
      else t) s

/-- When a phase's readout ends (R345): the charge is read out in the next slot, from 50 ns after the fall of SG. -/
def State.readoutDue (s : State) (x phase : Nat) (c : Cycle) (p : Plan) : Tick :=
  let start := match s.lantern.cur with
    | some k => if k.line = c.line then slotStart c p (phase + 1) else k.tick
    | none => slotStart c p (phase + 1)
  start + (s.sgNs x * 8 + 400 + s.readout8 x + 79) / 80

/-- A raw plane joins a calibration's sums (R356): its dark lines, then its white lines. -/
def Calib.join (k : Calib) (head phase : Nat) (c : Cycle) (cols : List Nat) : Calib :=
  let add (dark : Bool) : SMap (Nat × Nat) := cols.zipIdx.foldl (fun m x =>
    let key := shadeKey head phase x.2
    let v := SMap.look (0, 0) m key
    SMap.put (0, 0) m key (if dark then (v.1 + x.1, v.2) else (v.1, v.2 + x.1))) k.sums
  if k.first ≤ c.line ∧ c.line < k.first + 256 then { k with sums := add true }
  else if k.first + 256 ≤ c.line ∧ c.line < k.first + 512 then { k with sums := add false }
  else k

/-- The readout of a plane of a cycle has ended (R379): the last planes of the last 8 lines are remembered. -/
def Track.readOut (t : Track) (c : Cycle) (now : Tick) : Track :=
  let es : List LineEnd := (t.readouts.filter fun e => decide (e.line ≠ c.line)) ++ [{ line := c.line, start := c.tick, ended := now }]
  { t with readouts := es.drop (es.length - 8) }

/-- READOUT_COMPLETE (R341, R345, R346, R353–R356, R358): once its readout has ended, the plane of an ACTIVE head is converted,
corrected and repaired, carries its flags, and goes to the open LINE streams. While a calibration captures, a configured head's
raw codes join its sums. -/
def execReadoutComplete (head phase : Nat) (r : Readout) (s : State) : Host.Outcome State Fault Refusal :=
  .next (
    let h := s.getHead head
    match h.ident, s.lantern.readCycle phase, s.lantern.plan with
    | some i, some c, some p =>
      if s.now < s.readoutDue head phase c p then s
      else if h.state = .ready ∧ s.configured head = true ∧ s.lantern.calib.isSome = true then
        let raw := s.codesOf head i r
        (s.modHead head fun h => h.countSat c.line raw.2).onLantern fun l =>
          { l with calib := l.calib.map fun k => k.join head phase c (i.columnsOf raw.1) }
      else if h.state = .active ∧ s.sorting = true then
        let raw := s.codesOf head i r
        let fl := SMap.look 0 c.flags phase ||| (if raw.2 then fSaturated else 0) |||
          (if s.defaultFor c then fDefaultShade else 0) ||| (if c.late then fLate else 0)
        let pl : Plane := { pixels := repairRow (s.correct head phase c (i.columnsOf raw.1)), flags := fl }
        let same := decide (h.planeLine = c.line)
        ((s.modHead head fun h =>
          { h.countSat c.line raw.2 with planeLine := c.line,
                                         planes := SMap.ins (if same then h.planes else []) phase pl }).onTrack fun t =>
          t.readOut c s.now).writeLines head phase c pl
      else s
    | some _, some _, none => s
    | some _, none, _ => s
    | none, _, _ => s)

/-! ## Shading calibration (R356, R357) -/

/-- `DO shade.calibrate` (R356): with the plan committed and every configured head READY, the next 256 line cycles are
captured dark and the 256 after them lit. -/
def doShadeCalibrate (r : ReplyTo) (s : State) : State :=
  if s.sys.state ≠ .ready ∨ s.lantern.committed = false ∨ s.lantern.calib.isSome = true ∨
      s.configuredHeads.any (fun x => decide ((s.getHead x).state ≠ .ready)) = true then s.er r 23
  else s.onLantern fun l => { l with calib := some { reply := r, first := s.seam.next } }

/-- The shading of one pixel from its means in 1/256 of a code; a defective one has gain 0 (R356). -/
def shadeOf (target : Nat) (dw : Nat × Nat) : Shade :=
  let d := (roundDivUp dw.1 256).toNat
  if dw.2 ≤ dw.1 ∨ 32768 < d then ⟨-(min d 32768 : Nat), 0⟩
  else
    let g := (roundDivUp ((target * 16384 * 256 : Nat) : Int) (dw.2 - dw.1)).toNat
    if 65535 < g then ⟨-(d : Int), 0⟩ else ⟨-(d : Int), g⟩

/-- The means of one head and phase that a calibration has captured, column by column. -/
def Calib.cells (k : Calib) (head phase columns : Nat) : List (Nat × Nat) :=
  (List.range columns).map fun c => SMap.look (0, 0) k.sums (shadeKey head phase c)

/-- The planes that a calibration captures: head and phase, with the means of their columns (R356). -/
def State.capPlanes (s : State) (k : Calib) : List (Nat × Nat × List (Nat × Nat)) :=
  s.configuredHeads.flatMap fun x =>
    (List.range ((s.lantern.plan.map (·.phases)).getD 0)).map fun ph => (x, ph, k.cells x ph (s.columns x))

/-- The defective pixels that a captured plane yields. -/
def capDefects (cells : List (Nat × Nat)) (target : Nat) : Nat := (cells.filter fun c => decide ((shadeOf target c).gain = 0)).length

/-- Whether the mean of W − D over a plane is below 6 554 codes (Table 9-5). -/
def capPale (cells : List (Nat × Nat)) : Bool :=
  decide ((cells.map fun c => (c.2 : Int) - c.1).sum < (6554 * 256 * cells.length : Nat))

/-- SHADE_CAPTURE_DONE (R356, R357): all 512 line cycles have been captured: the tables are computed and checked, and the `shade`
record is filed. Entries that were not captured keep what they were (log entry 21). -/
def execShadeCaptureDone (_ : Unit) (s : State) : Host.Outcome State Fault Refusal :=
  .next (
    match s.lantern.calib with
    | none => s
    | some k =>
      let planes := s.capPlanes k
      let target := s.nat .shadeWhiteTarget
      let mask (ph : Nat) : Nat := (s.lantern.plan.map fun p => p.mask ph).getD 0
      let readOut := (s.lantern.cur.map fun c => decide (k.first + 512 ≤ c.line) && s.configuredHeads.all fun x =>
        decide (k.first + 512 < c.line) || decide (c.tick + (s.sgNs x * 8 + 400 + s.readout8 x + 79) / 80 ≤ s.now)).getD false
      if readOut = false then s
      else if planes.any fun p => decide (mask p.2.1 ≠ 0) && capPale p.2.2 then s.failCalib 70 [.word "white"]
      else match planes.find? fun p => decide (s.nat .shadeDefectMax < capDefects p.2.2 target) with
        | some p => s.failCalib 70 [dotFld "shade" (headWord p.1)]
        | none =>
          let tab := planes.foldl (fun t p => p.2.2.zipIdx.foldl (fun t c =>
            SMap.put Shade.init t (shadeKey p.1 p.2.1 c.2) (shadeOf target c.1)) t) s.shadeTab
          (s.onLantern fun l => { l with calib := none }).fileWrite
            { record := .shade, body := .shade tab, reply := some (.traop k.reply),
              onCommit := .shade ⟨tab, planes.map fun p => (p.1, p.2.1)⟩,
              done := .num ((planes.map fun p => capDefects p.2.2 target).sum : Nat) })

/-- `shade.x.defects`: the defective pixels of a head's table (R354). -/
def State.shadeDefects (s : State) (head : Nat) : Nat :=
  (s.shadeTab.filter fun e => decide (e.2.gain = 0 ∧ head * 6 * 8192 ≤ e.1 ∧ e.1 < (head + 1) * 6 * 8192)).length

/-- The first columns of the runs of more than 4 defective columns of one head and phase (R355). -/
def clusterStarts (bad : List Bool) : List Nat :=
  let rec go : Nat → Nat → List Bool → List Nat
    | i, n, true :: xs => go (i + 1) (n + 1) xs
    | i, n, false :: xs => (if 4 < n then [i - n] else []) ++ go (i + 1) 0 xs
    | i, n, [] => if 4 < n then [i - n] else []
  go 0 0 bad

/-- The tables of a calibration take effect with the next cycle, and the clusters that it produced are told (R355, R356). -/
def State.useShade (s : State) (x : ShadeSet) : State :=
  let t := { s with shadeTab := x.tab }.onLantern fun l => { l with oldShade := s.shadeTab, shadeAt := s.now }
  x.planes.foldl (fun t p =>
    (clusterStarts ((List.range (t.columns p.1)).map fun c =>
      decide ((SMap.look Shade.init x.tab (shadeKey p.1 p.2 c)).gain = 0))).foldl
      (fun t (c : Nat) => t.emit .keep "shade" (headWord p.1) [.word "cluster", .int c]) t) t

/-- The configured heads leave READY, and a calibration fails by the first of them (Table 9-5). -/
def State.calibLosesHeads (s : State) : State :=
  match s.configuredHeads with
  | x :: _ => s.failCalib 70 [dotFld "head" (headWord x)]
  | [] => s

end Sys2Proof.Machine
end

