-- ==== Sys2Proof/Machine/Tower.lean ====
section
/-! DEFINITION. Towers (R232–R259): addresses and enumeration, the Spire, line marks and alignment, Spire loss and promotion,
tower management, and TOWER frames (R294, R515). -/

namespace Sys2Proof.Machine

/-- `EV tower word`, to the Keep (Table 4-4). -/
def State.towerEvent (s : State) (word : String) (fs : List Fld) : State := s.emit .keep "tower" word fs

/-! ## Enumeration (R234–R239, R241) -/

/-- The modules below this one that it reaches: none while LINK D is down (Table 6-3). -/
def State.below (s : State) : List Nat :=
  if (s.getPort 1).state = .up ∨ (s.getPort 1).state = .retrain then s.tower.reached else []

/-- A Spire reads the count of every module that it reaches on LINK D (R253). -/
def State.readCounts (s : State) : State := s.below.foldl (fun t a => t.sendBypass 1 (.countReq a)) s

/-- The module takes an address, or none (R234, R241): the module that takes 01 is the Spire, and reads the counts below it before
its next mark (R253); any other is not. A duplicate is resolved (R240). -/
def State.takeAddr (s : State) (a : Nat) : State :=
  let t := s.onTower fun t =>
    if a = t.addr then
      { t with dup := false, spire := decide (a = 1), promoted := false, stepped := false, firstSent := false, counts := [] }
    else
      { t with addr := a, spire := decide (a = 1), promoted := false, dup := false, locked := false, good := 0, source := .local,
               marks := [], lastMark := none, period := 0, markStart := none, markSeen := false, markHeard := none, missing := 0,
               lossAt := none, lossTold := false, stepped := false, firstSent := false, slew := 0, counts := [], markAt := none }
  if a = 1 then t.readCounts else t

/-- What a module does with `ENUM n` (R234, R237, R239): its state, and the number it forwards. A module in RUN or PAUSED that
has no address forwards the number it received (log entry 22). -/
def State.enumNumber (s : State) (n : Nat) : State × Nat :=
  if s.sorting ∧ s.tower.addr ≠ n + 1 then
    (s.towerEvent "enum-refused" [.int n], if s.tower.addr = 0 then min n 33 else s.tower.addr)
  else if 32 ≤ n then (s.takeAddr 0, 33)
  else
    let pin := s.nat .towerPin
    let a := if pin = 0 ∨ n = 0 then n + 1 else pin
    let t := s.takeAddr a
    (if pin ≠ 0 ∧ pin ≠ n + 1 then t.towerEvent "pin-conflict" [.int (n + 1 : Nat), .int pin] else t, a)

/-- TOWER_DUPLICATE_CHECK (R240): the Spire, whose marks have begun, has collected the address of every module it reaches; the event
is raised for each address that two hold. -/
def execTowerDuplicateCheck (addrs : List Nat) (s : State) : Host.Outcome State Fault Refusal :=
  .next (
    if s.tower.spire = true ∧ s.tower.firstSent = true then
      let twice := (List.range 33).filter fun a => decide (a ≠ 0 ∧ 2 ≤ (addrs.filter fun x => decide (x = a)).length)
      (twice.foldl (fun t a => t.towerEvent "duplicate" [.dec2 a]) s).onTower fun t =>
        { t with dup := t.dup || twice.contains t.addr }
    else s)

/-- ADDR (R233): the neighbour's address. From LINK U it is one less than the module's own, unless either has none. -/
def execAddr (port addr : Nat) (s : State) : Host.Outcome State Fault Refusal :=
  .next (
    if port = 0 ∧ s.tower.addr ≠ 0 ∧ addr ≠ 0 ∧ addr + 1 ≠ s.tower.addr then
      s.towerEvent "order" [.int s.tower.addr, .int addr]
    else s)

/-! ## Tower management (R240, R242, R253, R288, R294) -/

/-- COUNT_REQ (R253): a request for this module's count is answered on the port it came from; any other is passed on, and a
count returned reaches the Spire. -/
def execCountReq (port addr : Nat) (count : Option Nat) (s : State) : Host.Outcome State Fault Refusal :=
  .next (
    match count with
    | none =>
      if addr = s.tower.addr then s.sendBypass port (.count addr s.now) else s.sendBypass (1 - port) (.countReq addr)
    | some c =>
      if s.tower.spire ∧ port = 1 then s.onTower fun t => { t with counts := SMap.put 0 t.counts addr (c + 1) }
      else s.sendBypass (1 - port) (.count addr c))

/-- TMGMT (R240, R242, R246, R253, R288, R294): a module's epoch, state, rates and role. A new epoch discards every record of
counts and generations of the source. The message goes on, out of the other port. A Spire that has not sent its first mark reads
the count of a module newly reached, and waits for it. -/
def execTmgmt (port : Nat) (m : Tmgmt) (s : State) : Host.Outcome State Fault Refusal :=
  .next (
    if m.addr = 0 then s.sendBypass (1 - port) (.tmgmt m)
    else
      let u := (s.onTower fun t =>
        let fresh := decide (SMap.look 0 t.epochs m.addr ≠ m.epoch + 1)
        { t with
          epochs := SMap.put 0 t.epochs m.addr (m.epoch + 1)
          genRx := if fresh then SMap.put 0 t.genRx m.addr 0 else t.genRx
          cntRx := if fresh then t.cntRx.filter fun e => decide (e.1 / 4 ≠ m.addr) else t.cntRx
          rates := SMap.put 0 t.rates m.addr m.rates
          active := (if port = 1 ∧ (m.state = MState.run.place ∨ m.state = MState.paused.place) then [m.addr] else []) ++
            t.active.filter fun a => decide (a ≠ m.addr)
          roles := SMap.put 0 t.roles m.addr (m.role + 1)
          views := SMap.put 0 t.views m.addr (if m.role = 1 then m.partner else 0)
          reached := if port = 1 then m.addr :: t.reached.filter fun a => decide (a ≠ m.addr) else t.reached
          dup := t.dup || decide (m.addr = t.addr) }).sendBypass (1 - port) (.tmgmt m)
      if u.tower.spire ∧ u.tower.firstSent = false ∧ m.addr ∈ u.below ∧ m.addr ∉ s.below then
        (u.onTower fun t => { t with stepped := false }).sendBypass 1 (.countReq m.addr)
      else u)

/-- Whether this module is the partner of a VIEW module (R383, R515): a SECTION module that a VIEW module has announced as its
partner. -/
def State.awaitsViews (s : State) : Bool :=
  decide (s.int .towerRole = 0) && decide (s.tower.addr ≠ 0) && s.tower.views.any fun p => decide (p.2 = s.tower.addr)

/-- `tower.count` (R260): on a Spire, the modules it reaches, itself among them; elsewhere 0. -/
def State.towerCount (s : State) : Nat := if s.tower.spire then 1 + s.below.length else 0

/-! ## Marks of the Spire (R247, R248, R253) -/

/-- Whether a Spire holds the count of every module that it reaches on LINK D (R253). -/
def State.countsHeld (s : State) : Bool := s.below.all fun a => decide (SMap.look 0 s.tower.counts a ≠ 0)

/-- SPIRE_COUNT_STEP (R253): once every count has been read, and one exceeds its own, one given or one that COUNT returned, the Spire
steps forward to the highest plus 100 µs. -/
def execSpireCountStep (counts : List Nat) (s : State) : Host.Outcome State Fault Refusal :=
  .next (
    if s.tower.spire = true ∧ s.tower.firstSent = false ∧ s.countsHeld = true then
      let top := (counts ++ s.tower.counts.map fun c : Nat × Nat => c.2 - 1).foldl max 0
      (s.onSys fun y => { y with tick := if y.tick < top then top + 100 * usTicks else y.tick }).onTower fun t =>
        { t with stepped := true }
    else s)

/-- The line that a mark sent now announces: the one that starts when the count reaches now + lead (R249). -/
def State.announced (s : State) (lead : Nat) : Nat :=
  match s.lantern.cur, s.lantern.plan with
  | some c, some p => (c.line + (roundDiv ((s.now : Int) + lead - c.tick) (cycleTicks p.rate)).toNat) % 2 ^ 48
  | _, _ => s.seam.next

/-- The ticks from one mark of a Spire to the next (R247): a line cycle of its line plan; 10 000 a second without one. -/
def State.markTicks (s : State) : Nat :=
  match s.lantern.planNext with
  | some p => cycleTicks p.rate
  | none => 10000

/-- LINE_MARK_SEND (R247, R248): in READY, RUN and PAUSED, once it has compared counts, a Spire sends its next mark with path
delay 0; without a line plan it is time-only. The origin tick is the count as the mark leaves. -/
def execLineMarkSend (s : State) : Host.Outcome State Fault Refusal :=
  .next (
    if s.tower.spire ∧ s.tower.stepped ∧ s.serving = true ∧ ¬ (s.tower.markAt.any fun t => decide (s.now < t + s.markTicks)) then
      let lead := s.nat .towerMarkLead * usTicks
      let time := s.lantern.planNext.isNone
      (s.onTower fun t => { t with firstSent := true, markAt := some s.now }).sendBypass 1
        (.mark { line := if time then s.seam.line else s.announced lead, origin := s.now, lead := lead, delay16 := 0,
                 timeOnly := time } false s.now)
    else s)

/-! ## Marks at the other modules (R248–R251, R254) -/

/-- 50 ns in sixteenths of a tick (R251). -/
abbrev lockBound16 : Int := 80

/-- A correction by the error *e* (R250, R251, R257): a step forward when the count lags by more than 100 µs, else a slew, which goes
on with the 2 000 ticks under way; and whether the errors lock the module to the Spire. -/
def State.correctCount (s : State) (e16 : Int) : State :=
  let step := decide (e16 < -(16 * 100 * usTicks : Nat))
  let ok := decide (-lockBound16 ≤ e16 ∧ e16 ≤ lockBound16)
  let good := if ok then min 8 (s.tower.good + 1) else 0
  let locked := ok && (s.tower.locked || decide (8 ≤ good))
  let t := (s.onSys fun y => { y with tick := if step then y.tick + ((-e16) / 16).toNat else y.tick }).onTower fun t =>
    { t with err16 := e16, slew := if step then 0 else roundDiv e16 16, good := good, locked := locked,
             source := if locked then .spire else .local, lossAt := none }
  if locked ∧ s.tower.lossTold then (t.onTower fun t => { t with lossTold := false }).towerEvent "spire-ok" [] else t

/-- Marks in the order of their lines. -/
def insertMark (m : Mark) : List Mark → List Mark
  | [] => [m]
  | x :: xs => if m.line < x.line then m :: x :: xs else if m.line = x.line then x :: xs else x :: insertMark m xs

/-- A line mark is kept for its line, and gives the mark period (R249, R254). A mark for a line already started, and one that
comes later than its start tick, starts nothing (Table 6-3). -/
def State.noteMark (s : State) (m : Mark) : State :=
  if m.timeOnly then s
  else
    let late := decide (m.origin + m.lead < s.now)
    s.onTower fun t =>
      { t with
        marks := if s.ownLines = true ∨ late ∨ (s.lantern.cur.isSome = true ∧ m.line ≤ s.seam.line) then t.marks
                 else insertMark m t.marks
        missing := if s.ownLines ∧ !late then 0 else t.missing
        markStart := some (max (m.origin + m.lead) (t.markStart.getD 0))
        period := match t.lastMark with
          | some (l, o) => if l < m.line then (m.origin - o) / (m.line - l) else t.period
          | none => t.period
        lastMark := some (m.line, m.origin) }

/-- MARK (R248–R250, Table 6-3): a mark arrives on LINK U. It goes on with the hop's latency and the residence added, and says
whether it met a replay; one that came without replay corrects the count; its line is noted. A Spire ignores it. -/
def execMark (m : Mark) (arrival16 residence16 : Nat) (replayed : Bool) (s : State) : Host.Outcome State Fault Refusal :=
  .next (
    if s.tower.spire then
      if s.tower.promoted ∧ s.tower.twoTold = false then
        (s.onTower fun t => { t with twoTold := true }).towerEvent "two-spires" []
      else s
    else if s.tower.addr = 0 then s
    else
      let d := m.delay16 + (s.getPort 0).hop16
      let t := (s.onTower fun t => { t with markSeen := true, markHeard := some s.now }).sendBypass 1
        (.mark { m with delay16 := (d + residence16) % 2 ^ 24 } replayed s.now)
      let u := if replayed then t else t.correctCount ((arrival16 : Int) - (16 * m.origin + d : Nat))
      if u.serving then u.noteMark m else u)

/-- MARK_LINE_START (R243, R249): the count has reached the start tick of the earliest line announced, which starts. -/
def execMarkLineStart (s : State) : Host.Outcome State Fault Refusal :=
  .next (
    match s.tower.marks with
    | m :: ms =>
      if s.now < m.origin + m.lead then s
      else
        let t := s.onTower fun t => { t with marks := ms, missing := 0 }
        if s.serving = true ∧ s.ownLines = false then t.startLine m.line else t
    | [] => s)

/-- Spire loss (R251, R256, R259): the module free-runs on its own crystal. -/
def State.loseSpire (s : State) : State :=
  if s.tower.spire ∨ s.tower.addr = 0 ∨ s.tower.source = .free then s
  else s.onTower fun t =>
    { t with source := .free, locked := false, good := 0, slew := 0, losses := satInc t.losses, lossAt := some s.now,
             lossTold := false }

/-- Whether the mark of the next line has arrived and waits for its line. -/
def State.markWaits (s : State) : Bool :=
  s.tower.marks.any fun m => decide (m.line ≤ s.seam.next)

/-- MARK_MISSING (R254): the count has reached the start tick of the next line and its mark has not come: the line starts one mark
period after the last; the third miss in a row is Spire loss. -/
def execMarkMissing (s : State) : Host.Outcome State Fault Refusal :=
  .next (
    match s.nextMarkStart with
    | none => s
    | some d =>
      if s.serving = true ∧ s.tower.spire = false ∧ s.tower.addr ≠ 0 ∧ s.tower.source ≠ .free ∧ d ≤ s.now ∧ s.markWaits = false then
        let t := s.onTower fun t => { t with missing := t.missing + 1, markStart := some d }
        let u := if s.ownLines then t else t.startLine s.seam.next
        if s.tower.missing < 2 then u.onTower fun t => { t with bridged := satInc t.bridged } else u.loseSpire
      else s)

/-- Whether a module has lost the Spire (R254, R259): the third mark in a row is missing; where the marks start no lines, three of
their periods have passed without one (log entry 76); where none has ever come, 1 s since LINK U trained. -/
def State.lossDue (s : State) : Bool :=
  match s.nextMarkStart with
  | some d => decide (d + 2 * s.tower.period ≤ s.now) && s.tower.marks.isEmpty
  | none =>
    match s.tower.markHeard with
    | some t => decide (t + 30000 ≤ s.now)
    | none => s.tower.trainedAt.any fun t => decide (t + secTicks ≤ s.now)

/-- SPIRE_LOSS (R256). -/
def execSpireLoss (s : State) : Host.Outcome State Fault Refusal :=
  .next (if s.serving = true ∧ s.lossDue = true then s.loseSpire else s)

/-- SPIRE_LOST_TIMEOUT (R256): no correcting mark has come back within 200 ms: the feed pauses with reason SPIRE. -/
def execSpireLostTimeout (s : State) : Host.Outcome State Fault Refusal :=
  .next (
    if s.tower.source = .free ∧ (s.tower.lossAt.any fun t => decide (t + 200 * msTicks ≤ s.now)) ∧ s.tower.lossTold = false then
      let t := s.onTower fun t => { t with lossTold := true }
      (t.setPause pauseSpire).towerEvent "spire-lost" []
    else s)

/-- NO_MARKS_AFTER_TRAINING (R259): an addressed module that is no Spire has seen no mark 1 s after its LINK U trained. -/
def execNoMarksAfterTraining (s : State) : Host.Outcome State Fault Refusal :=
  .next (
    if s.serving = true ∧ s.tower.markSeen = false ∧ (s.tower.trainedAt.any fun t => decide (t + secTicks ≤ s.now)) then s.loseSpire
    else s)

/-- `DO tower.promote` (R258): a module that free-runs becomes a Spire; it reads the counts below it before it sends marks. -/
def doTowerPromote (r : ReplyTo) (s : State) : State :=
  if s.tower.source ≠ .free then s.er r 23
  else
    let t := (s.ok r []).onTower fun t =>
      { t with spire := true, promoted := true, twoTold := false, source := .local, lossAt := none, lossTold := false,
               missing := 0, marks := [], stepped := false, firstSent := false, counts := [], markAt := none }
    t.readCounts.towerEvent "promoted" [.dec2 s.tower.addr]

/-! ## TOWER frames (R245, R277, R294, R515) -/

/-- The frames sent in a direction under the TOWER generation in use (R291). -/
def Tower.cntTx (t : Tower) (dir : Nat) : Nat := if dir = 0 then t.cntTx0 else t.cntTx1

/-- A TOWER frame has been counted in its direction; the generation that has come to 2^39 in one gives way to the next (R291, R515). -/
def Tower.useCnt (t : Tower) (dir : Nat) : Tower :=
  if 2 ^ 39 ≤ t.cntTx dir + 1 then { t with genTx := t.genTx + 1, cntTx0 := 0, cntTx1 := 0 }
  else if dir = 0 then { t with cntTx0 := t.cntTx0 + 1 } else { t with cntTx1 := t.cntTx1 + 1 }

/-- A TOWER frame to another module waits on the port toward it (R277, R515): nothing is sent without the TOWER key. -/
def State.sendTower (s : State) (dest : Nat) (payload : List Byte) : State :=
  match s.towerRoot with
  | none => s
  | some root =>
    let k := towerKey root s.tower.addr s.sys.epoch s.tower.genTx
    let dir := if dest < s.tower.addr then 0 else 1
    let n := s.tower.cntTx dir
    let f : Frame := { stream := s.tower.addr, modAddr := dest, stype := typeTower, dir := dir, phase := s.tower.genTx % 2,
                       first := true, last := true, len := payload.length, epoch := s.sys.epoch, count := n,
                       body := [] }
    let g := { f with body := gcmSeal (k.take 32) (towerNonce k dir s.tower.addr s.sys.epoch n) f.aad payload }
    (s.modPort dir fun q => if q.state = .up ∨ q.state = .retrain then { q with waitQ := q.waitQ ++ [⟨256, g⟩] } else q).onTower
      fun t => t.useCnt dir

/-- The generation that a TOWER frame's phase selects: the one held for the source, or the next (R294). -/
def Tower.genOf (t : Tower) (f : Frame) : Nat :=
  let g := SMap.look 0 t.genRx f.stream
  if g % 2 = f.phase then g else g + 1

/-- Where the last count accepted from a source stands, by generation parity and direction. -/
def cntKey (source parity dir : Nat) : Nat := source * 4 + parity * 2 + dir

/-- The payload of a TOWER frame that passes R294; none for one that does not. -/
def State.openTower (s : State) (f : Frame) : Option (List Byte) :=
  match s.towerRoot with
  | none => none
  | some root =>
    let g := s.tower.genOf f
    let last := if g = SMap.look 0 s.tower.genRx f.stream then SMap.look 0 s.tower.cntRx (cntKey f.stream (g % 2) f.dir) else 0
    if SMap.look 0 s.tower.epochs f.stream = f.epoch + 1 ∧ last ≤ f.count then
      let k := towerKey root f.stream f.epoch g
      gcmOpen (k.take 32) (towerNonce k f.dir f.stream f.epoch f.count) f.aad f.body
    else none

/-- A TOWER frame for this module is accepted, with its generation and count noted, or rejected and counted (R294). -/
def State.towerIn (s : State) (port : Nat) (f : Frame) : State × Option (List Byte) :=
  match s.openTower f with
  | some x =>
    let g := s.tower.genOf f
    (s.onTower fun t =>
      let old := if g = SMap.look 0 t.genRx f.stream then t.cntRx
        else SMap.put 0 (SMap.put 0 t.cntRx (cntKey f.stream (g % 2) 0) 0) (cntKey f.stream (g % 2) 1) 0
      { t with genRx := SMap.put 0 t.genRx f.stream g,
               cntRx := SMap.put 0 old (cntKey f.stream (g % 2) f.dir) (f.count + 1) }, some x)
  | none =>
    let q := s.getPort port
    let told := match q.towerAuthAt with
      | some t => decide (s.now < t + secTicks)
      | none => false
    let t := s.modPort port fun q => { q with authRejects := satInc q.authRejects,
                                              towerAuthAt := if told then q.towerAuthAt else some s.now }
    (if told then t else t.linkEvent port "tower-auth" [.int f.stream], none)

end Sys2Proof.Machine
end

