-- ==== Sys2Proof/Machine/Classify.lean ====
section
/-! DEFINITION. Classification of lines into objects (R366–R374, R386), matching (R380–R383, R387), the feature block, loss of a
head, and the closing of segments on what the curtain holds (R323, R333). -/

namespace Sys2Proof.Machine

/-! ## Object flags (Table 10-2) -/

/-- TRUNCATED. -/
abbrev oTruncated : Nat := 1
/-- HEIGHT. -/
abbrev oHeight : Nat := 2
/-- CONTINUED. -/
abbrev oContinued : Nat := 4
/-- EDGE. -/
abbrev oEdge : Nat := 8
/-- FUSED. -/
abbrev oFused : Nat := 16
/-- FALLBACK. -/
abbrev oFallback : Nat := 32
/-- DEGRADED. -/
abbrev oDegraded : Nat := 64
/-- SATURATED. -/
abbrev oSaturated : Nat := 128
/-- LATE. -/
abbrev oLate : Nat := 256
/-- DEFAULT-SHADE. -/
abbrev oDefaultShade : Nat := 512
/-- HEADLOST. -/
abbrev oHeadLost : Nat := 1024
/-- AREA-SAT. -/
abbrev oAreaSat : Nat := 2048
/-- CLIPPED. -/
abbrev oClipped : Nat := 4096

/-! ## Pixel classes (R366–R369) -/

/-- The signed 16-bit number at place `i` of little-endian bytes. -/
def s16At (bs : List Byte) (i : Nat) : Int := asSigned 16 (leNat (sliceAt bs (2 * i) 2))

/-- The index of axis `k` for the corrected values of the six phases (R368). -/
def ClassSlot.axis (c : ClassSlot) (k : Nat) (vs : List Nat) : Nat :=
  let dot := (vs.zipIdx.map fun p => s16At c.coef (6 * k + p.2) * (p.1 : Int)).sum
  (max 0 (min 65535 ((dot + 8192) / 16384 + s16At c.bias k))).toNat / 1024

/-- The class that a slot's active table gives a pixel (R368, R369): two entries a byte, the even index in bits 3 to 0. -/
def State.pixelClass (s : State) (slot : Nat) (vs : List Nat) : Nat :=
  let c := s.getClassSlot slot
  let i := c.axis 0 vs * 4096 + c.axis 1 vs * 64 + c.axis 2 vs
  let b := (s.ram.byte (activeAddr slot (i / 2))).toNat
  if i % 2 = 0 then b % 16 else b / 16

/-- The class-table slot that a turret holds on a head, if any, numbered 4 × head + slot (R366). -/
def State.slotOf (s : State) (head n : Nat) : Option Nat :=
  ((List.range 4).find? fun j => decide (s.nat .classTurret head j = n)).map fun j => 4 * head + j

/-- The class-table slots that a turret holds, numbered 4 × head + slot. -/
def State.slotsOf (s : State) (n : Nat) : List Nat :=
  ([0, 1].flatMap fun h => (List.range 4).map fun j => (h, j)).filterMap fun p =>
    if s.nat .classTurret p.1 p.2 = n then some (4 * p.1 + p.2) else none

/-- The bytes of a table, moved from the staged to the active table of a slot. -/
def activate (ram table : Ram) (slot : Nat) : Ram :=
  (table.filter fun p => decide (stagedAddr slot 0 ≤ p.1) && decide (p.1 < stagedAddr slot tableBytes)).foldl
    (fun m p => m.setByte (activeAddr slot (p.1 - stagedAddr slot 0)) p.2) (ram.clear (activeAddr slot 0) tableBytes)

/-- The bytes that a recipe gives a path; zeros where it gives none. -/
def Recipe.bytesOf (r : Recipe) (k : Key) (len : Nat) : List Byte :=
  match valOf r.vals k with
  | some (.bytes b) => b
  | some (.num _) => List.replicate len 0
  | some (.text _) => List.replicate len 0
  | none => List.replicate len 0

/-- The tables, coefficients and biases of a turret's recipe become the active ones of its slots (R370). -/
def State.useTables (s : State) (n : Nat) (r : Recipe) : State :=
  (s.slotsOf n).foldl (fun t k =>
    { t.modClassSlot k fun c => { c with coef := r.bytesOf ⟨.classCoef, k / 4, k % 4⟩ 36,
                                         bias := r.bytesOf ⟨.classBias, k / 4, k % 4⟩ 6 } with
      ram := activate t.ram r.table k }) s

/-- Committed tables apply from the first line cycle that starts after their marker (R370). -/
def State.dueTables (s : State) (start : Tick) : State :=
  let due := s.track.nextTables.filter fun x => decide (x.1 ≤ start)
  (due.foldl (fun t x => t.useTables x.2.1 x.2.2) s).onTrack fun t =>
    { t with nextTables := t.nextTables.filter fun x => decide (start < x.1) }

/-- The turrets with an x-range on a head, from the lowest column up: turret, lowest and highest column. -/
def State.rangesOn (s : State) (head : Nat) : List (Nat × Nat × Nat) :=
  let rs := (List.range 64).filterMap fun n => (s.xrange head n).map fun r => (n, r.1, r.2)
  rs.foldl (fun acc r => (acc.filter fun q => decide (q.2.1 ≤ r.2.1)) ++ [r] ++ acc.filter fun q => decide (r.2.1 < q.2.1)) []

/-- The classes of the columns of a range (R367, R391, R521): 0 where the turret's slot has no active table, or the turret is
REVOKED. -/
def State.classesOn (s : State) (head n lo cnt : Nat) (planes : SMap Plane) (phases : Nat) : List Nat :=
  match s.slotOf head n with
  | none => List.replicate cnt 0
  | some slot =>
    if (s.getClassSlot slot).coef = [] ∨ (s.getTurret n).state = .revoked then List.replicate cnt 0
    else
      (List.range cnt).map fun i =>
        s.pixelClass slot ((List.range 6).map fun p =>
          if p < phases then (((SMap.find planes p).map fun pl => (pl.pixels[lo + i]?).getD 0).getD 0) else 0)

/-- The runs of a row of classes that starts at a column (R371). -/
def runsFrom : Nat → Option Run → List Nat → List Run
  | _, r, [] => r.toList
  | c, r, k :: ks =>
    if k = 0 then r.toList ++ runsFrom (c + 1) none ks
    else
      let g := match r with
        | some x => { x with hi := c, areas := SMap.put 0 x.areas k (SMap.look 0 x.areas k + 1) }
        | none => { lo := c, hi := c, areas := SMap.put 0 [] k 1 }
      runsFrom (c + 1) (some g) ks

/-! ## Objects (R371–R373) -/

/-- Whether two runs of neighbouring lines overlap or touch diagonally (R371). -/
def touches (a b : Nat × Nat) : Bool := decide (a.1 ≤ b.2 + 1) && decide (b.1 ≤ a.2 + 1)

/-- Areas added by class. -/
def addAreas (a b : SMap Nat) : SMap Nat := b.foldl (fun m p => SMap.put 0 m p.1 (SMap.look 0 m p.1 + p.2)) a

/-- Whether one object comes before another (R371, R386): the earlier first line, then the lower first column. -/
def Obj.before (a b : Obj) : Bool := decide (a.first < b.first) || (decide (a.first = b.first) && decide (a.lo < b.lo))

/-- An object takes in another (R371): it is the one with the earlier first line. -/
def Obj.absorb (a b : Obj) : Obj :=
  { a with last := max a.last b.last, lo := min a.lo b.lo, hi := max a.hi b.hi, area := a.area + b.area,
           areas := addAreas a.areas b.areas, sumCol := a.sumCol + b.sumCol,
           sumLine := a.sumLine + b.sumLine + b.area * (b.first - a.first), flags := a.flags ||| b.flags,
           lastRuns := a.lastRuns ++ b.lastRuns }

/-- An object gains a run of a line, with the flags that the line gives it. -/
def Obj.addRun (o : Obj) (r : Run) (line flags : Nat) : Obj :=
  let w := r.hi + 1 - r.lo
  { o with last := line, lo := min o.lo r.lo, hi := max o.hi r.hi, area := o.area + w, areas := addAreas o.areas r.areas,
           sumCol := o.sumCol + (r.lo + r.hi) * w / 2, sumLine := o.sumLine + w * (line - o.first), flags := o.flags ||| flags }

/-- Centroid column in 1/256 column, rounded down (Table 10-1). -/
def Obj.col256 (o : Obj) : Nat := o.sumCol * 256 / o.area

/-- Centroid line offset from the first line in 1/256 line, rounded down (R373). -/
def Obj.off256 (o : Obj) : Nat := o.sumLine * 256 / o.area

/-- Height in lines. -/
def Obj.height (o : Obj) : Nat := o.last + 1 - o.first

/-- The line cycle *C* of the running plan, in ticks. -/
def State.lineTicks (s : State) : Nat := (s.lantern.plan.map fun p => cycleTicks p.rate).getD 0

/-- The object's reference tick (R373). -/
def State.refTick (s : State) (o : Obj) : Tick := o.firstRef + (roundDiv (o.off256 * s.lineTicks : Nat) 256).toNat

/-- The reference tick of a line that starts at a tick (R373): plus `lantern.0.offset` and half of `lantern.0.width`. -/
def State.lineRef (s : State) (start : Tick) : Tick :=
  start + ((s.lantern.plan.map fun p => (2 * p.offset 0 + p.width 0) / 20000).getD 0)

/-- An object that is being built in a line, with its runs of that line. -/
abbrev Growing := Obj × List (Nat × Nat)

/-- A run joins the objects that it touches (R371); none when it touches no open object of its turret. -/
def joinRun (n line flags : Nat) (r : Run) (gs : List Growing) : Option (List Growing) :=
  let hit (g : Growing) : Bool := decide (g.1.turret = n) && g.1.lastRuns.any fun q => touches q (r.lo, r.hi)
  match gs.filter hit with
  | [] => none
  | g :: rest =>
    let lead := rest.foldl (fun a b => if b.1.before a.1 then b else a) g
    let all := (g :: rest).filter fun x => decide (x.1.id ≠ lead.1.id)
    let m := all.foldl (fun a b => (a.1.absorb b.1, a.2 ++ b.2)) lead
    some ((gs.filter fun x => !hit x || decide (x.1.id = lead.1.id)).map fun x =>
      if x.1.id = lead.1.id then (m.1.addRun r line flags, m.2 ++ [(r.lo, r.hi)]) else x)

/-- Every run of a line joins, in column order; the rest open new objects. -/
def joinRuns (line : Nat) : List (Nat × Run × Nat) → List Growing → List Growing × List (Nat × Run × Nat)
  | [], gs => (gs, [])
  | (n, r, fl) :: rs, gs =>
    match joinRun n line fl r gs with
    | some gs' => joinRuns line rs gs'
    | none => let x := joinRuns line rs gs; (x.1, (n, r, fl) :: x.2)

/-- The object flags that the planes of a line give (Table 10-2). -/
def lineFlags (planes : SMap Plane) : Nat :=
  let f := planes.foldl (fun a p => a ||| p.2.flags) 0
  (if f &&& (fNoStrobe ||| fCompliance) ≠ 0 then oDegraded else 0) ||| (if f &&& fSaturated ≠ 0 then oSaturated else 0) |||
  (if f &&& fLate ≠ 0 then oLate else 0) ||| (if f &&& fDefaultShade ≠ 0 then oDefaultShade else 0)

/-! ## Closed objects (R324, R333, R374, R380–R383, R387) -/

/-- A class area as a record carries it. -/
def sat16 (n : Nat) : Nat := min n 65535

/-- The areas of classes 1 to 15, 16 bits each. -/
def areaBytes (a : SMap Nat) : List Byte := (List.range 15).flatMap fun c => leBytes 2 (sat16 (SMap.look 0 a (c + 1)))

/-- The feature block (Table 10-1). -/
def State.featureBlock (s : State) (o : Obj) (kind len action rule arrival lead lag : Nat) : List Byte :=
  let f := o.second
  leBytes 2 kind ++ leBytes 2 len ++ leBytes 1 s.tower.addr ++ leBytes 1 o.head ++ leBytes 1 o.turret ++ leBytes 1 action ++
  leBytes 2 o.flags ++ leBytes 1 rule ++ leBytes 1 0 ++ leBytes 6 o.first ++ leBytes 6 o.last ++ leBytes 8 o.firstRef ++
  leBytes 8 (s.refTick o) ++ leBytes 2 o.lo ++ leBytes 2 o.hi ++ leBytes 4 o.col256 ++ leBytes 4 o.off256 ++
  leBytes 4 o.area ++ areaBytes o.areas ++ leBytes 2 o.velocity ++ leBytes 8 arrival ++ leBytes 4 lead ++ leBytes 4 lag ++
  leBytes 2 o.similarity ++ leBytes 6 0 ++ leBytes 4 ((f.map (·.area)).getD 0) ++ areaBytes ((f.map (·.areas)).getD []) ++
  leBytes 1 ((f.map (·.source)).getD 0) ++ leBytes 1 ((f.map (·.modAddr)).getD 0) ++
  leBytes 6 ((f.map (·.firstLine)).getD 0) ++ leBytes 22 0

/-- An object is closed and waits for its decision, which is due from a tick (R379), in the order of decision lines (R388). -/
def State.toDecideAt (s : State) (at_ : Tick) (o : Obj) : State :=
  s.onTrack fun t =>
    { t with toDecide := (t.toDecide.takeWhile fun x => decide (x.readyAt ≤ at_)) ++ [{ o with readyAt := at_ }] ++
                          t.toDecide.dropWhile fun x => decide (x.readyAt ≤ at_) }

/-- When the readout of the line that holds a tick ended (R379): of the last line that started by then, or that tick itself where
no line holds it. -/
def State.lineReadAt (s : State) (t : Tick) : Tick :=
  match ((s.track.readouts.filter fun e => decide (e.start ≤ t)).getLast?).filter fun e => decide (t < e.start + s.lineTicks) with
  | some e => e.ended
  | none => t

/-- An object is closed and waits for its decision: its decision line is the line classified last (R379). -/
def State.toDecideQ (s : State) (o : Obj) : State := s.toDecideAt s.track.readyAt o

/-- A head B column position in 1/256 column, as a head A column, rounded down (R380). -/
def State.mapB (s : State) (col256 : Int) : Int :=
  (col256 * s.int .trackBScale + s.int .trackBOffset * 256000000) / 256000000

/-- The centroid column of an object in head A columns, rounded down (R378, R381). -/
def State.centroidA (s : State) (o : Obj) : Int := if o.head = 0 then (o.col256 / 256 : Nat) else s.mapB o.col256

/-- The similarity of two areas (R381). -/
def similarity (a b : Nat) : Nat := if max a b = 0 then 0 else 1024 * min a b / max a b

/-- Whether a waiting head A object may match a closing head B object (R381, R382): one that expires within the closing line still
may (Table 10-5). -/
def State.mayMatch (s : State) (a b : Obj) : Bool :=
  let dt : Int := (s.refTick b : Int) - s.refTick a
  decide (a.turret = b.turret) && decide (s.track.lineTick ≤ a.expires) &&
      decide ((s.centroidA a - s.centroidA b).natAbs ≤ s.nat .trackMatchCols) &&
  decide (s.nat .trackMatchSim ≤ similarity a.area b.area) &&
  (if s.int .trackGeometry = 1 then
     decide (0 < dt) && decide (s.int .trackVMin * dt ≤ s.int .trackDMm * 100000) &&
     decide (s.int .trackDMm * 100000 ≤ s.int .trackVMax * dt)
   else decide (dt.natAbs ≤ s.nat .trackOppWindow * usTicks))

/-- The best candidate (R381): highest similarity, then smallest column difference, then the earliest. -/
def State.bestMatch (s : State) (b : Obj) : Option Obj :=
  (s.track.store.filter fun a => s.mayMatch a b).foldl (fun best a =>
    match best with
    | none => some a
    | some x =>
      let sx := similarity x.area b.area
      let sa := similarity a.area b.area
      let dx := (s.centroidA x - s.centroidA b).natAbs
      let da := (s.centroidA a - s.centroidA b).natAbs
      if sx < sa ∨ (sx = sa ∧ (da < dx ∨ (da = dx ∧ a.before x = true))) then some a else best) none

/-- A matched pair (R382, R384): head A is primary and head B gives the second set. -/
def State.pairUp (s : State) (a b : Obj) : Obj :=
  let dt := s.refTick b - s.refTick a
  { a with
    flags := a.flags ||| oFused ||| (b.flags &&& oAreaSat)
    second := some { area := b.area, areas := b.areas, source := 1, modAddr := s.tower.addr, firstLine := b.first }
    velocity := if s.int .trackGeometry = 1 ∧ dt ≠ 0 then sat16 (roundDiv (s.int .trackDMm * 100) dt).toNat else 0
    dt := dt
    similarity := similarity a.area b.area
    refB := some (s.refTick b)
    c256 := b.off256
    lag256 := (b.last - b.first) * 256 - b.off256 }

/-- An object is to be decided without a match, from a tick on (R382, R387). -/
def State.unmatchedAt (s : State) (at_ : Tick) (o : Obj) : State :=
  (s.onTrack fun t => if o.head = 0 then { t with unmatchedA := satInc t.unmatchedA }
                      else { t with unmatchedB := satInc t.unmatchedB }).toDecideAt at_
    { o with flags := o.flags ||| oFallback }

/-- A head B object that closes without a match is decided alone (R382). -/
def State.unmatched (s : State) (o : Obj) : State := s.unmatchedAt s.track.readyAt o

/-- A head A object expires: its decision line is the line in which it does (R379, R382). -/
def State.expired (s : State) (o : Obj) : State := s.unmatchedAt (s.lineReadAt o.expires) o

/-- The width of a turret's x-range on a head, in columns. -/
def State.rangeWidth (s : State) (head n : Nat) : Nat := ((s.xrange head n).map fun r => r.2 + 1 - r.1).getD 0

/-- A turret's part of `k` by the widths of the x-ranges on a head, plus 1 (R386, R387). -/
def State.widthShare (s : State) (head n k : Nat) : Nat :=
  let w := ((List.range 64).map (s.rangeWidth head)).sum
  if w = 0 then 1 else k * s.rangeWidth head n / w + 1

/-- A full match store gives up its oldest entry, of the turret's own in Sealed mode, as unmatched (R387). -/
def State.storeRoom (s : State) (n : Nat) : State :=
  let mine := if s.isSealed then s.track.store.filter fun o => decide (o.turret = n) else s.track.store
  let cap := if s.isSealed then s.widthShare 0 n 768 else 1024
  if mine.length < cap then s
  else match mine with
    | [] => s
    | o :: _ =>
      (s.onTrack fun t => { t with store := t.store.filter fun x => decide (x.id ≠ o.id),
                                   storeOverflow := satInc t.storeOverflow }).unmatchedAt s.now o

/-- A head A object waits in the match store (R381). -/
def State.storeA (s : State) (o : Obj) : State :=
  let t := s.storeRoom o.turret
  let fall := if s.nat .trackVMin = 0 then 0 else s.nat .trackDMm * 100000 / s.nat .trackVMin
  let e := o.lastRef + fall + 2 * s.lineTicks
  t.onTrack fun t => { t with store := t.store ++ [{ o with expires := e }] }

/-- A closed object finds its way (R243, R245, R380–R382): a VIEW module sends its feature record to its partner; alone, into
the match store, matched, or unmatched. -/
def State.route (s : State) (o : Obj) : State :=
  if s.int .towerRole = 1 then s.sendTower (s.nat .towerPartner) (s.featureBlock o 0x0010 176 0xFF 0xFF 0 0 0)
  else if s.int .trackGeometry = 0 then s.toDecideQ o
  else if o.head = 0 then s.storeA o
  else match s.bestMatch o with
    | some a =>
      (s.onTrack fun t => { t with store := t.store.filter fun x => decide (x.id ≠ a.id), matched := satInc t.matched }).toDecideQ
        (s.pairUp a o)
    | none => s.unmatched o

/-- The head whose closed objects the rate counts (R313). -/
def State.countHead (s : State) : Nat := if s.configured 0 then 0 else 1

/-- An object closes (R313, R324, R333, R374): it counts for the rate and for its segment, and goes on its way. One that is not
captured is counted as excluded, and so for the segment that opened while it was open (log entry 92). -/
def State.closeObj (s : State) (o : Obj) : State :=
  let sat := o.areas.any fun p => decide (65535 < p.2)
  let p := { o with flags := o.flags ||| (if sat then oAreaSat else 0) }
  let early := s.seam.isOpen && decide (o.first < s.seam.firstLine) && decide (s.seam.firstLine ≤ o.last)
  let t := s.onSeam fun m =>
    if o.captured then { m with captured := m.captured + 1 }
    else { m with excluded := satInc m.excluded, excludedHere := m.excludedHere + (if early then 1 else 0) }
  let u := if o.head = s.countHead then t.onFeed fun f => { f with closes := f.closes ++ [s.now] } else t
  u.route p

/-- Whether a VIEW record matches an object of a turret with a centroid column and a reference tick (R383). -/
def State.viewMeets (s : State) (r : ViewRec) (turret col256 : Nat) (at_ : Tick) : Bool :=
  let col := (r.col256 * s.int .trackViewScale + s.int .trackViewOffset * 256000000) / 1000000
  let ref : Int := (r.refTick : Int) + s.int .trackViewDelay * usTicks
  decide (r.turret = turret) && decide ((col - col256).natAbs ≤ s.nat .trackMatchCols * 256) &&
  decide ((ref - at_).natAbs ≤ s.nat .trackOppWindow * usTicks)

/-- Whether a VIEW record matches a closed object (R383). -/
def State.viewMatches (s : State) (r : ViewRec) (o : Obj) : Bool := s.viewMeets r o.turret o.col256 (s.refTick o)

/-- The second set that a VIEW record gives an object (R383). -/
def viewSet (r : ViewRec) : Second :=
  { area := r.area, areas := (r.areas.zipIdx.map fun p => (p.2 + 1, p.1)).filter fun p => decide (p.2 ≠ 0),
    source := 2, modAddr := r.modAddr, firstLine := r.firstLine }

/-- Whether the object of a VIEW record may still come (log entry 77): its reference tick, and the 512 lines and two more by which an
object has closed, are not over. -/
def State.viewAhead (s : State) (r : ViewRec) : Bool :=
  decide ((s.now : Int) ≤ (r.refTick : Int) + s.int .trackViewDelay * usTicks + s.nat .trackOppWindow * usTicks + 514 * s.lineTicks)

/-- The closed objects whose decision has not been made, or is made in this tick (R390). -/
def Track.waiting (t : Track) : List Obj := t.deciding ++ t.toDecide ++ t.store

/-- A VIEW record arrives (R245, R383): it fills the second set of a matching object that is not FUSED; one for a FUSED object
is unused; one whose object has been decided is late. One that matches none of these is kept while its object may still come (log
entry 77). -/
def State.viewRecord (s : State) (r : ViewRec) : State :=
  match s.track.waiting.find? fun o => s.viewMatches r o && decide (o.flags &&& oFused = 0) with
  | some o =>
    let fill (q : Obj) : Obj :=
      if q.id = o.id then { q with flags := q.flags ||| oFused ||| (r.flags &&& oAreaSat), second := some (viewSet r) } else q
    s.onTrack fun t => { t with deciding := t.deciding.map fill, toDecide := t.toDecide.map fill, store := t.store.map fill }
  | none =>
    let known := s.track.decided.filter fun d => s.viewMeets r d.turret d.col256 d.ref
    if s.track.waiting.any (s.viewMatches r) ∨ known.any (fun d => d.fused && decide (d.at_ = s.now)) = true then
      s.onTrack fun t => { t with viewUnused := satInc t.viewUnused }
    else if known ≠ [] then s.onTower fun t => { t with viewLate := satInc t.viewLate }
    else if s.viewAhead r then s.onTrack fun t => { t with views := t.views ++ [r] }
    else s

/-- The VIEW records that have been kept are tried again once objects have closed (R383). -/
def State.tryViews (s : State) : State :=
  s.track.views.foldl State.viewRecord (s.onTrack fun t => { t with views := [] })

/-- Closed objects in order of their lowest column (Table 10-5), and the VIEW records that may be theirs. -/
def State.closeObjs (s : State) (os : List Obj) : State :=
  let sorted := os.foldl (fun acc o => (acc.filter fun q => decide (q.lo ≤ o.lo)) ++ [o] ++ acc.filter fun q => decide (o.lo < q.lo)) []
  (sorted.foldl (fun t o => t.closeObj o) s).tryViews

/-! ## One line (R371, R372, R386) -/

/-- What a line's opening of new objects works on: the open objects of the head, those closed in this line, and the next
object number. -/
structure Opening where
  opened : List Obj
  closed : List Obj
  nextId : Nat

/-- A new object opens (R386): where the head, or in Sealed mode the turret, holds its limit, its oldest object is
force-closed. -/
def State.openNew (s : State) (head : Nat) (c : Cycle) (line : Nat) (talls : List TallEnd) (x : Opening) (n : Nat) (r : Run)
    (fl : Nat) : Opening :=
  let mine := if s.isSealed then x.opened.filter fun o => decide (o.turret = n) else x.opened
  let cap := if s.isSealed then s.widthShare head n 192 else 256
  let oldest : Option Obj := if mine.length < cap then none
    else match mine with
      | [] => none
      | o :: os => some (os.foldl (fun a b => if b.before a then b else a) o)
  let cont := talls.any fun t => decide (t.head = head ∧ t.turret = n ∧ t.line + 1 = line) &&
    t.runs.any fun q => touches q (r.lo, r.hi)
  let inTime := match s.seam.timeoutLine with
    | some l => decide (line ≤ l)
    | none => true
  let o : Obj :=
    { id := x.nextId, head := head, turret := n, first := line, last := line, firstRef := s.lineRef c.tick,
      lastRef := s.lineRef c.tick, lo := r.lo, hi := r.hi, area := 0, areas := [], sumCol := 0, sumLine := 0, flags := if cont then oContinued else 0,
      captured := c.product.isSome && inTime, mark := ⟨line, c.product.getD 0, c.tick⟩, lastRuns := [(r.lo, r.hi)] }
  { opened := (match oldest with
      | some old => x.opened.filter fun q => decide (q.id ≠ old.id)
      | none => x.opened) ++ [o.addRun r line fl],
    closed := x.closed ++ (oldest.map fun old => { old with flags := old.flags ||| oTruncated }).toList,
    nextId := x.nextId + 1 }

/-- The line cycle that carries a line index. -/
def Lantern.cycleOf (l : Lantern) (line : Nat) : Option Cycle :=
  (l.cur.toList ++ l.prev.toList).find? fun c => decide (c.line = line)

/-- One head's line is classified: runs join or open objects, and objects close, are closed at 512 lines or are
force-closed. The second part says whether the head saw no class and holds no object (R323). -/
def State.classifyHead (s : State) (x : Nat) (c : Cycle) : State × Bool :=
  let h := s.getHead x
  let phases := (s.lantern.plan.map (·.phases)).getD 1
  let lf := lineFlags h.planes
  let runs : List (Nat × Run × Nat) := (s.rangesOn x).flatMap fun r =>
    let cnt := min (r.2.2 + 1) (s.columns x) - r.2.1
    (runsFrom r.2.1 none (s.classesOn x r.1 r.2.1 cnt h.planes phases)).map fun q =>
      (r.1, q, lf ||| (if q.lo = r.2.1 ∨ q.hi = r.2.2 then oEdge else 0))
  let mine := s.track.opened.filter fun o => decide (o.head = x)
  let gone := mine.filter fun o => decide (o.last + 1 ≠ c.line)
  let j := joinRuns c.line runs ((mine.filter fun o => decide (o.last + 1 = c.line)).map fun o => (o, []))
  let grown := j.1.map fun g => ({ g.1 with lastRuns := g.2 }, g.2)
  let idle := (grown.filter fun g => decide (g.2 = [])).map (·.1)
  let live := (grown.filter fun g => decide (g.2 ≠ [])).map fun g => { g.1 with lastRef := s.lineRef c.tick }
  let tall := (live.filter fun o => decide (512 ≤ o.height)).map fun o => { o with flags := o.flags ||| oHeight }
  let o0 : Opening := { opened := live.filter fun o => decide (o.height < 512), closed := gone ++ idle ++ tall,
                        nextId := s.track.nextId }
  let o1 := j.2.foldl (fun a r => s.openNew x c c.line s.track.talls a r.1 r.2.1 r.2.2) o0
  let t := (s.onTrack fun t =>
    { t with
      opened := (t.opened.filter fun o => decide (o.head ≠ x)) ++ o1.opened
      nextId := o1.nextId
      talls := (t.talls.filter fun e => decide (e.head ≠ x)) ++
        tall.map fun o => { head := x, turret := o.turret, line := c.line, runs := o.lastRuns }
      images := t.images ++ [{ head := x, line := c.line, planes := h.planes.map fun p => (p.1, p.2.pixels) }] }).modHead x
    fun h => { h with planes := [] }
  ((t.closeObjs o1.closed).onFeed fun f =>
    { f with openMax := (f.openMax.filter fun p => decide (s.now < p.1 + 10 * msTicks)) ++ [(s.now, o1.opened.length)] },
   runs.isEmpty && o1.opened.isEmpty)

/-- Images are kept while an object that may need them waits. -/
def Track.pruneImages (t : Track) : Track :=
  let os := t.opened ++ t.waiting
  { t with images := t.images.filter fun i => os.any fun o => decide (o.head = i.head ∧ o.first ≤ i.line) }

/-- The heads that produce planes. -/
def State.activeHeads (s : State) : List Nat := [0, 1].filter fun x => decide ((s.getHead x).state = .active)

/-- The line that is ready to be classified (R367): every plane of every ACTIVE head is corrected. With no head ACTIVE it is the line
before the running one, in which no head can hold anything (R323). -/
def State.readyLine (s : State) : Option Cycle :=
  match s.activeHeads, s.lantern.plan with
  | x :: xs, some p =>
    let l := (s.getHead x).planeLine
    let full (y : Nat) : Bool := decide ((s.getHead y).planeLine = l) &&
      (List.range p.phases).all fun ph => (SMap.find (s.getHead y).planes ph).isSome
    if (x :: xs).all full then s.lantern.cycleOf l else none
  | [], _ => s.lantern.prev.filter fun c => decide (s.track.classified ≤ c.line)
  | _ :: _, none => none

/-- The line that is being classified is the decision line of what closes in it (R379). -/
def Track.classifying (t : Track) (c : Cycle) : Track :=
  { t with lineTick := c.tick
           readyAt := ((t.readouts.find? fun e => decide (e.line = c.line)).map (·.ended)).getD t.readyAt }

/-- LINE_CLASSIFY (R367–R373): the line whose planes are all corrected is classified on each ACTIVE head, and the count of
clear lines goes on (R323). -/
def execLineClassify (s : State) : Host.Outcome State Fault Refusal :=
  .next (
    match s.readyLine with
    | some c =>
      if s.sorting then
        let r := s.activeHeads.foldl (fun (a : State × Bool) x => let b := a.1.classifyHead x c; (b.1, a.2 && b.2))
          ((s.dueTables c.tick).onTrack fun t => t.classifying c, true)
        (r.1.onSeam fun m =>
          { m with clear := if r.2 then m.clear + 1 else 0, seen := some ⟨c.line, c.product.getD m.index, c.tick⟩ }).onTrack fun t =>
          ({ t with classified := c.line + 1 } : Track).pruneImages
      else s
    | none => s)

/-! ## Loss of a head (R58, R340, R362, R386) -/

/-- A head leaves ACTIVE: its open objects close at its last produced line, flagged HEADLOST (R386). -/
def State.loseHead (s : State) (x : Nat) : State :=
  if (s.getHead x).state = .active then
    let mine := s.track.opened.filter fun o => decide (o.head = x)
    let t := (s.onTrack fun t => { t with opened := t.opened.filter fun o => decide (o.head ≠ x),
                                          talls := t.talls.filter fun e => decide (e.head ≠ x) }).modHead x
      fun h => { h with planes := [] }
    t.closeObjs (mine.map fun o => { o with flags := o.flags ||| oHeadLost })
  else s

/-- A calibration fails when a head that it captures leaves READY (Table 9-5). -/
def State.headLeavesReady (s : State) (x : Nat) : State :=
  if s.configured x ∧ (s.getHead x).state = .ready then s.failCalib 70 [dotFld "head" (headWord x)] else s

/-- HPRES_HIGH (R33, R58, Table 9-2): both supplies go off and the head is ABSENT. -/
def execHpresHigh (head : Nat) (s : State) : Host.Outcome State Fault Refusal :=
  .next (
    let t := ((s.loseHead head).headLeavesReady head).modHead head fun h =>
      { h with present := false, state := .absent, v5 := 0, v12 := false, ident := none, tries := 0 }
    if s.sorting then t.headEvent head "absent" else t)

/-- HEAD_SUPPLY_OVERLOAD (R362, Table 1-8): the supplies of a head that is on switch off, both of them (log entry 103), and the head is in
SUPPLY. -/
def execHeadSupplyOverload (head : Nat) (s : State) : Host.Outcome State Fault Refusal :=
  .next (
    if (s.getHead head).v5 = 0 then s
    else (((s.loseHead head).headLeavesReady head).modHead head fun h =>
      { h with state := .supply, v5 := 0, v12 := false }).headEvent head "supply")

/-! ## VIEW records (R245, R383) -/

/-- VIEW_FEATURE_RECORD (R383). -/
def execViewFeatureRecord (r : ViewRec) (s : State) : Host.Outcome State Fault Refusal :=
  .next (if s.int .towerRole = 0 then s.viewRecord r else s)

/-! ## The end of sorting (R111, R323, R333, R392) -/

/-- READY is entered from RUN or PAUSED (R111, R318, R335, Table 9-2, R392): STOP is cleared, ACTIVE heads are READY, open objects
are discarded without decision, coils that stand without current are energised, and the stop is answered. A roll that still turns
slows down to standstill. -/
def State.toReady (s : State) : State :=
  let t := [0, 1].foldl (fun t x => t.modHead x fun h => { h with state := if h.state = .active then .ready else h.state,
                                                                  planes := [] }) s
  let u := (t.onTrack fun t => { t with opened := [], talls := [] }).onFeed fun f =>
    { f with cmd := {}, ramping := false, steadyAt := none, pauses := maskOff f.pauses pauseStop,
             firstPause := if maskOff f.pauses pauseStop = 0 then none else f.firstPause,
             state := if f.state = .fault then .fault else if f.speed ≠ 0 then .decel else if f.energised then .hold else .off }
  let v := (((u.onSys fun y => { y with stopReply := none }).enter .ready).rested.holdCoils).onSeam fun m =>
    { m with timeoutLine := none, clear := 0 }
  v.okTo s.sys.stopReply []

/-- READY follows a stop once the segment is closed (R111, R333). -/
def State.readyIfStopped (s : State) : State := if s.feed.pauses &&& pauseStop ≠ 0 then s.toReady else s

/-- SEGMENT_CLOSE (R323): while a pause reason is held, a curtain clear for `seam.clear_lines` lines closes the segment. -/
def execSegmentClose (s : State) : Host.Outcome State Fault Refusal :=
  .next (
    if s.sorting = true ∧ s.feed.pauses ≠ 0 ∧ s.nat .seamClearLines ≤ s.seam.clear then
      (if s.seam.isOpen then s.closeSegment false else s).readyIfStopped
    else s)

/-- Whether the timeout line has been classified, and no captured object is open (R333). -/
def State.forceMay (s : State) : Bool :=
  s.seam.timeoutLine.any (fun l => decide (l < s.track.classified)) && !s.track.opened.any (·.captured)

/-- SEGMENT_FORCED_CLOSE (R333): from the timeout line on, the first line after which no captured object is open closes the segment
by force. -/
def execSegmentForcedClose (s : State) : Host.Outcome State Fault Refusal :=
  .next (
    if s.sorting = true ∧ s.forceMay = true then
      (if s.seam.isOpen then (s.closeSegment true).emit .keep "seam" "forced" []
       else s.onSeam fun m => { m with timeoutLine := none }).readyIfStopped
    else s)

end Sys2Proof.Machine
end

