-- ==== Sys2Proof/Machine/Eject.lean ====
section
/-! DEFINITION. Ejection (R395–R421): valves and their mapping, the eject scheduler and its queue, merging, the divert channel
and metal windows, the course of a valve action, driver faults and the valve test. -/

namespace Sys2Proof.Machine

/-! ## Valves (R396–R402) -/

/-- A number with two decimal digits, as valve paths and events spell it. -/
def two (n : Nat) : String := (if n < 10 then "0" else "") ++ toString n

/-- The bank of a valve: 0 for VALVE A, 1 for VALVE B (Table 1-2). -/
def bankOf (mm : Nat) : Nat := mm / 32

/-- Whether a bank's VCOM switch is closed (R398). -/
def State.vcomClosed (s : State) (bank : Nat) : Bool := SMap.look false s.pwr.vcom bank

/-- Whether P24 is present (R52, R53, R398): above 33.0 V the module behaves as if it were not. -/
def Pwr.p24Here (p : Pwr) : Bool := !p.p24Open && !(p.p24Low && p.p24Absent)

/-- Both VCOM switches as R398 wants them: closed in READY, RUN and PAUSED while P24 is present and the bank has no short. -/
def State.setVcom (s : State) : State :=
  s.onPwr fun p => { p with vcom := [0, 1].foldl (fun m b =>
    SMap.put false m b (s.serving && p.p24Here && !SMap.look false p.shortReturn b)) p.vcom }

/-- The uses of a valve: EJECT, DIVERT and OFF by position (R399). -/
abbrev useEject : Int := 0
/-- DIVERT. -/
abbrev useDivert : Int := 1

/-- Whether a channel is in IDLE, PEAK or HOLD, and not in a test of its latch (R401, R419). -/
def Valve.sound (v : Valve) : Bool := decide (v.state = .idle ∨ v.state = .peak ∨ v.state = .hold) && decide (v.latch = .clear)

/-- Whether a valve may fire at all (R399, R417, Table 6-1): it has an owner and a use, and the module is no VIEW module. -/
def State.mayFire (s : State) (mm : Nat) : Bool :=
  decide (s.int .towerRole ≠ 1) && decide (s.nat .valveTurret mm ≠ 255) && decide (s.int .valveUse mm ≠ 2)

/-- Whether a turret may schedule actions on a valve of the given use (R399, R401, Table 6-1). -/
def State.usable (s : State) (n : Nat) (use : Int) (mm : Nat) : Bool :=
  decide (s.int .towerRole ≠ 1) && decide (s.nat .valveTurret mm = n) && decide (s.int .valveUse mm = use) && (s.getValve mm).sound

/-- A turret's usable DIVERT valve, if it has one (R399, R403). -/
def State.divertValve (s : State) (n : Nat) : Option Nat := (List.range 64).find? (s.usable n useDivert)

/-- The index of a valve along the curtain (R400). -/
def State.valveIndex (s : State) (mm : Nat) : Int :=
  if s.int .ejectOrder = 0 then (mm : Int) - s.int .ejectValve0 else s.int .ejectValve0 - mm

/-- The columns that a valve covers, from and up to, in millionths of a column (R400); none below index 0. -/
def State.valveCols (s : State) (mm : Nat) : Option (Int × Int) :=
  let i := s.valveIndex mm
  if i < 0 then none
  else some (s.int .ejectCol0 * 1000000 + i * s.int .ejectPitch, s.int .ejectCol0 * 1000000 + (i + 1) * s.int .ejectPitch)

/-- The least whole number of columns at or above a position in millionths. -/
def ceil6 (x : Int) : Int := -((-x) / 1000000)

/-- The head A columns of an object, widened by the turret's margin (R400). -/
def State.objCols (s : State) (o : Obj) : Int × Int :=
  let m := s.int .ejectMarginCols o.turret
  if o.head = 0 then ((o.lo : Int) - m, (o.hi : Int) + m)
  else
    let a := s.mapB (o.lo * 256 : Nat)
    let b := s.mapB (o.hi * 256 : Nat)
    (min a b - m, max a b + m)

/-- The centroid column of an object in head A columns, in millionths. -/
def State.centroidA6 (s : State) (o : Obj) : Int :=
  if o.head = 0 then (o.col256 * 1000000 / 256 : Nat)
  else (o.col256 : Int) * s.int .trackBScale / 256 + s.int .trackBOffset * 1000000

/-- Whether a valve's columns meet a range of columns. -/
def State.meets (s : State) (c : Int × Int) (mm : Nat) : Bool :=
  match s.valveCols mm with
  | none => false
  | some (a, b) => decide (max (ceil6 a) c.1 ≤ min (ceil6 b - 1) c.2)

/-- Twice the distance from the middle column of 8 valves from `mm` up to a column, in millionths. -/
def State.midDist (s : State) (c6 : Int) (mm : Nat) : Nat :=
  let lo (v : Nat) : Int := ((s.valveCols v).map (·.1)).getD 0
  let hi (v : Nat) : Int := ((s.valveCols v).map (·.2)).getD 0
  (min (lo mm) (lo (mm + 7)) + max (hi mm) (hi (mm + 7)) - 1000000 - 2 * c6).natAbs

/-- The span of an object: at most 8 valves, those nearest its centroid, the lower on a tie; and whether it was trimmed
(R401). -/
def State.span (s : State) (o : Obj) : List Nat × Bool :=
  let all := (List.range 64).filter (s.meets (s.objCols o))
  if all.length ≤ 8 then (all, false)
  else
    let starts := (List.range (all.length - 7)).map fun j => (all[j]?).getD 0
    let c6 := s.centroidA6 o
    match starts with
    | [] => (all, false)
    | x :: xs =>
      let best := xs.foldl (fun a b => if s.midDist c6 b < s.midDist c6 a then b else a) x
      ((List.range 8).map (best + ·), true)

/-! ## Times (R397, R404) -/

/-- A time rounded to the nearest 0.5 µs step, a tie to the later (R397). -/
def toStep (t : Int) : Nat := ((t + 25) / 50 * 50).toNat

/-- The next 0.5 µs step at or after a tick. -/
def stepUp (t : Nat) : Nat := (t + 49) / 50 * 50

/-- Start and end of an action on a valve for an arrival, a front lead and a back lag (R404), and whether it was capped. -/
def State.actTimes (s : State) (n mm : Nat) (a lead lag : Nat) : Nat × Nat × Bool :=
  let st : Int := (a : Int) - lead - s.int .ejectPreUs n * usTicks - s.int .valveOnUs mm * usTicks
  let en : Int := (a : Int) + lag + s.int .ejectPostUs n * usTicks - s.int .valveOffUs mm * usTicks
  let e1 := max en (st + s.int .valvePeakUs mm * usTicks)
  let top := st + s.int .ejectMaxOn / 10
  let cap := decide (s.int .valveUse mm = useEject) && decide (top < e1)
  (toStep st, toStep (if cap then top else e1), cap)

/-! ## The queue and merging (R407–R411) -/

/-- The size of the eject queue (R407). -/
abbrev queueSize : Nat := 4096

/-- The entries free to a turret (R407, R408). -/
def State.freeEntries (s : State) (n : Nat) : Nat :=
  let q := s.eject.queue
  let all := queueSize - q.length
  if s.isSealed then min all (s.nat .ejectQueueShare n - (q.filter fun a => decide (a.turret = n)).length) else all

/-- The actions of a valve that a new one merges with (R410): a test is an action like another (R420). -/
def State.mergeWith (s : State) (mm st en : Nat) : List Action :=
  let gap := s.nat .ejectMergeGap * usTicks
  s.eject.queue.filter fun a => decide (a.valve = mm) && decide (st ≤ a.e + gap) && decide (a.s ≤ en + gap)

/-- A denied action is counted (R414). -/
def State.countDenied (s : State) (n mm : Nat) : State :=
  (s.modStat n fun t => { t with denied := satInc t.denied }).modValve mm fun v => { v with denied := satInc v.denied }

/-- The valve tests that an action answers end (R420). -/
def State.answerTests (s : State) (rs : List ReplyTo) (f : State → ReplyTo → State) : State := rs.foldl f s

/-- A merge is counted (R410). -/
def State.countMerged (s : State) (n : Nat) : State := s.modStat n fun t => { t with merged := satInc t.merged }

/-- What an action that has not started becomes with another of its valve (R410): the earlier start and the later end, one request,
and every read and test of both. A request that had been filed has waited until now (R107). -/
def Action.join (a b : Action) (now : Tick) : Action :=
  let filed := decide (a.stage = .filed ∨ b.stage = .filed)
  { a with kind := if a.kind = .test then b.kind else a.kind, s := min a.s b.s, e := max a.e b.e, s0 := min a.s0 b.s0,
           stage := if filed then .filed else .scheduled,
           waitFrom := if filed then max now (min a.s0 b.s0) else min a.s0 b.s0,
           needs := max a.needs b.needs, needs11 := max a.needs11 b.needs11, replies := a.replies ++ b.replies }

/-- Actions leave the queue. -/
def State.dropActs (s : State) (as : List Action) : State :=
  s.onEject fun e => { e with queue := e.queue.filter fun x => !as.any fun y => decide (y.id = x.id) }

/-- A new action without a running one to merge with: it joins what waits on its valve, or takes an entry of its own (R410). -/
def State.joinWaiting (s : State) (x : Action) (waits : List Action) : State :=
  match waits with
  | [] => s.onEject fun e => { e with queue := e.queue ++ [{ x with id := e.nextId }], nextId := e.nextId + 1 }
  | w :: ws =>
    let m := (ws ++ [x]).foldl (fun a b => a.join b s.now) w
    (((s.countWaits (w :: ws)).dropActs ws).onEject fun e =>
      { e with queue := e.queue.map fun y => if y.id = w.id then m else y }).countMerged x.turret

/-- A running action takes in another of its valve (R410, R411): its hold is extended and charged; none where the share cannot absorb
it. -/
def State.extendRun (s : State) (a x : Action) : Option State :=
  let keep (t : State) (e' : Nat) : State :=
    (t.onEject fun e => { e with queue := e.queue.map fun y =>
      if y.id = a.id then { y with e := e', replies := y.replies ++ x.replies } else y }).countMerged x.turret
  if x.e ≤ a.e then some (keep s a.e)
  else (s.chargeSpan s.ledger.charges a.id x.turret (s.holdMa a.valve) a.e x.e).map fun cs =>
    keep ((s.onLedger fun l => l.addCharges s.now cs).onEject fun e =>
      { e with charge10 := e.charge10 ++ [(s.now, x.turret, s.holdMa a.valve * (x.e - a.e))] }) x.e

/-- An action is dropped as denied, and the tests that it answers end `ER 41 LEAVE` (R411, R420). -/
def State.denyNew (s : State) (x : Action) : State :=
  (s.countDenied x.turret x.valve).answerTests x.replies fun t r => t.er r 41

/-- An action on a valve is scheduled (R410, R411): merged with what stands there, its extended hold charged where that runs,
or with an entry of its own. -/
def State.place (s : State) (x : Action) : State :=
  let hits := s.mergeWith x.valve x.s x.e
  let waits := hits.filter fun a => !a.running
  match hits.find? (·.running) with
  | none => s.joinWaiting x waits
  | some a =>
    let all := waits.foldl (fun y w => y.join w s.now) x
    match s.extendRun a all with
    | some t => (t.countWaits waits).dropActs waits
    | none => if x.s < a.e then s.denyNew x else s.joinWaiting x waits

/-- An action of a turret on a valve, which depends on all that I11 and I12 have read (R406, R481). -/
def State.newAction (s : State) (n mm : Nat) (kind : ActKind) (st en : Nat) (rs : List ReplyTo := []) : Action :=
  { id := s.eject.nextId, valve := mm, turret := n, kind := kind, s := st, e := en, s0 := st,
    needs := (s.getReqr 12).delivered, needs11 := (s.getReqr 11).delivered, replies := rs }

/-- An action of a turret on a valve is scheduled. -/
def State.addAction (s : State) (n mm : Nat) (kind : ActKind) (st en : Nat) : State := s.place (s.newAction n mm kind st en)

/-- What has been scheduled, where its entries are free to its turret (R407–R409); none where they are not. -/
def State.within (s : State) (n : Nat) (t : State) : Option State :=
  if t.eject.queue.length ≤ s.eject.queue.length + s.freeEntries n then some t else none

/-! ## From decision to action (R403–R405, R409, R412, R413) -/

/-- 400 µs, the least lead of an action over its decision (R405). -/
abbrev decisionLead : Nat := 40000

/-- A turret that asks for the divert channel and has none that can open, is counted (R403, R409). -/
def State.countMissing (s : State) (n : Nat) : State := s.modStat n fun t => { t with divertMissing := satInc t.divertMissing }

/-- The divert channel opens for a window where a late or overflowing object's turret asks for it (R405, R409, R412). -/
def State.divertWindow (s : State) (n : Nat) (a lead lag : Nat) (from_ : Nat) : State :=
  match s.divertValve n with
  | none => s.countMissing n
  | some mm =>
    let w := s.actTimes n mm a lead lag
    let st := max w.1 from_
    if w.2.1 ≤ st then s
    else match s.within n (s.addAction n mm .overflow st w.2.1) with
      | some t => t.modStat n fun t => { t with diverts := satInc t.diverts }
      | none => s.countMissing n

/-- What a turret's overflow policy does with an object (R405, R409): PASS lets it pass, DIVERT opens the divert channel. -/
def State.overflowPolicy (s : State) (n a lead lag from_ : Nat) : State :=
  if s.int .ejectOverflowPolicy n = 1 then s.divertWindow n a lead lag from_ else s

/-- Planned actions of one object are scheduled, or the object is late or overflows (R405, R409, R414). -/
def State.runPlan (s : State) (n a lead lag : Nat) (kind : ActKind) (plan : List (Nat × Nat × Nat × Bool)) : State :=
  if plan.any fun p => decide (p.2.1 < s.now + decisionLead) then
    (s.modStat n fun t => { t with late := satInc t.late }).overflowPolicy n a lead lag (toStep ((s.now + decisionLead : Nat) : Int))
  else match s.within n (plan.foldl (fun (t : State) (p : Nat × Nat × Nat × Bool) => t.addAction n p.1 kind p.2.1 p.2.2.1) s) with
    | none => (s.modStat n fun t => { t with overflow := satInc t.overflow }).overflowPolicy n a lead lag 0
    | some t =>
      t.modStat n fun y =>
        let z := { y with capped := satAdd y.capped (plan.countP fun (p : Nat × Nat × Nat × Bool) => p.2.2.2) }
        if kind = .divert then { z with diverts := satInc z.diverts } else { z with rejects := satInc z.rejects }

/-- A reject (R401–R403): one action on each valve of the span that the turret may fire. -/
def State.scheduleReject (s : State) (o : Obj) (a lead lag : Nat) : State :=
  let sp := s.span o
  let n := o.turret
  let t := if sp.2 then s.modStat n fun y => { y with spanTrimmed := satInc y.spanTrimmed } else s
  match sp.1.filter (s.usable n useEject) with
  | [] => t.modStat n fun y => { y with novalve := satInc y.novalve }
  | v :: vs => t.runPlan n a lead lag .eject ((v :: vs).map fun mm => (mm, s.actTimes n mm a lead lag))

/-- What the eject scheduler does with a decision (R403): action 1 rejects, 2 diverts. Outside RUN and PAUSED, and on a VIEW
module, nothing is scheduled (R417, Table 11-1). -/
def State.schedule (s : State) (o : Obj) (action a lead lag : Nat) : State :=
  if s.sorting = false ∨ s.int .towerRole = 1 then s
  else if action = 1 then s.scheduleReject o a lead lag
  else if action = 2 then
    match s.divertValve o.turret with
    | some mm => s.runPlan o.turret a lead lag .divert [(mm, s.actTimes o.turret mm a lead lag)]
    | none => (s.countMissing o.turret).scheduleReject o a lead lag
  else s

/-- A metal event of a turret at an event tick (R413, R432): it is counted, and its DIVERT valve opens for the metal window, or the
event is missed. A firing outside RUN and PAUSED is no metal event. -/
def State.metalEvent (s : State) (n : Nat) (ev : Tick) : State :=
  if s.sorting = false then s
  else
    let t := (s.modStat n fun y => { y with metal := satInc y.metal }).onTrack fun y => { y with metals := y.metals ++ [(s.now, n)] }
    let missed : State := (t.modStat n fun y => { y with metalMissed := satInc y.metalMissed }).emit (.turret n false) "eject"
      "metal-missed" [.int n]
    match t.divertValve n with
    | none => missed
    | some mm =>
      let st : Int := (ev : Int) + s.int .ejectMetalDelay n / 10 - s.int .valveOnUs mm * usTicks
      let en := toStep (st + s.int .ejectMetalWindow n / 10)
      let st' := max (toStep st) (stepUp (s.now + 400))
      if en ≤ st' then missed else (t.within n (t.addAction n mm .metal st' en)).getD missed

/-! ## The course of an action (R84–R87, R395, R406, R414) -/

/-- The actions of a valve that have come to a stage, in order of start. -/
def State.actsOf (s : State) (mm : Nat) (stage : ActStage) : List Action :=
  s.eject.queue.filter fun a => decide (a.valve = mm) && decide (a.stage = stage)

/-- The action with the earliest start. -/
def earliest : List Action → Option Action
  | [] => none
  | a :: as => some (as.foldl (fun x y => if y.s < x.s then y else x) a)

/-- An action is taken out of the queue. -/
def State.dropAct (s : State) (a : Action) : State :=
  s.onEject fun e => { e with queue := e.queue.filter fun x => decide (x.id ≠ a.id) }

/-- An action in the queue is changed. -/
def State.modAct (s : State) (a : Action) : State :=
  s.onEject fun e => { e with queue := e.queue.map fun x => if x.id = a.id then a else x }

/-- An action that has not started leaves the queue, and the time its request waited is counted (R107). -/
def State.endWait (s : State) (a : Action) : State := (s.dropAct a).countWaits [a]

/-- An action is denied (R414). The tests that it answers end with an error (R420). -/
def State.denyAct (s : State) (a : Action) (f : State → ReplyTo → State) : State :=
  ((s.endWait a).countDenied a.turret a.valve).answerTests a.replies f

/-- A valve test ends with a fault of its channel or its bank (R191, R420). -/
def State.valveFails (mm : Nat) (s : State) (r : ReplyTo) : State := s.er r 70 [dotFld "valve" (two mm)]

/-- The ledger refuses an action's request (R79, R86, R87): it is counted, and the action is denied. -/
def State.refuseAct (s : State) (a : Action) : State := (s.denyAct a fun t r => t.er r 41).countRefused .valve

/-- An action meets a channel that has left IDLE, PEAK and HOLD (R414). -/
def State.faultAct (s : State) (a : Action) : State :=
  (s.endWait a).modStat a.turret fun t => { t with faulted := satInc t.faulted }

/-- An action of a valve that may not fire now is denied (R399, R417; log entry 94). -/
def State.barAct (s : State) (a : Action) : State := s.denyAct a fun t r => t.er r 23

/-- Whether an action may not use its channel: it is latched, and the action is no test. -/
def State.actFaulted (s : State) (a : Action) : Bool := decide (a.kind ≠ .test) && !(s.getValve a.valve).sound

/-- VALVE_REQUEST_FILE (R84, R87): from 4 µs before its start the request of the valve's next action is filed; one that could
never be granted is refused. -/
def execValveRequestFile (mm : Nat) (s : State) : Host.Outcome State Fault Refusal :=
  .next (
    match earliest (s.actsOf mm .scheduled) with
    | none => s
    | some a =>
      if s.now + 4 * usTicks < a.s then s
      else if s.mayFire mm = false then s.barAct a
      else if s.actFaulted a then s.faultAct a
      else if (if s.isSealed then s.peakShare a.turret else s.valvePool) < s.peakMa mm then s.refuseAct a
      else s.modAct { a with stage := .filed })

/-- Whether a valve is the divert channel. -/
def State.isDivert (s : State) (mm : Nat) : Bool := decide (s.int .valveUse mm = useDivert)

/-- The order in which a turret's valve requests are served (R85): divert channels, then start, then valve number. -/
def State.servedBefore (s : State) (a b : Action) : Bool :=
  match s.isDivert a.valve, s.isDivert b.valve with
  | true, false => true
  | false, true => false
  | _, _ => decide (a.s < b.s) || (decide (a.s = b.s) && decide (a.valve < b.valve))

/-- Whether the verify fence lets an action start (R406, R481): every read that its decision depends on has been checked, those of the
class tables among them. -/
def State.fenceOpen (s : State) (a : Action) : Bool :=
  decide (a.needs ≤ (s.getReqr 12).verified) && decide (a.needs11 ≤ (s.getReqr 11).verified)

/-- Whether an earlier request of the same turret, whose start has come, waits for room (R78, R85). -/
def State.actWaits (s : State) (a : Action) : Bool :=
  s.eject.queue.any fun b => decide (b.stage = .filed) && decide (b.turret = a.turret) && decide (b.id ≠ a.id) &&
    decide (b.s ≤ s.now) && s.servedBefore b a && s.fenceOpen b

/-- Start, end of the peak and end of an action that starts at a tick: the whole action shifts by its delay (R86). -/
def State.actSpan (s : State) (a : Action) (t0 : Nat) : Nat × Nat :=
  let e := a.e + (t0 - a.s)
  (min (t0 + s.nat .valvePeakUs a.valve * usTicks) e, e)

/-- An action starts its peak (R80, R86, R395, R414). -/
def State.startAct (s : State) (a : Action) (t0 : Nat) (parts : List (Nat × Nat)) (cs : List Charge) : State :=
  let sp := s.actSpan a t0
  let q := s.peakMa a.valve * (sp.1 - t0) + s.holdMa a.valve * (sp.2 - sp.1)
  let t := (((s.modAct { a with stage := .peak, s := t0, e := sp.2, parts := parts }).onLedger fun l =>
    (l.addWait a.turret (t0 - a.waitFrom)).addCharges s.now cs).modValve a.valve fun v =>
        { v with state := .peak, actions := satInc v.actions }).modStat a.turret
      fun y => { y with actions := satInc y.actions, delayed := if a.s0 < t0 then satInc y.delayed else y.delayed }
  t.onEject fun e => { e with charge10 := e.charge10 ++ [(s.now, a.turret, q)] }

/-- The running action of a valve. -/
def State.runningAct (s : State) (mm : Nat) : Option Action :=
  s.eject.queue.find? fun a => decide (a.valve = mm) && a.running

/-- An action that has not started meets one that runs on its valve, whose end has moved (R410, R411, R416): it merges into that, or
is dropped as denied where the share cannot absorb it. -/
def State.meetRun (s : State) (a x : Action) : State :=
  match s.extendRun a x with
  | some t => t.endWait x
  | none => if x.s < a.e then (s.endWait x).denyNew x else s

/-- The actions of a valve that come to lie within the reach of its running action merge with it (R86, R410, R416). -/
def State.reach (s : State) (mm : Nat) : State :=
  (s.eject.queue.filter fun x => decide (x.valve = mm) && !x.running).foldl (fun t x =>
    match t.runningAct mm with
    | some a => if x.s ≤ a.e + t.nat .ejectMergeGap * usTicks then t.meetRun a x else t
    | none => t) s

/-- VALVE_ACTION_START (R84–R86, R406): once its start has come, with room in the shares and its reads checked, the valve's action
starts; without, it waits, and once `eject.max_delay` has passed it is dropped as denied. -/
def execValveActionStart (mm : Nat) (s : State) : Host.Outcome State Fault Refusal :=
  .next (
    match earliest (s.actsOf mm .filed) with
    | none => s
    | some a =>
      let t0 := stepUp s.now
      let due := a.s0 + s.nat .ejectMaxDelay * usTicks
      let lost := decide (due ≤ s.now)
      if s.now < a.s then s
      else if s.mayFire mm = false then s.barAct a
      else if s.actFaulted a then s.faultAct a
      else if due < t0 then s.refuseAct a
      else if SMap.look false s.pwr.shortReturn (bankOf mm) then s.denyAct a (State.valveFails mm)
      else match s.runningAct mm with
        | some b => if s.now < b.e then s.meetRun b a else if lost then s.refuseAct a else s
        | none =>
          if s.pwr.p24Low ∨ s.vcomClosed (bankOf mm) = false ∨ s.fenceOpen a = false ∨ s.actWaits a = true then
            if lost then s.refuseAct a else s
          else
            let sp := s.actSpan a t0
            match s.valveRoom a.id a.turret (s.peakMa mm) (s.holdMa mm) t0 sp.1 sp.2 with
            | some (parts, cs) => let t := s.startAct a t0 parts cs; if a.s < t0 then t.reach mm else t
            | none => if lost then s.refuseAct a else s)

/-- A running action ends: the output clamps and the grant is released (R80, R395). A channel that was latched is latched still
(R419). -/
def State.stopAct (s : State) (a : Action) : State :=
  ((s.dropAct a).onLedger fun l => l.endCharges s.now a.id).modValve a.valve fun v => { v with state := v.latch.rest }

/-- A channel latches (R419): the action ends, its grant is released, and the event is raised; a test is answered (R420). -/
def State.latchValve (s : State) (a : Action) (short : Bool) : State :=
  (((s.modValve a.valve fun v =>
    { v with latch := if short then .short else .opn, lowRun := if short then 0 else v.lowRun }).stopAct a).emit .keep "valve"
    (two a.valve) [.word (if short then "short" else "open")]).answerTests a.replies (State.valveFails a.valve)

/-- A reading at the end of a peak is judged (R419): one below 50 % of `valve.mm.peak_a` counts, and counts toward a run of such
readings. The second part says whether the run has come to 2, which latches OPEN. -/
def State.peakReading (s : State) (mm mA : Nat) : State × Bool :=
  let run := if 2 * mA < s.peakMa mm then (s.getValve mm).lowRun + 1 else 0
  (s.modValve mm fun v => { v with low := if 0 < run then satInc v.low else v.low, lowRun := run }, decide (2 ≤ run))

/-- VALVE_PEAK_END (R80, R395, R419): the peak time has passed and the valve steps down to its hold; a second low reading in a row
latches OPEN. -/
def execValvePeakEnd (mm : Nat) (mA : Nat) (s : State) : Host.Outcome State Fault Refusal :=
  .next (
    match s.runningAct mm with
    | none => s
    | some a =>
      if a.stage ≠ .peak ∨ s.now < s.peakEnd a then s
      else
        let r := s.peakReading mm mA
        if r.2 then r.1.latchValve a false
        else (r.1.modAct { a with stage := .hold, parts := holdParts a.parts (s.holdMa mm) }).modValve mm
          fun v => { v with state := .hold })

/-- The action of a valve has run to its end: a test among it has found no fault, and a latched channel is IDLE again (R420). -/
def State.actEnds (s : State) (a : Action) : State :=
  ((if a.replies = [] then s else s.modValve a.valve fun v =>
    { v with latch := .clear }).stopAct a).answerTests a.replies fun t r => t.ok r []

/-- VALVE_ACTION_END (R395, R420): the action's end has come. -/
def execValveActionEnd (mm : Nat) (s : State) : Host.Outcome State Fault Refusal :=
  .next (
    match s.runningAct mm with
    | none => s
    | some a => if s.now < a.e then s else s.actEnds a)

/-- Whether a current is a short (R419): above 3.0 A, or above 150 % of `valve.mm.peak_a` for 2 µs. -/
def State.isShort (s : State) (mm : Nat) (x : Overcurrent) : Bool :=
  decide (3000 < x.mA) || (decide (3 * s.peakMa mm < 2 * x.mA) && decide (2000 ≤ x.ns))

/-- VALVE_FAULT_LATCH (R419): the driver finds a short during an action, or at the end of its peak a second low reading in a
row. -/
def execValveFaultLatch (mm : Nat) (x : Overcurrent) (s : State) : Host.Outcome State Fault Refusal :=
  .next (
    match s.runningAct mm with
    | none => s
    | some a =>
      if s.isShort mm x then s.latchValve a true
      else
        let r := s.peakReading mm x.mA
        if a.stage = .peak ∧ s.peakEnd a ≤ s.now ∧ r.2 = true then r.1.latchValve a false else s)

/-- VALVE_OPEN_COMMON (R31): the event for a bank none of whose valves is on. -/
def execValveOpenCommon (bank : Nat) (s : State) : Host.Outcome State Fault Refusal :=
  .next (
    if (s.serving = true ∨ s.sys.state = .start) ∧ s.eject.queue.any (fun a => decide (bankOf a.valve = bank) && a.running) = false then
      s.emit .keep "valve" (headWord bank) [.word "open-common"]
    else s)

/-- VALVE_SHORT_RETURN (R59, Table 1-8): the bank's VCOM opens; what runs in the bank ends, and later actions are denied. -/
def execValveShortReturn (bank : Nat) (s : State) : Host.Outcome State Fault Refusal :=
  .next (
    if s.vcomClosed bank then
      let t := s.onPwr fun p => { p with vcom := SMap.put false p.vcom bank false, shortReturn := SMap.put false p.shortReturn bank true }
      ((s.eject.queue.filter fun a => decide (bankOf a.valve = bank) && a.running).foldl
        (fun t a => (t.stopAct a).answerTests a.replies (State.valveFails a.valve)) t).emit .keep "valve" (headWord bank)
        [.word "short-return"]
    else s)

/-- `DO valve.mm.test ms` (R420): one action of the valve's owner, filed like any other. A valve that never fires is not tested (R399;
log entry 23). -/
def doValveTest (r : ReplyTo) (mm : Nat) (ms6 : Int) (s : State) : State :=
  let st := stepUp (s.now + 400)
  let n := s.nat .valveTurret mm
  if s.sys.state ≠ .ready ∨ s.mayFire mm = false then s.er r 23
  else if ms6 < 100000 ∨ 100000000 < ms6 then s.er r 21
  else (s.within n (s.place (s.newAction n mm .test st (toStep (st + ms6 / 10)) [r]))).getD (s.er r 40)

/-- A turret's actions are withdrawn and its running ones end (R414, R418, R521). -/
def State.withdrawActs (s : State) (n : Nat) : State :=
  (s.eject.queue.filter fun a => decide (a.turret = n)).foldl
    (fun t a => if a.running then t.stopAct a else t.endWait a) s

end Sys2Proof.Machine
end

