-- ==== Sys2Proof/Machine/Decide.lean ====
section
/-! DEFINITION. Decisions (R376–R379, R388), fall prediction (R384, R385, R391), CHIP records (R375), STAT records (R389,
R393) and staged writes of classification (R370). -/

namespace Sys2Proof.Machine

/-! ## Rules (R376, R377) -/

/-- Whether a feature code stands in Table 10-4. -/
def featureOk (c : Nat) : Bool :=
  decide (c ≤ 0x17) || (decide (0x20 ≤ c) && decide (c ≤ 0x2F)) || (decide (0x31 ≤ c) && decide (c ≤ 0x3F)) ||
  (decide (0x41 ≤ c) && decide (c ≤ 0x4F))

/-- A term of a rule: feature code, comparison, *lo* and *hi*, from byte 2 or 8 (Table 10-3). -/
def ruleTerm (b : List Byte) (at_ : Nat) : Nat × Nat × Nat × Nat :=
  (byteAt b at_, byteAt b (at_ + 1), leNat (sliceAt b (at_ + 2) 2), leNat (sliceAt b (at_ + 4) 2))

/-- The terms of a rule. -/
def ruleTerms (b : List Byte) : List (Nat × Nat × Nat × Nat) :=
  if byteAt b 1 = 2 then [ruleTerm b 2, ruleTerm b 8] else [ruleTerm b 2]

/-- Whether a write of a rule is accepted (R376). A comparison that Table 10-3 does not list is refused too (log entry 24). -/
def ruleOk (b : List Byte) : Bool :=
  decide (byteAt b 1 = 1 ∨ byteAt b 1 = 2) &&
  (ruleTerms b).all fun t => featureOk t.1 && decide (t.2.1 ≤ 3) && !(decide (2 ≤ t.2.1) && decide (t.2.2.2 < t.2.2.1))

/-- One if a flag is set. -/
def flagBit (o : Obj) (m : Nat) : Nat := if o.flags &&& m ≠ 0 then 1 else 0

/-- A feature of an object (Table 10-4). -/
def Obj.feature (o : Obj) (code : Nat) : Nat :=
  let area2 := (o.second.map (·.area)).getD 0
  let areas2 := (o.second.map (·.areas)).getD []
  let share (a t : Nat) : Nat := if t = 0 then 0 else a * 1024 / t
  if code = 0 then sat16 o.area
  else if code < 0x10 then sat16 (SMap.look 0 o.areas code)
  else if code = 0x10 then o.height
  else if code = 0x11 then o.hi + 1 - o.lo
  else if code = 0x12 then o.col256 / 256
  else if code = 0x13 then o.velocity
  else if code = 0x14 then o.similarity
  else if code = 0x15 then flagBit o oFused
  else if code = 0x16 then flagBit o oDegraded
  else if code = 0x17 then flagBit o (oTruncated ||| oHeight)
  else if code = 0x20 then sat16 area2
  else if code < 0x30 then sat16 (SMap.look 0 areas2 (code - 0x20))
  else if code < 0x40 then share (sat16 (SMap.look 0 o.areas (code - 0x30))) o.area
  else share (sat16 (SMap.look 0 areas2 (code - 0x40))) area2

/-- Whether a term holds of an object (Table 10-3). -/
def Obj.holds (o : Obj) (t : Nat × Nat × Nat × Nat) : Bool :=
  let x := o.feature t.1
  match t.2.1 with
  | 0 => decide (x < t.2.2.1)
  | 1 => decide (t.2.2.1 ≤ x)
  | 2 => decide (t.2.2.1 ≤ x) && decide (x ≤ t.2.2.2)
  | _ => !(decide (t.2.2.1 ≤ x) && decide (x ≤ t.2.2.2))

/-- Whether an enabled rule matches an object. -/
def ruleMatches (b : List Byte) (o : Obj) : Bool := decide (128 ≤ byteAt b 0) && (ruleTerms b).all o.holds

/-- The rules evaluated in ascending number (R377): the action and rule that decide, and the rules that count. -/
def evalRules (o : Obj) : List (Nat × List Byte) → List Nat → Nat × Nat × List Nat
  | [], cs => (0, 0xFF, cs)
  | (k, b) :: rs, cs =>
    if ruleMatches b o then
      if byteAt b 0 % 4 = 3 then evalRules o rs (cs ++ [k]) else (byteAt b 0 % 4, k, cs ++ [k])
    else evalRules o rs cs

/-- The rules of a turret that are not all 0. -/
def State.rulesOf (s : State) (n : Nat) : List (Nat × List Byte) :=
  ((List.range 64).map fun k => (k, s.bytesOf ⟨.classRule, k, n⟩)).filter fun r => decide (r.2 ≠ List.replicate 16 0)

/-- The action, the deciding rule and the rules that count of a decision (R377). -/
def State.judge (s : State) (o : Obj) : Nat × Nat × List Nat :=
  let d := s.int .classDegraded o.turret
  if o.flags &&& oDegraded ≠ 0 ∧ d = 1 then (0, 0xFF, [])
  else if o.flags &&& oDegraded ≠ 0 ∧ d = 2 then (1, 0xFF, [])
  else evalRules o (s.rulesOf o.turret) []

/-! ## Fall prediction (R384, R385) -/

/-- Bits of a square root, from the highest down. -/
def isqrtGo (n : Nat) : Nat → Nat → Nat
  | 0, r => r
  | k + 1, r => isqrtGo n k (if (r + 2 ^ k) * (r + 2 ^ k) ≤ n then r + 2 ^ k else r)

/-- The whole square root, rounded down. -/
def isqrt (n : Nat) : Nat := isqrtGo n (n.log2 / 2 + 1) 0

/-- The whole square root, rounded up. -/
def isqrtUp (n : Nat) : Nat := if isqrt n * isqrt n = n then isqrt n else isqrt n + 1

/-- An arrival at the valve row: its tick, the front lead and the back lag. -/
structure Flight where
  arrival : Nat
  lead : Nat
  lag : Nat
  deriving DecidableEq, Repr

/-- The fall of R384 from a reference tick with velocity `vb / q` nm/s at the lower view line, for a centroid line offset and a
lag in 1/256 line; none where the root is negative. All quantities are exact, scaled to whole numbers, and rounded once to the
nearest tick: with a' = a × 10^6 q, X = 10^6 vb and Y = (10^6 q v_V)^2, the fall time is (√Y − X) / a' seconds and v_B / v_V
is X / √Y. -/
def State.fall (s : State) (n ref vb q off256 lag256 : Nat) : Option Flight :=
  let sn := s.nat .trackValveMm
  let a : Int := s.int .trackG * 1000 * 1000000 * q - s.int .trackDrag n * vb
  let x := 1000000 * vb
  let y : Int := 1000000 * (1000000 * (vb : Int) * vb + 2 * a * sn * q)
  if y ≤ 0 then none
  else
    let yn := y.toNat
    let t : Int :=
      if 0 < a then ((isqrt (40000000000000000 * yn) : Int) - 200000000 * x + a) / (2 * a)
      else if a < 0 then (200000000 * (x : Int) - a - isqrtUp (40000000000000000 * yn)) / (2 * -a)
      else roundDiv (100000000 * (sn : Int) * q) vb
    let part (c256 : Nat) : Nat := (isqrt ((2 * c256 * s.lineTicks * x) ^ 2 / (65536 * yn)) + 1) / 2
    some { arrival := ref + t.toNat, lead := part off256, lag := part lag256 }

/-- The time from head A's view line to head B's at the fallback velocity, in ticks (R385). -/
def State.fallAB (s : State) : Nat :=
  let f := s.nat .trackFallbackV * 1000
  let g := s.nat .trackG * 1000
  ((200000000 * f + g - isqrtUp (40000000000000000 * (f * f - 2 * g * s.nat .trackDMm))) / (2 * g))

/-- The arrival by the fallback model (R385): a matched pair from head B's reference tick, an unmatched head A object in STACKED
geometry after the fall between the heads (log entry 25). -/
def State.fallbackFlight (s : State) (o : Obj) : Option Flight :=
  let vf := s.nat .trackFallbackV * 1000
  match (if s.int .trackGeometry = 1 then o.refB else none) with
  | some b => s.fall o.turret b vf 1 o.c256 o.lag256
  | none =>
    let add := if s.int .trackGeometry = 1 ∧ o.head = 0 then s.fallAB else 0
    s.fall o.turret (s.refTick o + add) vf 1 o.off256 ((o.last - o.first) * 256 - o.off256)

/-- The arrival of a matched pair in STACKED geometry by its own velocity (R384); none outside the velocity band or with a
negative root (R391). -/
def State.matchFlight (s : State) (o : Obj) : Option Flight :=
  match (if s.int .trackGeometry = 1 then o.refB else none) with
  | none => none
  | some b =>
    let q := 200000000 * o.dt
    let vb := 20000000000000000 * s.nat .trackDMm + s.nat .trackG * 1000 * (o.dt * o.dt)
    if s.nat .trackVMin * 1000 * q ≤ vb ∧ vb ≤ s.nat .trackVMax * 1000 * q ∧ 0 < q then
      s.fall o.turret b vb q o.c256 o.lag256
    else none

/-- The arrival of an object, and the object with FALLBACK where the fallback model gave it (R384, R385, R391). Where even
that model has no real root the spec states no arrival, and the three ticks are free values (log entry 25). -/
def State.flight (s : State) (o : Obj) : State × Obj × Flight :=
  match s.matchFlight o with
  | some f => (s, o, f)
  | none =>
    let p := { o with flags := o.flags ||| oFallback }
    match s.fallbackFlight o with
    | some f => (s, p, f)
    | none => (s.useFree.useFree.useFree, p, ⟨s.freeNat, s.useFree.freeNat, s.useFree.useFree.freeNat⟩)

/-! ## CHIP records (R375) -/

/-- The image of an object in the phases of a mask: its box row by row, 16-bit corrected pixels. -/
def State.chipImage (s : State) (o : Obj) (mask : Nat) : List Byte :=
  ((List.range 6).filter fun p => mask.testBit p).flatMap fun p =>
    (List.range o.height).flatMap fun r =>
      let row := ((s.track.images.find? fun i => decide (i.head = o.head) && decide (i.line = o.first + r)).bind fun i =>
        SMap.find i.planes p).getD []
      (List.range (o.hi + 1 - o.lo)).flatMap fun c => leBytes 2 ((row[o.lo + c]?).getD 0)

/-- The CHIP object record of a decided object; the second part is the object with CLIPPED where the record would exceed
`class.chip_max_bytes`, or the 65 535 bytes that the length field can state (log entry 26). -/
def State.chipRecord (s : State) (o : Obj) (action rule : Nat) (f : Flight) : List Byte :=
  let img := s.chipImage o (s.nat .classChipPhases o.turret)
  if min 65535 (s.nat .classChipMaxBytes o.turret) < 176 + img.length then
    s.featureBlock { o with flags := o.flags ||| oClipped } 1 176 action rule f.arrival f.lead f.lag
  else s.featureBlock o 1 (176 + img.length) action rule f.arrival f.lead f.lag ++ img

/-- The open streams of a type bound to a turret. -/
def State.turretStreams (s : State) (typ : Nat) (n : Nat) : List Nat :=
  (List.range 256).filter fun k => (s.getStream k).isOpen && decide (s.nat .streamType k = typ) &&
    decide (s.nat .streamTurret k = n)

/-- A captured object's record goes into every open CHIP stream of its turret (R375). -/
def State.writeChips (s : State) (o : Obj) (action rule : Nat) (f : Flight) : State :=
  if o.captured then
    (s.turretStreams typeChip o.turret).foldl (fun t k => t.captureWrite k (some o.id) o.mark (s.chipRecord o action rule f)) s
  else s

/-! ## Decisions (R244, R377–R379, R388) -/

/-- The turrets that hold an x-range on a head (R388). -/
def State.rangeTurrets (s : State) : List Nat :=
  (List.range 64).filter fun n => (s.xrange 0 n).isSome || (s.xrange 1 n).isSome

/-- The bound on a decision in ticks (R379, R388). -/
def State.decideBound (s : State) : Nat :=
  15000 + if s.isSealed then (s.rangeTurrets.length - 1) * 2500 else 0

/-- Whether an object lies outside the owned width (R244): its centroid, in head A columns, is below `tower.own_lo` or above
`tower.own_hi`. -/
def State.outsideOwn (s : State) (o : Obj) : Bool :=
  decide (s.int .towerRole = 0) &&
  (decide (s.centroidA o < s.int .towerOwnLo) || decide (s.int .towerOwnHi < s.centroidA o))

/-- A decision is counted (R377, R393). -/
def State.countDecision (s : State) (o : Obj) (action : Nat) (rules : List Nat) : State :=
  let n := o.turret
  let bump (m : SMap Nat) : SMap Nat := rules.foldl (fun m k => SMap.put 0 m k (satInc (SMap.look 0 m k))) m
  let t := s.modStat n fun t =>
    { t with objects := satInc t.objects, accepted := if action = 0 then satInc t.accepted else t.accepted,
             rejected := if action = 1 then satInc t.rejected else t.rejected,
             diverted := if action = 2 then satInc t.diverted else t.diverted, rules := bump t.rules }
  (t.modPeriod n fun p =>
    { p with decided := satInc p.decided, accepted := p.accepted + (if action = 0 then 1 else 0),
             rejected := p.rejected + (if action = 1 then 1 else 0), diverted := p.diverted + (if action = 2 then 1 else 0),
             tall := p.tall + flagBit o (oTruncated ||| oHeight), fallback := p.fallback + flagBit o oFallback,
             degraded := p.degraded + flagBit o oDegraded, rules := bump p.rules }).onTrack fun k =>
    { k with decided10 := k.decided10 ++ [(s.now, n, 0)], ratio := k.ratio ++ [(s.now, n, decide (action ≠ 0))] }

/-- One object is decided (R377): judged by its turret's rules, its arrival predicted, counted, written to the turret's CHIP
streams and handed to the eject scheduler. An object outside the owned width is discarded (R244), and so is one of a turret
that is gone or revoked (R390). -/
def State.decideObj (s : State) (o : Obj) : State :=
  if (s.getTurret o.turret).state = .absent ∨ (s.getTurret o.turret).state = .revoked then s
  else if s.outsideOwn o then s.onTower fun t => { t with outside := satInc t.outside }
  else
    let j := s.judge o
    let f := s.flight o
    let late := decide (o.readyAt + s.decideBound < s.now)
    let t := f.1.onTrack fun k =>
      { k with late := if late then satInc k.late else k.late,
               decided := k.decided ++ [⟨o.turret, o.col256, s.refTick o, decide (o.flags &&& oFused ≠ 0), s.now⟩] }
    (((t.countDecision f.2.1 j.1 j.2.2).writeChips f.2.1 j.1 j.2.1 f.2.2).schedule f.2.1 j.1 f.2.2.arrival f.2.2.lead f.2.2.lag)

/-- An object leaves the queue of those that wait and is decided. Where VIEW modules send records, a record of this tick is still
used (Table 10-5): what is decided in a tick is judged as the tick ends. -/
def State.decideTaken (s : State) (o : Obj) : State :=
  let t := s.onTrack fun t => { t with toDecide := t.toDecide.filter fun x => decide (x.id ≠ o.id) }
  if s.awaitsViews ∧ o.flags &&& oFused = 0 then t.onTrack fun k => { k with deciding := k.deciding ++ [o] }
  else (t.decideObj o).onTrack Track.pruneImages

/-- What was decided in a tick is judged with all that has arrived in it (Table 10-5). -/
def State.decideTick (s : State) : State :=
  if s.track.deciding = [] then s
  else (s.track.deciding.foldl State.decideObj (s.onTrack fun t => { t with deciding := [] })).onTrack Track.pruneImages

/-- Whether an object waits for VIEW records no longer (R383): it is FUSED, no VIEW module sends any, or `track.view_wait_us` has
passed since its decision line (log entry 80). -/
def State.viewDone (s : State) (o : Obj) : Bool :=
  decide (o.flags &&& oFused ≠ 0) || !s.awaitsViews || decide (o.readyAt + s.nat .trackViewWait * usTicks ≤ s.now)

/-- Objects wait in the order of their decision lines; the first of them whose wait for VIEW records is over is decided. -/
def State.decideFirst (s : State) : State :=
  match s.track.toDecide.find? s.viewDone with
  | none => s
  | some o => s.decideTaken o

/-- OBJECT_DECIDE (R377, R383, R388): in Open mode the object that has waited longest, and awaits no VIEW record any more, is
decided. In Sealed mode only a decision position decides. -/
def execObjectDecide (s : State) : Host.Outcome State Fault Refusal :=
  .next (if s.isSealed then s else s.decideFirst)

/-- DECIDER_POSITION (R388): in Sealed mode a position of 25 µs starts, which serves the first waiting object of its own turret, or
stays idle. Position *p* starts with tick 2 500 × *p* and is that of turret *p* mod *T* of the rotation (log entry 81). -/
def execDeciderPosition (s : State) : Host.Outcome State Fault Refusal :=
  .next (
    let p := s.now / (25 * usTicks)
    if s.isSealed = false ∨ p < s.track.rotation then s
    else match s.rangeTurrets with
      | [] => s
      | n :: ns =>
        let ts := n :: ns
        let t := s.onTrack fun x => { x with rotation := p + 1 }
        match t.track.toDecide.find? fun o => decide (some o.turret = ts[p % ts.length]?) && t.viewDone o with
        | none => t
        | some o => t.decideTaken o)

/-- VIEW_WAIT_END (R383): the wait of the first waiting object for VIEW records has come to its end, and the object is decided
with what has arrived; in Sealed mode its own position still decides it. -/
def execViewWaitEnd (s : State) : Host.Outcome State Fault Refusal :=
  .next (if s.isSealed ∨ s.awaitsViews = false then s else s.decideFirst)

/-- The entry of the match store that expires first. -/
def State.firstExpiry (s : State) : Option Obj :=
  s.track.store.foldl (fun a o => match a with
    | none => some o
    | some x => if o.expires < x.expires then some o else some x) none

/-- Whether a tick lies in a line that is still to be classified: a match in that line is still made (Table 10-5). -/
def State.lineAhead (s : State) (t : Tick) : Bool :=
  !s.activeHeads.isEmpty && (s.lantern.cur.toList ++ s.lantern.prev.toList).any fun c =>
    decide (c.tick ≤ t ∧ t < c.tick + s.lineTicks ∧ s.track.classified ≤ c.line)

/-- MATCH_STORE_EXPIRY (R381, R382, R385): the waiting head A object whose expiry comes first has reached it, its line has been
classified without a match, and it is decided alone, once what waits with an earlier decision line has been (R388); in Sealed mode at
its turret's position. -/
def execMatchStoreExpiry (s : State) : Host.Outcome State Fault Refusal :=
  .next (
    match s.firstExpiry with
    | none => s
    | some o =>
      if s.now < o.expires ∨ s.lineAhead o.expires = true then s
      else
        let u := (s.onTrack fun k => { k with store := k.store.filter fun x => decide (x.id ≠ o.id) }).expired o
        if s.isSealed then u
        else match u.track.toDecide.find? u.viewDone with
          | some x => if x.id = o.id then u.decideTaken x else u
          | none => u)

/-! ## STAT records (R389, R393) -/

/-- A STAT record (Table 10-6). -/
def statRecord (addr turret : Nat) (tick : Tick) (ms : Nat) (p : Period) : List Byte :=
  leBytes 2 0x0300 ++ leBytes 2 320 ++ leBytes 1 addr ++ leBytes 1 turret ++ leBytes 2 0 ++ leBytes 8 tick ++ leBytes 4 ms ++
  leBytes 4 p.decided ++ leBytes 4 p.accepted ++ leBytes 4 p.rejected ++ leBytes 4 p.diverted ++ leBytes 4 p.tall ++
  leBytes 4 p.fallback ++ leBytes 4 p.degraded ++ leBytes 16 0 ++ (List.range 64).flatMap fun k => leBytes 4 (SMap.look 0 p.rules k)

/-- The most STAT records of a stream that wait (R389). -/
abbrev maxStat : Nat := 16

/-- A STAT record joins a stream's waiting records; with 16 waiting the oldest that has not begun to leave is discarded and
counted (R389). -/
def State.putStat (s : State) (k : Nat) (r : List Byte) : State :=
  let y := s.getStream k
  if y.recs.length < maxStat then s.modStream k fun y => { y with recs := y.recs ++ [(true, r)] }
  else
    let begun := y.recs.takeWhile fun x => !x.1
    (s.modStream k fun y => { y with recs := begun ++ (y.recs.drop (begun.length + 1)) ++ [(true, r)] }).onTrack fun t =>
      { t with statDropped := satInc t.statDropped }

/-- The tick at which a turret's period started: the end of the one before, or of START (log entry 82). -/
def State.periodStart (s : State) (n : Nat) : Tick := max (s.getPeriod n).start s.sys.readyAt

/-- STAT_PERIOD (R393): once `class.stat_period_ms` of a turret has elapsed, a STAT record for every open STAT stream bound to it,
and the next period starts. -/
def execStatPeriod (turret : Nat) (s : State) : Host.Outcome State Fault Refusal :=
  .next (
    let from_ := s.periodStart turret
    if s.now < from_ + s.nat .classStatPeriod turret * msTicks then s
    else
      let r := statRecord s.tower.addr turret s.now ((s.now - from_) / msTicks) (s.getPeriod turret)
      let t := (s.turretStreams typeStat turret).foldl (fun t k => t.putStat k r) s
      t.modPeriod turret fun _ => { Period.init with start := s.now })

/-! ## Staged writes (R370) -/

/-- A turret's slots are STAGED (R370). -/
def State.markStaged (s : State) (slots : List Nat) : State :=
  slots.foldl (fun t k => t.modClassSlot k fun c => { c with state := .staged }) s

/-- A write of coefficients, bias or a rule is staged (R370, R376). -/
def setClassStaged (r : ReplyTo) (k : Key) (v : Val) (s : State) : State :=
  if k.s = .classRule then
    match v with
    | .bytes b => if ruleOk b then ((s.stageVal k v).markStaged (s.slotsOf k.j)).ok r [] else s.er r 21
    | .num _ => s.er r 21
    | .text _ => s.er r 21
  else ((s.stageVal k v).markStaged [4 * k.i + k.j]).ok r []

/-- The tick ends: its decisions are made, its `ABORT`s act, the Dome operations accepted in it start, what was filed at the ledger in it is
judged, and what has changed of the module is announced to its tower (Tables 2-4, 4-6, 10-5 and 16-6; log entry 111). -/
def State.endTick (s : State) : State := s.decideTick.abortTick.domeNext.ledgerTick.tmgmtTick

end Sys2Proof.Machine
end

