-- ==== Sys2Proof/Machine/Recipe.lean ====
section
/-! DEFINITION. Recipes (R370, R434, R463): what a turret's `recipe.n` record holds, its commits and what takes effect at their
commit markers. -/

namespace Sys2Proof.Machine

/-- The staged settings of a turret's classification (R370). -/
def State.classKeys (s : State) (n : Nat) : List Key :=
  ((List.range 64).map fun k => ⟨.classRule, k, n⟩) ++
  (s.slotsOf n).flatMap fun k => [⟨.classCoef, k / 4, k % 4⟩, ⟨.classBias, k / 4, k % 4⟩]

/-- The staged settings of an entry (R453). -/
def seqLeaves : List Setting :=
  [.seqEnable, .seqInP, .seqInN, .seqExcP, .seqExcN, .seqBiasPins, .seqBiasV, .seqGain, .seqMode, .seqFreqHz, .seqExcVpp,
   .seqPhase, .seqSamples, .seqSettleUs, .seqDelayUs, .seqRepeat, .seqValue, .seqRatio, .seqTrigger, .seqScale, .seqOffset,
   .seqEvent, .seqThresh, .seqHyst]

/-- The entries of a turret (R434). -/
def State.entriesOf (s : State) (n : Nat) : List Nat := (List.range 32).filter fun e => decide (s.nat .seqTurret e = n)

/-- The staged settings of a turret's entries. -/
def State.seqKeys (s : State) (n : Nat) : List Key :=
  (s.entriesOf n).flatMap fun e => seqLeaves.map fun x => ⟨x, e, 0⟩

/-- The owner settings of a turret's loops (R463). -/
def State.loopKeys (s : State) (n : Nat) : List Key :=
  ([1, 2].filter fun k => decide (s.nat .loopTurret k = n)).flatMap fun k =>
    [⟨.loopQuantity, k, 0⟩, ⟨.loopEntry, k, 0⟩, ⟨.loopLo, k, 0⟩, ⟨.loopHi, k, 0⟩, ⟨.loopWindowMs, k, 0⟩, ⟨.loopFixedMa, k, 0⟩]

/-- The other settings that a turret owns; the spec names no record for them, and this model keeps them in the turret's recipe
(log entry 27). -/
def State.ownKeys (s : State) (n : Nat) : List Key :=
  ([.ledgerCmdDeadline, .classDegraded, .classChipPhases, .classChipMaxBytes, .classStatPeriod, .trackDrag, .ejectMarginCols,
    .ejectPreUs, .ejectPostUs, .ejectOverflowPolicy, .ejectMetalDelay, .ejectMetalWindow, .domeNotify].map fun x => ⟨x, n, 0⟩) ++
  ((List.range 16).filter fun k => decide (s.nat .fePinTurret k = n)).flatMap fun k => [⟨.checkRMin, k, 0⟩, ⟨.checkRMax, k, 0⟩]

/-- The recipe of a record body. -/
def bodyRecipe : Body → Option Recipe
  | .recipe r => some r
  | .none => none
  | .epoch _ => none
  | .keystore _ => none
  | .shade _ => none
  | .config _ _ => none
  | .stats _ => none

/-- The recipe that a further commit builds on: the last one filed, else the one in use. -/
def State.recipeBase (s : State) (n : Nat) : Recipe :=
  let filed := ((s.nv.running.toList ++ s.nv.writes ++ s.fe.commits).filter fun w => decide (w.record = .recipe n)).filterMap
    fun w => bodyRecipe w.body
  match filed.getLast? with
  | some r => r
  | none => (bodyRecipe (s.getRec (.recipe n)).body).getD {}

/-- The staged table bytes of a slot. -/
def State.tableOf (s : State) (slot : Nat) : Ram :=
  s.ram.filter fun p => decide (stagedAddr slot 0 ≤ p.1) && decide (p.1 < stagedAddr slot tableBytes)

/-- The recipe that a turret's commit writes: the staged values of the family that it commits, what stood of the other family,
and the loop settings and own settings in force (R370, R434, R463). -/
def State.newRecipe (s : State) (n : Nat) (classes : Bool) : Recipe :=
  let base := s.recipeBase n
  let old (k : Key) : Val := (valOf base.vals k).getD (s.val k)
  { vals := ((s.classKeys n).map fun k => (k, if classes then s.stagedVal k else old k)) ++
            ((s.seqKeys n).map fun k => (k, if classes then old k else s.entryVal k)) ++
            ((s.loopKeys n ++ s.ownKeys n).map fun k => (k, s.val k)),
    table := if classes then (s.slotsOf n).flatMap s.tableOf else base.table }

/-- The staged values that a recipe has taken over are staged no longer; a write made since then still is. -/
def State.unstage (s : State) (vs : List (Key × Val)) : State :=
  { s with staged := s.staged.filter fun e => !vs.any fun p => decide (p.1.code = e.1 ∧ p.2 = e.2) }

/-- The write of a turret's recipe. -/
def State.recipeWrite (s : State) (r : ReplyTo) (classes : Bool) (frame : List (Key × Val)) : Write :=
  let n := r.turret.getD 0
  { record := .recipe n, body := .recipe (s.newRecipe n classes), reply := some (.traop r),
    onCommit := .recipe n classes (!classes) frame, turret := n }

/-- `DO class.commit` (R370): the turret's staged recipe goes to its record through the journal. -/
def doClassCommit (r : ReplyTo) (s : State) : State := s.fileWrite (s.recipeWrite r true [])

/-- Whether a key is of classification, or of an entry. -/
def Key.isClass (k : Key) : Bool := decide (k.s = .classRule ∨ k.s = .classCoef ∨ k.s = .classBias)

/-- The classification part of a committed recipe takes effect (R370): rules at once, tables, coefficients and biases from the
next line cycle; the slots are ACTIVE but for what has been staged since the commit was filed. -/
def State.commitClasses (s : State) (n : Nat) (r : Recipe) : State :=
  let vs := r.vals.filter fun p => Key.isClass p.1
  let t := ((s.setVals vs).unstage vs).onTrack fun k => { k with nextTables := k.nextTables ++ [(s.now, n, r)] }
  (t.slotsOf n).foldl (fun u k =>
    let later := u.tableOf k ≠ (r.table.filter fun p => decide (stagedAddr k 0 ≤ p.1) && decide (p.1 < stagedAddr k tableBytes)) ∨
      (SMap.find u.staged (Key.code ⟨.classCoef, k / 4, k % 4⟩)).isSome ∨
      (SMap.find u.staged (Key.code ⟨.classBias, k / 4, k % 4⟩)).isSome
    u.modClassSlot k fun c => { c with state := if later then .staged else .active }) t

/-- The entries of a committed recipe take effect at the turret's next pass, and for the Keep the staged frame settings at the
next frame start (R434, R438). -/
def State.commitEntries (s : State) (n : Nat) (r : Recipe) (frame : List (Key × Val)) : State :=
  let vs := r.vals.filter fun p => decide (p.1.s ∈ seqLeaves) && decide (s.nat .seqTurret p.1.i = n)
  (((s.unstage (vs ++ frame)).onFe fun f =>
    { f with nextEntries := f.nextEntries ++ [(n, vs)], nextFrame := f.nextFrame ++ frame }).settleExcite).startNext

/-- The staged and own settings that a turret holds as things are assigned. -/
def State.recipeKeys (s : State) (n : Nat) : List Key := s.classKeys n ++ s.seqKeys n ++ s.loopKeys n ++ s.ownKeys n

/-- A turret's recipe as the record gives it, put in force at once (R391, R392, R452, R463): its settings, and its tables where the
record is not the default, of what is still the turret's. -/
def State.restoreRecipe (s : State) (n : Nat) : State :=
  match bodyRecipe (s.getRec (.recipe n)).body with
  | none => s
  | some r =>
    let mine := s.recipeKeys n
    let slots := s.slotsOf n
    let tab := r.table.filter fun p => slots.any fun k => decide (stagedAddr k 0 ≤ p.1) && decide (p.1 < stagedAddr k tableBytes)
    let t := { s.setVals (r.vals.filter fun p => decide (p.1 ∈ mine)) with
      ram := tab.foldl (fun (m : Ram) (p : Nat × Byte) => m.setByte p.1 p.2) s.ram }
    (t.slotsOf n).foldl (fun u k => u.modClassSlot k fun c => { c with state := .active }) (t.useTables n r)

end Sys2Proof.Machine
end

