-- ==== Sys2Proof/Machine/FrontEnd.lean ====
section
/-! DEFINITION. The measurement front end (R423–R453): results, their events and triggers, urgent requests, the commit of entries,
check-DAC diagnostics, pin protection, excitation and loop readback. -/

namespace Sys2Proof.Machine

/-! ## Results (R427–R433) -/

/-- OVER (R430). -/
abbrev rOver : Nat := 1
/-- CLIP. -/
abbrev rClip : Nat := 2
/-- PINFAULT. -/
abbrev rPinFault : Nat := 4
/-- NORATIO. -/
abbrev rNoRatio : Nat := 8

/-- The frequency word of the synthesiser (R425), from a frequency in millionths of a Hz. -/
def freqWord (hz6 : Nat) : Nat := (roundDiv (hz6 * 2 ^ 32 : Nat) (200000000 * 1000000)).toNat

/-- The frequency word of an entry (R425). -/
def State.synthWord (s : State) (e : Nat) : Nat := freqWord (s.nat .seqFreqHz e)

end Sys2Proof.Machine

namespace Sys2Proof

/-- What a repetition is demodulated by (R425, R427, R429): the gain, the frequency word, the cycles of 200 MHz from the start of
its settle time to its first sample, and the phase φ in millionths of a degree. -/
structure Demod where
  gain : Nat
  word : Nat
  lead : Nat
  phase6 : Int
  deriving DecidableEq, Repr

/-- A sum of codes over so many of them, in V: a code is 7.8125 µV at a gain of 1 (R427). `unit` is what a code of 1 counts as. -/
def codeVolts (sum : Int) (n gain unit : Nat) : Frac := Frac.make (sum * 78125) (n * gain * 10000000000 * unit)

/-- The mean of the samples (R429). -/
def Sample.mean (m : Sample) (gain : Nat) : Frac := codeVolts m.codes.sum m.codes.length gain 1

/-- The angle θ + φ at a sample, in 10^-18 of a turn: the synthesiser's phase of 32 bits, 100 cycles of 200 MHz further with each
sample (R425, R429; log entry 70). -/
def Demod.angle (d : Demod) (i : Nat) : Nat :=
  d.word * (d.lead + 100 * i) % 2 ^ 32 * fixOne / 2 ^ 32 + (d.phase6 % 360000000).toNat * 1000000000000 / 360

/-- A sum of the codes, each times a function of its angle. -/
def Sample.weigh (m : Sample) (d : Demod) (g : Nat → Int) : Int :=
  (m.codes.zipIdx.map fun c => c.1 * g (d.angle c.2)).sum

/-- *I* (R429). -/
def Sample.inPhase (m : Sample) (d : Demod) : Frac := codeVolts (2 * m.weigh d cosTurn) m.codes.length d.gain fixOne

/-- *Q* (R429). -/
def Sample.quadrature (m : Sample) (d : Demod) : Frac := codeVolts (-(2 * m.weigh d sinTurn)) m.codes.length d.gain fixOne

/-- *M* (R429). -/
def Sample.magnitude (m : Sample) (d : Demod) : Frac :=
  let a := (m.weigh d cosTurn).natAbs
  let b := (m.weigh d sinTurn).natAbs
  codeVolts (2 * rootDown 160 (a * a + b * b) : Nat) m.codes.length d.gain fixOne

/-- Whether a sample is at either end of the code range (R427). -/
def Sample.exceeded (m : Sample) : Bool := m.codes.any fun c => decide (c ≤ -524288 ∨ 524287 ≤ c)

end Sys2Proof

namespace Sys2Proof.Machine

/-- The quantity that an entry's mode and `value` select (R429, R430). IQ mode has no DC quantity: what it yields there is not
stated, and is a free value (log entry 28). -/
def State.quantity (s : State) (e : Nat) (m : Sample) (d : Demod) : Option Frac :=
  if s.int .seqMode e = 0 then some (m.mean d.gain)
  else match s.int .seqValue e with
    | 1 => some (m.inPhase d)
    | 2 => some (m.quadrature d)
    | 3 => some (m.magnitude d)
    | _ => none

/-- How a repetition of an entry is demodulated: so many repetitions after the pass opened. -/
def State.entryDemod (s : State) (e rep : Nat) : Demod :=
  { gain := s.nat .seqGain e, word := s.synthWord e, lead := s.nat .seqSettleUs e * 200 + rep * s.nat .seqSamples e * 100,
    phase6 := s.int .seqPhase e }

/-- What an entry's result does to its events (R431): whether it fires, and whether the entry is armed afterwards. -/
def State.fires (s : State) (e : Nat) (y : Frac) (flags : Nat) : Bool × Bool :=
  let armed := (s.getEntry e).armed
  let th := Frac.of6 (s.int .seqThresh e)
  let hy := Frac.of6 (s.int .seqHyst e)
  if flags &&& (rOver ||| rPinFault ||| rNoRatio) ≠ 0 then (false, armed)
  else match s.int .seqEvent e with
    | 0 => (false, armed)
    | 2 => if armed then (y.le th, !y.le th) else (false, (th.add hy).lt y)
    | _ => if armed then (th.le y, !th.le y) else (false, y.lt (th.sub hy))

/-- The word of a firing (R431). -/
def State.firingWord (s : State) (e : Nat) : String :=
  match s.int .seqEvent e with
  | 1 => "above" | 2 => "below" | _ => "metal"

/-- An entry fires (R431–R433): it is counted, its event line is raised, at most 10 a second, a METAL entry makes a metal event
(R413), and the entries that it triggers are requested. -/
def State.fireEntry (s : State) (e : Nat) (y : Frac) (mid : Tick) : State :=
  let n := s.nat .seqTurret e
  let recent := (s.getEntry e).lines.filter fun t => decide (s.now < t + secTicks)
  let tell := decide (recent.length < 10)
  let t := s.modEntry e fun x => { x with events := satInc x.events, lines := recent ++ (if tell then [s.now] else []) }
  let u := if tell then t.emit (.turret n false) "seq" (toString e) [.word (s.firingWord e), .real y] else t
  let v := if s.int .seqEvent e = 3 then u.metalEvent n mid else u
  ((List.range 32).filter fun k => decide (s.nat .seqTurret k = n) && decide (s.nat .seqTrigger k = e) &&
    decide (s.int .seqEnable k ≠ 0)).foldl (fun w k => w.fileUrgent k true []) v

/-- A repetition of an entry has been sampled (R430): the result is stored with its flags and the tick at the middle of its
window, `feed.mass_entry` gives the feed its reading (R313), and events fire. The quotient by a ratio entry that has no
result, or 0, is not stated: it is a free value (log entry 28). `ends` is the tick at which its last sample ends, `rep` how many
repetitions came before it since its pass opened. -/
def State.storeResult (s : State) (e : Nat) (m : Sample) (pinFault : Bool) (rep : Nat) (ends : Tick) : State :=
  let r := s.nat .seqRatio e
  let den := if r < 32 then (s.getEntry r) else Entry.init
  let noRatio := decide (r < 32) && (den.result.isNone || decide (den.raw.num = 0))
  let q := s.quantity e m (s.entryDemod e rep)
  let free := q.isNone || noRatio
  let x := if free then s.freeFrac else if r < 32 then (q.getD {}).div den.raw else q.getD {}
  let y := ((Frac.of6 (s.int .seqScale e)).mul x).add (.of6 (s.int .seqOffset e))
  let bad := pinFault || (s.entryPins e).any (s.pinBad (s.nat .seqTurret e))
  let flags := (if m.exceeded then rOver else 0) ||| (if m.clip then rClip else 0) ||| (if bad then rPinFault else 0) |||
    (if noRatio then rNoRatio else 0)
  let mid := ends - s.nat .seqSamples e * 25
  let f := s.fires e y flags
  let t := (if free then s.useFree else s).modEntry e fun q =>
    { q with result := some y, raw := x, flags := flags, tick := mid, armed := f.2, count := satInc q.count }
  let u := if s.nat .feedMassEntry = e ∧ flags = 0 then t.onFeed fun g => g.addMass s.now y else t
  if f.1 then u.fireEntry e y mid else u

/-! ## Checks (R445, R446, Table 12-5) -/

/-- The value of a check's pass in its unit, and whether it passes (Table 12-5). `pass` numbers the gains. -/
def State.checkResult (s : State) (k : CheckKind) (pass : Nat) (m : Sample) : Frac × Bool :=
  match k with
  | .openPin p =>
    let v := m.mean 2
    let r : Frac := if (Frac.make 999 1000).le v then { num := 100000000 } else ((Frac.mk 100000 1).mul v).div ((Frac.mk 1 1).sub v)
    (r, (Frac.of6 (s.int .checkRMin p)).le r && r.le (.of6 (s.int .checkRMax p)))
  | .gain =>
    let g : Nat := 2 ^ pass
    let want := Frac.make (roundDiv 2048 g) 1000
    let d := ((m.mean g).sub want).abs
    ((d.mul ⟨100, 1⟩).div want, d.le ((want.mul (Frac.make 5 1000)).add (codeVolts 20 1 g 1)))
  | .exc =>
    let x := m.magnitude { gain := 1, word := freqWord 1000000000, lead := 200000, phase6 := 0 }
    (x, (x.sub (Frac.make 1 4)).abs.le (Frac.make 5 1000))
  | .bias => (m.mean 1, ((m.mean 1).sub (Frac.make 5 2)).abs.le (Frac.make 5 1000))

/-- The kind of a check as events write it. -/
def checkFields : CheckKind → String × List Fld
  | .openPin k => ("open", [.int k])
  | .gain => ("gain", [])
  | .exc => ("exc", [])
  | .bias => ("bias", [])

/-- A check is complete (R445): it is answered; a failure is counted and raises its event. -/
def State.endCheck (s : State) (c : CheckJob) : State :=
  let w := checkFields c.kind
  let t := if c.fail then
      (s.onFe fun f => { f with fails := satInc f.fails }).emit (.turret c.turret false) "check" w.1 (w.2 ++ [.word "fail"])
    else s
  t.okTo c.reply [.real c.worst, .word (if c.fail then "fail" else "pass")]

/-- A pass of a check has measured: the gain check goes on to its next gain, and waits for a slot with the rest (R445). -/
def State.checkMeasured (s : State) (c : CheckJob) (m : Sample) : State :=
  let r := s.checkResult c.kind c.pass m
  let c' := { c with pass := c.pass + 1, worst := if c.kind = .gain ∧ r.1.le c.worst = true then c.worst else r.1, fail := c.fail || !r.2 }
  if c.kind = .gain ∧ c'.pass < 9 then s.onFe fun f => { f with checks := c' :: f.checks } else s.endCheck c'

/-! ## The course of passes (R435, R441, R442) -/

/-- Whether a pending urgent request, or a readback, comes first after a repetition that ended at a tick (R440, R442): one that was
there by then. -/
def State.yieldsAt (s : State) (t : Tick) : Bool :=
  s.nextUrgent.any (fun u => decide (u.at_ ≤ t)) || s.nextRead.any fun r => decide (r.at_ ≤ t)

/-- After a repetition of a loop entry that ended at a tick (R435, R437, R440, R442, R448): what is urgent, or a readback, runs first;
the next repetition follows where it ends before its slot does, and one that an urgent request has interrupted since is discarded and
counted; after the last, the delay runs and the loop moves on. -/
def State.afterRep (s : State) (e reps : Nat) (ended : Tick) : State :=
  let n := s.nat .seqTurret e
  if reps < s.nat .seqRepeat e then
    if s.yieldsAt ended = true ∨ s.mayRunAt ended n (s.repTicks e) = false then (s.suspend e reps).startNext
    else if s.nextUrgent.isSome = true ∧ ended < s.now then
      ((s.suspend e reps).modEntry e fun y => { y with preempted := satInc y.preempted }).startNext
    else s.onFe fun f => { f with pass := f.pass.map fun p =>
      { p with reps := reps, pinFault := s.pinOver (.loop e), due := p.due + s.nat .seqSamples e * 50 } }
  else
    let d := s.nat .seqDelayUs e * usTicks
    ((s.modTurLoop (s.loopKey n) fun l =>
      { l with next := e + 1, resume := none, delayTo := if d = 0 then none else some (s.now + d) }).onFe fun f =>
        { f with pass := none }).startNext

/-- A readback has been taken (R461, R468): the third current in a row off by more than 0.1 mA raises the drift event. -/
def State.readTaken (s : State) (r : ReadJob) : State :=
  let c := s.getLoop r.loop
  if r.volts then s.modLoop r.loop fun c => { c with volts6 := r.value6 }
  else
    let off := c.headroom && decide (100000 < (r.value6 - loopMa6 c.code).natAbs)
    let t := s.modLoop r.loop fun c => { c with actual6 := r.value6, drift := if off then c.drift + 1 else 0 }
    if off ∧ c.drift + 1 = 3 then t.emit (.turret (s.nat .loopTurret r.loop) true) "loop" (toString r.loop) [.word "drift"] else t

/-- The pass has ended, and the sequencer turns to the next. -/
def State.passEnds (s : State) : State := (s.onFe fun f => { f with pass := none }).startNext

/-- SEQ_RESULT (R430): a repetition's last sample ends; it is one of as many samples as its pass takes. -/
def execSeqResult (r : Sample) (s : State) : Host.Outcome State Fault Refusal :=
  .next (
    match s.fe.pass with
    | none => s
    | some p =>
      if p.settled = false ∨ s.feRuns = false ∨ s.now < p.due ∨ r.codes.length ≠ s.passSamples p.kind then s
      else match p.kind with
        | .loop e => (s.storeResult e r p.pinFault (p.reps - p.from_) p.due).afterRep e (p.reps + 1) p.due
        | .urgent u =>
          let t := s.storeResult u.entry r p.pinFault 0 p.due
          let y := (t.getEntry u.entry).result.getD {}
          let f := (t.getEntry u.entry).flags
          (u.replies.foldl (fun t q => t.ok q [.real y, .mask f]) t).passEnds
        | .check c => (s.checkMeasured c r).passEnds
        | .readback q => (s.readTaken q).passEnds)

/-- The first pin of some that has failed (R450). -/
def State.failedPin (s : State) (ks : List Nat) : Option Nat := ks.find? fun k => decide ((s.getPin k).state = .disabled)

/-- The name of a pin that has failed, for `ER 70` (R191). -/
def pinDetail (k : Nat) : List Fld := [.chars ("fe.pin.".toList ++ decChars k)]

/-- `DO seq.e.now` (R441, R191): an urgent request; it is answered with its result. -/
def doSeqNow (r : ReplyTo) (e : Nat) (s : State) : State :=
  if s.gated 17 ∨ s.int .seqEnable e = 0 then s.er r 23
  else if s.fe.fault ∨ (s.usesExc e = true ∧ s.fe.excFault = true) then s.er r 70 [.word "fe"]
  else match s.failedPin (s.entryPins e) with
    | some k => s.er r 70 (pinDetail k)
    | none => (s.fileUrgent e false [r]).preempt

/-! ## Commits (R424, R426, R428, R434, R438) -/

/-- How many bits of a mask are set. -/
def bitsSet (m n : Nat) : Nat := ((List.range n).filter fun k => m.testBit k).length

/-- Whether an entry with given settings breaks Table 12-2 or R428. -/
def entryBad (get : Setting → Nat) (owner : Nat → Nat) (e n chop : Nat) : Bool :=
  let ip := get .seqInP
  let iN := get .seqInN
  let xp := get .seqExcP
  let xn := get .seqExcN
  let bias := get .seqBiasPins
  let refBad (r : Nat) : Bool := decide (r = e) || (decide (r < 32) && decide (owner r ≠ n))
  decide (ip = iN) || decide (ip = xp) || decide (ip = xn) || (decide (iN < 16) && (decide (iN = xp) || decide (iN = xn))) ||
  (decide (xp < 16) && decide (xp = xn)) || (decide (xp < 16) && bias.testBit xp) || (decide (xn < 16) && bias.testBit xn) ||
  decide (4 < bitsSet bias 16) || (decide (xn = 16) && decide (5000000 < get .seqExcVpp)) ||
  decide ((xp = 255) ≠ (xn = 255)) || refBad (get .seqRatio) || refBad (get .seqTrigger) || decide (get .seqSamples % chop ≠ 0)

/-- The frame settings (R438). -/
def frameKeys : List Key :=
  [⟨.feChopDiv, 0, 0⟩, ⟨.seqFrameUs, 0, 0⟩] ++ (List.range 16).flatMap fun k => [⟨.seqSlotTurret, k, 0⟩, ⟨.seqSlotUs, k, 0⟩]

/-- The frame settings that a commit leaves: the Keep's takes the staged ones. -/
def State.frameVal (s : State) (keep : Bool) (x : Setting) (i : Nat) : Nat :=
  let k : Key := ⟨x, i, 0⟩
  let now := (valOf s.fe.nextFrame.reverse k).getD (s.val k)
  ((if keep then (SMap.find s.staged k.code).getD now else now).int).toNat

/-- An entry's setting after a commit by a turret. -/
def State.commitVal (s : State) (n : Nat) (k : Key) : Val :=
  if s.nat .seqTurret k.i = n then s.entryVal k else s.comingVal k

/-- Whether the slot rules bind a commit: the Keep's at all times (R438, R446), another turret's while the sequencer is partitioned
(log entry 99). -/
def State.slotsBind (s : State) (keep : Bool) : Bool := keep || s.partitioned || s.fe.partNext

/-- Whether a loop is enabled: its quantity is not NONE (R440). -/
def State.loopEnabled (s : State) (k : Nat) : Bool := decide (s.int .loopQuantity k ≠ 0)

/-- Whether a turret with a LOOP or URGENT entry has no slot in a frame that a commit leaves (R438). -/
def State.slotMissing (s : State) (n : Nat) (keep : Bool) : Bool :=
  s.slotsBind keep && (List.range 32).any fun e =>
    let o := s.nat .seqTurret e
    decide (o < 64) && (keep || decide (o = n)) && decide ((s.commitVal n ⟨.seqEnable, e, 0⟩).int ≠ 0) &&
    (longestSlot (s.frameVal keep .seqSlotTurret) (s.frameVal keep .seqSlotUs) o).isNone

/-- Whether a commit breaks a slot rule of R438 or R446. -/
def State.slotRange (s : State) (n : Nat) (keep : Bool) : Bool :=
  let longest (o : Nat) : Nat := (longestSlot (s.frameVal keep .seqSlotTurret) (s.frameVal keep .seqSlotUs) o).getD 0
  let sum := ((List.range 16).map fun k => s.frameVal keep .seqSlotUs k).sum
  (keep && (decide (s.frameVal true .seqFrameUs 0 < sum) ||
    ((s.loopEnabled 1 || s.loopEnabled 2) && decide (longest 0 < 60)) ||
    (decide (s.int .checkIntervalS ≠ 0) && decide (longest 0 < 3100)))) ||
  (s.slotsBind keep && (List.range 32).any fun e =>
    let o := s.nat .seqTurret e
    let v (x : Setting) : Nat := (s.commitVal n ⟨x, e, 0⟩).int.toNat
    decide (o < 64) && (keep || decide (o = n)) && decide (v .seqEnable ≠ 0) &&
    decide (longest o * usTicks < 200 + v .seqSettleUs * usTicks + v .seqSamples * 50))

/-- The first entry that a commit by a turret may not leave (R428, Table 12-2): one of its own that breaks the table, or under the
Keep's new `fe.chop_div` another turret's whose samples span no whole chopper periods. -/
def State.badEntry (s : State) (n : Nat) (keep : Bool) : Option Nat :=
  let chop := s.frameVal keep .feChopDiv 0
  (List.range 32).find? fun e =>
    let o := s.nat .seqTurret e
    if o = n then entryBad (fun x => (s.entryVal ⟨x, e, 0⟩).int.toNat) (s.nat .seqTurret ·) e n chop
    else keep && decide (o < 64) && decide ((s.comingVal ⟨.seqSamples, e, 0⟩).int.toNat % chop ≠ 0)

/-- The excite request of R426 is filed: a queued one is not filed again. -/
def State.fileExcite (s : State) (n : Nat) : State :=
  if s.exciteHeld ∨ s.ledger.reqs.any fun q => decide (q.what = .excite) then s
  else s.file .excite n 0 1 (s.cmdDeadline n) .excite

/-- `DO seq.commit` (R424, R426, R428, R434, R438): the staged entries are checked, the excite grant is requested where they
need it, and the turret's recipe is written. -/
def doSeqCommit (r : ReplyTo) (s : State) : State :=
  let n := r.turret.getD 0
  let keep := decide (n = 0)
  if s.gated 17 then s.er r 23
  else if s.slotMissing n keep then s.er r 23 [.word "slot"]
  else match s.badEntry n keep with
    | some e => s.er r 21 [.chars ("seq.".toList ++ (toString e).toList)]
    | none =>
      if s.slotRange n keep then s.er r 21 [.word "slot"]
      else
        let frame := if keep then frameKeys.filterMap fun k => (SMap.find s.staged k.code).map fun v => (k, v) else []
        let w := s.recipeWrite r false frame
        if wantsExcite s.entryVal (s.entriesOf n) ∧ s.exciteHeld = false then
          (s.onFe fun f => { f with commits := f.commits ++ [w] }).fileExcite n
        else s.fileWrite w

/-- A write of an entry or of a frame setting is staged (R434, R438, R453). -/
def setSeqStaged (r : ReplyTo) (k : Key) (v : Val) (s : State) : State := (s.stageVal k v).ok r []

/-! ## Commands for checks (R445, R446) -/

/-- The turret in whose loop and slots a check runs (R445): the pin's owner, or the Keep. -/
def State.checkRunner (s : State) : CheckKind → Nat
  | .openPin k => if s.nat .fePinTurret k < 64 then s.nat .fePinTurret k else 0
  | .gain => 0
  | .exc => 0
  | .bias => 0

/-- Whether a session's turret may run a check (R445, Table 12-7). -/
def State.mayCheck (s : State) (n : Nat) : CheckKind → Bool
  | .openPin k => decide (s.nat .fePinTurret k = n) || (decide (n = 0) && !s.isSealed)
  | .gain => decide (n = 0)
  | .exc => decide (n = 0)
  | .bias => decide (n = 0)

/-- The longest slot of a turret as it stands. -/
def State.longest (s : State) (n : Nat) : Nat := (longestSlot (s.nat .seqSlotTurret ·) (s.nat .seqSlotUs ·) n).getD 0

/-- `DO check.run` (R445). -/
def doCheckRun (r : ReplyTo) (k : CheckKind) (s : State) : State :=
  let n := s.checkRunner k
  if s.mayCheck (r.turret.getD 0) k = false then s.er r 30
  else if s.gated 17 then s.er r 23
  else if s.partitioned = true ∧ s.longest n < 3100 then s.er r 21 [.word "slot"]
  else if s.fe.fault then s.er r 70 [.word "fe"]
  else match s.failedPin (match k with
      | .openPin p => [p]
      | .gain => []
      | .exc => []
      | .bias => []) with
    | some p => s.er r 70 (pinDetail p)
    | none => (s.onFe fun f => { f with checks := f.checks ++ [{ kind := k, turret := n, reply := some r }] }).startNext

/-- Whether a check without a command waits or runs. -/
def State.periodicBusy (s : State) : Bool :=
  s.fe.checks.any (·.reply.isNone) ||
  (match s.fe.pass with
   | some p => (match p.kind with
     | .check c => c.reply.isNone
     | .loop _ => false
     | .readback _ => false
     | .urgent _ => false)
   | none => false)

/-- CHECK_INTERVAL (R446): `check.interval_s` has passed since the last ones started, or since READY: `gain`, `exc` and `bias` run
one after another, once the checks before have answered. -/
def execCheckInterval (s : State) : Host.Outcome State Fault Refusal :=
  .next (
    if s.feRuns = true ∧ s.nat .checkIntervalS ≠ 0 ∧ s.periodicBusy = false ∧
       s.fe.checkAt + s.nat .checkIntervalS * secTicks ≤ s.now then
      (s.onFe fun f => { f with checkAt := s.now, checks := f.checks ++ [.gain, .exc, .bias].map fun k =>
        { kind := k, turret := 0, reply := none } }).startNext
    else s)

/-- `SET check.interval_s` (R446). -/
def setCheckInterval (r : ReplyTo) (k : Key) (v : Val) (s : State) : State :=
  if v.int ≠ 0 ∧ s.partitioned = true ∧ s.longest 0 < 3100 then s.er r 21 [.word "slot"] else (s.setVal k v).ok r []

/-! ## Protection (R449, R451, R452) -/

/-- The events of a pin reach its owner and the Keep (log entry 29). -/
def State.pinEvent (s : State) (pin : Nat) (w : String) : State :=
  s.emit (.turret (s.nat .fePinTurret pin) true) "fe" "pin" [.int pin, .word w]

/-- FE_PIN_OVER (R449): the pin's switches open and it is OVER; a pass that uses it is flagged. -/
def execFePinOver (pin : Nat) (s : State) : Host.Outcome State Fault Refusal :=
  .next (
    if s.serving ∧ (s.getPin pin).state = .ok then
      let uses (p : Pass) : Bool := decide (pin ∈ s.passPins p.kind)
      ((s.modPin pin fun p => { p with state := .exceeded, overAt := s.now }).onFe fun f =>
        { f with pass := f.pass.map fun p => if uses p then { p with pinFault := true } else p }).pinEvent pin "over"
    else s)

/-- FE_PIN_RECOVER (R449): the pin has stayed within ±5.0 V for 1 s, so at least as long as that has passed since it went OVER. -/
def execFePinRecover (pin : Nat) (s : State) : Host.Outcome State Fault Refusal :=
  .next (
    if s.serving ∧ (s.getPin pin).state = .exceeded ∧ (s.getPin pin).overAt + secTicks ≤ s.now then
      (s.modPin pin fun p => { p with state := .ok }).pinEvent pin "ok"
    else s)

/-- Whether the pass that runs drives an entry's excitation (R425). -/
def State.drives (s : State) (p : Pass) (e : Nat) : Bool :=
  s.usesExc e && (match p.kind with
    | .loop q => decide (q = e)
    | .urgent u => decide (u.entry = e)
    | .check _ => false
    | .readback _ => false)

/-- EXC_LIMIT (R451): the excitation current limit has acted for 100 ms without a break in the pass of an entry, which is told
once. -/
def execExcLimit (entry : Nat) (s : State) : Host.Outcome State Fault Refusal :=
  .next (match s.fe.pass with
    | none => s
    | some p =>
      if s.feRuns = true ∧ s.drives p entry = true ∧ p.limitTold = false ∧ p.opened + 100 * msTicks ≤ s.now then
        (s.onFe fun f => { f with pass := some { p with limitTold := true } }).emit
          (.turret (s.nat .seqTurret entry) false) "fe" "exc-limit" [.int entry]
      else s)

/-- The excite request that READY files where committed entries need it (R452). -/
def State.readyExcite (s : State) : State := if wantsExcite s.comingVal then s.fileExcite 0 else s

/-- EXC_REQUEST_REFILE (R452): a refused request of READY is filed again after 10 s. -/
def execExcRequestRefile (s : State) : Host.Outcome State Fault Refusal :=
  .next (
    if s.serving = true ∧ s.fe.excWanted = true ∧ s.fe.excAt + 10 * secTicks ≤ s.now then
      ((s.onFe fun f => { f with excWanted := false }).readyExcite).startNext
    else s)

/-- The excite request is refused (R426, R452): the commits that wait for it end `ER 41`, and a request of READY is filed again
later. -/
def State.exciteRefused (s : State) : State :=
  let rs := s.fe.commits.filterMap fun w => match w.reply with
    | some (.traop r) => some r
    | some (.mgmt _ _) => none
    | none => none
  let t := rs.foldl (fun t r => t.er r 41) (s.onFe fun f => { f with commits := [] })
  if wantsExcite s.comingVal then
    (t.onFe fun f => { f with excWanted := true, excAt := s.now }).emit .keep "fe" "exc-refused" []
  else t

/-! ## Loop readback (R440, R461, R468) -/

/-- LOOP_READBACK_DUE (R440, R461, R468): every 100 ms the readback passes of an enabled loop fall due, one for its current and
one for its voltage, unless I17 is gated. They run after the repetition in progress, and while partitioned in Keep slots. -/
def execLoopReadbackDue (n : Nat) (microMa microV : Int) (s : State) : Host.Outcome State Fault Refusal :=
  .next (
    if s.feRuns ∧ s.loopEnabled n ∧ (n = 1 ∨ n = 2) ∧ (s.getLoop n).readAt ≤ s.now then
      let t := (s.modLoop n fun c => { c with readAt := s.now + 100 * msTicks }).onFe fun f =>
        { f with reads := f.reads ++ [⟨n, false, microMa, s.now⟩, ⟨n, true, microV, s.now⟩] }
      t.startNext
    else s)

end Sys2Proof.Machine
end

