-- ==== Sys2Proof/Machine/Loops.lean ====
section
/-! DEFINITION. The current loops (R454–R469): sampling of quantities, levels and headroom. -/

namespace Sys2Proof.Machine

/-- Loop quantities by position (Table 13-2): RATE. -/
abbrev qRate : Int := 1
/-- MASS. -/
abbrev qMass : Int := 2
/-- REJECT. -/
abbrev qReject : Int := 3
/-- ENTRY. -/
abbrev qEntry : Int := 4
/-- METAL. -/
abbrev qMetal : Int := 5
/-- STATE. -/
abbrev qState : Int := 6
/-- FIXED. -/
abbrev qFixed : Int := 7

/-- The result of an entry as a source: none before it has one, and while its flags are nonzero (Table 13-2). -/
def State.entryReading (s : State) (e : Nat) : Option Frac :=
  if (s.getEntry e).flags ≠ 0 ∨ s.gated 17 = true then none else (s.getEntry e).result

/-- The sample of a loop's source taken now (Table 13-2); none where it is invalid. REJECT and METAL count over
the window. -/
def State.loopSource (s : State) (n : Nat) : Option Frac :=
  let owner := s.nat .loopTurret n
  let w := s.nat .loopWindowMs n
  match s.int .loopQuantity n with
  | 1 => some s.objRate
  | 2 => if (s.entryReading (s.nat .feedMassEntry)).isNone then none else some (s.massRate.getD {})
  | 3 =>
    let ds := s.track.ratio.filter fun d => decide (d.2.1 = owner) && decide (s.now < d.1 + w * msTicks)
    let rej := (ds.filter fun d => d.2.2).length
    some (if ds.length = 0 then {} else Frac.make (100 * rej : Nat) ds.length)
  | 4 => if s.nat .seqTurret (s.nat .loopEntry n) = owner then s.entryReading (s.nat .loopEntry n) else none
  | 5 =>
    let ms := (s.track.metals.filter fun d => decide (d.2 = owner) && decide (s.now < d.1 + w * msTicks)).length
    some (Frac.make (ms * 60000 : Nat) w)
  | _ => some {}

/-- Whether the quantity is the mean of its samples over the window (R459). -/
def averaged (q : Int) : Bool := decide (q = qRate ∨ q = qMass ∨ q = qEntry)

/-- The measurement current of *x* (R459), in millionths of a mA, rounded down, which leaves its code as it is (R456): 4.0 mA +
16.0 mA × (x − lo) / (hi − lo), clamped to 3.8–20.5 mA. -/
def measureMa6 (x : Frac) (lo hi : Int) : Int :=
  let d : Int := (hi - lo) * x.den
  let y : Int := 16000000 * (x.num * 1000000 - lo * x.den)
  let v : Int := 4000000 + (if d < 0 then (-y) / (-d) else y / d)
  max 3800000 (min 20500000 v)

/-- The current of the STATE quantity (Table 13-2). -/
def MState.loopMa6 : MState → Int
  | .ready => 8000000
  | .paused => 12000000
  | .run => 16000000
  | .watch => 4000000
  | .off => 3600000
  | .start => 3600000
  | .halted => 3600000

/-- A step of a loop whose quantity is windowed (R459, R460): the sample joins its window; an invalid one brings the alarm, and
measurement returns once the source has been valid for one whole window. -/
def State.windowStep (s : State) (n : Nat) : State :=
  let q := s.int .loopQuantity n
  let w := s.nat .loopWindowMs n * msTicks
  let x := s.loopSource n
  let c := s.getLoop n
  let kept := (c.samples.filter fun p => decide (s.now < p.1 + w)) ++ [(s.now, x)]
  let bad := match x with
    | none => some (s.now + w)
    | some _ => c.badUntil
  let waits := match bad with
    | some t => decide (s.now ≤ t)
    | none => false
  let vals := if averaged q then kept.filterMap (·.2) else x.toList
  let ma := measureMa6 (Frac.mean vals) (s.int .loopLo n) (s.int .loopHi n)
  s.modLoop n fun c =>
    let d := { c with samples := kept, badUntil := if waits then bad else none }
    if waits then (if c.state = .watch ∧ x.isSome then d else d.alarm (s.int .loopAlarmMa n)) else d.carry ma .measure

/-- Whether a loop holds its level: while I17 is gated (R461), but for a quantity that is an entry's result, which there is none of
(Table 13-3; log entry 54). -/
def State.holdsLevel (s : State) (n : Nat) : Bool :=
  s.gated 17 && !(decide (s.int .loopQuantity n = qEntry) || decide (s.int .loopQuantity n = qMass))

/-- LOOP_SAMPLE (R457–R461): once 10 ms have passed since the last a loop takes its level: the alarm for a revoked owner, its
fixed, not-in-service or state current, or the measurement of its quantity. The verify fence holds a change of its code (R480). -/
def execLoopSample (n : Nat) (s : State) : Host.Outcome State Fault Refusal :=
  .next (
    if s.serving ∧ (n = 1 ∨ n = 2) ∧ (s.getLoop n).sampleAt ≤ s.now ∧ s.holdsLevel n = false then
      if s.fenced 19 then s.holdFor 19
      else
      let t := (s.modLoop n fun c => { c with sampleAt := s.now + 10 * msTicks }).onTrack fun k =>
        { k with ratio := k.ratio.filter fun d => decide (s.now < d.1 + 60000 * msTicks),
                 metals := k.metals.filter fun d => decide (s.now < d.1 + 60000 * msTicks) }
      if (t.getTurret (t.nat .loopTurret n)).state = .revoked then t.modLoop n fun c => c.alarm (t.int .loopAlarmMa n)
      else
        match t.int .loopQuantity n with
        | 0 => t.modLoop n fun c => c.carry 3600000 .measure
        | 6 => t.modLoop n fun c => c.carry t.sys.state.loopMa6 .measure
        | 7 => t.modLoop n fun c => c.carry (t.int .loopFixedMa n) .measure
        | _ => t.windowStep n
    else s)

/-- Whether I19 judges the headroom of a loop: everywhere but in OFF and WATCH, and not on a disabled stage (R464, R465, R467). -/
def State.judges (s : State) (n : Nat) : Bool :=
  decide (n = 1 ∨ n = 2) && s.pwr.logicOn && decide (s.sys.state ≠ .off ∧ s.sys.state ≠ .watch) &&
  decide ((s.getLoop n).state ≠ .fault)

/-- The owner of a loop and the Keep hear of it (log entry 29). -/
def State.loopEvent (s : State) (n : Nat) (w : String) : State :=
  s.emit (.turret (s.nat .loopTurret n) true) "loop" (toString n) [.word w]

/-- LOOP_SATURATION (R464): 1 ms in saturation turns `headroom` off, and the time out of saturation counts from the last. -/
def execLoopSaturation (n : Nat) (s : State) : Host.Outcome State Fault Refusal :=
  .next (
    if s.judges n then
      s.modLoop n fun c =>
        if c.headroom then { c with headroom := false, told := false, offAt := s.now, lostAt := s.now } else { c with lostAt := s.now }
    else s)

/-- LOOP_HEADROOM_FAULT (R464): headroom has stayed off for 100 ms: the event is raised and counted, and a high alarm gives way
to the fallback of 3.60 mA. -/
def execLoopHeadroomFault (n : Nat) (s : State) : Host.Outcome State Fault Refusal :=
  .next (
    if s.judges n = true ∧ (s.getLoop n).headroom = false ∧ (s.getLoop n).told = false ∧
        (s.getLoop n).offAt + 100 * msTicks ≤ s.now then
      (s.modLoop n fun c =>
        let d := { c with told := true, faults := satInc c.faults }
        if c.state = .alarm ∧ 21000000 ≤ c.ma6 then d.carry 3600000 .fallback else d).loopEvent n "headroom"
    else s)

/-- LOOP_HEADROOM_OK (R464): 100 ms out of saturation turn `headroom` on again. -/
def execLoopHeadroomOk (n : Nat) (s : State) : Host.Outcome State Fault Refusal :=
  .next (
    if s.judges n = true ∧ (s.getLoop n).headroom = false ∧ (s.getLoop n).lostAt + 100 * msTicks ≤ s.now then
      (s.modLoop n fun c => { c with headroom := true, told := false }).loopEvent n "headroom-ok"
    else s)

/-- `SET` of `loop.n.quantity`, `entry`, `lo` or `hi` (R458, R459, R463): it applies at once, and the window starts again where
the source has changed. -/
def setLoopQuantity (r : ReplyTo) (k : Key) (v : Val) (s : State) : State :=
  let n := k.i
  let owner := s.nat .loopTurret n
  let x := v.int
  let entryBad (e : Nat) : Bool := decide (s.nat .seqTurret e ≠ owner)
  let fresh (t : State) : State := t.modLoop n fun c => { c with samples := [], badUntil := none }
  match k.s with
  | .loopQuantity =>
    if (x = qRate ∨ x = qMass ∨ x = qState) ∧ owner ≠ 0 then s.er r 30
    else if x = qEntry ∧ entryBad (s.nat .loopEntry n) then s.er r 21
    else (fresh (s.setVal k v)).ok r []
  | .loopEntry =>
    if s.int .loopQuantity n = qEntry ∧ entryBad x.toNat then s.er r 21 else (fresh (s.setVal k v)).ok r []
  | .loopLo => if x = s.int .loopHi n then s.er r 21 else (s.setVal k v).ok r []
  | .loopHi => if x = s.int .loopLo n then s.er r 21 else (s.setVal k v).ok r []
  | _ => (s.setVal k v).ok r []

/-- `SET loop.n.alarm_ma` while the alarm is carried (Table 13-3): the new level applies, and the count of R464 starts again. -/
def State.newAlarm (s : State) (n : Nat) : State :=
  s.modLoop n fun c => if c.state = .alarm then { c.carry (s.int .loopAlarmMa n) .alarm with told := false, offAt := s.now } else c

/-- Each loop takes its WATCH level (R465). -/
def State.loopsWatch (s : State) : State :=
  [1, 2].foldl (fun t n => t.modLoop n fun c =>
    if c.state = .fault then c
    else if t.int .loopQuantity n = qState then c.carry 4000000 .watch
    else match t.int .loopWatch n with
      | 0 => { c with state := .watch }
      | 1 => c.carry 3600000 .watch
      | _ => { c with off := true, state := .watch }) s

/-- On return to READY a loop's window starts again, and measurement resumes after one whole window (R465). -/
def State.loopsWake (s : State) : State :=
  [1, 2].foldl (fun t n => t.modLoop n fun c =>
    { c with samples := [], badUntil := some (t.now + t.nat .loopWindowMs n * msTicks) }) s

/-- The loops of an owner that has been revoked carry their alarm level (R457, R521). -/
def State.loopsOfAlarm (s : State) (n : Nat) : State :=
  ([1, 2].filter fun k => decide (s.nat .loopTurret k = n)).foldl (fun t k => t.modLoop k fun c => c.alarm (t.int .loopAlarmMa k)) s

end Sys2Proof.Machine
end

