-- ==== Sys2Proof/Machine/MemCipher.lean ====
section
/-! DEFINITION. The memory cipher (R470–R495): accepted requests, reads and the verify fence, writes and generations, rekey and
scrub passes. The state's RAM holds plain text; the ciphertext and the tag that memory holds of a sector are computed from it, from
the keys and from the generation where a check asks for them. -/

namespace Sys2Proof

/-- The bytes of a sector (R473). -/
def Region.bytes : Region → Nat
  | .nvrec => 4096 | .nvfw => 4096 | .firm => 512 | .prot => 512 | .capt => 512 | .work => 512

/-- Whether a region is in DRAM. -/
def Region.dram (r : Region) : Bool := decide (r.bytes = 512)

/-- The sectors of a region (Table 14-1); flash has what the controller allots. -/
def Region.sectors : Region → Nat
  | .firm => 131072 | .prot => 131072 | .capt => 524288 | .work => 3276800 | .nvrec => 2 ^ 32 | .nvfw => 2 ^ 32

end Sys2Proof

namespace Sys2Proof.Machine

/-! ## Sectors, quotas and use (R471, R476, R489, R490) -/

/-- The flat number of a sector of an owner in a region. -/
def secCode (owner : Nat) (r : Region) (sector : Nat) : Nat := (r.code * 128 + owner) * 2 ^ 32 + sector

/-- Whether a flat sector number is of an owner and a region. -/
def secOf (owner : Nat) (r : Region) (code : Nat) : Bool := decide (code / 2 ^ 32 = r.code * 128 + owner)

/-- The flat address of a byte of a sector. -/
def secAddr (owner : Nat) (r : Region) (sector off : Nat) : Nat := 2 ^ 60 + secCode owner r sector * 4096 + off

/-- A turret's quota in a region, KiB (R511). -/
def State.quotaKib (s : State) (n : Nat) : Region → Nat
  | .prot => s.nat .turretProtKib n
  | .capt => s.nat .turretCaptKib n
  | .work => s.nat .turretWorkKib n
  | .firm => 0
  | .nvrec => 2 ^ 32
  | .nvfw => 0

/-- A turret's use of a region, KiB (R489, R507, R511): written sectors, its blobs and its records in the capture buffer. -/
def State.useKib (s : State) (n : Nat) (r : Region) : Nat :=
  ((s.mem.written.filter fun p => secOf n r p.1).length + 1) / 2 +
  (match r with
   | .prot => 4 * (s.mem.blobs.filter fun p => decide (p.1 / 32 = n)).length
   | .capt => (s.capture.usedBy n + 1023) / 1024
   | .work => 0 | .firm => 0 | .nvrec => 0 | .nvfw => 0)

/-- The highest PROT generation of an owner (Table 14-7). -/
def State.maxGen (s : State) (n : Nat) : Nat :=
  (s.mem.gens.filter fun p => secOf n .prot p.1).foldl (fun a p => max a p.2) 0

/-- Whether I04 has the keys to serve an owner's sectors of a region (R494): DRAM from step 5 of START and flash from step 4, a
turret's from step 9, and never in OFF, WATCH or HALTED. -/
def State.memLive (s : State) (owner : Nat) (r : Region) : Bool :=
  s.serving || (decide (s.sys.state = .start) && decide ((if owner < 64 then 9 else if r.dram then 5 else 4) ≤ s.sys.step))

/-- Whether I04 accepts a request (R476): it is made on behalf of its owner, and the sector lies within the owner's quota in the
region. -/
def State.memAccepts (s : State) (by_ : MemBy) (owner : Nat) (r : Region) (sector : Nat) : Bool :=
  decide (by_.owner = owner) && decide (sector < r.sectors) &&
  (decide (owner = 64) || (decide (owner < 64) && decide ((s.getTurret owner).state ≠ .absent) &&
    decide (sector * r.bytes < s.quotaKib owner r * 1024)))

/-- Whether the 64 KiB page of a sector is fresh (R490). -/
def State.freshPage (s : State) (owner : Nat) (r : Region) (sector : Nat) : Bool :=
  r.dram && !(s.mem.written.any fun p => secOf owner r p.1 && decide (p.1 % 2 ^ 32 / 128 = sector / 128))

/-! ## Keys, ciphertext and tags (R472–R475) -/

/-- The number of an owner's keys of a region. -/
abbrev keyCode (owner : Nat) (r : Region) : Nat := 32 * owner + r.code

/-- The three keys of an owner in a region, 96 bytes: the XTS pair, then the CMAC key (R472). DRAM keys are those of a draw, or of
the draw of step 5 where that is 0; flash keys are derived. -/
def State.memKeys (s : State) (owner : Nat) (r : Region) (draw : Nat) : List Byte :=
  if r.dram then
    if draw = 0 then (List.range 96).map fun i => Config.drawByte (s.mem.keyBase - 1) (96 * keyCode owner r + i)
    else Config.draw (draw - 1) 96
  else kdf rootBytes Config.flashLabel ([BitVec.ofNat 8 r.code, BitVec.ofNat 8 owner] ++
    (if owner < 64 then (s.getTurret owner).salt else [])) 96

/-- The draw of an owner's present keys of a region. -/
def State.keysNow (s : State) (owner : Nat) (r : Region) : Nat := SMap.look 0 s.mem.keyDraw (keyCode owner r)

/-- The write generation of a sector (Table 14-1). -/
def State.genOf (s : State) (owner : Nat) (r : Region) (sector : Nat) : Nat :=
  match r with
  | .prot => SMap.look 0 s.mem.gens (secCode owner r sector)
  | .nvrec => SMap.look 0 s.mem.flashGens (secCode owner r sector)
  | .nvfw => Config.imageBuild sector
  | .firm => 0 | .capt => 0 | .work => 0

/-- The prefix over which a tag is made (Table 14-2). -/
def tagPrefix (owner : Nat) (r : Region) (sector gen : Nat) : List Byte :=
  [BitVec.ofNat 8 owner, BitVec.ofNat 8 r.code, 0, 0] ++ leBytes 8 sector ++ leBytes 4 gen

/-- The tag of a sector's ciphertext under keys (R474). -/
def tagOf (keys : List Byte) (owner : Nat) (r : Region) (sector gen : Nat) (cipher : List Byte) : List Byte :=
  cmac (keys.drop 64) (tagPrefix owner r sector gen ++ cipher)

/-- What memory holds of a sector (R473–R475). -/
def State.stored (s : State) (owner : Nat) (r : Region) (sector : Nat) : Stored :=
  let keys := s.memKeys owner r (s.keysNow owner r)
  let c := xtsSeal (keys.take 64) sector (s.ram.read (secAddr owner r sector 0) r.bytes)
  { cipher := c, tag := tagOf keys owner r sector (s.genOf owner r sector) c }

/-- Whether what memory gave of a read sector passes its check (R474, R475, R492): its tag is that of its ciphertext, and of a
flash page the ECC can correct what it finds. -/
def State.tagPasses (s : State) (p : PendRead) (x : Stored) : Bool :=
  decide (tagOf (s.memKeys p.owner p.region p.keys) p.owner p.region p.sector p.gen x.cipher = x.tag) &&
  (p.region.dram || decide (x.bitErrors ≤ 8))

/-! ## Reads (R479–R482) -/

/-- Reads that need no check are verified as their turn comes. -/
def Requester.settle (q : Requester) : Requester :=
  match q.pend.dropWhile (·.free) with
  | [] => { q with pend := [], verified := q.delivered, heldAt := none }
  | p :: ps => { q with pend := p :: ps, verified := p.num - 1 }

/-- A read is delivered, before its check (R479, R481); one of a fresh page needs none (R490). -/
def State.deliver (s : State) (requester owner : Nat) (r : Region) (sector : Nat) : State :=
  s.modReqr requester fun q =>
    ({ q with delivered := q.delivered + 1,
              pend := q.pend ++ [{ num := q.delivered + 1, owner := owner, region := r, sector := sector,
                                   free := s.freshPage owner r sector, gen := s.genOf owner r sector,
                                   keys := s.keysNow owner r }] } : Requester).settle

/-- The command in flight of a session and tag. -/
def State.cmdInFlight (s : State) (sess : Nat) (tag : Option Nat) : Option ReplyTo :=
  (s.runningOf sess ++ s.jobsOf sess).find? fun r => decide (r.tag = tag)

/-- A request is refused before it reaches memory, and a command that caused it ends with `ER 50` (R476). -/
def State.refuseMem (s : State) (by_ : MemBy) : State :=
  let t := s.onMem fun m => { m with refused := satInc m.refused }
  match by_.cmd.bind fun c => t.cmdInFlight c.1 c.2 with
  | none => t
  | some r =>
    match t.abortable r with
    | some u => u.er r 50
    | none => t

/-- MEM_READ (R476, R479, R490): an accepted read is numbered and delivered, and its check follows; a fresh page needs none. -/
def execMemRead (requester : MemBy) (owner : Nat) (region : Region) (sector : Nat) (s : State) : Host.Outcome State Fault Refusal :=
  .next (
    if s.memLive owner region = false then s
    else if s.memAccepts requester owner region sector then s.deliver requester.island owner region sector
    else s.refuseMem requester)

/-- The read number of a requester that an action depends on (R406, R481). -/
def Action.needsOf (a : Action) (requester : Nat) : Nat := if requester = 12 then a.needs else if requester = 11 then a.needs11 else 0

/-- The longest wait of a fenced output whose reads of a requester have now been checked (R482), in ns: of a valve action, or of the
output that the requester's island holds. -/
def State.fenceWait (s : State) (requester oldV newV : Nat) : Nat :=
  let q := s.getReqr requester
  let held := match q.heldAt with
    | some t => if q.delivered ≤ newV then (s.now - t) * 10 else 0
    | none => 0
  (s.eject.queue.filter fun a => decide (a.stage = .filed) && decide (oldV < a.needsOf requester) && decide (a.needsOf requester ≤ newV) &&
    decide (a.s ≤ s.now)).foldl (fun w a => max w ((s.now - a.s) * 10)) held

/-- TAG_CHECK_COMPLETE (R474, R479, R481, R492, Table 14-6): the requester's oldest pending check completes over what memory gave.
A match moves its verified count; a mismatch records the fault and halts with cause 01. Of two mismatches in one tick the lower
requester's is recorded. A change of the excitation that the fence held is made (R480). -/
def execTagCheckComplete (requester : Nat) (x : Stored) (s : State) : Host.Outcome State Fault Refusal :=
  .next (
    let q := s.getReqr requester
    match q.pend with
    | [] => s
    | p :: ps =>
      let t := s.modReqr requester fun q => ({ q with pend := ps } : Requester).settle
      if s.tagPasses p x then
        let w := s.fenceWait requester q.verified (t.getReqr requester).verified
        let u := t.onMem fun m => { m with fenceMax := min 65535 (max m.fenceMax w) }
        if requester = 18 then u.startNext else u
      else
        let first : Bool := match s.mem.lastFault with
          | some f => !(decide (s.sys.state = .halted ∧ f.tick = s.now ∧ f.requester ≤ requester))
          | none => true
        (t.onMem fun m =>
          { m with lastFault :=
              (if first then some (MemFault.mk p.region p.owner p.sector s.now requester) else m.lastFault) }).halt causeTag)

/-! ## Rekey passes (R484–R486) -/

/-- A rekey pass is asked for: one request of class `mem` (R484). -/
def State.fileRekey (s : State) (owner : Nat) (r : Region) (turret : Nat) (reply : Option ReplyTo) : State :=
  (s.onMem fun m => { m with rekey := m.rekey ++ [{ owner := owner, region := r, reply := reply }] }).file .mem turret 0 2
    (10 * secTicks) (.rekey owner r.code)

/-- How many passes may wait or run: what the other sources can file at once, one request each and one for each port's training,
stays within the 64 requests of R94 (log entry 69). -/
abbrev maxRekeys : Nat := 56

/-- Whether an owner and region already have a pass. -/
def State.hasRekey (s : State) (owner : Nat) (r : Region) : Bool :=
  s.mem.rekey.any fun j => decide (j.owner = owner) && decide (j.region = r)

/-- The generation that a write gives a sector (R477, R478, Table 14-1). -/
def State.nextGen (s : State) (owner : Nat) (r : Region) (sector : Nat) : Nat :=
  match r with
  | .nvrec => (s.nv.running.map (·.seq)).getD 0
  | .prot => s.genOf owner r sector + 1
  | .nvfw => 0 | .firm => 0 | .capt => 0 | .work => 0

/-- Bytes of a sector are written under its next generation (R477, R478); at 2^31 a rekey pass is asked for (R484). -/
def State.writeSector (s : State) (owner : Nat) (r : Region) (sector off : Nat) (data : List Byte) : State :=
  let c := secCode owner r sector
  let g := s.nextGen owner r sector
  let v := { s with ram := s.ram.write (secAddr owner r sector off) data }.onMem fun m =>
    { m with written := if r.dram then SMap.put false m.written c true else m.written,
             gens := if r = Region.prot then SMap.put 0 m.gens c g else m.gens,
             flashGens := if r = Region.nvrec then SMap.put 0 m.flashGens c g else m.flashGens }
  if r = .prot ∧ 2 ^ 31 ≤ g ∧ v.hasRekey owner .prot = false ∧ v.mem.rekey.length < maxRekeys then
    v.fileRekey owner .prot (if owner < 64 then owner else 0) none
  else v

/-- MEM_WRITE (R476–R478, R484, R486, R490): a sector, or part of it after a normal read, is written. Past generation 0xFFFFFFFF
the write waits for the pass. -/
def execMemWrite (requester : MemBy) (owner : Nat) (region : Region) (sector off : Nat) (data : List Byte) (s : State) :
    Host.Outcome State Fault Refusal :=
  .next (
    if s.memLive owner region = false then s
    else if s.memAccepts requester owner region sector = false then s.refuseMem requester
    else
      let d := data.take (region.bytes - off)
      let t := if d.length < region.bytes then s.deliver requester.island owner region sector else s
      if region = .prot ∧ 0xFFFFFFFF ≤ s.genOf owner region sector then
        t.onMem fun m => { m with stalled := m.stalled ++ [⟨requester.island, owner, sector, off, d⟩] }
      else t.writeSector owner region sector off d)

/-- `DO mem.rekey n region` (R484). -/
def doMemRekey (r : ReplyTo) (n : Nat) (region : Region) (s : State) : State :=
  if r.turret ≠ some 0 ∧ r.turret ≠ some n then s.er r 30
  else if 63 < n ∨ ¬ (region = .prot ∨ region = .capt ∨ region = .work) then s.er r 21
  else if s.hasRekey n region = true ∨ maxRekeys ≤ s.mem.rekey.length then s.er r 40
  else s.fileRekey n region (r.turret.getD 0) (some r)

/-- Whether a pass has had the time to cover its owner's sectors, at 128 MiB/s (R486). -/
def State.rekeyDone (s : State) (j : RekeyJob) : Bool :=
  decide ((s.mem.written.filter fun p => secOf j.owner j.region p.1).length * 512 * 100000000 ≤ (s.now - j.since) * 2 ^ 27)

/-- The writes that waited for a pass are done (R486). -/
def State.unstall (s : State) (owner : Nat) : State :=
  (s.mem.stalled.filter fun w => decide (w.owner = owner)).foldl (fun t w => t.writeSector owner .prot w.sector w.off w.data)
    (s.onMem fun m => { m with stalled := m.stalled.filter fun w => decide (w.owner ≠ owner) })

/-- REKEY_PASS (R485, R486): a granted pass has covered its owner's sectors: PROT sectors have generation 1, the new keys are in
force and the old zeroised, the writes that waited are done, and the command is answered. -/
def execRekeyPass (s : State) : Host.Outcome State Fault Refusal :=
  .next (
    match s.mem.rekey.find? (·.granted) with
    | none => s
    | some j =>
      if s.rekeyDone j = false ∨ s.dome.rngFault = true then s
      else
        let t := (s.useDraw.releaseGrant (.rekey j.owner j.region.code)).onMem fun m =>
          { m with rekey := m.rekey.erase j, rekeys := satInc m.rekeys,
                   keyDraw := SMap.put 0 m.keyDraw (keyCode j.owner j.region) (s.sys.draws + 1),
                   gens :=
                     if j.region = Region.prot then m.gens.map fun p => (p.1, if secOf j.owner .prot p.1 then 1 else p.2) else m.gens }
        ((if j.region = Region.prot then t.unstall j.owner else t).okTo j.reply []).grantNext)

/-- The memory passes of a revoked turret stop (Table 14-6): the keys of that turret and region are zeroised, its data there is
gone, and the commands end `ER 42`. -/
def State.stopMem (s : State) (n : Nat) : State :=
  let js := s.mem.rekey.filter fun j => decide (j.owner = n)
  js.foldl (fun t j =>
    let u := (t.withdrawReq (.rekey j.owner j.region.code)).onMem fun m => { m with rekey := m.rekey.erase j }
    let v := if j.granted then
        { u with ram := u.ram.filter fun p => !(decide (2 ^ 60 ≤ p.1) && secOf n j.region ((p.1 - 2 ^ 60) / 4096)) &&
                          !(decide (j.region = Region.prot) && decide (blobAddr n 0 0 ≤ p.1) && decide (p.1 < blobAddr (n + 1) 0 0)) }.onMem
          fun m => { m with written := m.written.filter fun p => !secOf n j.region p.1,
                            gens := m.gens.filter fun p => !secOf n j.region p.1,
                            stalled := m.stalled.filter fun w => decide (w.owner ≠ n),
                            blobs := if j.region = Region.prot then m.blobs.filter fun p => decide (p.1 / 32 ≠ n) else m.blobs }
      else u
    v.erTo j.reply 42) s

/-! ## Scrub passes (R487) -/

/-- A granted scrub pass runs (R487): each failing slot raises its event and is rewritten from its DRAM copy through the journal,
a failing image raises its own, and both are counted. -/
def State.scrubNow (s : State) (bad : List BadSlot) (imageFails : Nat) : State :=
  let t := (bad.filter fun b => ((s.getRec b.record).slot b.slot).valid).foldl (fun t b =>
    let r := b.record
    (((t.emit (recAud r) "nv" "slot" [recFld r]).markBad [b]).fileWrite { record := r, body := (t.getRec r).body, reply := none }).onMem
      fun m => { m with scrubRepairs := satInc m.scrubRepairs, probeFails := satAdd m.probeFails b.sectors }) s
  let u := if 0 < imageFails then (t.emit .keep "mem" "image" []).onMem fun m =>
      { m with scrubRepairs := satInc m.scrubRepairs, probeFails := satAdd m.probeFails imageFails } else t
  (u.releaseGrant .scrub).onMem fun m => { m with scrubs := satInc m.scrubs, scrubRuns := false, scrubWaits := false, scrubAt := s.now }

/-- Whether a scrub pass has fallen due (R487): `mem.scrub_h` hours after the last one, or after READY (log entry 83). -/
def State.scrubDue (s : State) : Bool :=
  decide (max s.mem.scrubAt s.sys.readyAt + s.nat .memScrubH * 3600 * secTicks ≤ s.now)

/-- SCRUB_PASS (R487): once the interval has elapsed, the pass runs under its `mem` grant, and waits for it. -/
def execScrubPass (bad : List BadSlot) (imageFails : Nat) (s : State) : Host.Outcome State Fault Refusal :=
  .next (
    if s.serving = false ∨ s.nat .memScrubH = 0 then s
    else
      let t := if s.mem.scrubRuns = true ∨ s.mem.scrubWaits = true ∨ s.scrubDue = false then s
        else (s.onMem fun m => { m with scrubWaits := true }).file .mem 0 0 2 (10 * secTicks) .scrub
      if t.mem.scrubRuns then t.scrubNow bad imageFails else t)

end Sys2Proof.Machine
end

