-- ==== Sys2Proof/Machine/Dome.lean ====
section
/-! DEFINITION. The Dome engines (R532–R563) and blobs (R507, R516): operations of the public-key engine, digest jobs, the random
source, and their answers on a session or over MGMT. -/

namespace Sys2Proof.Machine

/-! ## MGMT records (R516, R550) -/

/-- An MGMT record (Table 15-5). -/
def mgmtRecord (kind tag b6 b7 off : Nat) (data : List Byte) : List Byte :=
  leBytes 2 kind ++ leBytes 2 data.length ++ leBytes 2 tag ++ leBytes 1 b6 ++ leBytes 1 b7 ++ leBytes 4 off ++ data

/-- A record joins what a stream sends. -/
def State.putRecord (s : State) (stream : Nat) (r : List Byte) : State :=
  s.modStream stream fun y => { y with recs := y.recs ++ [(true, r)] }

/-- A request is answered with STATUS (Table 15-5). -/
def State.status (s : State) (stream tag code : Nat) : State := s.putRecord stream (mgmtRecord 0x04FF tag 0 0 0 (leBytes 1 code))

/-- The owner's `EV dome done` after a Dome operation over MGMT, where `dome.pke.notify` is on (R550). -/
def State.domeNotice (s : State) (n tag code : Nat) : State :=
  if s.on .domeNotify n then s.emit (.turret n false) "dome" "done" [.int tag, .dec2 code] else s

/-- An operation of a turret succeeds. -/
def State.domeOk (s : State) (f : DomeFrom) (n : Nat) (fs : List Fld) : State :=
  match f with
  | .traop r => s.ok r fs
  | .mgmt st tag => (s.status st tag 0).domeNotice n tag 0

/-- An operation of a turret fails; a CRYPTO answer is counted (R563). -/
def State.domeEr (s : State) (f : DomeFrom) (n code : Nat) (detail : List Fld := []) : State :=
  let t := if code = 50 then s.modDomeTur n fun x => { x with crypto := satInc x.crypto } else s
  match f with
  | .traop r => t.er r code detail
  | .mgmt st tag => (t.status st tag code).domeNotice n tag code

/-! ## Blobs (R507) -/

/-- Whether a turret may write a blob: it has been written, or its first write fits the PROT quota. -/
def State.blobRoom (s : State) (n b : Nat) : Bool :=
  SMap.look false s.mem.blobs (32 * n + b) || decide (s.useKib n .prot + 4 ≤ s.nat .turretProtKib n)

/-- Bytes are written into a blob. -/
def State.writeBlob (s : State) (n b off : Nat) (bs : List Byte) : State :=
  { s with ram := s.ram.write (blobAddr n b off) bs }.onMem fun m => { m with blobs := SMap.put false m.blobs (32 * n + b) true }

/-- Bytes of a blob. -/
def State.readBlob (s : State) (n b off len : Nat) : List Byte := s.ram.read (blobAddr n b off) len

/-- Whether a transfer stays inside blobs 0–31 and their 4 096 bytes (R507, R540). -/
def inBlob (b off len : Int) : Bool := decide (0 ≤ b ∧ b ≤ 31 ∧ 0 ≤ off ∧ 0 ≤ len ∧ off + len ≤ 4096)

/-! ## Admission (R544, R546, R549, R558) -/

/-- Whether the engine queue has no entry for a turret (R549). -/
def State.pkeFull (s : State) (n : Nat) : Bool :=
  decide (8 ≤ s.dome.queue.length) ||
  (s.isSealed && decide (((s.domeSched.filter fun d => decide (d.turret = n)).map (·.queue)).sum ≤
    (s.dome.queue.filter fun j => decide (j.turret = n)).length))

/-- An operation joins the engine queue (R549, R558). -/
def State.pkeAccept (s : State) (f : DomeFrom) (n : Nat) (op : PkeOp) : State :=
  if s.domeNever n (s.padTicks n op) then s.domeEr f n 21 [.word "slot"]
  else if s.pkeFull n then s.domeEr f n 40
  else s.onDome fun d => { d with queue := joinPke { id := d.nextId, turret := n, op := op, src := f, filed := s.now } d.queue,
                                  nextId := d.nextId + 1 }

/-- Whether a number names a key slot. -/
def isSlot (k : Int) : Bool := decide (0 ≤ k ∧ k ≤ 7)

/-- Whether a slot may take a new key: among 3–7 and EMPTY (R544). -/
def State.slotFree (s : State) (n : Nat) (k : Int) : Bool := decide (3 ≤ k) && decide ((s.keySlot n k.toNat).kind = .empty)

/-- Sign (Table 16-5). -/
def State.pkeSign (s : State) (f : DomeFrom) (n : Nat) (k b : Int) : State :=
  if isSlot k = false ∨ inBlob b 0 0 = false then s.domeEr f n 21
  else if s.blobRoom n b.toNat = false then s.domeEr f n 21 [.word "quota"]
  else s.pkeAccept f n (.sign k.toNat b.toNat)

/-- Verify. -/
def State.pkeVerify (s : State) (f : DomeFrom) (n : Nat) (c : Curve) (b : Int) : State :=
  if inBlob b 0 0 = false then s.domeEr f n 21 else s.pkeAccept f n (.verify c b.toNat)

/-- Make a key pair. -/
def State.pkeKeygen (s : State) (f : DomeFrom) (n : Nat) (c : Curve) (k b : Int) : State :=
  if isSlot k = true ∧ s.slotFree n k = false then s.domeEr f n 23
  else if isSlot k = false ∨ inBlob b 0 0 = false then s.domeEr f n 21
  else s.pkeAccept f n (.keygen c k.toNat b.toNat)

/-- ECDH shared secret. -/
def State.pkeEcdh (s : State) (f : DomeFrom) (n : Nat) (k b : Int) (k2 : Option Int) : State :=
  if k2.any (fun q => isSlot q && !s.slotFree n q) then s.domeEr f n 23
  else if isSlot k = false ∨ inBlob b 0 0 = false ∨ k2.any (fun q => !isSlot q) = true then s.domeEr f n 21
  else if k2.isNone ∧ s.blobRoom n b.toNat = false then s.domeEr f n 21 [.word "quota"]
  else s.pkeAccept f n (.ecdh k.toNat b.toNat (k2.map Int.toNat))

/-- Public key of a slot. -/
def State.pkePublic (s : State) (f : DomeFrom) (n : Nat) (k b : Int) : State :=
  if isSlot k = false ∨ inBlob b 0 0 = false then s.domeEr f n 21 else s.pkeAccept f n (.pub k.toNat b.toNat)

/-- The turret of a command's session. -/
def ReplyTo.tur (r : ReplyTo) : Nat := r.turret.getD 0

/-- `DO dome.pke.sign`. -/
def doDomePkeSign (r : ReplyTo) (k b : Int) (s : State) : State := s.pkeSign (.traop r) r.tur k b

/-- `DO dome.pke.verify`. -/
def doDomePkeVerify (r : ReplyTo) (c : Curve) (b : Int) (s : State) : State := s.pkeVerify (.traop r) r.tur c b

/-- `DO dome.pke.keygen`. -/
def doDomePkeKeygen (r : ReplyTo) (c : Curve) (k : Int) (s : State) : State := s.pkeKeygen (.traop r) r.tur c k 0

/-- `DO dome.pke.ecdh`. -/
def doDomePkeEcdh (r : ReplyTo) (k b : Int) (k2 : Option Int) (s : State) : State := s.pkeEcdh (.traop r) r.tur k b k2

/-- `DO dome.pke.public`. -/
def doDomePkePublic (r : ReplyTo) (k : Int) (s : State) : State := s.pkePublic (.traop r) r.tur k 0

/-- `DO dome.pke.diag` (R554): in Open mode and READY the diagnostic program's signature is checked, and the program runs. -/
def doDomePkeDiag (r : ReplyTo) (b : Int) (s : State) : State :=
  if s.isSealed ∨ s.sys.state ≠ .ready then s.er r 23
  else if inBlob b 0 0 = false then s.er r 21
  else s.pkeAccept (.traop r) 0 (.diag b.toNat)

/-! ## Completion (R543–R548, R552, R554) -/

/-- Whether the engine takes a scalar: not 0, 1 or at least *n* (R546). -/
def engineScalar (c : Curve) (d : List Byte) : Bool := scalarOk c d && decide (beNat d ≠ 1)

/-- Whether a slot holds a key of an EC kind that the engine takes. -/
def KeySlot.ecOk (k : KeySlot) : Bool := decide (k.kind = .ec256 ∨ k.kind = .ec384) && engineScalar k.curve k.key

/-- The kind of an EC key of a curve. -/
def ecKind : Curve → KeyKind
  | .p256 => .ec256
  | .p384 => .ec384

/-- A job leaves the queue. -/
def State.pkeDrop (s : State) (j : PkeJob) : State := s.onDome fun d => { d with queue := d.queue.filter fun x => decide (x.id ≠ j.id) }

/-- An operation has failed: nothing is written. -/
def State.pkeFail (s : State) (j : PkeJob) : State := (s.pkeDrop j).domeEr j.src j.turret 50

/-- An operation has its result: it is answered with fields. -/
def State.pkeDone (s : State) (j : PkeJob) (fs : List Fld) : State := (s.pkeDrop j).domeOk j.src j.turret fs

/-- An operation's key goes to a slot: the `keystore` write follows, and the engine is free (R544, R552). -/
def State.pkeStore (s : State) (j : PkeJob) (e : KsEdit) (done : DoneAns) : State :=
  (s.onDome fun d => { d with queue := d.queue.map fun x => if x.id = j.id then { x with writing := true } else x }).fileWrite
    { record := .keystore, body := .none, reply := some j.src, done := done, onCommit := .ks e }

/-- Over MGMT a result goes to offset 512 of the blob; on a session it is answered. -/
def State.pkePub (s : State) (j : PkeJob) (b : Nat) (pub : List Byte) : State :=
  match j.src with
  | .traop _ => s.pkeDone j [.bytes pub]
  | .mgmt _ _ => if s.blobRoom j.turret b then (s.writeBlob j.turret b 512 pub).pkeDone j []
                 else (s.pkeDrop j).domeEr j.src j.turret 21

/-- What an operation does at its end (R543–R547); `ok` says whether the engine's own check of a signature or key pair passed,
and for a claim whether its ECDH did (R529). -/
def State.pkeResult (s : State) (j : PkeJob) (ok : Bool) : State :=
  let n := j.turret
  match j.op with
  | .sign k b =>
    let x := s.keySlot n k
    let w := curveBytes x.curve
    if s.unwrapFails then s.halt causeKeyStore
    else if x.ecOk = false ∨ s.dome.rngFault = true then s.pkeFail j
    else if ok = false then s.useDraw.halt causeSelfCheck
    else
      let sig := ecdsaSign x.curve x.key (j.msg.take w) (s.draw 32)
      (s.useDraw.writeBlob n b 512 sig).pkeDone j []
  | .verify c _ =>
    let w := curveBytes c
    let pub := sliceAt j.msg 64 (w + 1)
    let r := sliceAt j.msg 128 w
    let q := sliceAt j.msg 192 w
    if pointOk c pub ∧ engineScalar c r ∧ engineScalar c q ∧ ecdsaVerify c pub (j.msg.take w) r q then s.pkeDone j []
    else s.pkeFail j
  | .keygen c k b =>
    if s.dome.rngFault then s.pkeFail j
    else if ok = false then s.useDraw.halt causeSelfCheck
    else if s.slotFree n k = false then (s.pkeDrop j).domeEr j.src n 23
    else
      let d := keygen c (s.draw 64)
      let pub := publicKey c d
      s.useDraw.pkeStore j (.slot n k ⟨ecKind c, d⟩) (match j.src with
        | .traop _ => .bytes pub
        | .mgmt _ _ => .blob n b 512 pub)
  | .ecdh k b k2 =>
    let x := s.keySlot n k
    let w := curveBytes x.curve
    let peer := sliceAt j.msg 64 (w + 1)
    if s.unwrapFails then s.halt causeKeyStore
    else if x.ecOk = false ∨ pointOk x.curve peer = false then s.pkeFail j
    else
      let z := ecdhX x.curve x.key peer
      match k2 with
      | none => (s.writeBlob n b 512 z).pkeDone j []
      | some q => if s.slotFree n q then s.pkeStore j (.slot n q ⟨.secret, z⟩) .plain
                  else (s.pkeDrop j).domeEr j.src n 23
  | .pub k b =>
    let x := s.keySlot n k
    if s.unwrapFails then s.halt causeKeyStore
    else if x.ecOk = false then s.pkeFail j
    else s.pkePub j b (publicKey x.curve x.key)
  | .claim t key nonce =>
    if (s.getTurret t).state ≠ .created then (s.pkeDrop j).domeEr j.src n 23
    else if ok = false then s.pkeFail j
    else
      let kc := kdf (ecdhX .p384 deviceKey key) "KZ-CLAIM" (BitVec.ofNat 8 t :: nonce) 32
      s.useDigest.pkeStore j (.claim t key kc) (.nonce nonce)
  | .diag _ =>
    let len := leNat (j.msg.take 2)
    let r := sliceAt j.msg (2 + len) 48
    let q := sliceAt j.msg (50 + len) 48
    if 2 + len + 96 ≤ 4096 ∧ ecdsaVerify .p384 makerRoot (sha384 (j.msg.take (2 + len))) r q then
      let x := Config.diagResult (sliceAt j.msg 2 len)
      (s.onDome fun d => { d with microDirty := true }).pkeDone j [.hex x.1 4, .hex x.2 8]
    else s.pkeFail j

/-- PKE_OPERATION_COMPLETE (R536, R543–R548, R553): the running operation, its grant held, ends, in Sealed mode at its padded
time; the grant is released and the operation is counted. -/
def execPkeOperationComplete (found : PkeIn) (s0 : State) : Host.Outcome State Fault Refusal :=
  .next (
    match s0.dome.queue.find? fun j => j.started.isSome && j.granted && !j.writing with
    | none => s0
    | some j =>
      if s0.isSealed = true ∧ s0.now < j.started.getD 0 + s0.padTicks j.turret j.op then s0
      else
        let s := s0.usePke.findWrap j.turret found.wrap
        if j.recheck = true ∧ found.imageOk = false then s.halt causeMicrocode
        else
          ((s.releaseGrant (.pkeOp j.id)).modDomeTur j.turret fun x => { x with ops := satInc x.ops }).pkeResult j found.checkOk)

/-- An operation's `keystore` write has ended: its queue entry is free (R549). -/
def State.pkeWritten (s : State) (f : DomeFrom) : State :=
  s.onDome fun d => { d with queue := d.queue.filter fun j => !(j.writing && decide (j.src = f)) }

/-- The ledger refuses an operation's request (R548). -/
def State.pkeRefused (s : State) (id : Nat) : State :=
  match s.dome.queue.find? fun j => decide (j.id = id) with
  | none => s
  | some j => (s.pkeDrop j).domeEr j.src j.turret 41

/-- DOME_FRAME_START (R535, R559, R563): the frame that the present multiple of `dome.pke.frame_ms` begins starts with the
settings as they stand, once the frame before has ended. When frames begin after a seal, operations of a turret with no Dome slot
end `ER 23 STATE slot`. -/
def execDomeFrameStart (s : State) : Host.Outcome State Fault Refusal :=
  .next (
    let start := s.domeGrid
    if s.serving = false then s
    else if start < s.dome.frame + s.dome.frameMs * msTicks then s
    else
      let sched := (List.range 8).map fun k => DomeSlot.mk (s.nat .domeSlotTurret k) (s.nat .domeSlotMs k) (s.nat .domeSlotQueue k)
      let t := s.onDome fun d =>
        { d with part := s.isSealed, frame := start, frameMs := s.nat .domeFrameMs, sched := sched }
      let lost (n : Nat) : Bool := s.isSealed && !sched.any fun d => decide (d.turret = n) && decide (0 < d.ms)
      let u := (t.dome.queue.filter fun j => j.started.isNone && lost j.turret).foldl
        (fun u j => (u.pkeDrop j).domeEr j.src j.turret 23 [.word "slot"]) t
      (u.dome.jobs.filter fun j => j.started.isNone && lost j.turret).foldl
        (fun v j => (v.onDome fun d => { d with jobs := d.jobs.filter fun x => decide (x.id ≠ j.id) }).domeEr j.src j.turret 23
          [.word "slot"]) u)

/-! ## Digest engine (R538–R542, R557) -/

/-- Whether the key of an HMAC may be used: a slot that holds SECRET (R540). -/
def State.hmacKeyOk (s : State) (n : Nat) (a : DigAlg) (k : Option Nat) : Bool :=
  !algHmac a || (match k with
    | some k => decide ((s.keySlot n k).kind = .secret)
    | none => false)

/-- A digest (R538). -/
def State.digestOf (s : State) (n : Nat) (a : DigAlg) (k : Option Nat) (msg : List Byte) : List Byte :=
  let key := match k with
    | some k => (s.keySlot n k).key
    | none => []
  match a with
  | .sha256 => sha256 msg
  | .sha384 => sha384 msg
  | .hmac256 => hmac256 key msg
  | .hmac384 => hmac384 key msg

/-- A digest job is accepted (R540, R557, R558). -/
def State.digAccept (s : State) (f : DomeFrom) (n : Nat) (op : DigOp) : State :=
  if s.domeNever n (s.jobTicks n op) then s.domeEr f n 21 [.word "slot"]
  else s.onDome fun d => { d with jobs := joinDig { id := d.nextId, turret := n, op := op, src := f, filed := s.now } d.jobs,
                                  nextId := d.nextId + 1 }

/-- Whether an output place is inside its blob and within the quota: 0 good, 1 out of range, 2 over the quota. -/
def State.outPlace (s : State) (n : Nat) (a : DigAlg) (out : Option (Int × Int)) : Nat :=
  match out with
  | none => 0
  | some o => if inBlob o.1 o.2 (algBytes a) = false then 1 else if s.blobRoom n o.1.toNat then 0 else 2

/-- Natural numbers of an output place. -/
def outNat (out : Option (Int × Int)) : Option (Nat × Nat) := out.map fun o => (o.1.toNat, o.2.toNat)

/-- Hash blob bytes (Table 16-3). -/
def State.digHash (s : State) (f : DomeFrom) (n : Nat) (a : DigAlg) (k : Option Nat) (b off len : Int) (out : Option (Int × Int)) :
    State :=
  if inBlob b off len = false ∨ len < 1 ∨ k.any (fun q => decide (7 < q)) = true ∨ s.outPlace n a out = 1 then s.domeEr f n 21
  else if s.outPlace n a out = 2 then s.domeEr f n 21 [.word "quota"]
  else if s.hmacKeyOk n a k = false then s.domeEr f n 50
  else s.digAccept f n (.hash a k b.toNat off.toNat len.toNat (outNat out))

/-- `DO dome.dig.hash`. -/
def doDomeDigHash (r : ReplyTo) (a : DigAlg) (k : Option Nat) (b off len : Int) (out : Option (Int × Int)) (s : State) : State :=
  s.digHash (.traop r) r.tur a k b off len out

/-- The open handles of a turret. -/
def State.handlesOf (s : State) (n : Nat) : List Nat := (List.range 4).filter fun h => (s.getHandle n h).isOpen

/-- The state with one handle of a turret changed. -/
def State.setHandle (s : State) (n h : Nat) (x : Handle) : State :=
  s.modDomeTur n fun d => { d with handles := SMap.put Handle.init d.handles h x }

/-- `DO dome.dig.start` (R540, R541): the lowest free handle. -/
def doDomeDigStart (r : ReplyTo) (a : DigAlg) (k : Option Nat) (s : State) : State :=
  let n := r.tur
  if k.any fun q => decide (7 < q) then s.er r 21
  else match (List.range 4).find? fun h => !(s.getHandle n h).isOpen with
    | none => s.er r 40
    | some h =>
      if s.hmacKeyOk n a k = false then s.domeEr (.traop r) n 50
      else (s.setHandle n h { isOpen := true, alg := a, key := k, fed := [] }).ok r [.int h]

/-- Whether a handle is open. -/
def State.handleOpen (s : State) (n : Nat) (h : Int) : Bool := decide (0 ≤ h ∧ h ≤ 3) && (s.getHandle n h.toNat).isOpen

/-- `DO dome.dig.update`. -/
def doDomeDigUpdate (r : ReplyTo) (hd b off len : Int) (s : State) : State :=
  if inBlob b off len = false ∨ len < 1 then s.er r 21
  else if s.handleOpen r.tur hd = false then s.domeEr (.traop r) r.tur 50
  else s.digAccept (.traop r) r.tur (.update hd.toNat b.toNat off.toNat len.toNat)

/-- `DO dome.dig.final`. -/
def doDomeDigFinal (r : ReplyTo) (hd : Int) (out : Option (Int × Int)) (s : State) : State :=
  let n := r.tur
  let a := (s.getHandle n hd.toNat).alg
  if s.outPlace n a out = 1 then s.er r 21
  else if s.outPlace n a out = 2 then s.er r 21 [.word "quota"]
  else if s.handleOpen n hd = false then s.domeEr (.traop r) n 50
  else s.digAccept (.traop r) n (.final hd.toNat (outNat out))

/-- `DO dome.dig.drop`. -/
def doDomeDigDrop (r : ReplyTo) (hd : Int) (s : State) : State :=
  if s.handleOpen r.tur hd = false then s.domeEr (.traop r) r.tur 50
  else (s.setHandle r.tur hd.toNat Handle.init).ok r []

/-- `DO dome.dig.table` (R540, R542): at once where the table was digested on arrival, else as a job. -/
def doDomeDigTable (r : ReplyTo) (head slot : Nat) (s : State) : State :=
  let k := 4 * head + slot
  if s.nat .classTurret head slot ≠ r.tur then s.er r 30
  else if (s.getClassSlot k).arrival = some tableBytes then
    s.ok r [.bytes (sha256 (s.ram.read (stagedAddr k 0) tableBytes))]
  else s.digAccept (.traop r) r.tur (.table head slot)

/-- A digest goes to its output place, and to the answer. -/
def State.digAnswer (s : State) (f : DomeFrom) (n : Nat) (out : Option (Nat × Nat)) (d : List Byte) : State :=
  (match out with
   | some o => s.writeBlob n o.1 o.2 d
   | none => s).domeOk f n [.bytes d]

/-- Whether a digest job uses a key slot (R540): the key of an HMAC. -/
def State.jobKeyed (s : State) (n : Nat) (op : DigOp) : Bool :=
  match op with
  | .hash a _ _ _ _ _ => algHmac a
  | .final h _ => algHmac (s.getHandle n h).alg
  | .update _ _ _ _ => false | .table _ _ => false | .fill _ _ _ => false

/-- DIGEST_JOB_COMPLETE (R536, R538, R540–R542, R556): a job that has started ends and is answered, once its blocks have been
processed, and in Sealed mode 2 µs later. -/
def execDigestJobComplete (job : Nat) (s : State) : Host.Outcome State Fault Refusal :=
  .next (
    match s.dome.jobs.find? fun j => decide (j.id = job) && j.started.isSome with
    | none => s
    | some j =>
      let n := j.turret
      if s.now < j.started.getD 0 + (s.jobTicks n j.op - if s.isSealed then 0 else 2 * usTicks) then s
      else
      let t := s.useDigest.onDome fun d => { d with jobs := d.jobs.filter fun x => decide (x.id ≠ j.id) }
      if s.unwrapFails = true ∧ s.jobKeyed n j.op = true then t.halt causeKeyStore
      else
      match j.op with
        | .hash a k _ _ _ out =>
          if t.hmacKeyOk n a k then t.digAnswer j.src n out (t.digestOf n a k j.msg) else t.domeEr j.src n 50
        | .update h _ _ _ =>
          let x := t.getHandle n h
          if x.isOpen then (t.setHandle n h { x with fed := x.fed ++ j.msg }).domeOk j.src n [] else t.domeEr j.src n 50
        | .final h out =>
          let x := t.getHandle n h
          if x.isOpen ∧ t.hmacKeyOk n x.alg x.key then
            (t.setHandle n h Handle.init).digAnswer j.src n out (t.digestOf n x.alg x.key x.fed)
          else t.domeEr j.src n 50
        | .table _ _ => t.domeOk j.src n [.bytes (sha256 j.msg)]
        | .fill b off len =>
          if t.dome.rngFault then t.domeEr j.src n 50
          else (t.useDraw.writeBlob n b off (t.draw len)).domeOk j.src n [])

/-! ## Random source (R555, R556, R560) -/

/-- Random bytes into a blob (R556): at once in Open mode, as a digest job in Sealed mode. -/
def State.rngFill (s : State) (f : DomeFrom) (n : Nat) (b off len : Int) : State :=
  if inBlob b off len = false ∨ len < 1 then s.domeEr f n 21
  else if s.blobRoom n b.toNat = false then s.domeEr f n 21 [.word "quota"]
  else if s.dome.rngFault then s.domeEr f n 50
  else if s.isSealed then s.digAccept f n (.fill b.toNat off.toNat len.toNat)
  else (s.useDraw.writeBlob n b.toNat off.toNat (s.draw len.toNat)).domeOk f n []

/-- `DO dome.rng.fill`. -/
def doDomeRngFill (r : ReplyTo) (b off len : Int) (s : State) : State := s.rngFill (.traop r) r.tur b off len

/-- Whether the random source runs: from step 4 of START, not in OFF, WATCH and HALTED (R562). -/
def State.rngRuns (s : State) : Bool := s.serving || (decide (s.sys.state = .start) && decide (3 ≤ s.sys.step))

/-- RNG_RESEED (R555): after 65 536 requests or 60 s. -/
def execRngReseed (s : State) : Host.Outcome State Fault Refusal :=
  .next (
    if s.rngRuns ∧ s.dome.rngFault = false ∧ (65536 ≤ s.dome.rngReqs ∨ s.dome.reseedAt + 60 * secTicks ≤ s.now) then
      s.onDome fun d => { d with rngReqs := 0, reseedAt := s.now, reseeds := satInc d.reseeds }
    else s)

/-- RNG_HEALTH_FAIL (R560). -/
def execRngHealthFail (s : State) : Host.Outcome State Fault Refusal :=
  .next (
    if s.rngRuns ∧ s.dome.rngFault = false then
      (s.onDome fun d => { d with rngFault := true, testAt := some s.now, faults := satInc d.faults }).emit .keep "dome" "rng-fault" []
    else s)

/-- RNG_RETEST (R560): 1 s after the last failure the start-up tests are repeated; on a pass the DRBG is instantiated afresh. -/
def execRngRetest (passed : Bool) (s : State) : Host.Outcome State Fault Refusal :=
  .next (
    if s.rngRuns ∧ s.dome.rngFault ∧ s.dome.testAt.all (fun t => decide (t + secTicks ≤ s.now)) = true then
      if passed then
        (s.onDome fun d => { d with rngFault := false, rngReqs := 0, reseedAt := s.now, testAt := none }).emit .keep "dome" "rng-ok" []
      else s.onDome fun d => { d with testAt := some s.now, faults := satInc d.faults }
    else s)

/-! ## Operations and blobs over MGMT (R516, R551) -/

/-- Whether a stream carries MGMT requests: open, of type MGMT and with an owner. -/
def State.mgmtOpen (s : State) (stream : Nat) : Bool :=
  (s.getStream stream).isOpen && decide (s.nat .streamType stream = typeMgmt) && decide (s.nat .streamTurret stream < 64)

/-- BLOB_WRITE (R507, R516). -/
def execBlobWrite (stream tag blob off : Nat) (data : List Byte) (s : State) : Host.Outcome State Fault Refusal :=
  .next (
    let n := s.nat .streamTurret stream
    if s.mgmtOpen stream = false then s
    else if inBlob blob off data.length = false ∨ s.blobRoom n blob = false then s.status stream tag 21
    else (s.writeBlob n blob off data).status stream tag 0)

/-- BLOB_READ (R507, R516): BLOB-DATA and STATUS. -/
def execBlobRead (stream tag blob off len : Nat) (s : State) : Host.Outcome State Fault Refusal :=
  .next (
    let n := s.nat .streamTurret stream
    if s.mgmtOpen stream = false then s
    else if inBlob blob off len = false then s.status stream tag 21
    else (s.putRecord stream (mgmtRecord 0x0402 tag blob 0 off (s.readBlob n blob off len))).status stream tag 0)

/-- The arrival digest of a staged table (R542): contiguous from 0. -/
def arrivalNext (a : Option Nat) (off len : Nat) : Option Nat :=
  if off = 0 then some len
  else match a with
    | some x => if x = off then some (x + len) else none
    | none => none

/-- TABLE_WRITE (R370, R516, R542): table bytes are staged. -/
def execTableWrite (stream tag head slot off : Nat) (data : List Byte) (s : State) : Host.Outcome State Fault Refusal :=
  .next (
    let k := 4 * head + slot
    if s.mgmtOpen stream = false then s
    else if 1 < head ∨ 3 < slot ∨ s.nat .classTurret head slot ≠ s.nat .streamTurret stream then s.status stream tag 30
    else if tableBytes < off + data.length then s.status stream tag 21
    else
      ({ s.useDigest with ram := s.ram.write (stagedAddr k off) data }.modClassSlot k fun c =>
        { c with state := .staged, arrival := arrivalNext c.arrival off data.length }).status stream tag 0)

/-- A curve by its MGMT number (R551). -/
def curveOf : Nat → Option Curve
  | 0 => some .p256
  | 1 => some .p384
  | _ => none

/-- A digest algorithm by its MGMT number (R551). -/
def algOf : Nat → Option DigAlg
  | 0 => some .sha256
  | 1 => some .sha384
  | 2 => some .hmac256
  | 3 => some .hmac384
  | _ => none

/-- MGMT_DOME_OPERATION (R551): the operation that bytes 12 to 23 of the record carry, answered by STATUS. An operation or
algorithm that R551 does not list gives 21 (log entry 31). -/
def execMgmtDomeOperation (stream tag : Nat) (fields : List Byte) (s : State) : Host.Outcome State Fault Refusal :=
  .next (
    if s.mgmtOpen stream = false then s
    else
      let f : DomeFrom := .mgmt stream tag
      let n := s.nat .streamTurret stream
      let a := byteAt fields 1
      let k : Int := byteAt fields 2
      let b : Int := byteAt fields 3
      let k2 : Nat := byteAt fields 4
      let off : Int := leNat (sliceAt fields 6 2)
      let len : Int := leNat (sliceAt fields 8 2)
      let oo : Int := leNat (sliceAt fields 10 2)
      match byteAt fields 0, curveOf a, algOf a with
      | 1, _, _ => s.pkeSign f n k b
      | 2, some c, _ => s.pkeVerify f n c b
      | 3, some c, _ => s.pkeKeygen f n c k b
      | 4, _, _ => s.pkeEcdh f n k b (if k2 = 255 then none else some (k2 : Int))
      | 5, _, _ => s.pkePublic f n k b
      | 16, _, some g =>
        if k2 = 255 then s.domeEr f n 21
        else s.digHash f n g (if algHmac g then some k.toNat else none) b off len (some (k2, oo))
      | 17, _, _ => s.rngFill f n b off len
      | _, _, _ => s.domeEr f n 21)

/-! ## Revoke (R521, R541, R552) -/

/-- A turret's engine jobs are aborted and its handles dropped; the commands that waited are returned, and MGMT requests get
STATUS 42 where their stream still stands. -/
def State.stopDomeOf (s : State) (n : Nat) : State × List DomeFrom :=
  let mine (t : Nat) (op : PkeOp) : Bool := match op with
    | .claim k _ _ => decide (k = n)
    | .sign _ _ => decide (t = n) | .verify _ _ => decide (t = n) | .keygen _ _ _ => decide (t = n)
    | .ecdh _ _ _ => decide (t = n) | .pub _ _ => decide (t = n) | .diag _ => decide (t = n)
  let js := s.dome.queue.filter fun j => mine j.turret j.op
  let ds := s.dome.jobs.filter fun j => decide (j.turret = n)
  let t := js.foldl (fun t j => t.withdrawReq (.pkeOp j.id)) s
  let u := (t.onDome fun d => { d with queue := d.queue.filter fun j => !mine j.turret j.op,
                                       jobs := d.jobs.filter fun j => decide (j.turret ≠ n) }).modDomeTur n fun x =>
    { x with handles := [], aborts := satAdd x.aborts (js.length + ds.length) }
  (u, js.map (·.src) ++ ds.map (·.src))

end Sys2Proof.Machine
end

