-- ==== Sys2Proof/Machine/Assign.lean ====
section
/-! DEFINITION. Assignments of resources to turrets (R508–R512, Table 15-4): who may hold what, what a change of owner does, and
the assignment digest. -/

namespace Sys2Proof.Machine

/-- The settings that name a resource's one owner (Table 15-4, R563). -/
def ownerSettings : List Setting :=
  [.valveTurret, .classTurret, .fePinTurret, .seqTurret, .seqSlotTurret, .loopTurret, .streamTurret, .domeSlotTurret]

/-- The settings that give a turret an amount, a range or a share of its own (Table 15-4). -/
def shareSettings : List Setting :=
  [.turretXaLo, .turretXaHi, .turretXbLo, .turretXbHi, .turretPeakShare, .ejectQueueShare, .turretJobs, .turretProtKib,
   .turretCaptKib, .turretWorkKib]

/-- The value that an assignment write changes: the staged one of a sequencer slot, else the one in force. -/
def State.assigned (s : State) (k : Key) : Val := if k.s = .seqSlotTurret then s.stagedVal k else s.val k

/-- The turrets that gain or lose by an assignment write (R510): a share's turret, or a resource's old and new owner. The length
and the queue of a Dome slot are its turret's (R563). -/
def State.assignees (s : State) (k : Key) (v : Val) : List Nat :=
  if k.s ∈ ownerSettings then
    let a := (s.assigned k).int
    if a = v.int then [] else ([a, v.int].filter fun x => decide (0 ≤ x ∧ x < 64)).map Int.toNat
  else if k.s ∈ shareSettings then [k.i]
  else if k.s = .domeSlotMs ∨ k.s = .domeSlotQueue then [s.nat .domeSlotTurret k.i].filter fun x => decide (x < 64)
  else []

/-- Whether the state of a turret bars an assignment write (R508, R510). -/
def State.assignBar (s : State) (k : Key) (v : Val) : Bool :=
  let taker : Option Int := if k.s ∈ ownerSettings then some v.int else if k.s ∈ shareSettings then some k.i else none
  taker.any (fun x => decide (0 ≤ x ∧ x < 64) && decide ((s.getTurret x.toNat).state = .absent)) ||
  (s.isSealed && (s.assignees k v).any fun n => decide (n ≠ 0) && decide ((s.getTurret n).state = .claimed)) ||
  (decide (k.s = .streamTurret ∨ k.s = .streamType ∨ k.s = .streamRateMbps) && (s.getStream k.i).isOpen)

/-- `EV turret assign` for the turrets that gain or lose, where the write changes the value (R510). -/
def State.assignEvents (s : State) (ns : List Nat) (changed : Bool) : State :=
  if changed then ns.foldl (fun t n => t.emit (.turret n true) "turret" "assign" [.int n]) s else s

/-- Settings of an owner return to their defaults, with what was staged of them. -/
def State.toDefaults (s : State) (ks : List Key) : State :=
  (ks.foldl (fun t k => t.setVal k k.dflt) s).dropStaged fun c => ks.any fun k => decide (k.code = c)

/-- A class-table slot is emptied: its table, active and staged, and its settings. -/
def State.emptySlot (s : State) (slot : Nat) : State :=
  let t := s.toDefaults [⟨.classCoef, slot / 4, slot % 4⟩, ⟨.classBias, slot / 4, slot % 4⟩]
  { t with ram := (t.ram.clear (stagedAddr slot 0) tableBytes).clear (activeAddr slot 0) tableBytes }.modClassSlot slot
    fun _ => ClassSlot.init

/-- What a change of owner does to a resource (R462, R514): a loop's quantity becomes NONE and its other owner settings their
defaults; a stream gets a key generation of its new owner. An entry, a pin's check limits and a class-table slot start from their
defaults with nothing of the last owner's, whom R518 protects (log entry 32). -/
def State.handOver (s : State) (k : Key) (v : Val) : State :=
  if (s.val k) = v then s
  else match k.s with
    | .loopTurret =>
      ((s.toDefaults [⟨.loopEntry, k.i, 0⟩, ⟨.loopLo, k.i, 0⟩, ⟨.loopHi, k.i, 0⟩, ⟨.loopWindowMs, k.i, 0⟩, ⟨.loopFixedMa, k.i, 0⟩]).setVal
        ⟨.loopQuantity, k.i, 0⟩ (.num 0)).modLoop k.i fun c => { c with samples := [], badUntil := none }
    | .seqTurret =>
      ((s.toDefaults (seqLeaves.map fun x => ⟨x, k.i, 0⟩)).modEntry k.i fun _ => Entry.init).onFe fun f =>
        { f with nextEntries := f.nextEntries.map fun p => (p.1, p.2.filter fun q => decide (q.1.i ≠ k.i)) }
    | .fePinTurret => s.toDefaults [⟨.checkRMin, k.i, 0⟩, ⟨.checkRMax, k.i, 0⟩]
    | .classTurret => s.emptySlot (4 * k.i + k.j)
    | .streamTurret => s.modStream k.i fun y => { y with recs := [] }
    | _ => s

/-- An assignment is in force. -/
def State.assign (s : State) (k : Key) (v : Val) : State :=
  let t := (s.handOver k v).setVal k v
  if k.s = .streamTurret ∧ s.val k ≠ v then
    (if v.int < 64 then t.assignStream k.i
     else t.modStream k.i fun y => { y with assigned := false, slot0 := none, slot1 := none, key0 := [], key1 := [] })
  else t

/-- Several resources given in turn. -/
def State.assignAll (s : State) (ps : List (Key × Val)) : State := ps.foldl (fun t p => t.assign p.1 p.2) s

/-- The sum over the turrets of a setting, with one of them written. -/
def State.sumWith (s : State) (x : Setting) (n : Nat) (v : Nat) : Nat :=
  ((List.range 64).map fun m => if m = n then v else s.nat x m).sum

/-- Whether an assignment breaks a bound (R366, R399, R408, R511, Table 16-7). -/
def State.assignRange (s : State) (k : Key) (v : Val) : Bool :=
  let x := v.int.toNat
  match k.s with
  | .turretProtKib => decide (57344 < s.sumWith .turretProtKib k.i x) || decide (x < s.useKib k.i .prot)
  | .turretCaptKib => decide (262144 < s.sumWith .turretCaptKib k.i x) || decide (x < s.useKib k.i .capt)
  | .turretWorkKib => decide (1310720 < s.sumWith .turretWorkKib k.i x) || decide (x < s.useKib k.i .work)
  | .turretJobs => decide (32 < s.sumWith .turretJobs k.i x)
  | .ejectQueueShare => decide (4096 < s.sumWith .ejectQueueShare k.i x)
  | .valveTurret =>
    decide (x < 64) && decide (s.int .valveUse k.i = 1) &&
    (List.range 64).any fun m => decide (m ≠ k.i) && decide (s.int .valveUse m = 1) && decide (s.nat .valveTurret m = x)
  | .classTurret => decide (x < 64) && (List.range 4).any fun j => decide (j ≠ k.j) && decide (s.nat .classTurret k.i j = x)
  | .domeFrameMs => decide (x < ((List.range 8).map fun m => s.nat .domeSlotMs m).sum)
  | .domeSlotMs =>
    decide (s.nat .domeFrameMs < ((List.range 8).map fun m => if m = k.i then x else s.nat .domeSlotMs m).sum)
  | .domeSlotQueue => decide (8 < ((List.range 8).map fun m => if m = k.i then x else s.nat .domeSlotQueue m).sum)
  | _ => false

/-- An assignment setting is written (R508, R510, R511, R563): a sequencer slot's turret is staged (R438), the rest apply at
once. -/
def setAssignment (r : ReplyTo) (k : Key) (v : Val) (s : State) : State :=
  if s.assignBar k v then s.er r 23
  else if s.assignRange k v then s.er r 21
  else
    let ns := s.assignees k v
    let changed := decide (s.assigned k ≠ v)
    ((if k.s = .seqSlotTurret then s.stageVal k v else s.assign k v).assignEvents ns changed).ok r []

/-- Two complete ranges overlap. -/
def rangesMeet (a b : Nat × Nat) : Bool := decide (a.1 ≤ b.2) && decide (b.1 ≤ a.2)

/-- The settings of the low and the high end of a turret's range on the head of a field. -/
def xrangeEnds : Setting → Setting × Setting
  | .turretXaLo => (.turretXaLo, .turretXaHi)
  | .turretXaHi => (.turretXaLo, .turretXaHi)
  | _ => (.turretXbLo, .turretXbHi)

/-- `SET` of an x-range field (R509): a write that leaves the range complete is tested for order and overlap. -/
def setXrange (r : ReplyTo) (k : Key) (v : Val) (s : State) : State :=
  let e := xrangeEnds k.s
  let lo := if k.s = e.1 then v.int.toNat else s.nat e.1 k.i
  let hi := if k.s = e.2 then v.int.toNat else s.nat e.2 k.i
  let bad := decide (lo < 65535) && decide (hi < 65535) &&
    (decide (hi < lo) || (List.range 64).any fun m => decide (m ≠ k.i) && decide (s.nat e.1 m < 65535) && decide (s.nat e.2 m < 65535) &&
      rangesMeet (lo, hi) (s.nat e.1 m, s.nat e.2 m))
  if s.assignBar k v then s.er r 23
  else if bad then s.er r 21
  else ((s.setVal k v).assignEvents [k.i] (decide (s.val k ≠ v))).ok r []

/-- The state byte of a turret (R512). -/
def TurState.code : TurState → Nat
  | .absent => 0 | .created => 1 | .claimed => 2 | .revoked => 3

/-- The bytes under the assignment digest (R512). -/
def State.assignBytes (s : State) : List Byte :=
  let b (x : Setting) (n : Nat) (i : Nat) (j : Nat := 0) : List Byte := leBytes n (s.nat x i j)
  ((List.range 64).flatMap fun m => b .valveTurret 1 m) ++
  ((List.range 8).flatMap fun k => b .classTurret 1 (k / 4) (k % 4)) ++
  ((List.range 16).flatMap fun k => b .fePinTurret 1 k) ++
  ((List.range 32).flatMap fun e => b .seqTurret 1 e) ++
  ((List.range 16).flatMap fun k => b .seqSlotTurret 1 k ++ b .seqSlotUs 4 k) ++
  b .loopTurret 1 1 ++ b .loopTurret 1 2 ++
  ((List.range 64).flatMap fun n =>
    leBytes 1 (s.getTurret n).state.code ++ b .turretXaLo 2 n ++ b .turretXaHi 2 n ++ b .turretXbLo 2 n ++ b .turretXbHi 2 n ++
    b .turretPeakShare 2 n ++ b .ejectQueueShare 2 n ++ b .turretProtKib 4 n ++ b .turretCaptKib 4 n ++ b .turretWorkKib 4 n ++
    b .turretJobs 1 n) ++
  ((List.range 256).flatMap fun k => b .streamTurret 1 k ++ b .streamType 1 k ++ b .streamRateMbps 4 k) ++
  b .seqFrameUs 4 0 ++ b .ejectPeakBudget 2 0

/-- `turret.assign_digest` (R512). -/
def State.assignDigest (s : State) : List Byte := sha384 s.assignBytes

end Sys2Proof.Machine
end

