-- ==== Sys2Proof/Machine/Turrets.lean ====
section
/-! DEFINITION. Turrets (R496–R507, R521–R525, R590): create, claim, keys, blobs, revoke, restore, destroy, seal and unseal. -/

namespace Sys2Proof.Machine

/-- A `keystore` write that answers a command at its commit marker (R497). -/
def State.writeKeys (s : State) (r : ReplyTo) (e : KsEdit) (stubborn : Bool := false) : State :=
  s.fileWrite { record := .keystore, body := .none, reply := some (.traop r), onCommit := .ks e, stubborn := stubborn }

/-- Whether a number names a tenant turret. -/
def isTenant (n : Int) : Bool := decide (1 ≤ n ∧ n ≤ 63)

/-! ## Create and claim (R497–R500) -/

/-- `DO turret.create n` (R497). -/
def doTurretCreate (r : ReplyTo) (n : Int) (s : State) : State :=
  if s.sys.state ≠ .ready ∨ (isTenant n = true ∧ (s.getTurret n.toNat).state ≠ .absent) then s.er r 23
  else if isTenant n = false then s.er r 21
  else if s.dome.rngFault then s.er r 50
  else s.useDraw.writeKeys r (.create n.toNat (s.draw 32))

/-- The claim of a turret that has been accepted and has not yet ended. -/
def State.claimOf (s : State) (n : Nat) : Option PkeJob :=
  s.dome.queue.find? fun j => match j.op with
    | .claim k _ _ => decide (k = n)
    | .sign _ _ => false | .verify _ _ => false | .keygen _ _ _ => false | .ecdh _ _ _ => false | .pub _ _ => false | .diag _ => false

/-- Whether a turret's accepted claim stands against one made now (Table 15-10): any but a claim of the same tick by a higher
session. -/
def State.claimStands (s : State) (r : ReplyTo) (n : Nat) : Bool :=
  (s.claimOf n).any fun j => !(decide (j.filed = s.now) && j.started.isNone && decide (r.sess < j.src.rank))

/-- A claim that stands no more ends `ER 23 STATE` (Table 15-10). -/
def State.dropClaim (s : State) (n : Nat) : State :=
  match s.claimOf n with
  | none => s
  | some j => (s.pkeDrop j).domeEr j.src j.turret 23

/-- `DO turret.n.claim $key` (R499, R537, Table 15-10): the owner's key is checked, the claim nonce drawn, and the ECDH of the
claim queued for the engine, in the Keep's Dome slots. A turret whose claim another party has had accepted is refused; of two claims in
one tick the lower session's is accepted. -/
def doTurretClaim (r : ReplyTo) (n : Nat) (key : List Byte) (s : State) : State :=
  let op := PkeOp.claim n key (s.draw 16)
  if (s.getTurret n).state ≠ .created ∨ (n = 0 ∧ s.isSealed = true) ∨ s.claimStands r n = true then s.er r 23
  else if s.domeNever 0 (s.padTicks 0 op) then s.er r 23 [.word "slot"]
  else if key.length ≠ 49 ∨ pointOk .p384 key = false ∨ s.dome.rngFault = true then s.er r 50
  else (s.useDraw.dropClaim n).pkeAccept (.traop r) 0 op

/-! ## Key slots (R501–R503) -/

/-- `GET key.nonce` (R502): a new import nonce, which takes the place of the last. -/
def getKeyNonce (r : ReplyTo) (s : State) : State :=
  if s.dome.rngFault then s.er r 50
  else ((s.modSess r.sess fun y => { y with nonce := some (s.draw 16, s.now) }).useDraw).ok r [.bytes (s.draw 16)]

/-- The session's nonce while it is current (R502). -/
def State.nonceNow (s : State) (k : Nat) : Option (List Byte) :=
  (s.getSess k).nonce.bind fun p => if s.now < p.2 + challengeTicks then some p.1 else none

/-- KEY_NONCE_EXPIRY (R502): a nonce drawn 60 s ago is no longer current. -/
def execKeyNonceExpiry (sess : Nat) (s : State) : Host.Outcome State Fault Refusal :=
  .next (if (s.nonceNow sess).isSome then s else s.modSess sess fun y => { y with nonce := none })

/-- The kind that an import record's byte 5 names (Table 15-3). -/
def kindOf : Nat → Option KeyKind
  | 1 => some .login | 2 => some .stream | 3 => some .pin | 4 => some .secret | 5 => some .tower | 6 => some .ec256
  | 7 => some .ec384 | _ => none

/-- Whether a kind may stand in a slot of a turret (Table 15-2). -/
def kindFits (n slot : Nat) : KeyKind → Bool
  | .login => decide (slot = 1)
  | .stream => decide (slot = 2)
  | .pin => decide (3 ≤ slot ∧ slot ≤ 7)
  | .secret => decide (3 ≤ slot ∧ slot ≤ 7)
  | .tower => decide (3 ≤ slot ∧ slot ≤ 7 ∧ n = 0)
  | .ec256 => decide (3 ≤ slot ∧ slot ≤ 7)
  | .ec384 => decide (3 ≤ slot ∧ slot ≤ 7)
  | .empty => false
  | .owner => false

/-- Whether a length fits a kind (Table 15-3). -/
def lengthFits (len : Nat) : KeyKind → Bool
  | .login => decide (len = 32)
  | .stream => decide (len = 32)
  | .pin => decide (6 ≤ len ∧ len ≤ 10)
  | .secret => decide (len = 32 ∨ len = 48)
  | .tower => decide (len = 32)
  | .ec256 => decide (len = 32)
  | .ec384 => decide (len = 48)
  | .empty => false
  | .owner => false

/-- What an import record gives: the error code, with whether the wrapping key was derived for it (R70, R502), or the slot's new
content. -/
def State.importRecord (s : State) (n : Nat) (slot : Int) (nonce : Option (List Byte)) (m : List Byte) : Except (Nat × Bool) KeySlot :=
  let len := leNat (sliceAt m 24 2)
  match kindOf (byteAt m 5) with
  | none => .error (21, false)
  | some kind =>
    if slot < 0 ∨ kindFits n slot.toNat kind = false ∨ lengthFits len kind = false ∨ byteAt m 6 ≠ slot.toNat then .error (21, false)
    else if m.take 5 ≠ [0x4B, 0x49, 0x4D, 0x31, 0x01] ∨ nonce ≠ some (sliceAt m 8 16) then .error (50, false)
    else
      let key := kdf (s.getTurret n).kc "KZ-WRAP" (BitVec.ofNat 8 n :: sliceAt m 8 16) 32
      match gcmOpen key (sliceAt m 8 12) (m.take 28) (sliceAt m 28 (len + 16)) with
      | none => .error (50, true)
      | some k =>
        if kind = .pin ∧ ¬ (k.all fun b => decide (0x30 ≤ b.toNat ∧ b.toNat ≤ 0x39)) then .error (21, true)
        else if (kind = .ec256 ∧ scalarOk .p256 k = false) ∨ (kind = .ec384 ∧ scalarOk .p384 k = false) then .error (50, true)
        else .ok ⟨kind, k⟩

/-- `DO key.import slot b` (R502): the session's nonce is used up, and once the command is answered the blob is zeroised. -/
def doKeyImport (r : ReplyTo) (slot b : Int) (s : State) : State :=
  let n := r.tur
  let used := s.modSess r.sess fun y => { y with nonce := none }
  if (s.getTurret n).state ≠ .claimed then s.er r 23
  else if b < 0 ∨ 31 < b then s.er r 21
  else if s.unwrapFails then s.halt causeKeyStore
  else match s.importRecord n slot (s.nonceNow r.sess) (s.readBlob n b.toNat 0 4096) with
    | .error c => ((if c.2 then used.useDigest else used).er r c.1).wipe (some (n, b.toNat))
    | .ok v =>
      used.useDigest.fileWrite { record := .keystore, body := .none, reply := some (.traop r),
                                 onCommit := .ks (.slot n slot.toNat v), wipe := some (n, b.toNat) }

/-- `DO key.erase slot` (R502). -/
def doKeyErase (r : ReplyTo) (slot : Int) (s : State) : State :=
  if (s.getTurret r.tur).state ≠ .claimed then s.er r 23
  else if slot < 3 ∨ 7 < slot then s.er r 21
  else s.writeKeys r (.slot r.tur slot.toNat KeySlot.init)

/-! ## Blobs (R507) -/

/-- `DO turret.blob.b.write` (R507). -/
def doBlobWrite (r : ReplyTo) (b off : Int) (data : List Byte) (s : State) : State :=
  if inBlob b off data.length = false ∨ data = [] ∨ 64 < data.length then s.er r 21
  else if s.blobRoom r.tur b.toNat = false then s.er r 21 [.word "quota"]
  else (s.writeBlob r.tur b.toNat off.toNat data).ok r []

/-- `DO turret.blob.b.read` (R507). -/
def doBlobRead (r : ReplyTo) (b off len : Int) (s : State) : State :=
  if inBlob b off len = false ∨ len < 1 ∨ 64 < len then s.er r 21
  else s.ok r [.bytes (s.readBlob r.tur b.toNat off.toNat len.toNat)]

/-- `DO turret.blob.b.clear` (R507). -/
def doBlobClear (r : ReplyTo) (b : Int) (s : State) : State :=
  if inBlob b 0 0 = false then s.er r 21 else (s.wipe (some (r.tur, b.toNat))).ok r []

/-! ## Revoke (R521, Table 15-10) -/

/-- A command that is still in flight ends `ER 42 ABORTED`. -/
def State.abortedTo (s : State) (f : DomeFrom) : State :=
  match f with
  | .traop r => if s.inFlight r then s.er r 42 else s
  | .mgmt st tag => s.status st tag 42

/-- Each of a list of commands ends so. -/
def State.abortedAll (s : State) (fs : List DomeFrom) : State := fs.foldl State.abortedTo s

/-- The turret whose keys or state an edit changes. -/
def ksTurret : KsEdit → Option Nat
  | .none => none
  | .create n _ => some n
  | .claim n _ _ => some n
  | .slot n _ _ => some n
  | .restore n => some n
  | .seal => none
  | .unseal => none
  | .destroy n => some n

/-- Whether a write is a `keystore` write of a turret, or a write of the turret's own records, that a revoke ends. -/
def Write.ofTurret (w : Write) (n : Nat) : Bool :=
  !w.stubborn &&
  (match w.onCommit with
   | .ks e => decide (ksTurret e = some n)
   | .recipe m _ _ _ => decide (m = n)
   | .answer => false
   | .shade _ => false
   | .epoch _ _ => false)

/-- The turret's writes before their commit markers are abandoned, and their commands end `ER 42 ABORTED` (Table 15-10). -/
def State.stopWritesOf (s : State) (n : Nat) : State :=
  ((s.nv.running.toList ++ s.nv.writes).filter fun w => w.ofTurret n).foldl
    (fun t w => match w.reply with
      | none => t
      | some f => match t.stopWrite f with
        | some u => (u.pkeWritten f).abortedTo f
        | none => t) s

/-- The turret's requests and grants that are left go (Table 2-4): writes of its statistics record, and the excite grant, which
is asked for again where other turrets' entries need it. -/
def State.stopLeave (s0 : State) (n : Nat) : State :=
  let s := s0.onNv fun v => { v with writes := v.writes.filter fun w => !decide (w.record = RecName.stats n ∧ n ≠ 0) }
  let t : State := match s.nv.running with
    | some w =>
      if w.record = .stats n ∧ n ≠ 0 then
        (if w.granted then s.onNv fun v => { v with running := some { w with stopNext := true } }
         else (s.withdrawReq .flashWrite).onNv fun v => { v with running := none })
      else s
    | none => s
  let mine (q : Req) : Bool := decide (q.what = .excite ∧ q.turret = n)
  if t.ledger.reqs.any mine ∨ t.ledger.grants.any mine then
    let u := t.withdrawReq .excite
    if u.fe.commits ≠ [] ∨ wantsExcite u.comingVal then u.fileExcite 0 else u
  else t

/-- The sessions logged in to a turret are logged out (R171, R521). -/
def State.logOutTurret (s : State) (n : Nat) : State :=
  [0, 1, 2, 3].foldl (fun t k =>
    if (t.getSess k).login = some n then (t.endLogin k none).emit .keep "session" "revoked" [.int k] else t) s

/-- The streams of a turret close with reason `state`, and a next key is discarded (R521, Table 15-10). -/
def State.closeStreamsOf (s : State) (n : Nat) : State :=
  ((List.range 256).filter fun k => decide (s.nat .streamTurret k = n)).foldl
    (fun t k => (t.closeStream k .state).modStream k fun y => y.setSlot (1 - y.txPhase) none []) s

/-- What a revoke does to the resources of a turret at once (R521). -/
def State.revokeNow (s : State) (n : Nat) : State :=
  let d := s.stopDomeOf n
  let t := d.1.abortedAll d.2
  let f := (t.stopWritesOf n).stopFe n
  let u := f.1.abortedAll (f.2.map .traop)
  let tests := (u.eject.queue.filter fun a => decide (a.turret = n)).flatMap (·.replies)
  let v := (u.withdrawActs n).abortedAll (tests.map .traop)
  let w := ((v.stopMem n).logOutTurret n).stopLeave n
  (((w.onTrack fun k =>
      { k with opened := k.opened.filter fun o => decide (o.turret ≠ n), toDecide := k.toDecide.filter fun o => decide (o.turret ≠ n),
               deciding := k.deciding.filter fun o => decide (o.turret ≠ n),
               store := k.store.filter fun o => decide (o.turret ≠ n),
               talls := k.talls.filter fun o => decide (o.turret ≠ n) }).closeStreamsOf
    n).loopsOfAlarm n).grantNext

/-- `DO turret.n.revoke` (R521, R590): its effects come at acceptance; the `keystore` write that follows is never abandoned. -/
def doTurretRevoke (r : ReplyTo) (n : Int) (s : State) : State :=
  let m := n.toNat
  if isTenant n = false then s.er r 21
  else match (s.getTurret m).state with
    | .absent => s.er r 23
    | .revoked => s.ok r []
    | .created => ((s.modTurret m fun t => { t with state := .revoked }).revokeNow m).writeKeys r .none true
    | .claimed => ((s.modTurret m fun t => { t with state := .revoked }).revokeNow m).writeKeys r .none true

/-- `DO turret.n.restore` (R522). -/
def doTurretRestore (r : ReplyTo) (n : Int) (s : State) : State :=
  if s.sys.state ≠ .ready ∨ (isTenant n = true ∧ (s.getTurret n.toNat).state ≠ .revoked) then s.er r 23
  else if isTenant n = false then s.er r 21
  else s.writeKeys r (.restore n.toNat)

/-! ## Destroy (R523) -/

/-- Every assignment of a turret becomes none or 0. -/
def State.unassign (s : State) (n : Nat) : State :=
  let owned (x : Setting) (ks : List (Nat × Nat)) (none_ : Int) : List (Key × Val) :=
    (ks.filter fun p => decide (s.nat x p.1 p.2 = n)).map fun p => (⟨x, p.1, p.2⟩, .num none_)
  let line (c : Nat) : List (Nat × Nat) := (List.range c).map fun i => (i, 0)
  let gone := owned .valveTurret (line 64) 255 ++ owned .classTurret ((List.range 8).map fun k => (k / 4, k % 4)) 255 ++
    owned .fePinTurret (line 16) 255 ++ owned .seqTurret (line 32) 255 ++ owned .seqSlotTurret (line 16) 255 ++
    owned .loopTurret [(1, 0), (2, 0)] 0 ++ owned .streamTurret (line 256) 255 ++ owned .domeSlotTurret (line 8) 255
  let none16 : List (Key × Val) := [(⟨.turretXaLo, n, 0⟩, .num 65535), (⟨.turretXaHi, n, 0⟩, .num 65535),
    (⟨.turretXbLo, n, 0⟩, .num 65535), (⟨.turretXbHi, n, 0⟩, .num 65535)]
  let zero : List (Key × Val) := [.turretPeakShare, .ejectQueueShare, .turretJobs, .turretProtKib, .turretCaptKib, .turretWorkKib].map
    fun x => (⟨x, n, 0⟩, .num 0)
  let strip (p : Key × Val) : Key × Val := if p.1.s = .seqSlotTurret ∧ p.2 = .num n then (p.1, .num 255) else p
  let staged (e : Nat × Val) : Bool := (List.range 16).any fun k => decide (e.1 = Key.code ⟨.seqSlotTurret, k, 0⟩ ∧ e.2 = .num n)
  let t := s.assignAll (gone ++ none16 ++ zero)
  { t with staged := t.staged.filter fun e => !staged e }.onFe fun f => { f with nextFrame := f.nextFrame.map strip }

/-- What a destroyed turret leaves behind is gone: its own settings and rules, its counters, its blobs and the rest of its data in
DRAM, whose keys are zeroised (R472, R523). -/
def State.forget (s : State) (n : Nat) : State :=
  let t := s.toDefaults (s.ownKeys n ++ (List.range 64).map fun k => ⟨.classRule, k, n⟩)
  let mine (code : Nat) : Bool := decide (code / 2 ^ 32 % 128 = n)
  (({ t with
      ram := (Ram.clear t.ram (blobAddr n 0 0) (2 ^ 32)).filter fun (p : Nat × Byte) =>
        !(decide (2 ^ 60 ≤ p.1) && mine ((p.1 - 2 ^ 60) / 4096)),
      turrets := SMap.del t.turrets n, capture := { t.capture with recs := t.capture.recs.filter fun r => decide (r.turret ≠ n) } }.onMem
    fun m => { m with gens := m.gens.filter fun p => !mine p.1, written := m.written.filter fun p => !mine p.1,
                      blobs := m.blobs.filter fun p => decide (p.1 / 32 ≠ n),
                      stalled := m.stalled.filter fun w => decide (w.owner ≠ n) }).modStat n fun _ => TurStat.init).modPeriod n
    fun _ => Period.init

/-- `DO turret.n.destroy` (R523, R590). -/
def doTurretDestroy (r : ReplyTo) (n : Int) (s : State) : State :=
  let m := n.toNat
  if s.sys.state ≠ .ready ∨ (isTenant n = true ∧ (s.getTurret m).state = .absent) then s.er r 23
  else if isTenant n = false then s.er r 21
  else ((((s.modTurret m fun t => { t with state := .revoked }).revokeNow m).unassign m).forget m).writeKeys r (.destroy m) true

/-! ## Seal and unseal (R524, R525) -/

/-- Whether some turret with a LOOP or URGENT entry has no slot (R438, R524). -/
def State.sealSlotMissing (s : State) : Bool :=
  (List.range 32).any fun e =>
    let n := s.nat .seqTurret e
    decide (n < 64) && decide ((s.comingVal ⟨.seqEnable, e, 0⟩).int ≠ 0) &&
    (longestSlot (s.nat .seqSlotTurret ·) (s.nat .seqSlotUs ·) n).isNone

/-- Whether a seal record's magic, version, action, nonce and signature are right (Table 15-9). -/
def State.sealRecordOk (s : State) (k : Nat) (m : List Byte) : Bool :=
  decide (m.take 6 = [0x4B, 0x53, 0x4C, 0x31, 0x01, 0x01]) && decide (s.nonceNow k = some (sliceAt m 8 16)) &&
  ecdsaVerify .p384 (s.getTurret 0).owner (sha384 (m.take 72)) (sliceAt m 72 48) (sliceAt m 120 48)

/-- `DO sys.seal b` (R524): the checks in their order, and the `keystore` write with the mode Sealed. -/
def doSysSeal (r : ReplyTo) (b : Int) (s : State) : State :=
  let m := s.readBlob 0 b.toNat 0 168
  if s.sys.state ≠ .ready then s.er r 23
  else if inBlob b 0 0 = false then s.er r 21
  else if s.sealRecordOk r.sess m = false then s.er r 50
  else if sliceAt m 24 48 ≠ s.assignDigest then s.er r 23 [.word "assign"]
  else if s.sealSlotMissing then s.er r 23 [.word "slot"]
  else s.writeKeys r .seal

/-- A `keystore` write that would bring a key of a turret into a slot, and whose marker's program is already granted, completes for the
record and its command alone (R11, R184; log entry 64). -/
def State.unkeyRunning (s : State) (n : Nat) : State :=
  s.onNv fun v => { v with running := v.running.map fun w => match w.onCommit with
    | .ks (.slot m _ _) => if m = n then { w with onCommit := .answer } else w
    | .ks (.claim m _ _) => if m = n then { w with onCommit := .answer } else w
    | .ks .none => w | .ks (.create _ _) => w | .ks (.restore _) => w | .ks .seal => w | .ks .unseal => w | .ks (.destroy _) => w
    | .answer => w | .shade _ => w | .recipe _ _ _ _ => w | .epoch _ _ => w }

/-- A tenant turret's slots and salt are erased and its logins end (R525). Whatever still holds or would bring back a key of it
ends first (R11; log entry 64): its engine jobs, its `keystore` writes, and the keys of its streams, which close. -/
def State.strip (s : State) (n : Nat) : State :=
  let d := s.stopDomeOf n
  let t := ((((d.1.abortedAll d.2).stopWritesOf n).unkeyRunning n).stopLeave n).closeStreamsOf n
  let u := ((List.range 256).filter fun k => decide (s.nat .streamTurret k = n)).foldl
    (fun t k => t.modStream k fun y => (y.setSlot 0 none []).setSlot 1 none []) t
  (u.modTurret n fun _ => { state := .created }).logOutTurret n

/-- `DO sys.unseal` (R525, R590): the tenants' keys are erased, which makes the mode Open, and the `keystore` write follows. -/
def doSysUnseal (r : ReplyTo) (s : State) : State :=
  if s.sys.state ≠ .ready then s.er r 23
  else
    let t := (s.presentTurrets.filter fun n => decide (n ≠ 0)).foldl State.strip s
    ((t.onSys fun y => { y with mode := .opn }).onDome fun d => { d with part := false }).writeKeys r .unseal true

end Sys2Proof.Machine
end

