-- ==== Sys2Proof/Machine/Start.lean ====
section
/-! DEFINITION. From power-up to READY (R102–R104, R112–R116, R129, R137, R146, R192, R530, R562), the supplies (R24–R28, R50–R55,
R82), WATCH (R105, R118–R121) and the change to RUN (R109). -/

namespace Sys2Proof.Machine

/-! ## A fresh start (R112, R129, R192) -/

/-- A head at the start of START: its supply follows HPRES (R33, R63); its counters count from the removal of L24. -/
def Head.fresh (h : Head) (now : Tick) : Head :=
  let g : Head := { Head.init with present := h.present, saturated := h.saturated }
  if h.present then g.identify now else g

/-- The Lantern before a plan is committed; its counters count from the removal of L24. -/
def Lantern.fresh (l : Lantern) : Lantern :=
  { darkLines := l.darkLines, lateStarts := l.lateStarts,
    chans := (l.chans.map fun c => (c.1, { Chan.init with compliance := c.2.compliance })).filter fun c => decide (c.2 ≠ Chan.init) }

/-- Both loops from the moment L24 is valid (R63): each carries 3.6 mA. -/
def startLoops : SMap CLoop := [(1, { off := false }), (2, { off := false })]

/-- Everything that START sets up afresh: what remains is the supply, the count, the records, the chain port, the module's place
in its tower, and the counters that count from the removal of L24 (R63, R129, R192, R198, R238, R493). P24 that is still low is told
again once READY is reached (log entry 85). -/
def State.freshStart (s : State) : State :=
  { s with
    pwr := { s.pwr with vcom := [], shortReturn := [], csout := true, p24Told := false, hotWaits := [] },
    isl := {}, ledger := {}, nv := { recs := s.nv.recs },
    sess := SMap.put Sess.init [] 0 { Sess.init with isOpen := true, out := (s.getSess 0).out, ready := (s.getSess 0).ready }, jobs := [],
    tower := { addr := s.tower.addr, spire := s.tower.spire, promoted := s.tower.promoted, dup := s.tower.dup },
    ports := s.ports.map fun q => (q.1, q.2.quiet), streams := [], feed := {}, seam := {}, capture := {},
    heads := s.heads.map fun h => (h.1, h.2.fresh s.now), lantern := s.lantern.fresh, shadeTab := [], track := {}, eject := {}, fe := {},
    loops := startLoops, mem := { lastFault := s.mem.lastFault, flashGens := s.mem.flashGens }, turrets := [], dome := {},
    cfg := [], staged := [], ram := s.ram.flash }

/-- Without L24 each loop conducts at most 1.0 mA (R64). -/
def State.loopsOff (s : State) : State :=
  [1, 2].foldl (fun t n => t.modLoop n fun c => { c with off := true }) s

/-- With L24 back, each loop carries again what it is commanded to, unless its check has failed (R467). -/
def State.loopsOn (s : State) : State :=
  [1, 2].foldl (fun t n => t.modLoop n fun c => { c with off := decide (c.state = .fault) }) s

/-- L24_VALID (R24, R51, R54, R65, R102, R112, R146): from OFF the count starts at 0 and START runs; a module that is HALTED on
its hold-up stays so. -/
def execL24Valid (above19 p24Low : Bool) (s : State) : Host.Outcome State Fault Refusal :=
  .next (
    if s.sys.state = .off then
      let y := s.sys
      (s.freshStart.onPwr fun p =>
        { p with l24Valid := true, above19 := above19, l24High := false, holdCharged := false, logicOn := true, lostAt := none,
                 p24Low := p24Low, p24Absent := p24Low && Config.p24Absent y.free, csout := true }).onSys fun _ =>
        { state := .start, mode := y.mode, step := 2, draws := y.draws, free := y.free + (if p24Low then 1 else 0) }
    else (s.onPwr fun p =>
      { p with l24Valid := true, above19 := above19, logicOn := true, lostAt := none, csout := true }).loopsOn)

/-- L24_LOST (R24, R54, R123): the power-loss sequence, which is a halt with cause 05. -/
def execL24Lost (s : State) : Host.Outcome State Fault Refusal :=
  .next (
    if s.sys.state = .off then s
    else (s.onPwr fun p => { p with l24Valid := false, above19 := false, l24High := false, holdCharged := false,
                                    csout := false, lostAt := p.lostAt.orElse fun _ => some s.now }).halt causePower)

/-- A turret's PIN lockout as the time that remains, which neither ends nor starts again at a power cycle (R176). -/
def Turret.lockLeft (t : Turret) (now : Tick) : Turret :=
  { t with pinLock := match t.pinLock with
      | some e => if now < e then some (e - now) else none
      | none => none }

/-- A slot of `keystore` with its lockouts as the time that remains. -/
def Slot.lockLeft (x : Slot) (now : Tick) : Slot :=
  match x.body with
  | .keystore k => { x with body := .keystore { k with turrets := k.turrets.map fun t => (t.1, t.2.lockLeft now) } }
  | .none => x | .epoch _ => x | .shade _ => x | .config _ _ => x | .recipe _ => x | .stats _ => x

/-- L24_REMOVED (R7, R55, R64, R130, R238): OFF. The address, the halt, the lockouts and all that no record holds are lost; the
mode, the records, the mesh and what the cables show remain. -/
def execL24Removed (s : State) : Host.Outcome State Fault Refusal :=
  .next (
    let t := (s.flashCollapse).modRec .keystore fun r => { r with a := r.a.lockLeft s.now, b := r.b.lockLeft s.now }
    { State.reset with
      pwr := { meshBroken := s.pwr.meshBroken, csin := s.pwr.csin },
      sys := { mode := s.sys.mode, draws := s.sys.draws, free := s.sys.free },
      nv := { recs := t.nv.recs },
      mem := { flashGens := s.mem.flashGens }, ram := s.ram.flash,
      heads := (s.heads.map fun h => (h.1, { Head.init with present := h.2.present })).filter fun h => h.2.present,
      turrets := [], pending := s.pending })

/-- HOLDUP_CHARGED (R26). -/
def execHoldupCharged (s : State) : Host.Outcome State Fault Refusal :=
  .next (if s.pwr.l24Valid then (s.onPwr fun p => { p with holdCharged := true }).grantNext else s)

/-- Whether the hold-up may have run out: L24 was lost at least 12 ms ago (R25). -/
def State.holdupOver (s : State) : Bool :=
  match s.pwr.lostAt with
  | some t => decide (t + 12 * msTicks ≤ s.now)
  | none => false

/-- HOLDUP_EXHAUSTED (R25, R64, R140): the logic stops, and with it a flash operation that still ran; the loops carry nothing
more. -/
def execHoldupExhausted (s : State) : Host.Outcome State Fault Refusal :=
  .next (
    if s.pwr.l24Valid = false ∧ s.pwr.logicOn = true ∧ s.holdupOver = true then
      ((s.onPwr fun p => { p with logicOn := false }).flashCollapse).loopsOff
    else s)

/-- L24_FLASH_LEVEL (R82, R139): above 19.0 V flash requests that were held may be granted. -/
def execL24FlashLevel (above19 : Bool) (s : State) : Host.Outcome State Fault Refusal :=
  .next (
    if s.pwr.l24Valid then
      let t := s.onPwr fun p => { p with above19 := above19 }
      if above19 then t.grantNext else t
    else s)

/-- L24_HIGH (R50). -/
def execL24High (s : State) : Host.Outcome State Fault Refusal :=
  .next (if s.pwr.l24Valid then (s.onPwr fun p => { p with l24High := true }).emit .keep "pwr" "l24-high" [] else s)

/-- P24 counts as low (R51): grants stop. The event comes at once where the module serves, and else once READY is reached. -/
def State.p24Falls (s : State) : State :=
  if s.pwr.p24Low then s
  else
    let t := (s.onPwr fun p => { p with p24Low := true, p24Absent := Config.p24Absent s.sys.free }).useFree.setVcom
    if s.serving then (t.onPwr fun p => { p with p24Told := true }).emit .keep "pwr" "p24-low" [] else t

/-- P24_LOW (R51). -/
def execP24Low (s : State) : Host.Outcome State Fault Refusal := .next s.p24Falls

/-- P24_OK (R51): grants resume, and the event follows where the loss was told. -/
def execP24Ok (s : State) : Host.Outcome State Fault Refusal :=
  .next (
    if s.pwr.p24Low = true ∧ s.pwr.p24Open = false then
      let t := (s.onPwr fun p => { p with p24Low := false, p24Told := false, p24Absent := false }).setVcom
      (if s.pwr.p24Told then t.emit .keep "pwr" "p24-ok" [] else t).grantNext
    else s)

/-- P24_HIGH (R52): above 33.0 V the input switch opens, and P24 counts as absent. -/
def execP24High (above33 : Bool) (s : State) : Host.Outcome State Fault Refusal :=
  .next (
    let t := (s.onPwr fun p => { p with p24High := true }).emit .keep "pwr" "p24-high" []
    if above33 then ((t.onPwr fun p => { p with p24Open := true }).setVcom).p24Falls else t)

/-- P24_OVERVOLTAGE_CLEAR (R52): the input switch closes again. -/
def execP24OvervoltageClear (s : State) : Host.Outcome State Fault Refusal :=
  .next ((s.onPwr fun p => { p with p24High := false, p24Open := false }).setVcom)

/-- TAMPER_MESH_BREAK (R27, R28): the break stays; with L24 valid the module halts. -/
def execTamperMeshBreak (s : State) : Host.Outcome State Fault Refusal :=
  .next (
    let t := s.onPwr fun p => { p with meshBroken := true }
    if s.pwr.l24Valid then t.halt causeTamper else t)

/-- JUNCTION_READING (R571, R583): in WATCH the events wait for the return to READY. -/
def execJunctionReading (milliC : Int) (s : State) : Host.Outcome State Fault Refusal :=
  .next (
    if s.sys.state = .off ∨ s.pwr.logicOn = false then s
    else
      let watch := decide (s.sys.state = .watch)
      let t := s.onPwr fun p => { p with junction := milliC }
      let u := if 115000 < milliC ∧ s.pwr.hot = false then
          let v := t.onPwr fun p => { p with hot := true }
          if watch then v.onPwr fun p => { p with hotWaits := p.hotWaits ++ [true] } else v.emit .keep "sys" "hot" []
        else if milliC < 110000 ∧ s.pwr.hot = true then
          let v := t.onPwr fun p => { p with hot := false }
          if watch then v.onPwr fun p => { p with hotWaits := p.hotWaits ++ [false] } else v.emit .keep "sys" "hot-ok" []
        else t
      if 125000 < milliC then u.halt causeHot else u)

/-! ## Steps 3 to 13 (R112–R116) -/

/-- REFERENCE_STABLE (R113): I27 takes over the count as it stands. -/
def execReferenceStable (s : State) : Host.Outcome State Fault Refusal :=
  .next (if s.sys.state = .start ∧ s.sys.step = 2 then s.onSys fun y => { y with refOn := true, step := 3 } else s)

/-- The tag that a configuration body has now (R506): one while turret 0 is CLAIMED, and none before. -/
def State.configTagNow (s : State) (vals : SMap Val) : Option (List Byte) :=
  if (s.getTurret 0).state = .claimed then some (configTag (s.getTurret 0).kc vals) else none

/-- A slot of `config` under R506: it is valid only with the tag that its body has now. -/
def State.tagChecked (s : State) (x : Slot) : Slot :=
  match x.body with
  | .config vals tag => if tag = s.configTagNow vals then x else { x with bad := true }
  | .none => x | .epoch _ => x | .keystore _ => x | .shade _ => x | .recipe _ => x | .stats _ => x

/-- The record of a turret's counters puts them in force (R392). -/
def State.restoreStats (s : State) (n : Nat) : State :=
  match (s.getRec (.stats n)).body with
  | .stats t => s.modStat n fun _ => t
  | .none => s | .epoch _ => s | .keystore _ => s | .shade _ => s | .config _ _ => s | .recipe _ => s

/-- Step 9 (R145, R504, R530): the key store gives the mode and the turrets. -/
def State.useKeyStore (s : State) : State :=
  match (s.getRec .keystore).body with
  | .keystore k => { s with turrets := k.turrets }.onSys fun y => { y with mode := k.mode }
  | .none => s | .epoch _ => s | .shade _ => s | .config _ _ => s | .recipe _ => s | .stats _ => s

/-- Step 10 (R136, R137, R192, R436, R506): the Keep's configuration layer; a Sealed module is partitioned. -/
def State.useConfig (s : State) : State :=
  let t := s.modRec .config fun r => { r with a := s.tagChecked r.a, b := s.tagChecked r.b }.start
  match (t.getRec .config).body with
  | .config vals _ => let u := { t with cfg := vals }; if u.isSealed then u.setVal ⟨.seqPartitioned, 0, 0⟩ (.num 1) else u
  | .none => t | .epoch _ => t | .keystore _ => t | .shade _ => t | .recipe _ => t | .stats _ => t

/-- Step 11 (R137, R391, R392): the shading, recipe and statistics records. -/
def State.useRecords (s : State) : State :=
  let ns := s.presentTurrets
  let t := ns.foldl (fun t n => (t.modRec (.recipe n) Rec.start).modRec (.stats n) Rec.start)
    ((s.modRec .shade Rec.start).modRec .epoch Rec.start)
  let u := match (t.getRec .shade).body with
    | .shade tab => { t with shadeTab := tab }
    | .none => t | .epoch _ => t | .keystore _ => t | .config _ _ => t | .recipe _ => t | .stats _ => t
  ns.foldl (fun u n => (u.restoreRecipe n).restoreStats n) u

/-- The module halts during START at a step (Table 3-3). -/
def State.haltAt (s : State) (step cause : Nat) : State := (s.onSys fun y => { y with step := step - 1 }).halt cause

/-- Steps 4 and 5 (R472, R494, R562): the DRBG is instantiated, and the DRAM keys are drawn. -/
def State.drawKeys (s : State) : State :=
  ((s.onMem fun m => { m with keyBase := s.sys.draws + 1 }).useDraw).onDome fun d =>
    { d with rngReqs := 0, reseedAt := s.now, testAt := none }

/-- Whether the start-up tests of the entropy source may run again: 10 ms after they failed (R562). -/
def State.testsMay (s : State) : Bool := s.dome.testAt.all fun t => decide (t + 10 * msTicks ≤ s.now)

/-- Whether every wrapped key of `keystore` unwraps at step 9 (R504). -/
def bootUnwraps (boot : BootIn) : Bool := boot.wraps.all fun w => unwraps w.1 (some w.2)

/-- RNG_STARTUP_TEST (R27, R112, R115, R562; steps 4 to 11): with the entropy tests passed, the checks of START follow one
another, and each may halt the module; else the tests are repeated. -/
def execRngStartupTest (boot : BootIn) (s : State) : Host.Outcome State Fault Refusal :=
  .next (
    if s.sys.state ≠ .start ∨ ¬ (s.sys.step = 3 ∨ (s.sys.step = 2 ∧ s.sys.refOn = true)) then s
    else if s.pwr.meshBroken then s.haltAt 4 causeTamper
    else if s.testsMay = false then s
    else if boot.entropyOk = false then s.onDome fun d => { d with testAt := some s.now }
    else
      let t := (s.drawKeys.countProbes boot.imageFails).markBad boot.badSlots
      if boot.firmwareOk = false then t.haltAt 7 causeFirmware
      else if boot.microcodeOk = false then t.haltAt 8 causeMicrocode
      else if boot.knownAnswerOk = false then t.haltAt 8 causeSelfCheck
      else
        let u := (t.modRec .keystore Rec.start).probed [.keystore]
        if (u.getRec .keystore).cur.isNone ∨ bootUnwraps boot = false ∨ boot.certKey ≠ publicKey .p384 deviceKey then
          (u.onNv fun n => { n with unwrapBad := !bootUnwraps boot }).haltAt 9 causeKeyStore
        else
          let v := (u.useKeyStore.useConfig).useRecords
          (v.probed (v.records.erase .keystore)).onSys fun y => { y with step := 11 })

/-- The committed epoch. -/
def State.heldEpoch (s : State) : Option Nat :=
  match (s.getRec .epoch).body with
  | .epoch n => some n
  | .none => none | .keystore _ => none | .shade _ => none | .config _ _ => none | .recipe _ => none | .stats _ => none

/-- EPOCH_COMMIT (R114, R115; step 12): with the hold-up charged, the boot epoch is incremented and its record write filed, which
is never abandoned; `tests` is what step 13 finds once the marker is complete. -/
def execEpochCommit (tests : SelfTest) (s : State) : Host.Outcome State Fault Refusal :=
  .next (
    if s.sys.state ≠ .start ∨ s.sys.step ≠ 11 ∨ s.pwr.holdCharged = false ∨ s.nvPendingCount ≠ 0 then s
    else match s.heldEpoch with
      | none => s.haltAt 12 causeKeyStore
      | some n =>
        if 0xFFFFFF ≤ n then s.haltAt 12 causeKeyStore
        else s.fileWrite { record := .epoch, body := .epoch (n + 1), reply := none, onCommit := .epoch (n + 1) tests, stubborn := true })

/-- The valve tests of R421: each valve with a use other than OFF is OPEN below 80 mA and SHORT above 3.0 A. -/
def State.testValves (s : State) (xs : List (Nat × Nat)) : State :=
  let judge (t : State) (mm : Nat) (l : Latch) (w : String) : State :=
    (t.modValve mm fun v => { v with state := l.rest, latch := l }).emit .keep "valve" (two mm) [.word w]
  (xs.filter fun x => decide (x.1 < 64 ∧ s.int .valveUse x.1 ≠ 2)).foldl (fun t x =>
    if x.2 < 80 then judge t x.1 .opn "open" else if 3000 < x.2 then judge t x.1 .short "short" else t) s

/-- The Lantern tests of R363: each channel that the plan uses in any phase, by a pulse of 10 µs. -/
def State.testLantern (s : State) (xs : List (Nat × Nat)) : State :=
  (xs.filter fun x => decide (x.1 ∈ s.stagedPlan.channels) && lowPulse 10000000 x.2).foldl (fun t x =>
    (t.modChan x.1 fun y => { y with state := .disabled }).emit .keep "lantern" (toString x.1) [.word "open"]) s

/-- The front-end tests of R450, judged as Table 12-5 judges a check. -/
def State.testFe (s : State) (t : SelfTest) : State :=
  let gainOk := (List.range 9).all fun k => (t.gain[k]?).any fun m => (s.checkResult .gain k m).2
  let a := if gainOk ∧ (s.checkResult .bias 0 t.bias).2 = true then s
    else (s.onFe fun f => { f with fault := true }).emit .keep "fe" "fault" []
  let b := if (s.checkResult .exc 0 t.exc).2 then a else (a.onFe fun f => { f with excFault := true }).emit .keep "fe" "exc-fault" []
  (t.badPins.filter fun k => decide (k < 16)).foldl (fun u k =>
    (u.modPin k fun p => { p with state := .disabled }).pinEvent k "disabled") b

/-- The loop check of R467: a reading of the 3.6 mA outside 3.55–3.65 mA disables the stage. -/
def State.testLoop (s : State) (n : Nat) (reading6 : Option Int) : State :=
  match reading6 with
  | none => (s.modLoop n fun c => { c with headroom := false, told := true, faults := satInc c.faults }).loopEvent
      n "headroom"
  | some x =>
    if 3550000 ≤ x ∧ x ≤ 3650000 then s
    else (s.modLoop n fun c => { c with state := .fault, off := true }).loopEvent n "fault"

/-- The commit marker of the epoch is complete (R114, R116, R306, R364): step 12 has ended, the ports may beacon, the heads are
identified, the IR port starts (R223), and the self-tests of step 13 disable what fails. -/
def State.epochCommitted (s : State) (n : Nat) (t : SelfTest) : State :=
  (((((((s.onSys fun y => { y with epoch := n, step := 12 }).modSess 1 fun y =>
      { y with isOpen := true, lastActive := s.now }).identifyHeads).testValves t.valves).testLantern
    t.lantern).testFe t).testLoop 1 t.loop1).testLoop 2 t.loop2

/-! ## READY (R103, R110, R112, R335, R364, R452, R514) -/

/-- A low power rail that has not been told of is told. -/
def State.tellP24 (s : State) : State :=
  if s.pwr.p24Low ∧ s.pwr.p24Told = false then (s.onPwr fun p => { p with p24Told := true }).emit .keep "pwr" "p24-low" [] else s

/-- The events that START has kept for READY (R51, R137, R143). -/
def State.startEvents (s : State) : State :=
  let t := s.records.foldl (fun t n =>
    let r := t.getRec n
    let u := if r.lost then t.emit (recAud n) "nv" "lost" [recFld n] else t
    if r.damaged then u.emit (recAud n) "nv" "slot" [recFld n] else u) s
  t.tellP24

/-- Generation 0 of the epoch is installed for every assigned stream (R514). -/
def State.installStreams (s : State) : State :=
  ((List.range 256).filter fun k => decide (s.nat .streamTurret k < 64)).foldl State.assignStream s

/-- Whether a present head's identity is still being read, which step 13 completes first (R112). -/
def State.identifying (s : State) : Bool :=
  [0, 1].any fun x => decide ((s.getHead x).state = .ident) && (s.getHead x).present

/-- START_COMPLETE (step 14 of Table 3-2). `sys.start_ms` is the time that START took (log entry 107). -/
def execStartComplete (s : State) : Host.Outcome State Fault Refusal :=
  .next (
    if s.sys.state ≠ .start ∨ s.sys.step ≠ 12 ∨ s.identifying = true then s
    else
      let a := ((s.onSys fun y =>
        { y with step := 14, readyAt := s.now, startMs := min ((s.now - y.startTick) / msTicks) 65535 }).onIsl fun i =>
        { i with gate := s.nat .islandGate }).onNv fun n => { n with ckLast := s.now }
      let b := [0, 1].foldl (fun t k => t.modSess k fun y => { y with isOpen := true, lastActive := s.now }) a
      let c := (((b.enter .ready).setVcom).holdCoils.commitPlanAtStart.readyExcite).onFe fun f => { f with checkAt := s.now }
      let d := c.installStreams.onDome fun m =>
        { m with part := c.isSealed, frame := c.domeGrid, frameMs := c.nat .domeFrameMs,
                 sched := (List.range 8).map fun k => ⟨c.nat .domeSlotTurret k, c.nat .domeSlotMs k, c.nat .domeSlotQueue k⟩ }
      d.startEvents.grantNext)

/-! ## WATCH (R101, R105, R118–R121) -/

/-- Whether a Spire knows a downstream module to be in RUN or PAUSED (R242). -/
def State.sortsBelow (s : State) : Bool := s.tower.spire && !s.tower.active.isEmpty

/-- `DO sys.watch` (R118, R242): it is answered on acceptance; entry follows once what runs has finished. -/
def doSysWatch (r : ReplyTo) (s : State) : State :=
  let jobs := s.liveJobs.filter fun j => !(decide (j.sess = r.sess) && decide (some j.tag = r.tag))
  if s.sys.state ≠ .ready ∨ jobs ≠ [] ∨ ¬ (s.serial.fmt.baud ≤ 460800 ∨ s.pwr.csin = false) ∨ s.sortsBelow = true then s.er r 23
  else (s.onSys fun y => { y with watchEntry := true }).ok r []

/-- Whether what WATCH entry waits for has ended: writes, memory passes, and the engines' work (R118, Table 14-6). -/
def State.watchMay (s : State) : Bool :=
  s.sys.watchEntry && decide (s.sys.state = .ready) && decide (s.nvPendingCount = 0) && s.nv.erasing.isNone && s.mem.rekey.isEmpty &&
      !s.mem.scrubRuns &&
  s.dome.queue.isEmpty && s.dome.jobs.isEmpty && s.eject.queue.isEmpty

/-- WATCH_ENTRY_COMPLETE (R105, R119, R306): the outputs go to their WATCH states, grants and reservations are released, and every
island but I00 stops. -/
def execWatchEntryComplete (s : State) : Host.Outcome State Fault Refusal :=
  .next (
    if s.watchMay = false then s
    else
      let a := (s.openStreams.foldl (fun t n => t.shutStream n true) s).calibLosesHeads.loopsWatch.deEnergise
      let b := [0, 1].foldl (fun t p => t.modPort p Port.quiet) a
      let c := [0, 1].foldl (fun t x => t.modHead x fun h => { h with state := .absent, v5 := 0, v12 := false }) b
      { c with
        pwr := { c.pwr with vcom := [] },
        lantern := { c.lantern with on := 0, cur := none, prev := none, waits := [], pulseAt := none, slot := none },
        feed := { c.feed with speed := 0, cmd := {} },
        fe := { c.fe with pass := none, urgents := [], checks := [], reads := [], slot := none, excWanted := false, begun := false },
        mem := { c.mem with scrubWaits := false },
        ledger := c.ledger.clear s.now,
        serial := { c.serial with repeating := true, woke := [], wokeBusy := [] },
        sys := { c.sys with state := .watch, watchEntry := false, refOn := false, crystal := 0 } })

/-- Every stream's keys derived again for the generations its slots hold (R121). -/
def State.rederive (s : State) : State :=
  let key (n : Nat) (g : Option Nat) : List Byte := match g with
    | some g => s.deriveKey n g
    | none => []
  { s with streams := s.streams.map fun (p : Nat × Stream) =>
      (p.1, { p.2 with key0 := key p.1 p.2.slot0, key1 := key p.1 p.2.slot1 }) }

/-- The lantern's reservation is restored where its plan still fits (R121, R364). -/
def State.wakePlan (s : State) : State :=
  match s.lantern.planNext with
  | some p => if s.standingFits (some p.reserve) s.ledger.stepper then s.onLedger fun l => { l with strobe := some p.reserve } else s
  | none => s

/-- What the junction had to tell in WATCH is told (R571, R583). -/
def State.tellHot (s : State) : State :=
  s.pwr.hotWaits.foldl (fun t b => t.emit .keep "sys" (if b then "hot" else "hot-ok") []) (s.onPwr fun p => { p with hotWaits := [] })

/-- Checkpoints that fell due in WATCH are filed. -/
def State.dueCheckpoints (s : State) : State :=
  if s.nv.ckDue then (s.onNv fun n => { n with ckDue := false }).fileCheckpoints else s

/-- The return to READY from WATCH (R105, R120, R121, R306, R335, R364, R465, R514, R562): the stepper's reservation is restored
first, then the plan's; the heads are identified and the loops' windows start again; stream keys are derived again; what waited is
told. -/
def State.wakeUp (s : State) (src : SerialPort) : State :=
  let a := (s.onSys fun y => { y with waking := none, refOn := true, osc48 := false }).enter .ready
  let b := (a.setVcom).holdCoils.wakePlan
  let d := ((b.identifyHeads).loopsWake.onFe fun f => { f with loops := [] }).onDome fun m => { m with rngReqs := 0, reseedAt := s.now }
  let h := d.rederive.tellHot.readyExcite.tellP24.dueCheckpoints
  h.emit .keep "sys" "wake" [.word (match src with
    | .chain => "chain"
    | .ir => "ir")]

/-! ## RUN, stop, halt and restart (R109, R111, R122, R126–R129) -/

/-- Whether an address is that of a SECTION module of the tower, this module included, as the tower has announced (R246). -/
def State.knowsSection (s : State) (a : Nat) : Bool :=
  decide (a ≠ 0) &&
  (if a = s.tower.addr then decide (s.int .towerRole = 0) else decide (SMap.look 0 s.tower.roles a = 1))

/-- Whether a turret has an x-range on a head, and no class-table slot there (R366). -/
def State.slotless (s : State) (x n : Nat) : Bool := (s.xrange x n).isSome && (s.slotOf x n).isNone

/-- What stands against `DO sys.run` (R109, R246, R339, R366, R380, R515). -/
def State.runBar (s : State) : Bool :=
  let heads := s.configuredHeads
  let partner := s.nat .towerPartner
  decide (s.sys.state ≠ .ready) ||
  heads.any (fun x => decide ((s.getHead x).state ≠ .ready ∧ (s.getHead x).state ≠ .active)) ||
  s.lantern.planNext.isNone ||
  ((decide (s.int .towerRole = 1) || decide (partner ≠ 0)) && !s.knowsSection partner) ||
  ((decide (s.int .towerRole = 1) || s.awaitsViews) && s.towerRoot.isNone) ||
  heads.any (fun x => (List.range 64).any (s.slotless x)) ||
  (if s.int .trackGeometry = 0 then s.configured 1 else !(s.configured 0 && s.configured 1)) ||
  (s.stepperMode && s.gated 16)

/-- Whether a change to RUN starts the roll. -/
def State.rollStarts (s : State) : Bool := decide (s.int .feedTarget ≠ 0 ∧ s.feed.pauses = 0)

/-- `DO sys.run` (R108–R110, R321, R339, R392): configured heads become ACTIVE, nothing is being tracked, and the roll starts
unless a pause reason is held (Table 8-5). -/
def doSysRun (r : ReplyTo) (s : State) : State :=
  if s.runBar then s.er r 23
  else if s.coilsFree && !s.stepperFits && (s.rollStarts || decide (s.int .feedHoldCurrent ≠ 0)) then
    (s.countRefused .stepper).er r 41
  else
    let a := s.configuredHeads.foldl (fun t x => t.modHead x fun h => { h with state := .active, planes := [] }) s.calibLosesHeads
    let b := ((a.onTrack fun t => { t with opened := [], talls := [], store := [], images := [] }).onSys fun y =>
      { y with watchEntry := false }).holdCoils
    let c := (b.enter .run).onFeed fun f =>
      { f with cmd := {}, ramping := false, steadyAt := if b.stepperMode ∨ f.pauses ≠ 0 then none else some s.now }
    (if c.feed.pauses = 0 then c.startRamp else c).ok r []

/-- `DO sys.stop` (R111, Table 3-7): pause reason STOP; it is answered on entry to READY. -/
def doSysStop (r : ReplyTo) (s : State) : State :=
  if s.sorting = false then s.er r 23
  else if s.sys.stopReply.isSome then s.er r 40
  else (s.onSys fun y => { y with stopReply := some r }).setPause pauseStop

/-- `DO sys.halt` (R122). -/
def doSysHalt (_ : ReplyTo) (s : State) : State := s.halt causeCommand

/-- `SHOW sys.halt` (R126): what was latched, and a fresh challenge in place of the last. -/
def doShowSysHalt (r : ReplyTo) (s : State) : State :=
  match s.sys.halt with
  | none => s.er r 23
  | some h =>
    let c := s.drawChallenge
    ((s.onSys fun y => { y with halt := y.halt.map fun h => { h with challenge := some c } }).useDraw).okLines r
      [[.word "sys.halt", .dec2 h.cause, .hex h.tick 16, .hex h.mask 4, .hex c 16]]

/-- Whether a halt's cause may be restarted now (Table 3-4). -/
def State.restartable (s : State) (cause : Nat) : Bool :=
  if cause = causeKeyStore then false
  else if cause = causePower then s.pwr.l24Valid
  else if cause = causeHot then decide (s.pwr.junction < 110000)
  else true

/-- The Keep's login key as the `keystore` record holds it; none where its slot fails in probe mode (R128). -/
def State.storedLogin (s : State) : Option KeySlot :=
  let r := s.getRec .keystore
  match r.cur with
  | none => none
  | some b => if (r.slot b).valid then
      (match (r.slot b).body with
       | .keystore k => some (SMap.look KeySlot.init (SMap.look Turret.init k.turrets 0).slots 1)
       | .none => none | .epoch _ => none | .shade _ => none | .config _ _ => none | .recipe _ => none | .stats _ => none)
    else none

/-- A restart is accepted (R129): the halt record is kept as `sys.last_halt`, and START runs from step 3. -/
def State.restart (s : State) : State :=
  s.freshStart.onSys fun y =>
    { state := .start, mode := y.mode, tick := y.tick, refOn := true, step := 2, startTick := y.tick,
      lastHalt := y.halt.map fun h => (h.cause, h.tick, h.mask), restarts := satInc y.restarts, draws := y.draws, free := y.free }

/-- What the restart check finds of the chosen `keystore` slot and of the unwrap (R128). -/
def State.restartFinds (s : State) (x : RestartIn) : State :=
  let t := s.findWrap 0 x.wrap
  match (s.getRec .keystore).cur with
  | some b => if x.sectors = 0 ∧ x.digestOk = true then t else t.markBad [⟨.keystore, b, x.sectors⟩]
  | none => t

/-- The chosen slot of `keystore` is read in probe mode (R128, R483). -/
def State.probeKeystore (s : State) : State :=
  let r := s.getRec .keystore
  match r.cur with
  | some b => s.countProbes (r.slot b).fails
  | none => s

/-- `DO sys.restart response` (R127–R129, Table 3-7). -/
def doSysRestart (r : ReplyTo) (x : RestartIn) (s : State) : State :=
  match s.sys.halt with
  | none => s.er r 23
  | some h =>
    let used0 := s.onSys fun y => { y with halt := y.halt.map fun h => { h with challenge := none } }
    let used := (used0.restartFinds x).probeKeystore
    let no60 (t : State) : State := t.er r 60 [.dec2 h.cause]
    match s.sys.restartLock.filter fun e => decide (s.now < e) with
    | some e => s.er r 32 [.int (s.secsTo e)]
    | none =>
      if s.nv.idle = false then no60 used0
      else if s.restartable h.cause = false then no60 s
      else if used.unwrapFails then used.er r 50
      else match used.storedLogin with
        | none => used.er r 50
        | some key =>
          let good : Bool := match h.challenge, x.response with
            | some c, some a => decide (key.kind = .login) && decide (a = loginHmac key.key c 0 0)
            | _, _ => false
          if good then (used.ok r []).restart
          else
            let n := s.sys.restartFails + 1
            (used.onSys fun y => { y with restartFails := if n < 5 then n else 0,
                                          restartLock := if n < 5 then none else some (s.now + lockTicks) }).er r 31

/-! ## Islands (R68, R70, R98, R101) -/

/-- The islands that the Keep may gate, as a mask (Table 2-1). -/
abbrev gateable : Nat := 2 ^ 7 + 2 ^ 8 + 2 ^ 9 + 2 ^ 10 + 2 ^ 16 + 2 ^ 17 + 2 ^ 18 + 2 ^ 21 + 2 ^ 24

/-- Whether a mask gates an island that the configuration uses (R68; log entry 34). -/
def State.gateUsed (s : State) (m : Nat) : Bool :=
  (m.testBit 7 && s.configured 0) || (m.testBit 8 && s.configured 1) ||
  (m.testBit 16 && s.stepperMode && decide (s.int .feedTarget ≠ 0)) ||
  (m.testBit 17 && ((List.range 32).any fun e => decide ((s.comingVal ⟨.seqEnable, e, 0⟩).int ≠ 0))) ||
  (m.testBit 21 && s.on .linkEnable 1)

/-- Whether a mask gates what the Keep may not gate, or breaks a pairing (Table 2-1). -/
def gateWrong (m : Nat) : Bool :=
  decide (m &&& gateable ≠ m) || decide (m.testBit 7 ≠ m.testBit 9) || decide (m.testBit 8 ≠ m.testBit 10) ||
  decide (m.testBit 17 ≠ m.testBit 18)

/-- `SET island.gate` (R68): applied at once, in READY. -/
def setIslandGate (r : ReplyTo) (k : Key) (v : Val) (s : State) : State :=
  let m := v.int.toNat
  if s.sys.state ≠ .ready ∨ s.gateUsed m = true then s.er r 23
  else if gateWrong m then s.er r 21
  else ((s.setVal k v).onIsl fun i => { i with gate := m }).ok r []

/-- ISLAND_AUTO_GATE (R70): an island that has had no work for 1 ms gates itself. -/
def execIslandAutoGate (isl : Nat) (s : State) : Host.Outcome State Fault Refusal :=
  .next (
    if s.on .islandAutoGate = false ∨ s.serving = false then s
    else if s.now < (if isl = 5 then s.isl.busy05 else s.isl.busy06) + msTicks then s
    else if isl = 5 ∧ s.dome.jobs.any (fun j => j.started.isSome) = false then s.onIsl fun i => { i with auto05 := true }
    else if isl = 6 ∧ s.dome.queue.any (fun j => j.started.isSome && !j.writing) = false then s.onIsl fun i => { i with auto06 := true }
    else s)

/-- The bound of an open handshake or a documented wait that opened at a tick (Table 2-5). -/
def WaitKind.bound (w : WaitKind) (openedAt : Tick) : Tick :=
  match w with
  | .handshake => openedAt + msTicks
  | .ledgerGrant deadline => deadline + 100 * usTicks
  | .flashErase => openedAt + 10 * msTicks
  | .flashProgram => openedAt + 2 * msTicks
  | .publicKey => openedAt + 20 * msTicks
  | .dramInit => openedAt + 5 * msTicks

/-- Whether a handshake or wait that opened at a tick has passed its bound (R98, R561): of the public-key engine, the operation
that runs has, from its start. -/
def State.waitOver (s : State) (w : WaitKind) (openedAt : Tick) : Bool :=
  match w with
  | .publicKey => s.dome.queue.any fun j => !j.writing && j.started.any fun t => decide (WaitKind.bound w t < s.now)
  | .handshake => decide (WaitKind.bound w openedAt < s.now)
  | .ledgerGrant _ => decide (WaitKind.bound w openedAt < s.now)
  | .flashErase => decide (WaitKind.bound w openedAt < s.now)
  | .flashProgram => decide (WaitKind.bound w openedAt < s.now)
  | .dramInit => decide (WaitKind.bound w openedAt < s.now)

/-- HANDSHAKE_WATCHDOG (R98, R101): a handshake or wait that has passed its bound halts the module, except in WATCH. -/
def execHandshakeWatchdog (wait : WaitKind) (openedAt : Tick) (s : State) : Host.Outcome State Fault Refusal :=
  .next (if s.sys.state ≠ .watch ∧ s.pwr.logicOn = true ∧ s.waitOver wait openedAt = true then s.halt causeWatchdog else s)

end Sys2Proof.Machine
end

