-- ==== Sys2Proof/Machine/NvRows.lean ====
section
/-! DEFINITION. The journal's commands (R131–R134, R588): the steps of a record write, its commit and what takes effect then, the
deadline of the ledger's requests (R79), and the Keep's configuration record (R506). -/

namespace Sys2Proof.Machine

/-! ## Commit (R132, R356, R370, R434, R497) -/

/-- A slot whose keys are gone reads as invalid (R472). -/
def Slot.unreadable (x : Slot) : Slot := if x.stage = .erased then x else { x with bad := true, seq := none }

/-- A record whose keys are gone: nothing of it can be read, and its default applies. -/
def Rec.unreadable (r : Rec) : Rec := { Rec.init with a := r.a.unreadable, b := r.b.unreadable }

/-- The recipe and statistics records of turrets are unreadable at once (R472), and both slots of each wait for their erase, which
is a ledger request of its own (R133, R523, R525; log entry 33). -/
def State.eraseRecords (s : State) (ns : List Nat) : State :=
  let recs := ns.flatMap fun n => [RecName.recipe n, RecName.stats n]
  let t := recs.foldl (fun t r => t.modRec r Rec.unreadable) s
  let due := (recs.flatMap fun r => [(r, false), (r, true)]).filter fun p => decide (((t.getRec p.1).slot p.2).stage ≠ .erased)
  t.onNv fun n => { n with erases := n.erases ++ due.filter fun p => decide (p ∉ n.erases) }

/-- Maker-service diagnostics end (R524). -/
def State.endDiag (s : State) : State :=
  let js := s.dome.queue.filter fun j => match j.op with
    | .diag _ => true
    | .sign _ _ => false | .verify _ _ => false | .keygen _ _ _ => false | .ecdh _ _ _ => false | .pub _ _ => false
    | .claim _ _ _ => false
  js.foldl (fun t j => ((t.withdrawReq (.pkeOp j.id)).pkeDrop j).abortedTo j.src) s

/-- A committed edit of the key store takes effect (R497, R524). -/
def State.applyEdit (s : State) (e : KsEdit) : State :=
  let t := { s with turrets := e.apply s.turrets }.onSys fun y => { y with mode := e.mode s.sys.mode }
  match e with
  | .seal => ((t.onFe fun f => { f with partNext := true }).endDiag).onDome fun d =>
    { d with frame := s.domeGrid, frameMs := s.nat .domeFrameMs }
  | .none => t | .create _ _ => t | .claim _ _ _ => t | .slot _ _ _ => t | .restore _ => t | .unseal => t | .destroy _ => t

/-- What follows the answer of a command whose edit has committed (R499, R523–R525). -/
def State.afterEdit (s : State) (e : KsEdit) : State :=
  match e with
  | .claim n _ _ => s.useDigest.emit .keep "turret" "claimed" [.int n]
  | .destroy n => (s.emit .keep "turret" "destroyed" [.int n]).eraseRecords [n]
  | .seal => s.emit .all "sys" "mode" [.word "SEALED"]
  | .unseal => (s.emit .all "sys" "mode" [.word "OPEN"]).eraseRecords ((List.range 63).map (· + 1))
  | .none => s | .create _ _ => s | .slot _ _ _ => s | .restore _ => s

/-- What a write was made for takes effect at its commit marker. -/
def State.takeEffect (s : State) (w : Write) : State :=
  match w.onCommit with
  | .answer => s
  | .ks e => s.applyEdit e
  | .shade tab => s.useShade tab
  | .recipe n classes entries frame =>
    match bodyRecipe w.body with
    | none => s
    | some r =>
      let t := if classes then s.commitClasses n r else s
      if entries then t.commitEntries n r frame else t
  | .epoch n tests => s.epochCommitted n tests

/-- The turret that an engine job which wrote `keystore` belongs to. -/
def State.writerOf (s : State) (f : DomeFrom) : Nat :=
  match s.dome.queue.find? fun j => j.writing && decide (j.src = f) with
  | some j => j.turret
  | none => 0

/-- The command that caused a write is answered at its commit. -/
def State.answerWrite (s : State) (w : Write) : State :=
  match w.reply with
  | none => s
  | some f =>
    let n := s.writerOf f
    let t := match w.done with
      | .plain => s.domeOk f n []
      | .num k => s.domeOk f n [.int k]
      | .nonce bs => s.domeOk f n [.groups bs]
      | .bytes bs => s.domeOk f n [.bytes bs]
      | .blob m b off bs => if s.blobRoom m b then (s.writeBlob m b off bs).domeOk f n [] else s.domeEr f n 21
      | .none => s
    (t.wipe w.wipe).pkeWritten f

/-- A write commits: the record uses its new slot, what it was made for takes effect, and its command is answered (R132). -/
def State.commitWrite (s : State) (w : Write) : State :=
  let t := ((s.modRec w.record Rec.committed).takeEffect w).answerWrite w
  match w.onCommit with
  | .ks e => t.afterEdit e
  | .answer => t
  | .shade _ => t
  | .recipe _ _ _ _ => t
  | .epoch _ _ => t

/-- The running write goes on to a step, whose operation is asked for; none remains to be answered after its commit. -/
def State.nextStep (s : State) (w : Write) : State :=
  (s.onNv fun n => { n with running := some { w with granted := false } }).fileFlash

/-- The running write has ended. -/
def State.endWrite (s : State) : State := s.onNv fun n => { n with running := none }

/-- A granted erase or page program of a write has completed (R132). In HALTED it changes the flash and nothing else: the next
START resolves the write (R128, R142). The digest of a body passes through I05 (R70, R132). -/
def State.flashDone (s : State) (w : Write) : State :=
  let had := (s.getRec w.record).cur.isSome
  let f := (s.releaseGrant .flashWrite).modRec w.record w.flashEffect
  let t := if w.step = 2 then f.useDigest else f
  if s.sys.state = .halted then t.endWrite
  else if w.step = 4 then
    let u := (t.endWrite.commitWrite w)
    if had ∧ w.stopNext = false then u.nextStep { w with step := 5, reply := none, onCommit := .answer, wipe := none, stubborn := false }
    else u
  else if 5 ≤ w.step then
    t.endWrite
  else if w.stopNext then t.endWrite
  else if w.step = 2 ∧ 1 < w.pages then t.nextStep { w with pages := w.pages - 1 }
  else t.nextStep { w with step := w.step + 1 }

/-- A granted erase outside a record write has completed (R133, R135). -/
def State.eraseDone (s : State) (e : Erase) : State :=
  ((s.releaseGrant .flashErase).modRec e.record fun r => r.setSlot e.slot Slot.init).onNv fun n =>
    { n with erasing := none, erases := n.erases.filter fun p => decide (p ≠ (e.record, e.slot)) }

/-- FLASH_OP_COMPLETE (R132, R133): the granted operation of the running write, or the granted erase, completes; in HALTED no
further one starts (R123). -/
def execFlashOpComplete (s : State) : Host.Outcome State Fault Refusal :=
  .next (
    if s.pwr.logicOn = false then s
    else
      let t := match s.nv.running with
        | some w => if w.granted then s.flashDone w else s
        | none => s
      match s.nv.erasing with
      | some e => if e.granted then t.eraseDone e else t
      | none => t)

/-! ## Refusals (R79, R134) -/

/-- A request is filed again with the same terms. -/
def State.refile (s : State) (q : Req) : State := s.file q.cls q.turret q.peak q.prio (q.deadline - q.filed) q.what

/-- `EV ledger refused` (R79). -/
def State.refusedEvent (s : State) (c : Cls) : State := s.emit .keep "ledger" "refused" [.word c.word]

/-- The running write's request is refused (R134): the write of the epoch, and one that is never abandoned, files it again at once
(R114, R590); another write is abandoned where it stands. -/
def State.flashRefused (s : State) : State :=
  match s.nv.running with
  | none => s
  | some w =>
    if w.stubborn ∨ w.record = .epoch then s.fileFlash
    else
      let t := s.endWrite
      match w.reply with
      | some f => (((t.domeEr f (s.writerOf f) 41).wipe w.wipe).pkeWritten f).settleExcite
      | none => t.refusedEvent .flash

/-- The request of an erase is refused (R79): housekeeping asks again later, and a slot still to be erased waits behind the
others. -/
def State.eraseRefused (s : State) : State :=
  let t := match s.nv.erasing with
    | some e => s.onNv fun n =>
      let p := (e.record, e.slot)
      { n with erasing := none, erases := (n.erases.filter fun q => decide (q ≠ p)) ++ n.erases.filter fun q => decide (q = p) }
    | none => s
  t.refusedEvent .flash

/-- What the refusal of a request means to whoever filed it (R79, Table 2-3). -/
def State.refuse (s : State) (q : Req) : State :=
  let t := s.dropRefused q
  match q.what with
  | .accel _ => t.onFeed fun f => { f with leave := satInc f.leave }
  | .flashWrite => t.flashRefused
  | .flashErase => t.eraseRefused
  | .pkeOp id => t.pkeRefused id
  | .train _ => t.refile q
  | .rekey _ _ => t.refile q
  | .scrub => t.refile q
  | .excite => if t.fe.commits = [] then (t.refusedEvent .excite).exciteRefused else t.exciteRefused

/-- LEDGER_DEADLINE (R79, Table 2-4): the first request to fall due is refused once its deadline has passed; room that appears in the
tick of the deadline still lets it be granted. -/
def execLedgerDeadline (s : State) : Host.Outcome State Fault Refusal :=
  .next (
    match s.firstDue with
    | none => s
    | some q => if q.overdue s.now then (s.refuse q).grantNext else s)

/-! ## The configuration record (R463, R506, R563) -/

/-- Whether a setting, by the code of one of its instances, belongs to the Keep's configuration layer: what only the Keep writes,
and the sessions' own settings; the chain format is not kept (R198). -/
def inConfig (code : Nat) : Bool :=
  match Setting.table[code / 65536]? with
  | none => false
  | some (x, i) =>
    (decide (i.wr = .keep) || decide (x = .sessEvents)) &&
    !(decide (x = .chainBaud) || decide (x = .chainData) || decide (x = .chainParity) || decide (x = .chainStop))

/-- `DO nv.save` (R131, R506): the configuration layer goes to its record, with a tag while turret 0 is CLAIMED. -/
def doNvSave (r : ReplyTo) (s : State) : State :=
  let vals := s.cfg.filter fun p => inConfig p.1
  s.fileWrite { record := .config, reply := some (.traop r), body := .config vals (s.configTagNow vals) }

/-- `SET nv.checkpoint_s` (R588): the next checkpoint falls due the new interval after the start of the last, or at once. -/
def setNvCheckpoint (r : ReplyTo) (k : Key) (v : Val) (s : State) : State :=
  let t := s.setVal k v
  (if t.nv.ckLast + v.int.toNat * secTicks ≤ t.now then t.fileCheckpoints else t).ok r []

end Sys2Proof.Machine
end

