-- ==== Sys2Proof/Machine/Parse.lean ====
section
/-! DEFINITION. The grammar of Traop (R149–R154, R158, R589): from the characters of one line to its address, tag, check and
command. -/

namespace Sys2Proof

/-! ## Characters and numbers -/

/-- Tabs and spaces are whitespace (R150). -/
def isBlank (c : Char) : Bool := decide (c = ' ') || decide (c = '\t')

/-- The characters a line may contain (R150). -/
def lineChar (c : Char) : Bool := (decide (' ' ≤ c) && decide (c ≤ '~')) || decide (c = '\t')

/-- The value of a decimal digit. -/
def digitVal (c : Char) : Option Nat := if '0' ≤ c ∧ c ≤ '9' then some (c.toNat - 48) else none

/-- The value of a hex digit in either case. -/
def hexVal (c : Char) : Option Nat :=
  if '0' ≤ c ∧ c ≤ '9' then some (c.toNat - 48)
  else if 'A' ≤ c ∧ c ≤ 'F' then some (c.toNat - 55)
  else if 'a' ≤ c ∧ c ≤ 'f' then some (c.toNat - 87)
  else none

/-- The number that digits of a base spell, most significant first. -/
def digitsVal (base : Nat) (f : Char → Option Nat) : Nat → List Char → Option Nat
  | a, [] => some a
  | a, c :: cs => match f c with
    | some d => digitsVal base f (a * base + d) cs
    | none => none

/-- A run of at least one and at most `most` decimal digits. -/
def decRun (most : Nat) (cs : List Char) : Option Nat :=
  if cs = [] ∨ most < cs.length then none else digitsVal 10 digitVal 0 cs

/-- A run of at least one and at most `most` hex digits. -/
def hexRun (most : Nat) (cs : List Char) : Option Nat :=
  if cs = [] ∨ most < cs.length then none else digitsVal 16 hexVal 0 cs

/-- An integer (Table 4-2): an optional `-` and 1–20 decimal digits, or `0x` and 1–16 hex digits. -/
def intForm (cs : List Char) : Option Int :=
  match cs with
  | '0' :: 'x' :: hs => (hexRun 16 hs).map fun n => (n : Int)
  | '-' :: ds => (decRun 20 ds).map fun n => -(n : Int)
  | ds => (decRun 20 ds).map fun n => (n : Int)

/-- A fixed-point value in millionths (Table 4-2): digits, optionally `.` and 1–6 digits. -/
def fixAbs (cs : List Char) : Option Nat :=
  let whole := cs.takeWhile fun c => decide (c ≠ '.')
  match cs.drop whole.length with
  | [] => (digitsVal 10 digitVal 0 whole).bind fun n => if whole = [] then none else some (n * 1000000)
  | _ :: frac =>
    match (if whole = [] then none else digitsVal 10 digitVal 0 whole), decRun 6 frac with
    | some n, some f => some (n * 1000000 + f * 10 ^ (6 - frac.length))
    | _, _ => none

/-- A fixed-point argument in millionths, rounded to its setting's resolution, halves away from zero (R589). -/
def fixForm (res : Nat) (cs : List Char) : Option Int :=
  let v : Option Int := match cs with
    | '-' :: ds => (fixAbs ds).map fun n => -(n : Int)
    | ds => (fixAbs ds).map fun n => (n : Int)
  v.map fun x => roundDiv x res * res

/-- Bytes that an even number of hex digits spell, first byte first. -/
def hexBytes : List Char → Option (List Byte)
  | [] => some []
  | a :: b :: cs => match hexVal a, hexVal b, hexBytes cs with
    | some x, some y, some bs => some (BitVec.ofNat 8 (x * 16 + y) :: bs)
    | _, _, _ => none
  | [_] => none

/-- A Bytes argument (Table 4-2): `$` and 2–128 hex digits, an even number. -/
def bytesForm (cs : List Char) : Option (List Byte) :=
  match cs with
  | '$' :: hs => if 2 ≤ hs.length ∧ hs.length ≤ 128 then hexBytes hs else none
  | _ => none

/-- A String argument (Table 4-2), as the tokens give it: quoted. -/
def strForm (cs : List Char) : Option (List Char) :=
  match cs with
  | '"' :: rest =>
    let body := rest.dropLast
    if rest.getLast? = some '"' ∧ body.length ≤ 64 ∧ body.all (fun c => lineChar c && decide (c ≠ '\t')) then some body else none
  | _ => none

/-- A word in upper case. -/
def upper (cs : List Char) : List Char := cs.map Char.toUpper

/-- Whether a token is a keyword, in any mix of cases (R151). -/
def isWord (cs : List Char) (w : String) : Bool := decide (upper cs = (w.toList).map Char.toUpper)

/-- The place of a word in an enumeration, in either case. -/
def enumForm (words : List String) (cs : List Char) : Option Nat :=
  let i := (words.takeWhile fun w => !isWord cs w).length
  if i < words.length then some i else none

/-- An argument of a setting by its type; none where it has the wrong form (R153). A record is never written. -/
def Ty.form (t : Ty) (cs : List Char) : Option Val :=
  match t with
  | .int _ => (intForm cs).map .num
  | .mask _ _ => (intForm cs).map .num
  | .fix _ res _ => (fixForm res cs).map .num
  | .steps n span _ => (fixForm 1 cs).map fun x => .num (roundDiv (x * n) span)
  | .bool =>
    if isWord cs "on" ∨ cs = ['1'] then some (.num 1) else if isWord cs "off" ∨ cs = ['0'] then some (.num 0) else none
  | .enum words => (enumForm words cs).map fun n => .num n
  | .str _ _ => (strForm cs).map .text
  | .bytes _ => (bytesForm cs).map .bytes
  | .tick => (intForm cs).map .num
  | .record => some (.num 0)
  | .action => none

/-- Whether a number lies in one of some ranges; no ranges bound nothing. -/
def inRanges (rs : List (Int × Int)) (v : Int) : Bool := rs.isEmpty || rs.any fun r => decide (r.1 ≤ v) && decide (v ≤ r.2)

/-- Whether a stored value is of a type's kind (R153); a switch is 0 or 1 and a word one of its list. -/
def Ty.kindOk (t : Ty) (v : Val) : Bool :=
  match t, v with
  | .int _, .num _ => true
  | .mask _ _, .num _ => true
  | .fix _ _ _, .num _ => true
  | .steps _ _ _, .num _ => true
  | .bool, .num n => decide (n = 0 ∨ n = 1)
  | .enum ws, .num n => decide (0 ≤ n ∧ n < ws.length)
  | .str _ _, .text _ => true
  | .bytes _, .bytes _ => true
  | .tick, .num _ => true
  | .record, _ => true
  | _, _ => false

/-- Whether a value of the right kind lies in its table's range (R153). -/
def Ty.rangeOk (t : Ty) (v : Val) : Bool :=
  match t, v with
  | .int rs, .num n => inRanges rs n
  | .mask lo hi, .num n => decide (lo ≤ n ∧ n ≤ hi)
  | .fix rs _ _, .num n => inRanges rs n
  | .steps m _ _, .num n => decide (0 ≤ n ∧ n ≤ m)
  | .str lo hi, .text cs => decide (lo ≤ cs.length ∧ cs.length ≤ hi)
  | .bytes n, .bytes bs => decide (bs.length = n)
  | _, _ => true

/-! ## Paths (R151, R152, R584) -/

/-- The characters of a path. -/
def pathChar (c : Char) : Bool :=
  (decide ('a' ≤ c) && decide (c ≤ 'z')) || (decide ('0' ≤ c) && decide (c ≤ '9')) || decide (c = '_') || decide (c = '.')

/-- A list cut at every `.`. -/
def cutDots : List Char → List (List Char)
  | [] => [[]]
  | '.' :: cs => [] :: cutDots cs
  | c :: cs => match cutDots cs with
    | [] => [[c]]
    | w :: ws => (c :: w) :: ws

/-- A segment of a path: a run of digits is a number, whose leading zeros do not count (R152). -/
def segOf (cs : List Char) : PSeg :=
  match digitsVal 10 digitVal 0 cs with
  | some n => .n n
  | none => .w (String.ofList cs)

/-- A path of 1–64 characters, without an empty segment (Table 4-1). -/
def pathForm (cs : List Char) : Option Path :=
  let segs := cutDots cs
  if 1 ≤ cs.length ∧ cs.length ≤ 64 ∧ cs.all pathChar ∧ segs.all (fun x => decide (x ≠ [])) then some (segs.map segOf) else none

/-- The values of an index that counts from 0. -/
def Ix.count : Ix → Nat
  | .island => 28 | .turret => 64 | .sess => 4 | .phase => 6 | .chan => 6 | .slot4 => 4 | .pin => 16 | .slot8 => 8
  | .rule => 64 | .valve => 64 | .entry => 32 | .blob => 32 | .stream => 256 | .loop => 2 | .head => 2 | .port => 2
  | .record => 132 | .cls => 8

/-- The words of the records that are no turret's (Table 3-6). -/
def plainRecords : List String := ["epoch", "keystore", "shade", "config"]

/-- The name column of Table 2-3, in its order. -/
def classWords : List String := ["valve", "strobe", "stepper", "pke", "flash", "train", "excite", "mem"]

/-- The place of a string in a list, or none. -/
def placeIn (ws : List String) (w : String) : Option Nat :=
  let i := (ws.takeWhile fun x => decide (x ≠ w)).length
  if i < ws.length then some i else none

/-- Every value of an index, as a key holds it. -/
def Ix.all (k : Ix) : List Nat :=
  match k with
  | .loop => [1, 2]
  | .record => [0, 1, 2, 3] ++ (List.range 64).map (· + 16) ++ (List.range 64).map (· + 128)
  | k => List.range k.count

/-- The indices that the front of a path may name, each with what is left of the path; an exhausted path names them all. -/
def ixFrom (k : Ix) (p : Path) : List (Nat × Path) :=
  match k, p with
  | k, [] => k.all.map fun i => (i, [])
  | .head, .w w :: rest => ((placeIn ["a", "b"] w).map fun i => (i, rest)).toList
  | .port, .w w :: rest => ((placeIn ["u", "d"] w).map fun i => (i, rest)).toList
  | .cls, .w w :: rest => ((placeIn classWords w).map fun i => (i, rest)).toList
  | .record, .w w :: rest =>
    if w = "recipe" then
      match rest with
      | [] => (List.range 64).map fun n => (16 + n, [])
      | .n n :: more => if n < 64 then [(16 + n, more)] else []
      | .w _ :: _ => []
    else if w = "stats" then
      match rest with
      | [] => (List.range 64).map fun n => (128 + n, [])
      | .n n :: more => if n < 64 then [(128 + n, more)] else []
      | .w _ :: _ => []
    else ((placeIn plainRecords w).map fun i => (i, rest)).toList
  | .loop, .n n :: rest => if n = 1 ∨ n = 2 then [(n, rest)] else []
  | .blob, .n n :: rest => [(n, rest)]
  | _, .w _ :: _ => []
  | k, .n n :: rest => if n < k.count then [(n, rest)] else []

/-- The index values of the instances of a pattern at or under a path. -/
def instances : List Seg → Path → List (List Nat)
  | [], [] => [[]]
  | [], _ :: _ => []
  | .w _ :: ss, [] => instances ss []
  | .w x :: ss, .w y :: p => if x = y then instances ss p else []
  | .w _ :: _, .n _ :: _ => []
  | .ix k :: ss, p => (ixFrom k p).flatMap fun e => (instances ss e.2).map (e.1 :: ·)

/-- The indices by which a path names exactly a pattern. -/
def matchPath : List Seg → Path → Option (List Nat)
  | [], [] => some []
  | [], _ :: _ => none
  | _ :: _, [] => none
  | .w x :: ss, .w y :: p => if x = y then matchPath ss p else none
  | .w _ :: _, .n _ :: _ => none
  | .ix k :: ss, q :: p =>
    match ixFrom k (q :: p) with
    | [(i, rest)] => (matchPath ss rest).map (i :: ·)
    | _ => none

/-- A key from a setting and its indices. -/
def keyOf (x : Setting) (is : List Nat) : Key := ⟨x, is.getD 0 0, is.getD 1 0⟩

/-- The leaf setting or action that a path names among the rows of a table. -/
def leafIn : List (Setting × Info) → Path → Option Key
  | [], _ => none
  | (x, i) :: rows, p => match matchPath i.path p with
    | some is => some (keyOf x is)
    | none => leafIn rows p

/-- The leaf setting or action that a path names (R584). -/
def leafOf (p : Path) : Option Key := leafIn Setting.table p

/-- The leaf settings and actions at or under a path, in the order of the settings tables. -/
def leavesUnder (p : Path) : List Key :=
  Setting.table.flatMap fun e => (instances e.2.path p).map (keyOf e.1)

/-- Whether a setting is an action. -/
def Key.isAct (k : Key) : Bool := match k.s.info.ty with
  | .action => true
  | .int _ => false | .mask _ _ => false | .fix _ _ _ => false | .steps _ _ _ => false | .bool => false
  | .enum _ => false | .str _ _ => false
  | .bytes _ => false | .tick => false | .record => false

/-! ## Tokens -/

/-- Where the reading of tokens stands: between two, in a word, in a quoted string, or just after one. The characters of
the current one are in reverse. -/
inductive TokAt where
  | gap | word (acc : List Char) | str (acc : List Char) | after
  deriving DecidableEq, Repr

/-- The tokens of the rest of a line (R151): a quoted string is one token; none where a string is broken. -/
def tokens : TokAt → List Char → Option (List (List Char))
  | .gap, [] => some []
  | .after, [] => some []
  | .word acc, [] => some [acc.reverse]
  | .str _, [] => none
  | .gap, c :: cs => if isBlank c then tokens .gap cs else if c = '"' then tokens (.str [c]) cs else tokens (.word [c]) cs
  | .after, c :: cs => if isBlank c then tokens .gap cs else none
  | .word acc, c :: cs =>
    if isBlank c then (tokens .gap cs).map (acc.reverse :: ·) else if c = '"' then none else tokens (.word (c :: acc)) cs
  | .str acc, c :: cs => if c = '"' then (tokens .after cs).map ((c :: acc).reverse :: ·) else tokens (.str (c :: acc)) cs

/-! ## Actions and their arguments -/

/-- A number that the table of an action counts from 0, as a natural number; a negative one stands for one beyond every
range. -/
def beyond (v : Int) : Nat := if v < 0 then 2 ^ 32 else v.toNat

/-- The arguments of an action as integers. -/
def ints (args : List (List Char)) : Option (List Int) := args.mapM intForm

/-- A digest algorithm (R540). -/
def algForm (cs : List Char) : Option DigAlg :=
  match enumForm ["SHA256", "SHA384", "HMAC256", "HMAC384"] cs with
  | some 0 => some .sha256
  | some 1 => some .sha384
  | some 2 => some .hmac256
  | some 3 => some .hmac384
  | _ => none

/-- Whether an algorithm names a key slot. -/
def DigAlg.keyed : DigAlg → Bool
  | .sha256 => false | .sha384 => false | .hmac256 => true | .hmac384 => true

/-- A curve (R544). -/
def curveForm (cs : List Char) : Option Curve :=
  match enumForm ["P256", "P384"] cs with
  | some 0 => some .p256
  | some 1 => some .p384
  | _ => none

/-- A region of `DO mem.rekey` (R484). -/
def regionForm (cs : List Char) : Option Region :=
  match enumForm ["PROT", "CAPT", "WORK"] cs with
  | some 0 => some .prot
  | some 1 => some .capt
  | some 2 => some .work
  | _ => none

/-- A head and a slot of `DO dome.dig.table`. -/
def headForm (cs : List Char) : Option Nat := enumForm ["a", "b"] cs

/-- A login or restart response: 16 hex digits in either case, with or without the hyphens of the challenge (R172). -/
def responseForm (cs : List Char) : Option Nat :=
  let ds := cs.filter fun c => decide (c ≠ '-')
  let grouped := decide (cs.length = 19 ∧ cs[4]? = some '-' ∧ cs[9]? = some '-' ∧ cs[14]? = some '-')
  if ds.length = 16 ∧ (cs.length = 16 ∨ grouped = true) then digitsVal 16 hexVal 0 ds else none

/-- Two optional integers after an action's own. -/
def outPair : List Int → Option (Option (Int × Int))
  | [] => some none
  | [a, b] => some (some (a, b))
  | _ => none

/-- An action with an algorithm, a key slot for a keyed one, and integers. -/
def algArgs (args : List (List Char)) : Option (DigAlg × Option Nat × List Int) :=
  match args with
  | a :: rest =>
    match algForm a, ints rest with
    | some alg, some vs =>
      if alg.keyed then
        match vs with
        | k :: vs => some (alg, some (beyond k), vs)
        | [] => none
      else some (alg, none, vs)
    | _, _ => none
  | [] => none

/-- The command of `DO` for an action's key and arguments; none where the arguments do not fit its grammar. -/
def actionCmd (k : Key) (args : List (List Char)) : Option Cmd :=
  match k.s with
  | .actSysRestart => match args with
    | [] => some (.sysRestart { response := none })
    | [r] => (responseForm r).map fun n => .sysRestart { response := some n }
    | _ => none
  | .actTurretClaim => match args with
    | [x] => (bytesForm x).map fun b => .turretClaim k.i b
    | _ => none
  | .actBlobWrite => match args with
    | [o, d] => match intForm o, bytesForm d with
      | some off, some bs => some (.blobWrite k.i off bs)
      | _, _ => none
    | _ => none
  | .actValveTest => match args with
    | [ms] => (fixForm 1 ms).map fun v => .valveTest k.i v
    | _ => none
  | .actCheckRun => match args with
    | [w, p] => if isWord w "open" then (intForm p).map fun v => .checkRun (.openPin (beyond v)) else none
    | [w] => if isWord w "gain" then some (.checkRun .gain) else if isWord w "exc" then some (.checkRun .exc)
             else if isWord w "bias" then some (.checkRun .bias) else none
    | _ => none
  | .actMemRekey => match args with
    | [n, r] => match intForm n, regionForm r with
      | some n, some r => some (.memRekey (beyond n) r)
      | _, _ => none
    | _ => none
  | .actPkeVerify => match args with
    | [c, b] => match curveForm c, intForm b with
      | some c, some b => some (.pkeVerify c b)
      | _, _ => none
    | _ => none
  | .actPkeKeygen => match args with
    | [c, b] => match curveForm c, intForm b with
      | some c, some b => some (.pkeKeygen c b)
      | _, _ => none
    | _ => none
  | .actDigHash => match algArgs args with
    | some (a, q, b :: off :: len :: out) => (outPair out).map fun o => .digHash a q b off len o
    | _ => none
  | .actDigStart => match algArgs args with
    | some (a, q, []) => some (.digStart a q)
    | _ => none
  | .actDigTable => match args with
    | [x, j] => match headForm x, intForm j with
      | some x, some j => some (.digTable x (beyond j))
      | _, _ => none
    | _ => none
  | x => match ints args with
    | none => none
    | some vs =>
      match x, vs with
      | .actSysRun, [] => some .sysRun
      | .actSysStop, [] => some .sysStop
      | .actSysWatch, [] => some .sysWatch
      | .actSysHalt, [] => some .sysHalt
      | .actSysSeal, [b] => some (.sysSeal b)
      | .actSysUnseal, [] => some .sysUnseal
      | .actNvCheckpoint, [] => some .nvCheckpoint
      | .actNvSave, [] => some .nvSave
      | .actNvVerify, [] => some (.nvVerify [])
      | .actTowerPromote, [] => some .towerPromote
      | .actFeedPause, [] => some .feedPause
      | .actFeedResume, [] => some .feedResume
      | .actLanternCommit, [] => some .lanternCommit
      | .actShadeCalibrate, [] => some .shadeCalibrate
      | .actClassCommit, [] => some .classCommit
      | .actSeqCommit, [] => some .seqCommit
      | .actSeqNow, [] => some (.seqNow k.i)
      | .actTurretCreate, [n] => some (.turretCreate n)
      | .actTurretRevoke, [] => some (.turretRevoke k.i)
      | .actTurretRestore, [] => some (.turretRestore k.i)
      | .actTurretDestroy, [] => some (.turretDestroy k.i)
      | .actBlobRead, [off, len] => some (.blobRead k.i off len)
      | .actBlobClear, [] => some (.blobClear k.i)
      | .actKeyImport, [sl, b] => some (.keyImport sl b)
      | .actKeyErase, [sl] => some (.keyErase sl)
      | .actStreamNext, [] => some (.streamNext k.i)
      | .actPkeSign, [q, b] => some (.pkeSign q b)
      | .actPkeEcdh, [q, b] => some (.pkeEcdh q b none)
      | .actPkeEcdh, [q, b, q2] => some (.pkeEcdh q b (some q2))
      | .actPkePublic, [q] => some (.pkePublic q)
      | .actPkeDiag, [b] => some (.pkeDiag b)
      | .actDigUpdate, [hd, b, off, len] => some (.digUpdate hd b off len)
      | .actDigFinal, hd :: out => (outPair out).map fun o => .digFinal hd o
      | .actDigDrop, [hd] => some (.digDrop hd)
      | .actRngFill, [b, off, len] => some (.rngFill b off len)
      | _, _ => none

/-! ## Verbs (Table 4-3) -/

/-- The verbs, in the order of Table 4-3. -/
def verbs : List String := ["GET", "SET", "DO", "SHOW", "WATCH", "ENUM", "LOGIN", "LOGOUT", "ABORT", "HELP"]

/-- A tag: `#` and 1–3 digits without a leading zero but in `#0`. It gives the tag and what follows it. -/
def tagForm (cs : List Char) : Option (Nat × List Char) :=
  match cs with
  | '#' :: rest =>
    let ds := rest.takeWhile fun c => (digitVal c).isSome
    let after := rest.drop ds.length
    match decRun 3 ds with
    | some n => if ds.length = 1 ∨ ds.head? ≠ some '0' then some (n, after) else none
    | none => none
  | _ => none

/-- A setting, its value's form judged by its type (R153). -/
def setCmd (p : Path) (tok : List Char) : Cmd :=
  match leafOf p with
  | none => .bad 20
  | some k =>
    if k.isAct then .bad 20
    else match k.s.info.ty.form tok with
      | none => .bad 10
      | some v => match k.s.info.row with
        | .plain => .setPath p tok
        | .act => .bad 20
        | .chainFormat | .nvCheckpoint | .islandGate | .streamRate | .linkHeadroom | .feedTargetUnit | .feedCurrent
        | .captureMark | .lanternStaged | .headExpectType | .classStaged | .valveSetting | .peakShare | .peakBudget
        | .seqStaged | .checkInterval | .loopQuantity | .xrange | .assignment => .setKey k v

/-- The command of a verb and its arguments. -/
def verbCmd (verb : Nat) (args : List (List Char)) : Cmd :=
  match verb, args with
  | 0, [p] => match pathForm p with
    | some q => match leafOf q with
      | some k => if k.isAct then .bad 20 else if k.s = .keyNonce then .getKeyNonce else .getPath q
      | none => .bad 20
    | none => .bad 10
  | 1, [p, v] => match pathForm p with
    | some q => setCmd q v
    | none => .bad 10
  | 2, p :: args => match pathForm p with
    | some q => match leafOf q with
      | some k => if k.isAct then (actionCmd k args).getD (.bad 10) else .bad 20
      | none => .bad 20
    | none => .bad 10
  | 3, [p] => match pathForm p with
    | some q => if q = [.w "sys", .w "halt"] then .showSysHalt else if leavesUnder q = [] then .bad 20 else .showPath q
    | none => .bad 10
  | 4, [p, a] => match pathForm p with
    | some q =>
      let arg : Option WatchArg :=
        if isWord a "change" then some .change else if isWord a "off" then some .off
        else (intForm a).map fun v => .period (beyond v)
      match arg, leafOf q with
      | none, _ => .bad 10
      | some a, some k => if k.isAct then .bad 20 else .watchPath q a
      | some _, none => .bad 20
    | none => .bad 10
  | 5, [n] => match intForm n with
    | some v => .enumerate (some (beyond v))
    | none => .bad 10
  | 5, [] => .enumerate none
  | 6, [n] => match intForm n with
    | some v => .loginChallenge v
    | none => .bad 10
  | 6, [n, x] => match intForm n, responseForm x with
    | some v, some y => .loginResponse v { response := y }
    | _, _ => .bad 10
  | 6, [n, w, d] => match intForm n with
    | some v => if isWord w "pin" then .loginPin v d else .bad 10
    | none => .bad 10
  | 7, [] => .logout
  | 8, [] => .abort .untagged
  | 8, [a] =>
    if isWord a "all" then .abort .all
    else match tagForm a with
      | some (t, []) => .abort (.tag t)
      | _ => .bad 10
  | 9, [] => .helpPath none
  | 9, [p] => match pathForm p with
    | some q => if leavesUnder q = [] then .bad 20 else .helpPath (some q)
    | none => .bad 10
  | _, _ => .bad 10

/-! ## The line -/

/-- A line after its grammar has been applied. `nn` is the address as given, for the detail of R157. -/
structure Line where
  addr : AddrField
  tag : Option Nat
  check : CheckField
  checkHex : Nat
  cmd : Cmd
  deriving DecidableEq, Repr

/-- The address that opens a line, what follows it, and whether the start is well formed (Table 4-1). -/
def addrForm (cs : List Char) : AddrField × List Char × Bool :=
  match cs with
  | '@' :: '*' :: rest => (.all, rest, true)
  | '@' :: a :: b :: rest =>
    match decRun 2 [a, b] with
    | some n => if 1 ≤ n ∧ n ≤ 32 then (.num n, rest, true) else (.absent, cs, false)
    | none => (.absent, cs, false)
  | '@' :: rest => (.absent, rest, false)
  | cs => (.absent, cs, true)

/-- The check that closes a line: the characters before its `*`, what it is, its digits, and whether it is well formed (R154). A
`*` that is not followed by exactly two hex digits makes the line a syntax error and is no check. -/
def checkForm (cs : List Char) : List Char × CheckField × Nat × Bool :=
  let skip := match cs with
    | '@' :: '*' :: _ => 2
    | _ => 0
  let body := cs.take skip ++ (cs.drop skip).takeWhile fun c => decide (c ≠ '*')
  match cs.drop body.length with
  | [] => (body, .absent, 0, true)
  | [_, a, b] => match hexRun 2 [a, b] with
    | some n => (body, if crc8 (body.map fun c => BitVec.ofNat 8 c.toNat) = n then .good else .bad, n, true)
    | none => (body, .absent, 0, false)
  | _ => (body, .absent, 0, false)

/-- Whether a verb may not be addressed `@*` (R158): `LOGIN` and `WATCH`. -/
def verbNotForAll (verb : Nat) : Bool := decide (verb = 4 ∨ verb = 6)

/-- A line's tag and verb, with what follows its address (R151, R158). -/
def restForm (addr : AddrField) (cs : List Char) : Option Nat × Cmd :=
  let t : Option Nat × List Char × Bool := match cs with
    | '#' :: _ => match tagForm cs with
      | some (n, after) => (some n, after, true)
      | none => (none, cs, false)
    | _ => (none, cs, true)
  let prefixed := decide (addr ≠ .absent) || t.1.isSome
  let spaced : Bool := !prefixed || (match t.2.1 with
    | c :: _ => isBlank c
    | [] => false)
  (t.1, if t.2.2 && spaced then
      match tokens .gap t.2.1 with
      | some (v :: args) => match enumForm verbs v with
        | some i => if addr = .all ∧ verbNotForAll i = true then .bad 10 else verbCmd i args
        | none => .bad 10
      | _ => .bad 10
    else .bad 10)

/-- One line's characters, without its terminator, as a line of Traop. -/
def parseLine (cs : List Char) : Line :=
  let c := checkForm cs
  let a := addrForm c.1
  let r := restForm a.1 a.2.1
  let good := c.2.2.2 && a.2.2 && c.1.all lineChar
  { addr := a.1, tag := r.1, check := c.2.1, checkHex := c.2.2.1, cmd := if good then r.2 else .bad 10 }

end Sys2Proof
end

