-- ==== Sys2Proof/Machine/Readings.lean ====
section
/-! DEFINITION. What every readable path reads (R159, R160, R589; the settings tables of chapters 2 to 16). -/

namespace Sys2Proof

/-- The word of a region (Table 14-1). -/
def Region.word : Region → String
  | .firm => "FIRM" | .prot => "PROT" | .capt => "CAPT" | .work => "WORK" | .nvrec => "NVREC" | .nvfw => "NVFW"

end Sys2Proof

namespace Sys2Proof.Machine

/-! ## Values -/

/-- A value as its type is written (Table 4-2, R589). -/
def valFld (t : Ty) (v : Val) : Fld :=
  match t, v with
  | .int _, .num n => .int n
  | .mask _ _, .num n => .mask n.toNat
  | .fix _ _ d, .num n => .fix n d
  | .steps m span d, .num n => .fine (n * span * 1000000 / m) d
  | .bool, .num n => .word (if n = 1 then "on" else "off")
  | .enum ws, .num n => .word ((ws[n.toNat]?).getD "")
  | .tick, .num n => .hex n.toNat 16
  | _, .num n => .int n
  | _, .text cs => .quoted cs
  | _, .bytes bs => .bytes bs

/-- A word of an enumeration's list. -/
def enumFld (k : Key) (n : Nat) : Fld := valFld k.s.info.ty (.num n)

/-- A switch. -/
def onOff (b : Bool) : Fld := .word (if b then "on" else "off")

/-- A natural number as a field. -/
def natFld (n : Nat) : Fld := .int n

/-- A sixteenth of a tick in millionths of a ns, 0.625 ns each. -/
def ns6 (x16 : Int) : Int := x16 * 625000

/-- A reading in millionths with exactly `digits` fraction digits (R589). -/
def exactFld (v : Int) (digits : Nat) : Fld :=
  .fix (roundDiv v (10 ^ (6 - digits)) * 10 ^ (6 - digits)) digits

/-! ## Enumerations by position in their settings tables -/

/-- The place of a record's state in `nv.record.state`. -/
def RecState.place : RecState → Nat
  | .ok => 0 | .oneSlot => 1 | .dflt => 2
/-- The place of a time source in `time.source`. -/
def TimeSource.place : TimeSource → Nat
  | .local => 0 | .spire => 1 | .free => 2
/-- The place of a link's state in `link.x.state`. -/
def LinkState.place : LinkState → Nat
  | .down => 0 | .training => 1 | .up => 2 | .retrain => 3
/-- The place of a limit in `feed.limit`. -/
def FeedLimit.place : FeedLimit → Nat
  | .target => 0 | .maxSpeed => 1 | .maxRate => 2 | .capture => 3 | .openObj => 4 | .eject => 5
/-- The place of the roll's state in `feed.state`. -/
def FeedState.place : FeedState → Nat
  | .off => 0 | .hold => 1 | .accel => 2 | .steady => 3 | .decel => 4 | .fault => 5
/-- The place of a head's state in `head.x.state`. -/
def HeadState.place : HeadState → Nat
  | .absent => 0 | .ident => 1 | .badid => 2 | .mismatch => 3 | .supply => 4 | .ready => 5 | .active => 6
/-- The place of a channel's state in `lantern.c.state`. -/
def ChanState.place : ChanState → Nat
  | .ok => 0 | .opn => 1 | .disabled => 2
/-- The place of a class slot's state in `class.x.j.state`. -/
def SlotState.place : SlotState → Nat
  | .empty => 0 | .staged => 1 | .active => 2
/-- The place of a valve's state in `valve.mm.state`. -/
def ValveState.place : ValveState → Nat
  | .idle => 0 | .peak => 1 | .hold => 2 | .opn => 3 | .short => 4
/-- The place of a pin's state in `fe.pin.k.state`. -/
def PinState.place : PinState → Nat
  | .ok => 0 | .exceeded => 1 | .disabled => 2
/-- The place of a loop's state in `loop.n.state`. -/
def LoopState.place : LoopState → Nat
  | .measure => 0 | .alarm => 1 | .fallback => 2 | .watch => 3 | .fault => 4
/-- The place of a key kind in `key.k.kind`. -/
def KeyKind.place : KeyKind → Nat
  | .empty => 0 | .owner => 1 | .login => 2 | .stream => 3 | .pin => 4 | .secret => 5 | .tower => 6 | .ec256 => 7
  | .ec384 => 8

/-! ## Readings -/

/-- `island.nn.state`: the command island in reset, an island gated by the Keep or by itself, or running (R68, R70, R99;
log entry 35). -/
def State.islandPlace (s : State) (i : Nat) : Nat :=
  if i = 25 ∧ s.isl.cmdDown then 3
  else if s.gated i ∨ (i = 5 ∧ s.isl.auto05) ∨ (i = 6 ∧ s.isl.auto06) then 1
  else 0

/-- `ir.state` (Table 5-3, R222). -/
def State.irPlace (s : State) : Nat :=
  if s.gated 24 then 0
  else if s.serial.irFault then 5
  else if s.serial.irFlood then 4
  else if s.now < s.serial.irTxEnd then 3
  else if s.serial.irLine.count ≠ 0 then 2
  else 1

/-- `valve.mm.state`: OFF for a valve that no action may use (Table 11-2). -/
def State.valvePlace (s : State) (v : Nat) : Nat :=
  let st := (s.getValve v).state
  if st = .idle ∧ (s.int .valveUse v = 2 ∨ s.int .valveTurret v = 255) then 5 else st.place

/-- `fe.state` (R450, R69). -/
def State.fePlace (s : State) : Nat :=
  if s.serving = false then 3 else if s.fe.fault then 1 else if s.gated 17 then 2 else 0

/-- `mem.state`. -/
def State.memPlace (s : State) : Nat :=
  if s.mem.scrubRuns then 2 else if s.mem.rekey.any (·.granted) then 1 else 0

/-- `session.s.lockout`: the seconds that remain of the session's longest challenge-login lockout (log entry 35). -/
def State.lockLeft (s : State) (k : Nat) : Nat :=
  (s.getSess k).lockEnd.foldl (fun a (p : Nat × Nat) => max a (s.secsTo p.2)) 0

/-- `seq.e.freq_actual` (R425): the synthesiser's frequency for the entry in force. -/
def State.freqActual (s : State) (e : Nat) : Fld :=
  let w := s.synthWord e
  .real (Frac.make (w * 200000000 : Nat) (2 ^ 32))

/-- The record of a path's index. -/
def recName (i : Nat) : RecName :=
  match i with
  | 0 => .epoch | 1 => .keystore | 2 => .shade | 3 => .config
  | i => if i < 128 then .recipe (i - 16) else .stats (i - 128)

/-- The sequence number of the slot in use of a record. -/
def Rec.seqNow (r : Rec) : Nat := match r.cur with
  | some b => ((r.slot b).seq).getD 0
  | none => 0

/-- The healthy or used lanes of a port as a mask (`link.x.lanes`): the physical lanes that carry logical lanes. -/
def Port.laneMask (q : Port) : Nat := q.map.foldl (fun a l => a ||| 2 ^ l) 0

/-- The format of the chain port that a `SET` has given last (R199; log entry 35). -/
def Serial.fmtSet (x : Serial) : Fmt := x.newFmt.getD x.fmt

/-- The number of a turret's rules' matches (R392). -/
def State.ruleCount (s : State) (n k : Nat) : Nat := SMap.look 0 (s.getStat n).rules k

/-- The reading of a path that holds no stored setting; none for one that does. Where a path carries no turret index, its
key's index is the turret (R160). -/
def State.readOnly (s : State) (k : Key) : Option (List Fld) :=
  let i := k.i
  let st := s.getStat i
  let q := s.getPort i
  let h := s.getHead i
  let en := s.getEntry i
  let lp := s.getLoop i
  match k.s with
  | .sysState => some [enumFld k s.sys.state.place]
  | .sysMode => some [.word (if s.isSealed then "SEALED" else "OPEN")]
  | .sysEpoch => some [natFld s.sys.epoch]
  | .sysStartMs => some [natFld s.sys.startMs]
  | .sysLastHalt => some (match s.sys.lastHalt with
    | some (c, t, m) => [.dec2 c, .hex t 16, .hex m 4]
    | none => [.dec2 0])
  | .sysRestarts => some [natFld s.sys.restarts]
  | .nvPending => some [natFld (min 255 s.nvPendingCount)]
  | .nvSeq => some [natFld (s.getRec (recName i)).seqNow]
  | .nvState => some [enumFld k (s.getRec (recName i)).state.place]
  | .timeNow => some [natFld s.now]
  | .timeSource => some [enumFld k s.tower.source.place]
  | .islandState => some [enumFld k (s.islandPlace i)]
  | .islandCmdResets => some [natFld s.isl.cmdResets]
  | .ledgerPeakUsed => some [natFld s.p24PeakUsed]
  | .ledgerAvgUsed => some [natFld s.p24AvgUsed]
  | .ledgerAvgMeasured => some [natFld s.ledger.measured]
  | .ledgerL24Used => some [natFld s.ledger.l24Used]
  | .ledgerRefused => some [natFld (SMap.look 0 s.ledger.refused i)]
  | .ledgerWait => some [natFld (SMap.look 0 s.ledger.wait i / usTicks)]
  | .sessTurret => some [.int (match (s.getSess i).login with
    | some n => n
    | none => -1)]
  | .sessJobsN => some [natFld (s.liveJobs.filter fun j => decide (j.sess = i)).length]
  | .sessWatches => some [natFld (s.getSess i).watches.length]
  | .sessEventsLost => some [natFld (s.getSess i).eventsLost]
  | .sessLockout => some [natFld (s.lockLeft i)]
  | .sessionJobs => some [natFld s.liveJobs.length]
  | .chainBaud => some [natFld s.serial.fmtSet.baud]
  | .chainData => some [natFld s.serial.fmtSet.data]
  | .chainParity => some [enumFld k s.serial.fmtSet.parity]
  | .chainStop => some [natFld s.serial.fmtSet.stop]
  | .chainUpstream => some [enumFld k (if s.pwr.csin then 0 else 1)]
  | .chainDamaged => some [natFld s.serial.damaged]
  | .chainOverruns => some [natFld s.serial.overruns]
  | .chainBacklogMax => some [natFld s.serial.backlogMax]
  | .irState => some [enumFld k s.irPlace]
  | .irDamaged => some [natFld s.serial.irDamaged]
  | .irFloods => some [natFld s.serial.irFloods]
  | .towerAddress => some [natFld s.tower.addr]
  | .towerSpire => some [onOff s.tower.spire]
  | .towerCount => some [natFld s.towerCount]
  | .towerLocked => some [onOff s.tower.locked]
  | .towerErrorNs => some [exactFld (ns6 s.tower.err16) 3]
  | .towerHopNs => some [exactFld (ns6 (s.getPort 0).hop16) 3]
  | .towerMarksBridged => some [natFld s.tower.bridged]
  | .towerSpireLosses => some [natFld s.tower.losses]
  | .towerOutside => some [natFld s.tower.outside]
  | .towerViewLate => some [natFld s.tower.viewLate]
  | .linkState => some [enumFld k q.state.place]
  | .linkWidth => some [natFld q.width]
  | .linkLanes => some [.mask q.laneMask]
  | .linkSpare => some [natFld (q.spare.getD 255)]
  | .linkHeadroomMin => some [natFld q.headroomMin]
  | .linkRttNs => some [exactFld (ns6 (2 * q.hop16 : Nat)) 3]
  | .linkCrcErrors => some [natFld q.crcErrors]
  | .linkReplays => some [natFld q.replays]
  | .linkLaneReplacements => some [natFld q.laneReps]
  | .linkDowns => some [natFld q.downs]
  | .linkFramesLost => some [natFld q.framesLost]
  | .linkAuthRejects => some [natFld q.authRejects]
  | .linkXoffs => some [natFld q.xoffs]
  | .feedSpeed => some [natFld s.feed.speed]
  | .feedRate => some [.real s.objRate]
  | .feedMassRate => some [.real (s.massRate.getD {})]
  | .feedLimit => some [enumFld k s.feedLimit.place]
  | .feedState => some [enumFld k s.feed.state.place]
  | .feedPauseReasons => some [.mask s.feed.pauses]
  | .feedStalls => some [natFld s.feed.stalls]
  | .feedLeaveRefusals => some [natFld s.feed.leave]
  | .seamOpen => some [onOff s.seam.isOpen]
  | .seamSegment => some [natFld s.seam.number]
  | .seamLineIndex => some [natFld s.seam.line]
  | .seamProductIndex => some [natFld s.seam.index]
  | .seamExcluded => some [natFld s.seam.excluded]
  | .seamForced => some [natFld s.seam.forced]
  | .captureFill => some [exactFld s.fill6 1]
  | .captureDropped => some [natFld s.capture.dropped]
  | .headState => some [enumFld k h.state.place]
  | .headType => some [.quoted ((h.ident.map (·.type)).getD [])]
  | .headSerial => some [.quoted ((h.ident.map (·.serial)).getD [])]
  | .headColumns => some [natFld (s.columns i)]
  | .headSaturated => some [natFld h.saturated]
  | .headEdges => some [.bytes (s.edgesOf i)]
  | .headSgNs => some [natFld (s.sgNs i)]
  | .lanternState => some [enumFld k (s.getChan i).state.place]
  | .lanternCompliance => some [natFld (s.getChan i).compliance]
  | .lanternCommitted => some [onOff s.lantern.committed]
  | .lanternDarkLines => some [natFld s.lantern.darkLines]
  | .lanternLateStarts => some [natFld s.lantern.lateStarts]
  | .shadeDefects => some [natFld (s.shadeDefects i)]
  | .shadeState => some [enumFld k (if s.shadeDefault then 0 else 1)]
  | .classState => some [enumFld k (s.getClassSlot (4 * i + k.j)).state.place]
  | .classRuleCount => some [natFld (s.ruleCount k.j i)]
  | .classObjects => some [natFld st.objects]
  | .classAccepted => some [natFld st.accepted]
  | .classRejected => some [natFld st.rejected]
  | .classDiverted => some [natFld st.diverted]
  | .classLate => some [natFld s.track.late]
  | .classStatDropped => some [natFld s.track.statDropped]
  | .trackMatched => some [natFld s.track.matched]
  | .trackUnmatchedA => some [natFld s.track.unmatchedA]
  | .trackUnmatchedB => some [natFld s.track.unmatchedB]
  | .trackStoreOverflow => some [natFld s.track.storeOverflow]
  | .trackViewUnused => some [natFld s.track.viewUnused]
  | .ejectQueueUsed => some [natFld s.eject.queue.length]
  | .ejectRejects => some [natFld st.rejects]
  | .ejectDiverts => some [natFld st.diverts]
  | .ejectActions => some [natFld st.actions]
  | .ejectDelayed => some [natFld st.delayed]
  | .ejectDenied => some [natFld st.denied]
  | .ejectFaulted => some [natFld st.faulted]
  | .ejectMerged => some [natFld st.merged]
  | .ejectCapped => some [natFld st.capped]
  | .ejectOverflow => some [natFld st.overflow]
  | .ejectLate => some [natFld st.late]
  | .ejectNovalve => some [natFld st.novalve]
  | .ejectSpanTrimmed => some [natFld st.spanTrimmed]
  | .ejectDivertMissing => some [natFld st.divertMissing]
  | .ejectMetal => some [natFld st.metal]
  | .ejectMetalMissed => some [natFld st.metalMissed]
  | .valveState => some [enumFld k (s.valvePlace i)]
  | .valveActions => some [natFld (s.getValve i).actions]
  | .valveDenied => some [natFld (s.getValve i).denied]
  | .valveLow => some [natFld (s.getValve i).low]
  | .fePinState => some [enumFld k (s.getPin i).state.place]
  | .feState => some [enumFld k s.fePlace]
  | .feExcGrant => some [onOff (s.ledger.grants.any fun g => decide (g.what = .excite))]
  | .seqResult => some [.real (en.result.getD {})]
  | .seqRaw => some [.real en.raw]
  | .seqFlags => some [.mask en.flags]
  | .seqTick => some [.hex en.tick 16]
  | .seqFreqActual => some [s.freqActual i]
  | .seqCount => some [natFld en.count]
  | .seqPreempted => some [natFld en.preempted]
  | .seqEvents => some [natFld en.events]
  | .checkFails => some [natFld s.fe.fails]
  | .loopCommandedMa => some [.real (.of6 (loopMa6 lp.code))]
  | .loopActualMa => some [.real (.of6 lp.actual6)]
  | .loopVolts => some [.real (.of6 lp.volts6)]
  | .loopHeadroom => some [onOff lp.headroom]
  | .loopState => some [enumFld k lp.state.place]
  | .loopHeadroomFaults => some [natFld lp.faults]
  | .memState => some [enumFld k s.memPlace]
  | .memProtKib => some [natFld (s.useKib i .prot)]
  | .memCaptKib => some [natFld (s.useKib i .capt)]
  | .memWorkKib => some [natFld (s.useKib i .work)]
  | .memMaxGen => some [natFld (s.maxGen i)]
  | .memFenceMaxNs => some [natFld s.mem.fenceMax]
  | .memLastFault => some (match s.mem.lastFault with
    | some f => [.word f.region.word, natFld f.owner, natFld f.sector, .hex f.tick 16]
    | none => [.word "empty"])
  | .memRefused => some [natFld s.mem.refused]
  | .memProbeFails => some [natFld s.mem.probeFails]
  | .memRekeys => some [natFld s.mem.rekeys]
  | .memScrubs => some [natFld s.mem.scrubs]
  | .memScrubRepairs => some [natFld s.mem.scrubRepairs]
  | .turretState => some [enumFld k ((s.getTurret i).state.code)]
  | .turretOwner => some [.bytes (s.getTurret i).owner]
  | .turretAssignDigest => some [.bytes s.assignDigest]
  | .keyKind => some [enumFld k (s.keySlot k.j i).kind.place]
  | .streamState => some [enumFld k (if (s.getStream i).isOpen then 1 else 0)]
  | .streamGen => some [natFld (s.getStream i).gen]
  | .domeQueue => some [natFld s.dome.queue.length]
  | .domeOps => some [natFld (s.getDomeTur i).ops]
  | .domeCrypto => some [natFld (s.getDomeTur i).crypto]
  | .domeAborts => some [natFld (s.getDomeTur i).aborts]
  | .domeMicrocode => some [natFld Config.microcodeBuild]
  | .domeDigHandles => some [natFld ((s.getDomeTur i).handles.filter fun (p : Nat × Handle) => p.2.isOpen).length]
  | .domeRngState => some [enumFld k (if s.dome.rngFault then 1 else 0)]
  | .domeRngReseeds => some [natFld s.dome.reseeds]
  | .domeRngFaults => some [natFld s.dome.faults]
  | _ => none

/-- What a path reads: a reading of the block's, or the setting as it was last written (log entry 36). -/
def State.reading (s : State) (k : Key) : List Fld :=
  match s.readOnly k with
  | some fs => fs
  | none => [valFld k.s.info.ty (s.stagedVal k)]

end Sys2Proof.Machine
end

