-- ==== Sys2Proof/Machine/SetRows.lean ====
section
/-! DEFINITION. The writes of settings (R153, R159, R587): what stands against a write, and the effect of each path that has one
of its own. -/

namespace Sys2Proof

/-- Whether a path belongs to ejection, which a VIEW module does not do (R246). -/
def Key.ejects (k : Key) : Bool :=
  match k.s.info.path with
  | .w r :: _ => decide (r = "eject" ∨ r = "valve")
  | .ix _ :: _ => false
  | [] => false

end Sys2Proof

namespace Sys2Proof.Machine

/-! ## Writes with a row of their own -/

/-- `SET` of `chain.baud`, `data`, `parity` or `stop` (R199): answered in the old format, which a later change replaces. -/
def setChainFormat (r : ReplyTo) (k : Key) (v : Val) (s : State) : State :=
  let f := s.serial.fmtSet
  let x := v.int.toNat
  let g := match k.s with
    | .chainBaud => { f with baud := x }
    | .chainData => { f with data := x }
    | .chainParity => { f with parity := x }
    | .chainStop => { f with stop := x }
    | _ => f
  (s.onSerial fun p => { p with newFmt := if g = p.fmt then none else some g, fmtWait := some (s.nextAnswer r) }).ok r []

/-- The bound on the reserved rates of a tower, in Mb/s (R288). -/
abbrev towerMbps : Nat := 16000

/-- `SET` of `stream.s.rate_mbps` or `stream.s.turret` (R288, R510, R513): refused where it would bring the tower's sum above
16 Gb/s; a sum that changes is announced as the tick ends. -/
def setStreamRate (r : ReplyTo) (k : Key) (v : Val) (s : State) : State :=
  let t := s.assign k v
  if s.assignBar k v then s.er r 23
  else if towerMbps < t.towerRates ∧ s.rateSum < t.rateSum then s.er r 21 [.word "bandwidth"]
  else (t.assignEvents (s.assignees k v) (decide (s.assigned k ≠ v))).ok r []

/-- `SET` of `link.x.headroom` or `link.x.hysteresis` (R308). -/
def setLinkHeadroom (r : ReplyTo) (k : Key) (v : Val) (s : State) : State :=
  let t := s.setVal k v
  if 98304 < t.nat .linkHeadroom k.i + t.nat .linkHysteresis k.i then s.er r 21 else t.ok r []

/-- `SET` of `feed.target` or `feed.target_unit` (R313): the target lies within the range of its unit, 0–40 000 objects/s or
0–60 t/h; *k* and the number are kept. -/
def setFeedTargetUnit (r : ReplyTo) (k : Key) (v : Val) (s : State) : State :=
  let t := s.setVal k v
  if t.int .feedTargetUnit = 1 ∧ 60000000 < t.int .feedTarget then s.er r 21 else t.ok r []

/-- `SET` of a phase current (R92, R93, R310): the reservation of a stepper that is energised, or whose coils a hold current now
energises, follows where it fits its budgets. -/
def setFeedCurrent (r : ReplyTo) (k : Key) (v : Val) (s : State) : State :=
  let t := s.setVal k v
  if t.int .feedAccelCurrent < t.int .feedRunCurrent ∨ t.int .feedRunCurrent < t.int .feedHoldCurrent then s.er r 21
  else if t.feed.energised then
    if t.standingFits t.ledger.strobe (some t.stepperReserve) then
      let u := t.onLedger fun l => { l with stepper := some t.stepperReserve }
      (if u.feed.speed = 0 then u.restCoils else u).ok r []
    else (s.countRefused .stepper).er r 41
  else if t.coilsRefused then (s.countRefused .stepper).er r 41
  else (if t.serving then t.holdCoils else t).ok r []

/-- `SET` of a capture mark (R317). -/
def setCaptureMark (r : ReplyTo) (k : Key) (v : Val) (s : State) : State :=
  let t := s.setVal k v
  if t.int .captureSlowMark ≤ t.int .captureResumeMark ∨ t.int .capturePauseMark ≤ t.int .captureSlowMark then s.er r 21
  else t.fillCross.ok r []

/-- `SET` of `valve.mm.peak_a` or `valve.mm.hold_a` (R396). -/
def setValveSetting (r : ReplyTo) (k : Key) (v : Val) (s : State) : State :=
  let t := s.setVal k v
  if t.int .valvePeakA k.i < t.int .valveHoldA k.i then s.er r 21 else t.ok r []

/-- The sum of the turrets' peak shares (R83). -/
def State.shareSum (s : State) : Nat := ((List.range 64).map fun n => s.nat .turretPeakShare n).sum

/-- `SET turret.n.peak_share` (R83, R508, R510). -/
def setPeakShare (r : ReplyTo) (k : Key) (v : Val) (s : State) : State :=
  let t := s.setVal k v
  if s.assignBar k v then s.er r 23
  else if t.valvePool < t.shareSum then s.er r 21
  else (t.assignEvents [k.i] (decide (s.val k ≠ v))).ok r []

/-- `SET` of `eject.peak_budget` or `ledger.p24_avg_limit` (R83, R93): the shares stay within the pool, and the standing
reservations keep their room. -/
def setPeakBudget (r : ReplyTo) (k : Key) (v : Val) (s : State) : State :=
  let t := s.setVal k v
  if k.s = .ejectPeakBudget ∧ t.valvePool < t.shareSum then s.er r 21
  else if t.standingFits t.ledger.strobe t.ledger.stepper then t.ok r []
  else s.er r 41

/-! ## Writes without a row of their own -/

/-- Whether an edge table is one that R343 refuses: a fall that does not follow its rise, a reset sample that does not precede
the video sample, or an edge above 63. -/
def edgesBad (v : Val) : Bool :=
  match v with
  | .bytes b =>
    b.any (fun x => decide (63 < x.toNat)) || decide (byteAt b 1 ≤ byteAt b 0) || decide (byteAt b 3 ≤ byteAt b 2) ||
    decide (byteAt b 5 ≤ byteAt b 4) || decide (byteAt b 7 ≤ byteAt b 6)
  | .num _ => true
  | .text _ => true

/-- Whether a plain write breaks a bound that its chapter states beside its range (R307, R342, R343, R365, R394, R399). -/
def State.plainRange (s : State) (k : Key) (v : Val) : Bool :=
  let x := v.int
  match k.s with
  | .linkEnable => decide (k.i = 0 ∧ x = 0)
  | .trackVMin => decide (s.int .trackVMax ≤ x)
  | .trackVMax => decide (x ≤ s.int .trackVMin)
  | .headEdges => edgesBad v
  | .headPixelDiv => ((s.getHead k.i).ident.map fun i => decide ((i.rate : Int) * x < 320)).getD false
  | .headSgNs => ((s.getHead k.i).ident.map fun i => decide (x < i.sg10 * 10)).getD false
  | .valveUse =>
    decide (x = 1) && decide (s.nat .valveTurret k.i < 64) && (List.range 64).any fun m =>
      decide (m ≠ k.i) && decide (s.int .valveUse m = 1) && decide (s.nat .valveTurret m = s.nat .valveTurret k.i)
  | _ => false

/-- The effect of a plain write beyond the value itself: a loop's alarm level (Table 13-3), the end of auto-gating (R70), a down port that
is switched off (log entry 37), the coils of a feed that gains or loses its stepper (R335), the slots of a partition that begins or ends
(R436). -/
def State.plainEffect (s : State) (k : Key) (v : Val) : State :=
  match k.s with
  | .loopAlarmMa => s.newAlarm k.i
  | .islandAutoGate => if v.int = 0 then s.onIsl fun i => { i with auto05 := false, auto06 := false } else s
  | .linkEnable => if v.int = 0 then (s.withdrawReq (.train k.i)).modPort k.i Port.quiet else s
  | .seqPartitioned => (s.onFe fun f => { f with slot := none }).startNext
  | .feedMode => if v.int = 1 then s.deEnergise else if s.serving then s.holdCoils else s
  | _ => s

/-- `SET` of a path without a row of its own (R159): at once and as a whole. -/
def setPlain (r : ReplyTo) (k : Key) (v : Val) (s : State) : State :=
  if s.plainRange k v then s.er r 21
  else if s.val k = v then s.ok r []
  else if k.s = .feedMode ∧ (s.setVal k v).coilsRefused = true then (s.countRefused .stepper).er r 41
  else (((if k.s = .irBaud ∨ k.s = .irPulse then s.holdIr r else s).setVal k v).plainEffect k v).ok r []

/-- A write by its row. -/
def State.applySet (s : State) (r : ReplyTo) (k : Key) (v : Val) : State :=
  match k.s.info.row with
  | .plain => setPlain r k v s
  | .act => s.er r 20
  | .chainFormat => setChainFormat r k v s
  | .nvCheckpoint => setNvCheckpoint r k v s
  | .islandGate => setIslandGate r k v s
  | .streamRate => setStreamRate r k v s
  | .linkHeadroom => setLinkHeadroom r k v s
  | .feedTargetUnit => setFeedTargetUnit r k v s
  | .feedCurrent => setFeedCurrent r k v s
  | .captureMark => setCaptureMark r k v s
  | .lanternStaged => setLanternStaged r k v s
  | .headExpectType => setHeadExpectType r k v s
  | .classStaged => setClassStaged r k v s
  | .valveSetting => setValveSetting r k v s
  | .peakShare => setPeakShare r k v s
  | .peakBudget => setPeakBudget r k v s
  | .seqStaged => setSeqStaged r k v s
  | .checkInterval => setCheckInterval r k v s
  | .loopQuantity => setLoopQuantity r k v s
  | .xrange => setXrange r k v s
  | .assignment => setAssignment r k v s

/-! ## What stands against a write -/

/-- Whether the module's state bars a write, whatever the range of its value (R68, R69, R246, R409, R508, R510, R513). Which
writes address the function of a gated island: log entry 104. -/
def State.setBar (s : State) (k : Key) (v : Val) : Bool :=
  s.assignBar k v || (decide (s.int .towerRole = 1) && k.ejects) ||
  (match k.s with
   | .islandGate => s.gateUsed v.int.toNat
   | .headEnable => decide (v.int = 1) && s.gated (7 + k.i)
   | .linkEnable => decide (k.i = 1 ∧ v.int = 1) && s.gated 21
   | .feedMode => s.gated 16
   | .feedTarget => s.gated 16
   | .feedDirection => s.gated 16
   | .feedMicrostep => s.gated 16
   | .feedRunCurrent => s.gated 16
   | .feedAccelCurrent => s.gated 16
   | .feedHoldCurrent => s.gated 16
   | .seqEnable => s.gated 17
   | .ejectOverflowPolicy =>
     decide (v.int = 1) && !((List.range 64).any fun m => decide (s.int .valveUse m = 1) && decide (s.nat .valveTurret m = k.i))
   | _ => false)

end Sys2Proof.Machine
end

