-- ==== Sys2Proof/Machine/Traop.lean ====
section
/-! DEFINITION. The commands of Traop once their line has started: who may use a path (R160, R170, R498, R517, R531), the state
they may be used in (R108, R587), and the verbs `GET`, `SET`, `SHOW`, `WATCH` and `HELP` (R159–R162, R585). -/

namespace Sys2Proof

/-- The instance of a per-turret setting that belongs to a turret (R160): the turret stands in the index that the path does not
use. -/
def Key.ofTurret (k : Key) (n : Nat) : Key :=
  let i := k.s.info
  if i.rd = .inst ∨ i.wr = .inst then
    if i.path.any (fun x => match x with
      | .ix _ => true
      | .w _ => false) then { k with j := n } else { k with i := n }
  else k

/-- Whether a command is a restart without a response (Table 3-7). -/
def Cmd.unanswered (c : Cmd) : Bool :=
  match c with
  | .sysRestart x => x.response.isNone
  | _ => false

/-- The action that a command is, as a path's key; none for a command of another verb. -/
def Cmd.action (c : Cmd) : Option Key :=
  match c with
  | .sysRun => some ⟨.actSysRun, 0, 0⟩
  | .sysStop => some ⟨.actSysStop, 0, 0⟩
  | .sysWatch => some ⟨.actSysWatch, 0, 0⟩
  | .sysHalt => some ⟨.actSysHalt, 0, 0⟩
  | .sysRestart _ => some ⟨.actSysRestart, 0, 0⟩
  | .sysSeal _ => some ⟨.actSysSeal, 0, 0⟩
  | .sysUnseal => some ⟨.actSysUnseal, 0, 0⟩
  | .nvCheckpoint => some ⟨.actNvCheckpoint, 0, 0⟩
  | .nvSave => some ⟨.actNvSave, 0, 0⟩
  | .nvVerify _ => some ⟨.actNvVerify, 0, 0⟩
  | .towerPromote => some ⟨.actTowerPromote, 0, 0⟩
  | .feedPause => some ⟨.actFeedPause, 0, 0⟩
  | .feedResume => some ⟨.actFeedResume, 0, 0⟩
  | .lanternCommit => some ⟨.actLanternCommit, 0, 0⟩
  | .shadeCalibrate => some ⟨.actShadeCalibrate, 0, 0⟩
  | .classCommit => some ⟨.actClassCommit, 0, 0⟩
  | .valveTest mm _ => some ⟨.actValveTest, mm, 0⟩
  | .seqNow e => some ⟨.actSeqNow, e, 0⟩
  | .seqCommit => some ⟨.actSeqCommit, 0, 0⟩
  | .checkRun _ => some ⟨.actCheckRun, 0, 0⟩
  | .memRekey _ _ => some ⟨.actMemRekey, 0, 0⟩
  | .turretCreate _ => some ⟨.actTurretCreate, 0, 0⟩
  | .turretClaim n _ => some ⟨.actTurretClaim, n, 0⟩
  | .turretRevoke n => some ⟨.actTurretRevoke, n.toNat, 0⟩
  | .turretRestore n => some ⟨.actTurretRestore, n.toNat, 0⟩
  | .turretDestroy n => some ⟨.actTurretDestroy, n.toNat, 0⟩
  | .keyImport _ _ => some ⟨.actKeyImport, 0, 0⟩
  | .keyErase _ => some ⟨.actKeyErase, 0, 0⟩
  | .blobWrite b _ _ => some ⟨.actBlobWrite, b.toNat, 0⟩
  | .blobRead b _ _ => some ⟨.actBlobRead, b.toNat, 0⟩
  | .blobClear b => some ⟨.actBlobClear, b.toNat, 0⟩
  | .streamNext s => some ⟨.actStreamNext, s, 0⟩
  | .digHash _ _ _ _ _ _ => some ⟨.actDigHash, 0, 0⟩
  | .digStart _ _ => some ⟨.actDigStart, 0, 0⟩
  | .digUpdate _ _ _ _ => some ⟨.actDigUpdate, 0, 0⟩
  | .digFinal _ _ => some ⟨.actDigFinal, 0, 0⟩
  | .digDrop _ => some ⟨.actDigDrop, 0, 0⟩
  | .digTable _ _ => some ⟨.actDigTable, 0, 0⟩
  | .pkeSign _ _ => some ⟨.actPkeSign, 0, 0⟩
  | .pkeVerify _ _ => some ⟨.actPkeVerify, 0, 0⟩
  | .pkeKeygen _ _ => some ⟨.actPkeKeygen, 0, 0⟩
  | .pkeEcdh _ _ _ => some ⟨.actPkeEcdh, 0, 0⟩
  | .pkePublic _ => some ⟨.actPkePublic, 0, 0⟩
  | .pkeDiag _ => some ⟨.actPkeDiag, 0, 0⟩
  | .rngFill _ _ _ => some ⟨.actRngFill, 0, 0⟩
  | .bad _ => none
  | .getPath _ => none
  | .setPath _ _ => none
  | .setKey _ _ => none
  | .showPath _ => none
  | .watchPath _ _ => none
  | .helpPath _ => none
  | .loginChallenge _ => none
  | .loginResponse _ _ => none
  | .loginPin _ _ => none
  | .logout => none
  | .abort _ => none
  | .enumerate _ => none
  | .showSysHalt => none
  | .getKeyNonce => none

end Sys2Proof

namespace Sys2Proof.Machine

/-! ## Access (R170, R498, R517) -/

/-- The turret that owns the resource of a path's index; none where nobody does. -/
def State.resOwner (s : State) (k : Key) : Option Nat :=
  let own (n : Nat) : Option Nat := if n < 64 then some n else none
  match k.s.info.res with
  | .none => none
  | .session => none
  | .record => if 16 ≤ k.i ∧ k.i < 80 then some (k.i - 16) else if 128 ≤ k.i then some (k.i - 128) else none
  | .turret => own k.i
  | .classSlot => own (s.nat .classTurret k.i k.j)
  | .valve => own (s.nat .valveTurret k.i)
  | .pin => own (s.nat .fePinTurret k.i)
  | .entry => own (s.nat .seqTurret k.i)
  | .loop => own (s.nat .loopTurret k.i)
  | .stream => own (s.nat .streamTurret k.i)

/-- Whether the resource of a path's index is that of a session's login, or the session itself. -/
def State.ownRes (s : State) (r : ReplyTo) (k : Key) : Bool :=
  if k.s.info.res = .session then decide (k.i = r.sess) else r.turret.isSome && decide (s.resOwner k = r.turret)

/-- Whether an entry of an owner column lets a logged-in session in. -/
def State.allows (s : State) (r : ReplyTo) (k : Key) (a : Acc) : Bool :=
  r.turret.isSome &&
  (match a with
   | .none => false
   | .keep => decide (r.turret = some 0)
   | .shared => true
   | .inst => true
   | .any => true
   | .owner => s.ownRes r k
   | .keepOrOwner => decide (r.turret = some 0) || s.ownRes r k)

/-- What a session without a login may read (R170, R498): with `GET` alone, or with `SHOW` too. -/
def openTo (k : Key) (show_ : Bool) : Bool :=
  match k.s with
  | .sysState => true
  | .sysMode => true
  | .sysEpoch => true
  | .keyDevice => show_
  | .turretState => !show_
  | .turretOwner => !show_
  | _ => false

/-- Whether a session may read a path. -/
def State.mayRead (s : State) (r : ReplyTo) (k : Key) (show_ : Bool) : Bool :=
  s.allows r k k.s.info.rd || (r.turret.isNone && openTo k show_)

/-- Whether a session may write a path; where nobody may, whether it may read it (R168: READ ONLY comes after DENIED). -/
def State.mayWrite (s : State) (r : ReplyTo) (k : Key) : Bool :=
  if k.s.info.run = .ro then s.allows r k k.s.info.rd else s.allows r k k.s.info.wr

/-- Whether a path is not writable in RUN and PAUSED, and the module is there (R108, R587). -/
def State.runBars (s : State) (k : Key) : Bool := decide (k.s.info.run = .no) && s.sorting

/-! ## GET, SHOW and HELP (R159–R161, R585, R588) -/

/-- What a session reads of a path: `key.nonce` reads the session's own (R502; log entry 38). -/
def State.readFor (s : State) (r : ReplyTo) (k : Key) : List Fld :=
  if k.s = .keyNonce then [.bytes ((s.nonceNow r.sess).getD [])] else s.reading k

/-- The lines of `SHOW key.device` (R533). -/
def deviceLines : List (List Fld) :=
  [[.word "serial", .quoted Config.deviceSerial],
   [.word "pub", .bytes (publicKey .p384 deviceKey)],
   [.word "sig_r", .bytes deviceSigR],
   [.word "sig_s", .bytes deviceSigS]]

/-- The bound on the data lines of an answer (R161). -/
abbrev maxData : Nat := 256

/-- Data lines and their count, or `ER 21 RANGE lines` where there are too many (R161). -/
def State.sendLines (s : State) (r : ReplyTo) (ls : List (List Fld)) : State :=
  if maxData < ls.length then s.er r 21 [.word "lines"] else s.okLines r ls

/-- `GET` (R159). The device certificate is too long for one line (R188). -/
def doGet (r : ReplyTo) (p : Path) (s : State) : State :=
  match leafOf p with
  | none => s.er r 20
  | some k =>
    let k := k.ofTurret r.tur
    if k.isAct then s.er r 20
    else if s.mayRead r k false = false then s.er r 30
    else if k.s = .keyDevice then s.er r 21 [.word "lines"]
    else s.ok r (s.readFor r k)

/-- `SHOW` (R161): the readable leaves at or under a path, in the order of the settings tables. -/
def doShow (r : ReplyTo) (p : Path) (s : State) : State :=
  if p = [.w "key", .w "device"] then s.okLines r deviceLines
  else
    let all := leavesUnder p
    let leaves := (all.filter fun k => !k.isAct && decide (k.s ≠ .keyDevice)).map (·.ofTurret r.tur)
    let mine := leaves.filter fun k => s.mayRead r k true
    let named := (leafOf p).any (·.isAct)
    if all = [] ∨ named = true then s.er r 20
    else if leaves ≠ [] ∧ mine = [] then s.er r 30
    else if maxData < mine.length then s.er r 21 [.word "lines"]
    else s.okLines r (mine.map fun k => .path k :: s.readFor r k)

/-- The letter of an index in the settings tables. -/
def ixLetter : Ix → String
  | .island => "nn" | .turret => "n" | .sess => "s" | .port => "x" | .head => "x" | .phase => "p" | .chan => "c" | .slot4 => "j"
  | .pin => "k" | .slot8 => "k" | .rule => "k" | .valve => "mm" | .entry => "e" | .loop => "n" | .blob => "b" | .stream => "s"
  | .record => "record" | .cls => "class"

/-- A pattern as `HELP` of a path writes it (R585): the indices that the path names as they stand, the others as their
letters; none where the pattern is not at or under the path. -/
def helpSegs : List Seg → Path → Option (List (List Char))
  | [], [] => some []
  | [], _ :: _ => none
  | .w x :: ss, [] => (helpSegs ss []).map (x.toList :: ·)
  | .w x :: ss, .w y :: p => if x = y then (helpSegs ss p).map (x.toList :: ·) else none
  | .w _ :: _, .n _ :: _ => none
  | .ix k :: ss, [] => (helpSegs ss []).map (('<' :: (ixLetter k).toList ++ ['>']) :: ·)
  | .ix k :: ss, q :: p =>
    match ixFrom k (q :: p) with
    | [(i, rest)] => (helpSegs ss rest).map (ixChars k i :: ·)
    | [] => none
    | (_, _) :: _ => (helpSegs ss []).map ((match q with
      | .w w => w.toList ++ ".<n>".toList
      | .n n => decChars n) :: ·)

/-- The word of the field *run* of `HELP` (R585). -/
def runWord (x : Setting) : String :=
  if x = .keyDevice then "-"
  else match x.info.run with
    | .no => "no" | .yes => "yes" | .ro => "ro" | .staged => "staged"

/-- The fields of a `HELP` line (R585): path, type, range, default, unit, run and owner. -/
def helpLine (e : Setting × Info) (path : List Char) : List (List Char) :=
  let h := e.2.help.map String.toList
  path :: h.take 4 ++ (runWord e.1).toList :: h.drop 4

/-- A `HELP` line within the characters left for it: one that is too long ends its range with `..+` (R585). -/
def fitHelp (room : Nat) (fs : List (List Char)) : List (List Char) :=
  let n := (joinWith ' ' fs).length
  match fs with
  | p :: t :: rng :: rest =>
    if n ≤ room then fs else p :: t :: (rng.take (rng.length - (n + 3 - room)) ++ "..+".toList) :: rest
  | fs => fs

/-- Ascending byte order. -/
def charsLe : List Char → List Char → Bool
  | [], _ => true
  | _ :: _, [] => false
  | a :: as, b :: bs => if a.toNat < b.toNat then true else if b.toNat < a.toNat then false else charsLe as bs

/-- A line put in its place by the byte order of its path. -/
def insHelp (x : List (List Char)) : List (List (List Char)) → List (List (List Char))
  | [] => [x]
  | y :: ys => if charsLe (x.headD []) (y.headD []) then x :: y :: ys else y :: insHelp x ys

/-- The `HELP` lines of a path, in ascending byte order (R585). -/
def helpLines (p : Path) : List (List (List Char)) :=
  (Setting.table.filterMap fun e => (helpSegs e.2.path p).map fun segs => helpLine e (joinWith '.' segs)).foldr insHelp []

/-- The characters left for the text of a data line, after its address, tag, `=` and check (R161, R188). -/
def State.dataRoom (s : State) (r : ReplyTo) : Nat :=
  maxLine - (prefixChars (s.answerLine r (.ok []) true)).length - 2 - (if s.checked r.sess then 3 else 0)

/-- `HELP` (Table 4-3, R585): the metadata of the leaves and actions at or under a path, or one line for each verb. -/
def doHelp (r : ReplyTo) (p : Option Path) (s : State) : State :=
  match p with
  | none => s.okLines r (verbs.map fun v => [.word v])
  | some p =>
    let ls := helpLines p
    if ls = [] then s.er r 20 else s.sendLines r (ls.map fun l => (fitHelp (s.dataRoom r) l).map .chars)

/-! ## WATCH (R162) -/

/-- The interval of the change comparison, and the least distance of two events of one watch (R162). -/
abbrev watchTicks : Nat := 10 * msTicks

/-- `EV watch path value` of a session's watch: to every session logged in to its turret (Table 4-4). -/
def State.watchEvent (s : State) (k : Nat) (key : Key) (v : List Fld) : State :=
  match (s.getSess k).login with
  | some n => s.emit (.turret n false) "watch" (String.ofList (pathChars key)) v
  | none => s

/-- `WATCH` (R158, R162). -/
def doWatch (r : ReplyTo) (p : Path) (a : WatchArg) (s : State) : State :=
  match leafOf p with
  | none => s.er r 20
  | some k =>
    let k := k.ofTurret r.tur
    let others := (s.getSess r.sess).watches.filter fun w => decide (w.key ≠ k)
    let start (p : Option Nat) : State :=
      let w : WatchE := { key := k, period := p, due := s.now + (match p with
        | some ms => ms * msTicks
        | none => watchTicks), last := some (s.readFor r k) }
      if 16 ≤ others.length then s.er r 40 else (s.modSess r.sess fun y => { y with watches := others ++ [w] }).ok r []
    if k.isAct then s.er r 20
    else if r.turret.isNone ∨ s.mayRead r k true = false then s.er r 30
    else match a with
      | .off => (s.modSess r.sess fun y => { y with watches := others }).ok r []
      | .change => start none
      | .period ms => if ms < 10 ∨ 60000 < ms then s.er r 21 else start (some ms)

/-- The readers of a session as a command of it would see it. -/
def State.asSess (s : State) (k : Nat) : ReplyTo := { sess := k, tag := none, addrd := false, turret := (s.getSess k).login }

/-- A list with one element replaced. -/
def setAt {α : Type} : List α → Nat → α → List α
  | [], _, _ => []
  | _ :: xs, 0, y => y :: xs
  | x :: xs, n + 1, y => x :: setAt xs n y

/-- WATCH_PERIOD (R162): a watch falls due: its period has ended, or 10 ms have passed and the comparison of a watch of changes
finds one. A watch of a path that the session may no longer read raises nothing. -/
def execWatchPeriod (sess idx : Nat) (s : State) : Host.Outcome State Fault Refusal :=
  .next (
    match (s.getSess sess).watches[idx]? with
    | none => s
    | some w =>
      let v := s.readFor (s.asSess sess) w.key
      if s.serving = false ∨ s.now < w.due ∨ s.mayRead (s.asSess sess) w.key true = false then s
      else
        let keep (w : WatchE) : State := s.modSess sess fun y => { y with watches := setAt y.watches idx w }
        let told (due : Tick) : State := (keep { w with due := due, last := some v, told := some s.now }).watchEvent sess w.key v
        match w.period with
        | some ms => told (w.due + ms * msTicks)
        | none => if w.last = some v then keep { w with due := s.now + watchTicks } else told (s.now + watchTicks))

/-- A `SET` of a path counts as a change found at once by every watch of its changes, one event to a watch in 10 ms (R162). -/
def State.noticeSet (s : State) (key : Key) : State :=
  [0, 1, 2, 3].foldl (fun t k =>
    (t.getSess k).watches.foldl (fun t w =>
      if w.key = key ∧ w.period = none ∧ t.mayRead (t.asSess k) key true = true then
        let v := t.readFor (t.asSess k) key
        let mark (f : WatchE → WatchE) : State := t.modSess k fun y =>
          { y with watches := y.watches.map fun q => if q.key = key then f q else q }
        match w.told.filter fun a => decide (t.now < a + watchTicks) with
        | none => (mark fun q => { q with last := some v, due := t.now + watchTicks, told := some t.now }).watchEvent k key v
        | some a => mark fun q => { q with last := none, due := a + watchTicks }
      else t) t) s

/-! ## SET (R153, R168, R587) -/

/-- Whether a command that has just been performed on a session was answered `OK`. -/
def saidOk (s t : State) (k : Nat) : Bool :=
  decide ((s.getSess k).out.length < (t.getSess k).out.length) &&
  (match (t.getSess k).out.getLast? with
   | some l => (match l.body with
     | .ok _ => true
     | .er _ _ => false
     | .data _ => false
     | .ev _ _ _ => false)
   | none => false)

/-- Whether a session with a higher number has set the path in this tick, whose value then stands (Table 4-6). -/
def State.outranked (s : State) (r : ReplyTo) (k : Key) : Bool :=
  [0, 1, 2, 3].any fun q => decide (r.sess < q) && decide ((k, s.now) ∈ (s.getSess q).setAt)

/-- A `SET` that its path's row has taken is remembered for its tick, and the watches of the path notice it (R162, Table 4-6). -/
def State.setDone (s : State) (r : ReplyTo) (k : Key) : State :=
  (s.modSess r.sess fun y => { y with setAt := (y.setAt.filter fun w => decide (w.2 = s.now)) ++ [(k, s.now)] }).noticeSet k

/-- `SET` of a path with a value: DENIED, READ ONLY, STATE and RANGE in this order, then what the path's row says. One that it
refuses has no effect (R167). -/
def doSet (r : ReplyTo) (k0 : Key) (v : Val) (s : State) : State :=
  let k := k0.ofTurret r.tur
  let i := k.s.info
  if i.ty.kindOk v = false then s.er r 10
  else if s.mayWrite r k = false then s.er r 30
  else if i.run = .ro ∨ (k.s = .seqPartitioned ∧ s.isSealed = true) then s.er r 22
  else if s.runBars k ∨ s.setBar k v = true then s.er r 23
  else if i.ty.rangeOk v = false then s.er r 21
  else
    let t := s.applySet r k v
    if saidOk s t r.sess = false then t else if s.outranked r k then s.ok r [] else t.setDone r k

/-- `SET` of a path that a line spells (R153). -/
def doSetPath (r : ReplyTo) (p : Path) (tok : List Char) (s : State) : State :=
  match leafOf p with
  | none => s.er r 20
  | some k =>
    if k.isAct then s.er r 20
    else match k.s.info.ty.form tok with
      | none => s.er r 10
      | some v => doSet r k v s

/-! ## Every command -/

/-- Whether a session may use an action (R160, R170, R498, R517). -/
def State.mayAct (s : State) (r : ReplyTo) (k : Key) : Bool :=
  s.allows r k k.s.info.wr || (r.turret.isNone && decide (k.s = .actTurretClaim))

/-- What bars a command before its own tests (R168): a grammar error, a path that is none, DENIED, and the state. -/
def State.gate (s : State) (r : ReplyTo) (c : Cmd) : Option Nat :=
  match c with
  | .bad code => some code
  | c => match c.action with
    | none => none
    | some k =>
      if c.unanswered then some 10
      else if s.mayAct r k = false then some 30
      else if s.runBars k then some 23
      else none

/-- The command of an action, or of `SHOW sys.halt` and `GET key.nonce`. -/
def State.act (s : State) (r : ReplyTo) (c : Cmd) : State :=
  match c with
  | .sysRun => doSysRun r s
  | .sysStop => doSysStop r s
  | .sysWatch => doSysWatch r s
  | .sysHalt => doSysHalt r s
  | .sysRestart x => doSysRestart r x s
  | .sysSeal b => doSysSeal r b s
  | .sysUnseal => doSysUnseal r s
  | .nvCheckpoint => doNvCheckpoint r s
  | .nvSave => doNvSave r s
  | .nvVerify bad => doNvVerify r bad s
  | .towerPromote => doTowerPromote r s
  | .feedPause => doFeedPause r s
  | .feedResume => doFeedResume r s
  | .lanternCommit => doLanternCommit r s
  | .shadeCalibrate => doShadeCalibrate r s
  | .classCommit => doClassCommit r s
  | .valveTest mm ms6 => doValveTest r mm ms6 s
  | .seqNow e => doSeqNow r e s
  | .seqCommit => doSeqCommit r s
  | .checkRun k => doCheckRun r k s
  | .memRekey n x => doMemRekey r n x s
  | .turretCreate n => doTurretCreate r n s
  | .turretClaim n key => doTurretClaim r n key s
  | .turretRevoke n => doTurretRevoke r n s
  | .turretRestore n => doTurretRestore r n s
  | .turretDestroy n => doTurretDestroy r n s
  | .getKeyNonce => if r.turret.isNone then s.er r 30 else getKeyNonce r s
  | .keyImport k b => doKeyImport r k b s
  | .keyErase k => doKeyErase r k s
  | .blobWrite b off d => doBlobWrite r b off d s
  | .blobRead b off len => doBlobRead r b off len s
  | .blobClear b => doBlobClear r b s
  | .streamNext n => doStreamNext r n s
  | .digHash a k b off len out => doDomeDigHash r a k b off len out s
  | .digStart a k => doDomeDigStart r a k s
  | .digUpdate hd b off len => doDomeDigUpdate r hd b off len s
  | .digFinal hd out => doDomeDigFinal r hd out s
  | .digDrop hd => doDomeDigDrop r hd s
  | .digTable x j => doDomeDigTable r x j s
  | .pkeSign k b => doDomePkeSign r k b s
  | .pkeVerify c b => doDomePkeVerify r c b s
  | .pkeKeygen c k => doDomePkeKeygen r c k s
  | .pkeEcdh k b k2 => doDomePkeEcdh r k b k2 s
  | .pkePublic k => doDomePkePublic r k s
  | .pkeDiag b => doDomePkeDiag r b s
  | .rngFill b off len => doDomeRngFill r b off len s
  | .bad code => s.er r code
  | .getPath p => doGet r p s
  | .setPath p tok => doSetPath r p tok s
  | .setKey k v => doSet r k v s
  | .showPath p => doShow r p s
  | .watchPath p a => doWatch r p a s
  | .helpPath p => doHelp r p s
  | .loginChallenge n => doLoginChallenge r n s
  | .loginResponse n x => doLoginResponse r n x s
  | .loginPin n d => if pinForm d then doLoginPin r n d s else s.er r 10
  | .logout => doLogout r s
  | .showSysHalt => s.er r 20
  | .abort _ => s
  | .enumerate _ => s

/-- A command in READY, RUN or PAUSED, barred or performed. -/
def State.perform (s : State) (r : ReplyTo) (c : Cmd) : State :=
  match s.gate r c with
  | some code => s.er r code
  | none => s.act r c

end Sys2Proof.Machine
end

