-- ==== Sys2Proof/Machine/Lines.lean ====
section
/-! DEFINITION. A line of Traop from its arrival to the start of its command: who executes it (R156, R157, R240), the codes that
come before any command (R117, R125, R154, R168, R190), one untagged command at a time (R180), the job table (R182), `ABORT` on
arrival (R183), `ENUM` (R234, R235), what a halt and a reset of the command island leave to be answered (R99, R124). -/

namespace Sys2Proof

/-- Whether a command is one of the two that HALTED executes (R125), which it does on the chain session alone (R127, R170). -/
def Cmd.inHalt (c : Cmd) : Bool :=
  match c with
  | .showSysHalt => true
  | .sysRestart x => x.response.isSome
  | _ => false

/-- Whether a command is one of the two that START answers `OK` (R117). -/
def Cmd.inStart (c : Cmd) : Bool :=
  decide (c = .getPath [.w "sys", .w "state"]) || decide (c = .showPath [.w "sys", .w "state"])

/-- Whether a command may not be addressed `@*` (R158). -/
def Cmd.notForAll (c : Cmd) : Bool :=
  match c with
  | .loginChallenge _ => true
  | .loginResponse _ _ => true
  | .loginPin _ _ => true
  | .watchPath _ _ => true
  | _ => false

/-- Whether a command breaks the grammar of its line (R153, R168, R176, R183): it does not parse, a value is of the wrong form, or
a PIN is none. -/
def Cmd.malformed (c : Cmd) : Bool :=
  match c with
  | .bad code => decide (code = 10)
  | .setKey k v => !k.s.info.ty.kindOk v
  | .setPath p tok => (leafOf p).any fun k => !k.isAct && (k.s.info.ty.form tok).isNone
  | .loginPin _ d => !Machine.pinForm d
  | .sysRestart x => x.response.isNone
  | _ => false

/-- The number of characters of a line's address and tag. -/
def Line.headLen (l : Line) : Nat :=
  (match l.addr with
   | .absent => 0
   | .all => 2
   | .num _ => 3) +
  (match l.tag with
   | none => 0
   | some t => 1 + (Machine.decChars t).length)

end Sys2Proof

namespace Sys2Proof.Machine

/-! ## Before the command -/

/-- Whether lines for the command island wait: it is in reset (R99). -/
def State.islandDown (s : State) : Bool := s.isl.cmdDown && (s.serving || decide (s.sys.state = .start))

/-- Whether the module answers lines of a session: it is open, its logic runs (R140), and the module is neither in OFF nor in
WATCH. -/
def State.takesLines (s : State) (k : Nat) : Bool :=
  (s.getSess k).isOpen && s.pwr.logicOn && decide (s.sys.state ≠ .off ∧ s.sys.state ≠ .watch)

/-- Whether a line of the chain is for another module (R156): it has an address that is not this module's. -/
def State.forOther (s : State) (h : Hdr) : Bool :=
  match h.addr with
  | .num n => decide (h.sess = 0) && decide (s.tower.addr = 0 ∨ n ≠ s.tower.addr)
  | .absent => false
  | .all => false

/-- A line is answered `ER` and no command of it starts. The answer ends no job. -/
def State.turnAway (s : State) (h : Hdr) (code : Nat) (detail : List Fld := []) : State :=
  s.modSess h.sess fun y =>
    { y with out := y.out ++ [s.answerLine (Hdr.reply h y) (.er code detail) false], ready := y.ready + 1,
             lastActive := s.now }

/-- The cause of the halt as the detail of `ER 60 HALTED` (R125). -/
def State.haltDetail (s : State) : List Fld :=
  match s.sys.halt with
  | some h => [.dec2 h.cause]
  | none => []

/-- What turns a line away when its command would start (R117, R125, R157, R158, R240). -/
def State.lineBar (s : State) (h : Hdr) (c : Cmd) : Option (Nat × List Fld) :=
  let dup := decide (h.sess = 0 ∧ (h.addr = .num s.tower.addr)) && s.tower.dup
  match s.sys.state with
  | .halted =>
    if c.inHalt ∧ h.sess = 0 then (if dup then some (23, [.word "dup"]) else none) else some (60, s.haltDetail)
  | .off | .watch | .start => if c.inStart ∧ dup = false then none else some (23, if dup then [.word "dup"] else [])
  | .ready | .run | .paused =>
    match h.addr with
    | .absent => none
    | .all => if c.notForAll then some (10, []) else none
    | .num n =>
      if h.sess = 0 then (if s.tower.dup then some (23, [.word "dup"]) else none)
      else if n = s.tower.addr ∨ c.malformed = true then none
      else some (20, [.chars ('@' :: decPad 2 n)])

/-- A command that starts, in the module's state at that moment. -/
def State.run (s : State) (r : ReplyTo) (c : Cmd) : State :=
  match s.sys.state with
  | .halted =>
    (match c with
     | .showSysHalt => doShowSysHalt r s
     | .sysRestart x => doSysRestart r x s
     | _ => s.er r 60 s.haltDetail)
  | .off | .watch | .start =>
    (match c with
     | .getPath p => doGet r p s
     | .showPath p => doShow r p s
     | _ => s.er r 23)
  | .ready | .run | .paused => s.perform r c

/-! ## Untagged lines and jobs (R180–R182) -/

/-- An untagged line starts: it is turned away, or its command runs. -/
def State.startUntagged (s : State) (h : Hdr) (c : Cmd) : State :=
  let r := Hdr.reply h (s.getSess h.sess)
  match s.lineBar h c with
  | some e => s.turnAway h e.1 e.2
  | none => (s.modSess h.sess fun y => { y with running := some (c, r) }).run r c

/-- How many entries of the job table meet a test. -/
def State.jobCount (s : State) (p : Job → Bool) : Nat := (s.liveJobs.filter p).length

/-- Whether a tagged command finds a bound of R182 full, or its tag in flight. -/
def State.jobBars (s : State) (k tag : Nat) (login : Option Nat) : Bool :=
  let mine := s.jobCount fun j => decide (j.turret = login)
  let inSess := s.jobCount fun j => decide (j.sess = k)
  decide (48 ≤ s.liveJobs.length) || decide (16 ≤ inSess) ||
  s.liveJobs.any (fun j => decide (j.sess = k ∧ j.tag = tag)) ||
  (match login with
   | some n => decide (8 ≤ mine) || (s.isSealed && decide (s.nat .turretJobs n ≤ mine))
   | none => decide (4 ≤ inSess) || (s.isSealed && decide (16 ≤ mine)))

/-- Whether the tag is in flight on the session, which the answer names. -/
def State.tagBusy (s : State) (k tag : Nat) : Bool := s.liveJobs.any fun j => decide (j.sess = k ∧ j.tag = tag)

/-- The code below 40 that a command was answered with between two states, if it was (R168). -/
def refusedWith (s t : State) (k : Nat) : Option (Nat × List Fld) :=
  if (s.getSess k).out.length < (t.getSess k).out.length then
    match (t.getSess k).out.getLast? with
    | some l => (match l.body with
      | .er code d => if code = 10 ∨ code = 20 ∨ code = 30 ∨ code = 22 ∨ code = 23 ∨ code = 21 then some (code, d) else none
      | .ok _ => none
      | .data _ => none
      | .ev _ _ _ => none)
    | none => none
  else none

/-- What stands against a command, the codes that come before `ER 40 BUSY` (R168): none where only that is left. -/
def State.refusal (s : State) (h : Hdr) (c : Cmd) : Option (Nat × List Fld) :=
  match s.lineBar h c with
  | some e => some e
  | none => refusedWith s (s.run (Hdr.reply h (s.getSess h.sess)) c) h.sess

/-- A tagged line starts at once (R181), unless it is turned away. `ER 40 BUSY` is the last of the codes that a line may qualify
for (R168). -/
def State.startTagged (s : State) (h : Hdr) (tag : Nat) (c : Cmd) : State :=
  let k := h.sess
  let login := (s.getSess k).login
  let r := Hdr.reply h (s.getSess k)
  match s.lineBar h c with
  | some e => s.turnAway h e.1 e.2
  | none =>
    if s.jobBars k tag login then
      let e := (s.refusal h c).getD (40, if s.tagBusy k tag then [.word "tag"] else [])
      s.turnAway h e.1 e.2
    else State.run { s with jobs := s.liveJobs ++ [{ sess := k, tag := tag, turret := login, cmd := c, reply := r }] } r c

/-- A line starts. -/
def State.beginLine (s : State) (h : Hdr) (c : Cmd) : State :=
  match c, h.tag with
  | .abort a, none => (match s.lineBar h c with
    | some e => s.turnAway h e.1 e.2
    | none => doAbort (Hdr.reply h (s.getSess h.sess)) a s)
  | .abort _, some _ => (match s.lineBar h (.bad 10) with
    | some e => s.turnAway h e.1 e.2
    | none => s.turnAway h 10)
  | c, some t => s.startTagged h t c
  | c, none => s.startUntagged h c

/-- The waiting line of a session starts once no command runs (R180). -/
def State.startWaiting (s : State) (k : Nat) : State :=
  match (s.getSess k).running, (s.getSess k).waiting with
  | none, some w => (s.modSess k fun y => { y with waiting := none }).beginLine w.1 w.2
  | _, _ => s

/-- A line waits, or is answered `ER 40 BUSY` where one already does (R180). -/
def State.holdLine (s : State) (h : Hdr) (c : Cmd) : State :=
  if (s.getSess h.sess).waiting.isNone then s.modSess h.sess fun y => { y with waiting := some (h, c) } else s.turnAway h 40

/-- A line whose damage and check have been judged: `ABORT` and tagged lines start at once, an untagged line once no other
runs (R180, R181, R183). -/
def State.takeCmd (s : State) (h : Hdr) (c : Cmd) : State :=
  if s.islandDown then s.holdLine h c
  else
    match c, h.tag with
    | .abort _, _ => s.beginLine h c
    | _, some _ => (s.startWaiting h.sess).beginLine h c
    | _, none =>
      let t := s.startWaiting h.sess
      if (t.getSess h.sess).running.isNone then t.beginLine h c else t.holdLine h c

/-! ## The forwarded stream (R203–R209) -/

/-- The ticks that `n` characters take, rounded up (R196). -/
def Fmt.charTicks (f : Fmt) (n : Nat) : Nat :=
  let bits := 1 + f.data + (if f.parity = 0 then 0 else 1) + f.stop
  (n * bits * secTicks + f.baud - 1) / f.baud

/-- One and a half character times (R204, R207). -/
def Fmt.idleTicks (f : Fmt) : Nat := (f.charTicks 3 + 1) / 2

/-- The characters of a stream, without its idle lines. -/
def charsIn (xs : List (Option Byte)) : List Byte := xs.filterMap id

/-- The bound on the forwarding backlog (R208). -/
abbrev maxBacklog : Nat := 1024

/-- Whether the forwarded stream has come to where a line boundary may be (R208): nothing sent yet, an idle line, an LF or a CR,
which no line of the module's own follows yet. -/
def Serial.atEdge (p : Serial) : Bool :=
  !p.ownLast &&
  (match p.sent.getLast? with
   | none => true
   | some none => true
   | some (some c) => decide (c = 10 ∨ c = 13))

/-- Whether the stream is at a line boundary (R208): a CR is one only where no LF has followed it within one character time. -/
def Serial.atBoundary (p : Serial) (now : Tick) : Bool :=
  p.atEdge && decide (p.sent.getLast? = some (some 13) → p.sentEnd + p.fmt.charTicks 1 < now)

/-- Whether a character other than an LF has begun at a boundary in this tick: a line of the module's own goes first (Table 5-2). -/
def Serial.begun (p : Serial) (now : Tick) : Bool := decide (p.edge = some now ∧ p.backlog = [])

/-- Something joins the forwarded stream: it is sent, or it waits behind the backlog, whose first is sent as one more joins
unless a line of the module's own is being sent (R203, R208, R209). A module that repeats forwards nothing itself (R224). The
backlog never holds more than R208 gives it (log entry 67). -/
def Serial.forward (p : Serial) (now : Tick) (x : Option Byte) : Serial :=
  if p.repeating then p
  else if p.backlog = [] ∧ p.txFree ≤ now then
    { p with sent := p.sent ++ [x], edge := if p.atEdge = true ∧ x ≠ some 10 then some now else none, ownLast := false,
             sentEnd := now + (if x.isNone then p.fmt.idleTicks else p.fmt.charTicks 1),
             charEnd := if x.isNone then p.charEnd else now + p.fmt.charTicks 1 }
  else
    let q := if maxBacklog ≤ (charsIn p.backlog).length then p.backlog else p.backlog ++ [x]
    let r : Serial :=
      if now < p.txFree then { p with backlog := q }
      else { p with sent := p.sent ++ q.take 1, backlog := q.drop 1, edge := none, ownLast := false,
                    sentEnd := now + p.fmt.charTicks 1, charEnd := now + p.fmt.charTicks 1 }
    { r with backlogMax := max r.backlogMax (charsIn r.backlog).length }

/-- The receive pair is idle: the backlog drains, and the idle line follows it (R207, R209). -/
def Serial.drain (p : Serial) (now : Tick) : Serial :=
  let out := p.sent ++ p.backlog
  let start := max now p.txFree
  let fin := if p.backlog = [] then p.txFree else start + p.fmt.charTicks (charsIn p.backlog).length
  let q : Serial := { p with sent := out, backlog := [], edge := none, txFree := fin,
                             charEnd := if p.backlog = [] then p.charEnd else fin }
  if out.getLast? = some none then q
  else { q with sent := out ++ [none], ownLast := false, sentEnd := max start fin + p.fmt.idleTicks }

/-! ## ENUM -/

/-- Characters as bytes. -/
def asBytes (cs : List Char) : List Byte := cs.map fun c => BitVec.ofNat 8 c.toNat

/-- CR LF (R208). -/
def crLf : List Byte := [13, 10]

/-- An `ENUM` line that a module sends on (R235): with a check where the one it received carried one. -/
def enumChars (m : Nat) (check : Bool) : List Byte :=
  let bs := asBytes ("ENUM ".toList ++ decChars m)
  (if check then bs ++ asBytes ('*' :: hexChars 2 (crc8 bs)) else bs) ++ crLf

/-- The characters before the verb of a line. -/
def Hdr.chars (h : Hdr) : List Char :=
  let a := match h.addr with
    | .absent => []
    | .all => ['@', '*']
    | .num n => '@' :: decPad 2 n
  let t := match h.tag with
    | some n => '#' :: decChars n
    | none => []
  if a ++ t = [] then [] else a ++ t ++ [' ']

/-- An `ENUM` line that is sent on as it came (R224, R235), with the check that it carries. -/
def enumEcho (h : Hdr) (n : Option Nat) : List Byte :=
  let bs := asBytes (Hdr.chars h ++ "ENUM".toList ++ (match n with
    | some m => ' ' :: decChars m
    | none => []))
  (match h.check with
   | .absent => bs
   | .good => bs ++ asBytes ('*' :: hexChars 2 (crc8 bs))
   | .bad => bs ++ asBytes ('*' :: hexChars 2 h.checkHex)) ++ crLf

/-- Characters join the forwarded stream (R203, R208). -/
def State.forwardAll (s : State) (bs : List Byte) : State :=
  s.onSerial fun p => bs.foldl (fun q c => q.forward s.now (some c)) p

/-- The number of an `ENUM` line that R234 lets a module treat: no address, no tag, and at most 33. -/
def Hdr.enumOf (h : Hdr) (n : Option Nat) : Option Nat :=
  match h.addr, h.tag with
  | .absent, none => n.filter fun m => decide (m ≤ 33)
  | _, _ => none

/-- `ENUM n` (R234–R237). One that fails its check is sent on and not acted on; a malformed one is answered by the first code that
it qualifies for (R168); on a session other than the chain's `ENUM` is answered `ER 23 STATE` (log entry 66). -/
def State.enumLine (s : State) (h : Hdr) (n : Option Nat) : State :=
  if h.sess = 0 ∧ h.addr = .absent ∧ h.tag = none ∧ h.check = .bad then s.forwardAll (enumEcho h n)
  else match Hdr.enumOf h n with
  | none =>
    if s.sys.state = .halted then s.turnAway h 60 s.haltDetail
    else if h.check = .bad ∨ (h.check = .absent ∧ s.on .sessRequireCheck h.sess = true) then s.turnAway h 15
    else s.turnAway h 10
  | some m =>
    if h.sess ≠ 0 ∧ s.sys.state = .halted then s.turnAway h 60 s.haltDetail
    else if h.check = .bad ∨ (h.check = .absent ∧ s.on .sessRequireCheck h.sess = true) then s.turnAway h 15
    else if h.sess ≠ 0 then s.turnAway h 23
    else
      let e := s.enumNumber m
      e.1.forwardAll (enumChars e.2 (decide (h.check = .good)))

/-! ## Arrival -/

/-- Whether a command is an `ENUM` that the module repeats and does not act on: in WATCH, and until the first idle line after it, it
comes from the chain with no address (R224, R236). -/
def State.repeats (s : State) (h : Hdr) (c : Cmd) : Bool :=
  s.serial.repeating && decide (h.sess = 0 ∧ h.addr = .absent) &&
  (match c with
   | .enumerate _ => true
   | _ => false)

/-- The `ENUM` line is repeated onto the transmit pair unchanged (R224). -/
def State.repeatEnum (s : State) (h : Hdr) (c : Cmd) : State :=
  match c with
  | .enumerate n =>
    if s.pwr.logicOn = true ∧ s.pwr.csin = true then s.onSerial fun p => { p with sent := p.sent ++ (enumEcho h n).map some } else s
  | _ => s

/-- A line that has been received undamaged. Its check comes before everything but the halt (R154, R168). -/
def State.arrive (s : State) (h : Hdr) (c : Cmd) : State :=
  if s.repeats h c = true then s.repeatEnum h c
  else if s.takesLines h.sess = false ∨ s.forOther h = true then s
  else
    let t := s.modSess h.sess fun y => { y with lastCheck := decide (h.check ≠ .absent), lastActive := s.now }
    match c with
    | .enumerate n => t.enumLine h n
    | c =>
      if s.sys.state = .halted ∧ c.inHalt = false then t.takeCmd h c
      else if h.check = .bad ∨ (h.check = .absent ∧ s.on .sessRequireCheck h.sess = true) then t.turnAway h 15
      else t.takeCmd h c

/-- UNTAGGED_LINE_START (R180): the running untagged command has ended, and the waiting line starts. -/
def execUntaggedLineStart (sess : Nat) (s : State) : Host.Outcome State Fault Refusal :=
  .next (if s.takesLines sess = true ∧ s.islandDown = false then s.startWaiting sess else s)

/-! ## Lines as characters -/

/-- The tags of a character make it a bad one (R197); so does 0x1A, which marks one that was received bad before (R150, R206). -/
def RxEntry.bad (e : RxEntry) : Bool := e.tags.noise || e.tags.framing || e.tags.parity || decide (e.c = 0x1A)

/-- An entry as a character of its line, a bad one as 0x1A. -/
def RxEntry.byte (e : RxEntry) : Byte := if e.bad then 0x1A else e.c

/-- The characters stored of a line. -/
def LineBuf.chars (b : LineBuf) : List Byte := b.entries.map (·.byte)

/-- The stored characters as text. -/
def LineBuf.text (b : LineBuf) : List Char := b.chars.map fun x => Char.ofNat x.toNat

/-- The first bad column, counted from 1: none on a console, where the damage codes never arise (R185). -/
def LineBuf.badCol (b : LineBuf) (k : Nat) : Option Nat := if 2 ≤ k then none else (b.entries.findIdx? (·.bad)).map (· + 1)

/-- Whether a character of the line was received during flood (R215). -/
def LineBuf.flood (b : LineBuf) : Bool := b.endFlood || b.entries.any (·.flood)

/-- The code of a line's damage (R187, R190, R201, R215), which comes before its grammar (R168). -/
def LineBuf.damage (b : LineBuf) (k : Nat) : Option (Nat × List Fld) :=
  match b.badCol k with
  | some n => some (11, [.word "col", .int n])
  | none =>
    if b.overrun then some (12, []) else if b.flood then some (13, []) else if b.tooLong then some (14, []) else none

/-- The header of a received line. A tag counts only where it and the character after it were received whole (R201); a line that is
not stored whole ends with no check (R154). -/
def LineBuf.header (b : LineBuf) (k : Nat) (l : Line) : Hdr :=
  let whole (n : Nat) : Bool :=
    (match b.badCol k with
     | some c => decide (n < c)
     | none => true) && (!b.overrun || decide (n ≤ b.entries.length))
  { sess := k, addr := if whole (l.headLen - (match l.tag with
      | none => 0
      | some t => 1 + (decChars t).length)) then l.addr else .absent,
    tag := if whole (l.headLen + 1) then l.tag else none,
    check := if b.entries.length = b.count then l.check else .absent, checkHex := l.checkHex }

/-- A line that has been received on a session: a line of no characters is ignored (R149), a damaged one is answered with the code
of its damage and never executed (R190), any other is read and arrives. -/
def State.lineIn (s : State) (k : Nat) (b : LineBuf) : State :=
  let l := parseLine b.text
  let h := b.header k l
  if b.count = 0 ∨ s.takesLines k = false then s
  else match b.damage k with
    | none => s.arrive h l.cmd
    | some e =>
      let t := s.modSess k fun y => { y with lastCheck := decide (h.check ≠ .absent), lastActive := s.now }
      if s.sys.state = .halted then t.turnAway h 60 s.haltDetail else t.turnAway h e.1 e.2

/-- A line that is not executed for want of room (R228): it is answered with the first code that it qualifies for, `ER 40 BUSY` where
none comes before (R168). -/
def State.busyLine (s : State) (b : LineBuf) : State :=
  let l := parseLine b.text
  let h := b.header 0 l
  if s.takesLines 0 = false then s
  else if (b.damage 0).isSome then s.lineIn 0 b
  else
    let t := s.modSess 0 fun y => { y with lastCheck := decide (h.check ≠ .absent), lastActive := s.now }
    match l.cmd with
    | .enumerate n => t.enumLine h n
    | c =>
      if h.check = .bad ∨ (h.check = .absent ∧ s.on .sessRequireCheck 0 = true) then t.turnAway h 15
      else
        let e := (t.refusal h c).getD (40, [])
        t.turnAway h e.1 e.2

/-- The lines that waited for the command island are delivered in order (R99). -/
def State.deliverHeld (s : State) : State :=
  let chain := s.serial.held
  let ir := s.serial.irHeld
  let t := s.onSerial fun p => { p with held := [], irHeld := [], taken := 0, irTaken := 0 }
  ir.foldl (fun u b => u.lineIn 1 b) (chain.foldl (fun u b => u.lineIn 0 b) t)

/-- I25_RESTART_DONE (R99): the firmware runs again from its verified image, the event reaches every session, and the lines that
came meanwhile are answered. -/
def execI25RestartDone (s : State) : Host.Outcome State Fault Refusal :=
  .next (
    if s.islandDown then
      (((s.onIsl fun i => { i with cmdDown := false }).emit .all "island" "25 reset" []).deliverHeld)
    else s)

/-! ## The halt on the chain (R124) -/

/-- `EV sys halt cc`, once, before anything else that waits for the chain. -/
def State.announceLine (s : State) (cause : Nat) : State :=
  if s.hears .all "sys" 0 then
    s.modSess 0 fun y => { y with out := s.eventLine "sys" "halt" [.dec2 cause] :: y.out }
  else s

/-- HALT_ANNOUNCE (R124): the event enters the chain; the chain session's jobs and its running command are answered `ER 60
HALTED`; its waiting line, and lines that waited for the command island, are judged in HALTED. -/
def execHaltAnnounce (s : State) : Host.Outcome State Fault Refusal :=
  .next (match s.sys.halt with
    | none => s
    | some h =>
      if s.sys.state ≠ .halted ∨ h.announced = true then s
      else
        let t := s.onSys fun y => { y with halt := y.halt.map fun h => { h with announced := true } }
        let u := (t.jobsOf 0 ++ t.runningOf 0).foldl (fun t r => t.er r 60 [.dec2 h.cause]) (t.announceLine h.cause)
        (u.startWaiting 0).deliverHeld)

end Sys2Proof.Machine
end

