-- ==== Sys2Proof/Machine/Serial.lean ====
section
/-! DEFINITION. The chain port and the IR port (R194–R231): what becomes of each character, the line it belongs to and the
forwarded stream, the module's own lines, flood on the IR port, and waking from WATCH. -/

namespace Sys2Proof

/-- The majority of a bit's three samples: true is mark. -/
def RxBit.value (b : RxBit) : Bool := (b.a && b.b) || (b.a && b.c) || (b.b && b.c)

/-- Whether a bit's three samples disagree. -/
def RxBit.split (b : RxBit) : Bool := decide (b.a ≠ b.b) || decide (b.b ≠ b.c)

end Sys2Proof

namespace Sys2Proof.Machine

/-! ## Characters as they are sampled (R195–R197, R212, R213) -/

/-- Bits as a number, the first the least significant. -/
def bitsNat : List Bool → Nat
  | [] => 0
  | b :: bs => (if b then 1 else 0) + 2 * bitsNat bs

/-- How many bits a character of a format has, its start bit among them (R196). -/
def Fmt.bits (f : Fmt) : Nat := 1 + f.data + (if f.parity = 0 then 0 else 1) + f.stop

/-- The bits of a sampled character: those that its format has, mark for any that are not given. -/
def Fmt.frame (f : Fmt) (bits : List RxBit) : List RxBit := (bits ++ List.replicate f.bits (RxBit.mk true true true)).take f.bits

/-- A sampled character of the chain and its tags (R197): noise where the samples of a bit disagree, framing where a stop bit
reads as space, parity where the parity is wrong. -/
def Fmt.decode (f : Fmt) (bits : List RxBit) : Byte × CharTags :=
  let fr := f.frame bits
  let vs := fr.map (·.value)
  let dat := (vs.drop 1).take f.data
  let rest := vs.drop (1 + f.data)
  let ones := (dat.filter id).length + (if rest.headD true then 1 else 0)
  let stops := if f.parity = 0 then rest else rest.drop 1
  (BitVec.ofNat 8 (bitsNat dat),
    { noise := fr.any (·.split), framing := stops.any (!·), parity := decide (f.parity ≠ 0 ∧ ones % 2 ≠ f.parity - 1) })

/-- Whether a sampled character is a break (R219): every bit reads as space. -/
def Fmt.isBreak (f : Fmt) (bits : List RxBit) : Bool := (f.frame bits).all (!·.value)

/-- Pulses of 1.0 µs and more: the receiver ignores shorter ones (R213). -/
def irSeen (ps : List IrPulse) : List IrPulse := ps.filter fun p => decide (usTicks ≤ p.width)

/-- The bit that a pulse belongs to, counted from the start bit, whose pulse begins at `t0`: the nearest (log entry 68). -/
def irBit (baud t0 : Nat) (p : IrPulse) : Nat := (2 * (p.start - t0) * baud + secTicks) / (2 * secTicks)

/-- A character of the IR port from its pulses (R197, R212, R213): a pulse is a 0 and none a 1; noise where a pulse is longer than
half a bit or a bit holds more than one; framing where the stop bit holds one. None where no pulse passes the filter. -/
def irDecode (baud : Nat) (ps : List IrPulse) : Option (Byte × CharTags) :=
  match irSeen ps with
  | [] => none
  | p :: rest =>
    let cells := (p :: rest).map (irBit baud p.start)
    let count (i : Nat) : Nat := (cells.filter fun c => decide (c = i)).length
    some (BitVec.ofNat 8 (bitsNat ((List.range 8).map fun i => decide (count (i + 1) = 0))),
      { noise := (p :: rest).any (fun q => decide (secTicks < 2 * q.width * baud)) || (List.range 10).any fun i => decide (1 < count i),
        framing := decide (0 < count 9) })

/-! ## Lines as they arrive -/

/-- A character joins the line that is being received (R187, R190, R200, R201). One that finds the FIFO full is dropped, and with
it the rest of the line. -/
def LineBuf.push (b : LineBuf) (e : RxEntry) (dropped : Bool) : LineBuf :=
  let gone : Bool := b.overrun || dropped || decide (200 < b.count + 1)
  { b with count := b.count + 1, overrun := b.overrun || dropped, tooLong := b.tooLong || decide (200 < b.count + 1),
           endFlood := b.endFlood || (gone && e.flood),
           head := if b.count < 3 then b.head ++ [e.byte] else b.head,
           entries := if gone then b.entries else b.entries ++ [e] }

/-- The characters of an address. -/
def addrBytes (a : Nat) : List Byte := asBytes ('@' :: decPad 2 a)

/-- A line's fate once one more character of it has arrived (R156, R204, R206). `own` is 0 for none; `b` is the line with the
character. -/
def LineBuf.fateNow (b : LineBuf) (own : Nat) : Fate :=
  match b.count with
  | 1 => if b.head = [0x1A] then .forward else if b.head = asBytes ['@'] then .undecided else .execute
  | 2 =>
    if b.fate = .undecided then
      (if b.head = asBytes ['@', '*'] then .both else if b.head.getLast? = some 0x1A then .forward else .undecided)
    else b.fate
  | 3 =>
    if b.fate = .undecided then (if own ≠ 0 ∧ b.head = addrBytes own then .withhold else .forward)
    else if b.fate = .both ∧ b.head.getLast? = some 0x1A then .forward
    else b.fate
  | _ => b.fate

/-- A line with one more character, and its fate. -/
def LineBuf.take (b : LineBuf) (own : Nat) (e : RxEntry) (dropped : Bool) : LineBuf :=
  let n := b.push e dropped
  { n with fate := n.fateNow own }

/-- Whether the characters of a line of this fate are forwarded. -/
def Fate.forwards (f : Fate) : Bool :=
  match f with
  | .undecided => true
  | .forward => true
  | .both => true
  | .execute => false
  | .withhold => false

/-- Whether the module takes a line of this fate itself. -/
def Fate.taken (f : Fate) : Bool :=
  match f with
  | .undecided => false
  | .forward => false
  | .both => true
  | .execute => true
  | .withhold => true

/-- Whether a line's first word is `ENUM`: I23 handles it (R236). -/
def LineBuf.isEnum (b : LineBuf) : Bool :=
  match tokens .gap b.text with
  | some (v :: _) => isWord v "enum"
  | _ => false

/-- Whether an `ENUM` line is damaged or fails its check (R235). -/
def LineBuf.enumHurt (b : LineBuf) : Bool :=
  (b.badCol 0).isSome || decide ((parseLine b.text).check = .bad)

/-- Whether I23 collects lines in WATCH: the chain has woken it, or its oscillator runs (R226–R228). -/
def State.collects (s : State) : Bool := s.sys.osc48 || decide (s.sys.waking = some .chain)

/-- A line captured in WATCH (R228): one addressed to the module is kept, and one further; others so addressed are answered
later; an unaddressed one is discarded. -/
def State.stash (s : State) (b : LineBuf) : State :=
  if b.fate = .both ∨ b.fate = .withhold then
    if s.serial.woke.length < 2 then s.onSerial fun p => { p with woke := p.woke ++ [b] }
    else s.onSerial fun p => { p with wokeBusy := p.wokeBusy ++ [b] }
  else s

/-- A whole line of the chain, with the terminator it ended with (none: an idle line): it is captured, held for the command
island, or delivered. A damaged `ENUM` line is forwarded (R235). While the module repeats, it takes only addressed lines, and
no `ENUM` (R224, R236; log entry 39). -/
def State.endChainLine (s : State) (b : LineBuf) (term : Option Byte) : State :=
  if b.count = 0 ∨ b.fate.taken = false then s
  else if s.sys.state = .watch then s.stash b
  else if b.fate = .execute ∧ s.serial.repeating = true then s
  else if b.fate = .execute ∧ b.isEnum = true then
    if b.enumHurt then
      s.onSerial fun p => (b.chars ++ term.toList).foldl (fun q c => q.forward s.now (some c)) p
    else s.lineIn 0 b
  else if s.islandDown then s.onSerial fun p => { p with held := p.held ++ [b] }
  else s.lineIn 0 b

/-- How many entries of the chain's receive FIFO are taken (R200): the lines that wait for the command island, each with its
terminator, and what it has not taken of the line being received. -/
def Serial.stored (p : Serial) : Nat :=
  (p.held.map fun b => b.entries.length + 1).sum + (if p.line.fate = .forward then 0 else p.line.entries.length - p.taken)

/-- The same of the IR port's. -/
def Serial.irStored (p : Serial) : Nat :=
  (p.irHeld.map fun b => b.entries.length + 1).sum + (p.irLine.entries.length - p.irTaken)

/-- The size of a receive FIFO (R200). -/
abbrev fifoSize : Nat := 64

/-- A character of the chain that ends a line, or the LF of a CR LF (R149). An empty line is neither answered nor forwarded. A
line whose terminator finds the FIFO full has lost it (R201). -/
def State.chainEnd (s : State) (e : RxEntry) : State :=
  let p := s.serial
  if e.c = 10 ∧ p.lastCr = true then
    s.onSerial fun p =>
      { (if p.line.fate.forwards then p.forward s.now (some e.c) else p) with lastCr := false, line := {} }
  else
    let full : Bool := s.islandDown && p.line.fate.taken && decide (fifoSize ≤ p.stored)
    let b : LineBuf := { p.line with overrun := p.line.overrun || full }
    let fwd : Bool := decide (b.count ≠ 0) && (b.fate.forwards || (decide (b.fate = .execute) && b.isEnum && b.enumHurt))
    let t := s.onSerial fun p =>
      { (if b.count ≠ 0 ∧ b.fate.forwards = true then p.forward s.now (some e.c) else p) with
          line := { fate := if fwd then .forward else .withhold }, taken := 0, lastCr := decide (e.c = 13),
          overruns := if full = true ∧ p.line.overrun = false then satInc p.overruns else p.overruns }
    t.endChainLine b (some e.c)

/-- A character of the chain within a line: it joins the line, whose fate it may decide, and is forwarded as that fate requires, a
bad one as 0x1A (R204–R206). The stub of a line for this module is followed by silence. -/
def State.chainChar (s : State) (e : RxEntry) : State :=
  let p := s.serial
  let old : LineBuf := if p.line.count = 0 then {} else p.line
  let full : Bool := s.islandDown && decide (old.fate ≠ .forward) && decide (fifoSize ≤ p.stored) && !old.overrun
  let b := old.take s.tower.addr e full
  s.onSerial fun p =>
    let q : Serial := if b.fate.forwards then p.forward s.now (some e.byte)
      else if b.fate = .withhold ∧ old.fate ≠ .withhold then p.forward s.now none else p
    { q with line := b, taken := if p.line.count = 0 then 0 else p.taken, lastCr := false,
             overruns := if full then satInc q.overruns else q.overruns }

/-- A character on the chain (R197–R209, R224): not in OFF, and not while the pair is undriven (R47). In WATCH, and until the
first idle line after it, the pair is repeated. -/
def State.chainReceive (s : State) (e : RxEntry) : State :=
  if s.sys.state = .off ∨ s.pwr.logicOn = false ∨ s.pwr.csin = false then s
  else
    let r := s.onSerial fun p => { p with lastRx := some s.now }
    let t := if s.serial.repeating then r.onSerial fun p => { p with sent := p.sent ++ [some e.c], charEnd := s.now } else r
    if s.sys.state = .watch ∧ s.collects = false then t
    else
      let hurt : Bool := e.tags.noise || e.tags.framing || e.tags.parity
      let u := if hurt then t.onSerial fun p => { p with damaged := satInc p.damaged } else t
      if hurt = false ∧ (e.c = 13 ∨ e.c = 10) then u.chainEnd e else u.chainChar e

/-! ## The IR port (R212–R217, R222) -/

/-- Whether I24 has started: from step 13 of START (R223). -/
def State.irStarted (s : State) : Bool := s.serving || (decide (s.sys.state = .start) && decide (12 ≤ s.sys.step))

/-- Whether the IR port works: it has started, and its island is not gated (R223). -/
def State.irUp (s : State) : Bool := s.irStarted && !s.gated 24

/-- The ticks of `n` characters at the IR rate in force, ten bits each (Table 5-1). -/
def State.irTicks (s : State) (n : Nat) : Nat :=
  Fmt.charTicks { baud := s.irFormat.1, data := 8, parity := 0, stop := 1 } n

/-- Whether flood was flagged at the start bit of a character that began at a tick and ends now, or has been since (R215, Table
5-2). -/
def State.irFlooded (s : State) (start : Tick) : Bool :=
  s.serial.irFlood || (decide (s.serial.irFloodAt < s.serial.irClearAt) && decide (start < s.serial.irClearAt))

/-- A character on the IR port (R200, R214, R215): one that begins while the receiver is blanked is lost unseen (Table 5-2). -/
def State.irReceive (s : State) (c : Byte) (tags : CharTags) (lastPulse : Tick) : State :=
  let p := s.serial
  let start := s.now - s.irTicks 1
  if s.irUp = false ∨ start < p.irTxEnd then s
  else
    let e : RxEntry := { c := c, tags := tags, flood := s.irFlooded start }
    let hurt : Bool := tags.noise || tags.framing || tags.parity
    let t := s.onSerial fun p =>
      { p with irDamaged := if hurt then satInc p.irDamaged else p.irDamaged, irRx := some s.now, irPulse := some lastPulse }
    let full : Bool := s.islandDown && decide (fifoSize ≤ p.irStored) && !p.irLine.overrun
    if hurt = false ∧ (c = 13 ∨ c = 10) then
      let b : LineBuf := { p.irLine with endFlood := p.irLine.endFlood || e.flood, overrun := p.irLine.overrun || full }
      let u := t.onSerial fun p => { p with irLine := {}, irTaken := 0 }
      if s.islandDown then (if b.count = 0 then u else u.onSerial fun p => { p with irHeld := p.irHeld ++ [b] }) else u.lineIn 1 b
    else t.onSerial fun p => { p with irLine := p.irLine.push e full }

/-- The character that an IR wave spells, received with the end of its last pulse. -/
def State.irWave (s : State) (ps : List IrPulse) : State :=
  match irDecode s.irFormat.1 ps with
  | none => s
  | some (c, tags) =>
    let t0 := ((irSeen ps).map (·.start)).headD 0
    s.irReceive c tags (min s.now (s.now - s.irTicks 1 + ((irSeen ps).foldl (fun m p => max m (p.start - t0 + p.width)) 0)))

/-! ## Idle line, break and CSIN -/

/-- An idle line on the chain (R202, R207, R209, R224): a partial line is discarded, one that has lost characters is answered; the
backlog drains; a module back from WATCH stops repeating. -/
def State.chainIdle (s : State) : State :=
  let b := s.serial.line
  let t := s.onSerial fun p =>
    let q : Serial := { p with line := {}, taken := 0, lastCr := false }
    if s.sys.state = .watch then q else { q.drain s.now with repeating := false }
  if b.tooLong ∨ b.overrun then t.endChainLine b none else t

/-- A break on the chain (R219): one character tagged framing, and then an idle line; it is forwarded as one 0x1A and an idle line
whatever becomes of its line. -/
def State.chainBroken (s : State) (e : RxEntry) : State :=
  let t := s.chainReceive e
  let kept : Bool := t.serial.line.fate.forwards
  let u := if kept then t else t.onSerial fun p => p.forward s.now (some 0x1A)
  u.chainIdle.onSerial fun p => { p with brk := some (s.now - p.fmt.charTicks 1), brkTold := false }

/-- A sampled character of the chain. After a break the receiver takes no start bit until the pair has stood at mark for one bit
time (R219), and a start bit that reads as mark begins no character (log entry 68). -/
def State.chainWave (s : State) (bits : List RxBit) (mark : Nat) : State :=
  let f := s.serial.fmt
  let d := f.decode bits
  if (s.serial.brk.isSome = true ∧ mark * f.baud < secTicks) ∨ ((f.frame bits).headD ⟨false, false, false⟩).value = true then s
  else
    let t := s.onSerial fun p => { p with brk := none }
    if f.isBreak bits = true ∧ s.sys.state ≠ .off ∧ (s.sys.state ≠ .watch ∨ s.collects = true) ∧ s.pwr.logicOn = true ∧
       s.pwr.csin = true then t.chainBroken { c := d.1, tags := d.2 }
    else t.chainReceive { c := d.1, tags := d.2 }

/-- CHARACTER_RECEIVED (R197, R213): a character arrives on the chain or the IR port. Its wave is the port's own. -/
def execCharacterReceived (port : SerialPort) (wave : RxWave) (mark : Nat) (s : State) : Host.Outcome State Fault Refusal :=
  .next (match port, wave with
    | .chain, .chain bits => s.chainWave bits mark
    | .ir, .ir ps => s.irWave ps
    | .chain, .ir _ => s
    | .ir, .chain _ => s)

/-- An idle line on the IR port (R202). -/
def State.irIdle (s : State) : State :=
  let b := s.serial.irLine
  let t := s.onSerial fun p => { p with irLine := {}, irTaken := 0 }
  if (b.tooLong ∨ b.overrun) ∧ s.irUp = true then
    if s.islandDown then t.onSerial fun p => { p with irHeld := p.irHeld ++ [b] } else t.lineIn 1 b
  else t

/-- Whether one character time has passed since the last stop bit (R202). -/
def idleSince (last : Option Tick) (ticks : Nat) (now : Tick) : Bool := last.all fun t => decide (t + ticks ≤ now)

/-- IDLE_LINE (R202): no start bit for one character time since the last stop bit. -/
def execIdleLine (port : SerialPort) (s : State) : Host.Outcome State Fault Refusal :=
  .next (match port with
    | .chain =>
      if s.sys.state = .off ∨ s.pwr.logicOn = false ∨ idleSince s.serial.lastRx (s.serial.fmt.charTicks 1) s.now = false then s
      else s.chainIdle
    | .ir => if idleSince s.serial.irRx (s.irTicks 1) s.now then s.irIdle else s)

/-- CSIN_CHANGE (R45, R47, Table 5-2): an undriven pair reads as idle line. -/
def execCsinChange (driven : Bool) (s : State) : Host.Outcome State Fault Refusal :=
  .next (
    let t := s.onPwr fun p => { p with csin := driven }
    if driven = false ∧ s.pwr.csin = true ∧ s.sys.state ≠ .off ∧ s.pwr.logicOn = true then t.chainIdle else t)

/-- CHAIN_BREAK (R219): a break has lasted longer than 10 ms. An undriven pair reads as idle, so no break is on it (R47). -/
def execChainBreak (s : State) : Host.Outcome State Fault Refusal :=
  .next (
    if s.sys.state ≠ .off ∧ s.sys.state ≠ .watch ∧ s.serial.brk.any (fun t => decide (t + 10 * msTicks < s.now)) = true ∧
        s.serial.brkTold = false ∧ s.pwr.csin = true ∧
       s.pwr.logicOn = true then
      (s.onSerial fun p => { p with brkTold := true }).emit .keepAndChain "chain" "break" []
    else s)

/-! ## The module's own lines, and the format -/

/-- The stream as it stands for a line of the module's own: a character that began in this tick at a boundary gives way to it
(Table 5-2). -/
def Serial.yield (p : Serial) (now : Tick) : Serial :=
  if p.begun now then
    { p with sent := p.sent.dropLast, backlog := p.sent.getLast?.toList, sentEnd := now, edge := none,
             backlogMax := max p.backlogMax 1 }
  else p

/-- Whether a line of the module's own may start on the chain (R208, R224): at a boundary, or before what has begun at one in
this tick; with at most 819 characters waiting, and with no other line of its own on the way. -/
def State.ownMay (s : State) : Bool :=
  let p := s.serial
  decide (s.sys.state ≠ .off ∧ s.sys.state ≠ .watch) && s.pwr.logicOn && !p.repeating &&
  (p.begun s.now || p.atBoundary s.now) && decide ((charsIn p.backlog).length ≤ 819) && decide (p.txFree ≤ s.now)

/-- OWN_LINE_SEND (R155, R208, R224, R480): one waiting line of the chain session is sent, ended by CR LF, unless the verify fence holds
it. -/
def execOwnLineSend (s : State) : Host.Outcome State Fault Refusal :=
  .next (
    let p := s.serial.yield s.now
    if s.ownMay = false then s
    else match s.takeLine 0 with
      | none => s
      | some (l, t) =>
        if s.fenced 25 then s.holdFor 25
        else
        let bs := lineChars l (s.checked 0) ++ crLf
        let fin := max s.now p.sentEnd + p.fmt.charTicks bs.length
        (t.onSerial fun _ =>
          { p with sent := p.sent ++ bs.map some, ownLast := true, txFree := fin, sentEnd := fin, charEnd := fin }).lineLeaves 0 l fin)

/-- Until when the chain is not silent, or the answer to the `SET` of its format not sent (R199). -/
def Serial.lastChar (p : Serial) : Tick :=
  max (max p.charEnd (p.lastRx.getD 0)) ((p.fmtWait.bind (·.until_)).getD 0)

/-- CHAIN_FORMAT_CHANGE (R199, Table 5-2): the answer has been sent, the backlog is empty, and for ten character times of the old
format no character has been received or sent. -/
def execChainFormatChange (s : State) : Host.Outcome State Fault Refusal :=
  .next (match s.serial.newFmt with
    | none => s
    | some f =>
      let p := s.serial
      if p.backlog = [] ∧ p.line.count = 0 ∧ p.fmtWait.all s.answerSent = true ∧
         p.lastChar + p.fmt.charTicks 10 ≤ s.now then
        s.onSerial fun p => { p with fmt := f, newFmt := none, fmtWait := none }
      else s)

/-! ## The IR port's own rows -/

/-- The transmitter stops for flood (R217): what it has not begun of its line waits, and its answer has not been sent. -/
def State.irHoldBack (s : State) : State :=
  let c := s.irTicks 1
  let left := (s.serial.irTxEnd - 100 * usTicks - s.now) / c
  match s.serial.irNow with
  | none => s
  | some l =>
    if left = 0 then s
    else
      let n := s.serial.irSent.length - left
      { s with
        serial := { s.serial with irSent := s.serial.irSent.take n, irRest := some (l, s.serial.irSent.drop n),
                                  irTxEnd := s.serial.irTxEnd - left * c }.mapAnswers fun w =>
          if w.sess = 1 ∧ w.ready = l.ready then { w with until_ := none } else w,
        jobs := s.jobs.map fun j => if j.sess = 1 ∧ s.now < j.leaves.getD 0 then { j with leaves := none } else j }

/-- IR_FLOOD (R215–R217, R222): flood is flagged above 40 µA and cleared below 30 µA. -/
def execIrFlood (microA : Nat) (s : State) : Host.Outcome State Fault Refusal :=
  .next (
    if s.irStarted = false ∧ s.sys.state ≠ .watch then s
    else
      let a := s.onSerial fun p => { p with irOver := if 40 < microA then some (p.irOver.getD s.now) else none }
      if 40 < microA ∧ s.serial.irFlood = false then
        a.irHoldBack.onSerial fun p => { p with irFlood := true, irFloodAt := s.now, irMute := true, irFloods := satInc p.irFloods }
      else if microA < 30 ∧ s.serial.irFlood = true then
        let t := a.onSerial fun p => { p with irFlood := false, irClearAt := s.now, irTold := false }
        if s.serial.irTold then t.emit .keepAndChain "ir" "clear" [] else t
      else a)

/-- IR_FLOOD_EVENT (R216): flood has lasted 100 ms. -/
def execIrFloodEvent (s : State) : Host.Outcome State Fault Refusal :=
  .next (
    if s.irStarted = true ∧ s.serial.irFlood = true ∧ s.serial.irTold = false ∧ s.serial.irFloodAt + 100 * msTicks ≤ s.now then
      (s.onSerial fun p => { p with irTold := true }).emit .keepAndChain "ir" "flood" []
    else s)

/-- IR_TX_RESUME (R217, R222): flood has stayed clear for 50 ms. -/
def execIrTxResume (s : State) : Host.Outcome State Fault Refusal :=
  .next (
    if s.serial.irFlood = true ∨ s.now < s.serial.irClearAt + 50 * msTicks then s
    else s.onSerial fun p => { p with irMute := false, irFault := false })

/-- IR_FAULT (R222): the photocurrent has stayed above 40 µA for 60 s. -/
def execIrFault (s : State) : Host.Outcome State Fault Refusal :=
  .next (
    if s.irStarted = true ∧ s.serial.irFault = false ∧ s.serial.irOver.any (fun t => decide (t + 60 * secTicks ≤ s.now)) = true then
      (s.onSerial fun p => { p with irFault := true }).emit .keepAndChain "ir" "fault" []
    else s)

/-- A character as the IR transmitter sends it by `ir.baud` and `ir.pulse` in force (R212): one pulse for each 0 bit, 3/16 of a
bit or 1.63 µs long. -/
def State.irChar (s : State) (c : Byte) : IrChar :=
  { c := c, pulses := 0 :: ((List.range 8).filter fun i => !c.toNat.testBit i).map (· + 1),
    widthNum := if s.irFormat.2 = 0 then 3000000000 else 1630, widthDen := if s.irFormat.2 = 0 then 16 * s.irFormat.1 else 1 }

/-- Characters of a line leave by the IR transmitter, the last at a tick, and the receiver is blanked until 100 µs after it (R214).
-/
def State.irSend (s : State) (l : OutLine) (cs : List IrChar) (fin : Tick) : State :=
  (s.onSerial fun p =>
    { p with irSent := p.irSent ++ cs, irNow := some l, irRest := none, irLine := {}, irTaken := 0,
             irTxEnd := fin + 100 * usTicks }).lineLeaves 1 l fin

/-- Whether the IR port may send (R214, R217): it is not muted, and the receiver has seen no pulse for `ir.turnaround_ms`.
-/
def State.irMay (s : State) : Bool :=
  s.irUp && !s.serial.irMute && decide (s.serial.irTxEnd ≤ s.now) &&
  s.serial.irPulse.all fun t => decide (t + s.nat .irTurnaround * msTicks ≤ s.now)

/-- IR_TURNAROUND (R214, R217, R480): what flood kept back of a line is sent, else the next waiting line, in the format that is in
force as it begins (R231); the verify fence may hold it. -/
def execIrTurnaround (s : State) : Host.Outcome State Fault Refusal :=
  .next (
    if s.irMay = false then s
    else match s.serial.irRest with
      | some (l, cs) => if s.fenced 25 then s.holdFor 25 else s.irSend l cs (s.now + s.irTicks cs.length)
      | none => match s.takeLine 1 with
        | none => s
        | some (l, t) =>
          if s.fenced 25 then s.holdFor 25
          else
          let cs := (lineChars l (s.checked 1) ++ crLf).map s.irChar
          t.irSend l cs (s.now + s.irTicks cs.length))

/-! ## Waking (R118–R121, R224–R229) -/

/-- A wake event: in WATCH the first source is kept; before WATCH entry completes it cancels the entry (Table 3-7), which
raises no event (log entry 106). -/
def State.wakeEvent (s : State) (src : SerialPort) : State :=
  match s.sys.state with
  | .watch => s.onSys fun y => { y with waking := some (y.waking.getD src) }
  | .ready => s.onSys fun y => { y with watchEntry := false }
  | .off | .start | .run | .paused | .halted => s

/-- Whether characters begin a line for this module: `@*`, or its own address (R225). -/
def State.matchesHead (s : State) (bs : List Byte) : Bool :=
  decide (bs.take 2 = asBytes ['@', '*']) || (decide (s.tower.addr ≠ 0) && decide (bs.take 3 = addrBytes s.tower.addr))

/-- A line that the slow receiver stored, up to its terminator. -/
def LineBuf.ofBytes (own : Nat) (bs : List Byte) : LineBuf :=
  (bs.take 201).foldl (fun b c => LineBuf.take b own { c := c } false) {}

/-- CHAIN_SLOW_RECEIVE_MATCH (R225): at 9 600 baud or below, a line whose first characters match wakes the module and is stored.
-/
def execChainSlowReceiveMatch (line : List Byte) (s : State) : Host.Outcome State Fault Refusal :=
  .next (
    if 9600 < s.serial.fmt.baud ∨ s.pwr.csin = false ∨ s.matchesHead line = false then s
    else if s.sys.state = .watch then
      (s.wakeEvent .chain).stash (LineBuf.ofBytes s.tower.addr line)
    else s.wakeEvent .chain)

/-- CHAIN_START_EDGE_WAKE (R226): above 9 600 baud a start edge starts the 48 MHz oscillator and wakes the module. -/
def execChainStartEdgeWake (s : State) : Host.Outcome State Fault Refusal :=
  .next (
    if s.serial.fmt.baud ≤ 9600 ∨ s.pwr.csin = false then s
    else if s.sys.state = .watch then (s.wakeEvent .chain).onSys fun y => { y with osc48 := true }
    else s.wakeEvent .chain)

/-- CSIN_RISE_IN_WATCH (R227): above 460 800 baud the oscillator starts when the pair becomes driven; the module stays in WATCH.
-/
def execCsinRiseInWatch (s : State) : Host.Outcome State Fault Refusal :=
  .next (
    if s.sys.state = .watch ∧ s.pwr.csin = false ∧ 460800 < s.serial.fmt.baud then
      (s.onPwr fun p => { p with csin := true }).onSys fun y => { y with osc48 := true }
    else s)

/-- IR_START_EDGE_WAKE (R229): a pulse while flood is clear. -/
def execIrStartEdgeWake (s : State) : Host.Outcome State Fault Refusal :=
  .next (if s.serial.irFlood = true ∨ s.gated 24 = true then s else s.wakeEvent .ir)

/-- WAKE_COMPLETE (R120, R121, R228): the module is in READY again and executes the lines it kept. -/
def execWakeComplete (s : State) : Host.Outcome State Fault Refusal :=
  .next (
    match s.sys.waking with
    | none => s
    | some src =>
      if s.sys.state ≠ .watch then s
      else
        let lines := s.serial.woke
        let busy := s.serial.wokeBusy
        let t := (s.wakeUp src).onSerial fun p => { p with woke := [], wokeBusy := [] }
        busy.foldl State.busyLine (lines.foldl (fun t b => t.lineIn 0 b) t))

end Sys2Proof.Machine
end

