-- ==== Sys2Proof/Machine/Frames.lean ====
section
/-! DEFINITION. What arrives on a link port as a whole: a frame, which is routed, forwarded or consumed (R272, R274, R277, R293,
R294), and a bypass set, which is checked, acknowledged and acted on (R281, R282). -/

namespace Sys2Proof.Machine

/-- The state that an outcome leads to. -/
def State.after (s : State) (o : Host.Outcome State Fault Refusal) : State :=
  match o with
  | .next t => t
  | .fault _ => s
  | .refused _ => s

/-! ## Console lines (R185, R187) -/

/-- A payload cut at its line ends: the lines, and what stands after the last. -/
def cutLines : List Byte → LineBuf → List LineBuf × LineBuf
  | [], b => ([], b)
  | c :: cs, b =>
    if c = 10 ∨ c = 13 then
      let r := cutLines cs {}
      (b :: r.1, r.2)
    else cutLines cs (b.push { c := c } false)

/-- The lines of a CON frame arrive in order. One that no LF ends at the end of the frame is a syntax error, or too long (R185,
R187). -/
def State.consoleIn (s : State) (k : Nat) (payload : List Byte) : State :=
  let c := cutLines (if payload.getLast? = some 13 then payload.dropLast else payload) {}
  let t := c.1.foldl (fun u b => u.lineIn k b) s
  if c.2.count = 0 then t
  else if c.2.tooLong then t.lineIn k c.2
  else
    let l := parseLine c.2.text
    t.arrive (c.2.header k l) (.bad 10)

/-! ## MGMT records (R516, R551) -/

/-- A MGMT request record (Table 15-5). One of a kind that the table does not list, or whose length disagrees, gets STATUS 21
(log entry 31). -/
def State.mgmtIn (s : State) (n : Nat) (r : List Byte) : State :=
  let kind := leNat (sliceAt r 0 2)
  let tag := leNat (sliceAt r 4 2)
  let off := leNat (sliceAt r 8 4)
  let data := r.drop 12
  if r.length < 12 ∨ leNat (sliceAt r 2 2) ≠ data.length ∨ 4096 < data.length then s.status n tag 21
  else if kind = 0x0400 then s.after (execBlobWrite n tag (byteAt r 6) off data s)
  else if kind = 0x0401 then s.after (execBlobRead n tag (byteAt r 6) off (leNat (sliceAt data 0 2)) s)
  else if kind = 0x0403 then s.after (execTableWrite n tag (byteAt r 7) (byteAt r 6) off data s)
  else if kind = 0x0500 then s.after (execMgmtDomeOperation n tag data s)
  else s.status n tag 21

/-! ## Records (R272) -/

/-- A frame joins the record that it belongs to: the state, and the payloads of the record where this frame ends it. `next` is
whether it follows the frame before it. A frame that neither starts a record nor goes on unbroken leaves nothing of it. -/
def State.joinFrame (s : State) (p key : Nat) (f : Frame) (next : Bool) (payload : List Byte) : State × Option (List (List Byte)) :=
  let had := if f.first then [] else SMap.look [] (s.getPort p).rxPartial key
  let whole := f.first || (next && !had.isEmpty)
  let buf := had ++ [payload]
  (s.modPort p fun q => { q with rxPartial := if f.last || !whole then SMap.del q.rxPartial key else SMap.put [] q.rxPartial key buf },
   if f.last && whole then some buf else none)

/-! ## Frames of this module's streams (R293, R296) -/

/-- The last count accepted in a phase, plus 1. -/
def Stream.rx (st : Stream) (phase : Nat) : Nat := if phase = 0 then st.rx0 else st.rx1

/-- The payload of a frame that passes R293; none for one that does not. -/
def State.openFrame (s : State) (f : Frame) : Option (List Byte) :=
  let st := s.getStream f.stream
  let k := st.key f.phase
  if f.epoch = s.sys.epoch ∧ (st.slot f.phase).isSome = true ∧ st.rx f.phase ≤ f.count then
    gcmOpen (k.take 32) (frameNonce k 1 f.epoch f.count) f.aad f.body
  else none

/-- A frame has been accepted (R293, R296): its count is kept, and the first in the new phase starts the window. -/
def Stream.accept (st : Stream) (f : Frame) (now : Tick) : Stream :=
  let newer : Bool :=
    match st.slot f.phase, st.slot (1 - f.phase) with
    | some g, some h => decide (h < g)
    | some _, none => false
    | none, some _ => false
    | none, none => false
  let a : Stream := if f.phase = 0 then { st with rx0 := f.count + 1 } else { st with rx1 := f.count + 1 }
  let b : Stream := { a with authFails := 0 }
  if newer && b.window.isNone then { b with window := some now, oldPhase := 1 - f.phase } else b

/-- A frame has failed R293: it is counted, told at most once a second, and the sixteenth in a row closes the stream. -/
def State.frameFails (s : State) (p n : Nat) : State :=
  let st := s.getStream n
  let told : Bool := match st.authAt with
    | some t => decide (s.now < t + secTicks)
    | none => false
  let t := (s.modPort p fun q => { q with authRejects := satInc q.authRejects, rxPartial := SMap.del q.rxPartial n }).modStream n
    fun y => { y with authFails := y.authFails + 1, authAt := if told then y.authAt else some s.now }
  let u := if told then t else t.streamEvent n "auth"
  if 16 ≤ st.authFails + 1 then u.closeStream n .auth else u

/-- A frame from the host for a stream of this module. One of a stream that is not open is discarded. A whole record of a CON
stream is lines, and one of a MGMT stream is a request. -/
def State.streamIn (s : State) (p : Nat) (f : Frame) : State :=
  let n := f.stream
  let st := s.getStream n
  if st.isOpen = false then s
  else match s.openFrame f with
    | none => s.frameFails p n
    | some x =>
      let r := (s.modStream n fun y => y.accept f s.now).joinFrame p n f (decide (f.count = st.rx f.phase)) x
      match r.2 with
      | none => r.1
      | some ps =>
        if s.nat .streamType n = typeCon then
          (match st.sess with
           | some k => ps.foldl (fun u b => u.consoleIn k b) r.1
           | none => r.1)
        else if s.nat .streamType n = typeMgmt then r.1.mgmtIn n ps.flatten
        else r.1

/-! ## TOWER frames (R245, R277, R294) -/

/-- The VIEW feature record that a TOWER frame carries (Table 10-1); none for a record of another kind or length. -/
def viewOf (x : List Byte) : Option ViewRec :=
  if leNat (sliceAt x 0 2) = 0x0010 ∧ x.length = 176 then
    some { modAddr := byteAt x 4, head := byteAt x 5, turret := byteAt x 6, refTick := leNat (sliceAt x 32 8),
           col256 := asSigned 32 (leNat (sliceAt x 44 4)), area := leNat (sliceAt x 52 4),
           areas := (List.range 15).map fun i => leNat (sliceAt x (56 + 2 * i) 2), firstLine := leNat (sliceAt x 12 6),
           flags := leNat (sliceAt x 8 2) }
  else none

/-- A TOWER frame at its destination: a whole record of a known kind is acted on (R272). -/
def State.towerFrame (s : State) (p : Nat) (f : Frame) : State :=
  let next := decide (f.count = SMap.look 0 s.tower.cntRx (cntKey f.stream (s.tower.genOf f % 2) f.dir))
  let r := s.towerIn p f
  match r.2 with
  | none => r.1.modPort p fun q => { q with rxPartial := SMap.del q.rxPartial (256 + f.stream) }
  | some x =>
    let j := r.1.joinFrame p (256 + f.stream) f next x
    match j.2.bind fun ps => viewOf ps.flatten with
    | some v => j.1.after (execViewFeatureRecord v j.1)
    | none => j.1

/-! ## Routing (R277, R278) -/

/-- What a frame that goes on is served under (R288). -/
def Frame.cls (f : Frame) : Nat := if f.stype = typeTower then 257 else 512 + f.modAddr

/-- A frame that goes on waits on a port; it is lost on one whose link is down. -/
def State.forwardFrame (s : State) (p : Nat) (f : Frame) : State :=
  s.modPort p fun q =>
    if q.state = .up ∨ q.state = .retrain then { q with waitQ := q.waitQ ++ [⟨Frame.cls f, f⟩] }
    else { q with framesLost := satInc q.framesLost }

/-- Where R277 sends a frame by its header: the port that it leaves on, none where this module consumes it. -/
def State.routeOf (s : State) (f : Frame) : Option Nat :=
  let own := s.tower.addr
  let mine : Bool := decide (own ≠ 0 ∧ f.modAddr = own)
  if f.stype = typeTower then if mine then none else some (if own < f.modAddr then 1 else 0)
  else if f.dir = 0 then some 0
  else if mine then none else some 1

/-- An accepted frame goes where R277 sends it. -/
def State.routeFrame (s : State) (p : Nat) (f : Frame) : State :=
  match s.routeOf f with
  | some k => s.forwardFrame k f
  | none => if f.stype = typeTower then s.towerFrame p f else s.streamIn p f

/-- The copy of a frame that fails R271 after it has begun to leave (R278): it ends in EDB and uses no sequence number. A frame in
order begins to leave with its header where its port is free and nothing waits for it (log entry 75). -/
def State.forwardBad (s : State) (x : RxFrame) (rxSeq : Nat) : State :=
  let f := headerOf x.bytes
  match s.routeOf f with
  | none => s
  | some k =>
    let q := s.getPort k
    if 16 ≤ x.bytes.length ∧ byteAt x.bytes 0 / 16 = 1 ∧ beNat (sliceAt x.bytes 0 2) % 4096 = rxSeq ∧ q.waitQ = [] ∧
        q.mayStart s.now f.symbols = true then
      (s.modPort k fun q => { q with busyTo := s.now + q.symTicks (x.bytes.length + 2) }).put k
        [.edb ((f.header q.txSeq).take 2 ++ x.bytes.drop 2)]
    else s

/-- FRAME_RECEIVED (R262, R263, R271, R274, R277, R278, R293, R303). -/
def execFrameReceived (port : Nat) (lanes : List (List Sym)) (ending : Sym) (codeError : Bool) (s : State) :
    Host.Outcome State Fault Refusal :=
  .next (
    let q := s.getPort port
    let x := q.rxFrame lanes ending codeError
    let r := s.frameIn port x
    match r.2 with
    | some f => r.1.routeFrame port f
    | none => if q.state = .up ∧ x.frame = none then r.1.forwardBad x q.rxSeq else r.1)

/-! ## Bypass sets (R279–R282) -/

/-- What an accepted bypass message does: a hop's own is acted on; a message from further down goes on toward the host; one from
the host is acted on here or goes on (R282). A MARK is timed by the count at its arrival, and its residence is measured. -/
def State.bypassIn (s : State) (p : Nat) (x : BypassIn) (m : BMsg) : State :=
  match m with
  | .mark y r _ =>
    if p = 0 then s.after (execMark y (16 * s.now + x.sub16 % 16) (x.residence16 % 2 ^ 24) r s) else s
  | .xoff => s.after (execXoff p s)
  | .xon => s.after (execXon p s)
  | .addr a => s.after (execAddr p a s)
  | .countReq a => s.after (execCountReq p a none s)
  | .count a c => s.after (execCountReq p a (some c) s)
  | .tmgmt x => s.after (execTmgmt p x s)
  | .haltNotice i => s.after (execHaltNotice i s)
  | .openS x => if p = 1 then s.sendBypass 0 m else s.after (execOpenStream x s)
  | .openOk x => s.after (execOpenOk x s)
  | .close n a why => if p = 1 then s.sendBypass 0 m else s.after (execCloseStream n a why s)
  | .keyReady x => if p = 1 then s.sendBypass 0 m else s.after (execKeyReady x s)
  | .keyConfirm x => if p = 1 then s.sendBypass 0 m else s.after (execKeyConfirm x s)
  | .keyFail n a why => if p = 1 then s.sendBypass 0 m else s.after (execKeyFail n a why s)

/-- BYPASS_SET_RECEIVED (R279, R281, R282): the acknowledgment that it carries is taken; the next in order is acknowledged and its
message acted on; a duplicate or one out of order is acknowledged and discarded. -/
def execBypassSetReceived (port : Nat) (x : BypassIn) (s : State) : Host.Outcome State Fault Refusal :=
  .next (
    match (s.getPort port).rxBypass x.lanes with
    | none => s
    | some b =>
      if (s.getPort port).state ≠ .up then s
      else
        let t := (s.hear port).ackBypass port b.ack
        if b.seq = (s.getPort port).bRx then
          let u := t.modPort port fun q => { q with bRx := (q.bRx + 1) % 8, bGot := true }
          let v := u.put port [(u.getPort port).ackSet false]
          match b.msg with
          | some m => v.bypassIn port x m
          | none => v
        else t.put port [(t.getPort port).ackSet false])

end Sys2Proof.Machine
end

