-- ==== Sys2Proof/Machine/Rows.lean ====
section
/-! DEFINITION. The commands that arrive as lines of Traop: each is a line with its header, read and sent to this module's session
(R156, R157). What the line then does is said by `State.arrive` and, once it starts, by `State.perform`. -/

namespace Sys2Proof.Machine

/-- GET (R159). -/
def execGetPath (h : Hdr) (p : Path) (s : State) : Host.Outcome State Fault Refusal := .next (s.arrive h (.getPath p))

/-- SET (R159). -/
def execSetPath (h : Hdr) (p : Path) (tok : List Char) (s : State) : Host.Outcome State Fault Refusal :=
  .next (s.arrive h (.setPath p tok))

/-- SHOW (R161). -/
def execShowPath (h : Hdr) (p : Path) (s : State) : Host.Outcome State Fault Refusal := .next (s.arrive h (.showPath p))

/-- WATCH (R162). -/
def execWatchPath (h : Hdr) (p : Path) (a : WatchArg) (s : State) : Host.Outcome State Fault Refusal :=
  .next (s.arrive h (.watchPath p a))

/-- HELP (R585). -/
def execHelpPath (h : Hdr) (p : Option Path) (s : State) : Host.Outcome State Fault Refusal := .next (s.arrive h (.helpPath p))

/-- LOGIN_CHALLENGE (R172). -/
def execLoginChallenge (h : Hdr) (n : Int) (s : State) : Host.Outcome State Fault Refusal :=
  .next (s.arrive h (.loginChallenge n))

/-- LOGIN_RESPONSE (R172, R174). -/
def execLoginResponse (h : Hdr) (n : Int) (r : LoginIn) (s : State) : Host.Outcome State Fault Refusal :=
  .next (s.arrive h (.loginResponse n r))

/-- LOGIN_PIN (R176). -/
def execLoginPin (h : Hdr) (n : Int) (digits : List Char) (s : State) : Host.Outcome State Fault Refusal :=
  .next (s.arrive h (.loginPin n digits))

/-- LOGOUT (R171). -/
def execLogout (h : Hdr) (s : State) : Host.Outcome State Fault Refusal := .next (s.arrive h (.logout))

/-- ABORT (R183). -/
def execAbort (h : Hdr) (a : AbortArg) (s : State) : Host.Outcome State Fault Refusal := .next (s.arrive h (.abort a))

/-- CHAIN_FORMAT_SET (R199). -/
def execChainFormatSet (h : Hdr) (k : Key) (v : Val) (s : State) : Host.Outcome State Fault Refusal :=
  .next (s.arrive h (.setKey k v))

/-- DO_SYS_RUN (R109). -/
def execDoSysRun (h : Hdr) (s : State) : Host.Outcome State Fault Refusal := .next (s.arrive h (.sysRun))

/-- DO_SYS_STOP (R111). -/
def execDoSysStop (h : Hdr) (s : State) : Host.Outcome State Fault Refusal := .next (s.arrive h (.sysStop))

/-- DO_SYS_WATCH (R118). -/
def execDoSysWatch (h : Hdr) (s : State) : Host.Outcome State Fault Refusal := .next (s.arrive h (.sysWatch))

/-- DO_SYS_HALT (R122). -/
def execDoSysHalt (h : Hdr) (s : State) : Host.Outcome State Fault Refusal := .next (s.arrive h (.sysHalt))

/-- SHOW_SYS_HALT (R126). -/
def execShowSysHalt (h : Hdr) (s : State) : Host.Outcome State Fault Refusal := .next (s.arrive h (.showSysHalt))

/-- DO_SYS_RESTART (R127, R128). -/
def execDoSysRestart (h : Hdr) (r : RestartIn) (s : State) : Host.Outcome State Fault Refusal :=
  .next (s.arrive h (.sysRestart r))

/-- NV_CHECKPOINT_SET (R588). -/
def execNvCheckpointSet (h : Hdr) (k : Key) (v : Val) (s : State) : Host.Outcome State Fault Refusal :=
  .next (s.arrive h (.setKey k v))

/-- DO_NV_CHECKPOINT (R131). -/
def execDoNvCheckpoint (h : Hdr) (s : State) : Host.Outcome State Fault Refusal := .next (s.arrive h (.nvCheckpoint))

/-- DO_NV_SAVE (R131). -/
def execDoNvSave (h : Hdr) (s : State) : Host.Outcome State Fault Refusal := .next (s.arrive h (.nvSave))

/-- DO_NV_VERIFY (R136, R148). -/
def execDoNvVerify (h : VerifyIn) (s : State) : Host.Outcome State Fault Refusal :=
  .next (s.arrive h.hdr (.nvVerify h.bad))

/-- ISLAND_GATE_SET (R68). -/
def execIslandGateSet (h : Hdr) (k : Key) (v : Val) (s : State) : Host.Outcome State Fault Refusal :=
  .next (s.arrive h (.setKey k v))

/-- ENUM (R234). -/
def execEnumerate (h : Hdr) (n : Option Nat) (s : State) : Host.Outcome State Fault Refusal := .next (s.arrive h (.enumerate n))

/-- DO_TOWER_PROMOTE (R258). -/
def execDoTowerPromote (h : Hdr) (s : State) : Host.Outcome State Fault Refusal := .next (s.arrive h (.towerPromote))

/-- STREAM_RATE_SET (R288). -/
def execStreamRateSet (h : Hdr) (k : Key) (v : Val) (s : State) : Host.Outcome State Fault Refusal :=
  .next (s.arrive h (.setKey k v))

/-- LINK_HEADROOM_SET (R308). -/
def execLinkHeadroomSet (h : Hdr) (k : Key) (v : Val) (s : State) : Host.Outcome State Fault Refusal :=
  .next (s.arrive h (.setKey k v))

/-- FEED_TARGET_UNIT_SET (R313). -/
def execFeedTargetUnitSet (h : Hdr) (k : Key) (v : Val) (s : State) : Host.Outcome State Fault Refusal :=
  .next (s.arrive h (.setKey k v))

/-- FEED_CURRENT_SET (R310). -/
def execFeedCurrentSet (h : Hdr) (k : Key) (v : Val) (s : State) : Host.Outcome State Fault Refusal :=
  .next (s.arrive h (.setKey k v))

/-- CAPTURE_MARK_SET (R317). -/
def execCaptureMarkSet (h : Hdr) (k : Key) (v : Val) (s : State) : Host.Outcome State Fault Refusal :=
  .next (s.arrive h (.setKey k v))

/-- DO_FEED_PAUSE (R319). -/
def execDoFeedPause (h : Hdr) (s : State) : Host.Outcome State Fault Refusal := .next (s.arrive h (.feedPause))

/-- DO_FEED_RESUME (R319). -/
def execDoFeedResume (h : Hdr) (s : State) : Host.Outcome State Fault Refusal := .next (s.arrive h (.feedResume))

/-- LANTERN_STAGED_SET (R347). -/
def execLanternStagedSet (h : Hdr) (k : Key) (v : Val) (s : State) : Host.Outcome State Fault Refusal :=
  .next (s.arrive h (.setKey k v))

/-- DO_LANTERN_COMMIT (R348). -/
def execDoLanternCommit (h : Hdr) (s : State) : Host.Outcome State Fault Refusal := .next (s.arrive h (.lanternCommit))

/-- HEAD_EXPECT_TYPE_SET (R340). -/
def execHeadExpectTypeSet (h : Hdr) (k : Key) (v : Val) (s : State) : Host.Outcome State Fault Refusal :=
  .next (s.arrive h (.setKey k v))

/-- DO_SHADE_CALIBRATE (R356). -/
def execDoShadeCalibrate (h : Hdr) (s : State) : Host.Outcome State Fault Refusal := .next (s.arrive h (.shadeCalibrate))

/-- CLASS_STAGED_SET (R370). -/
def execClassStagedSet (h : Hdr) (k : Key) (v : Val) (s : State) : Host.Outcome State Fault Refusal :=
  .next (s.arrive h (.setKey k v))

/-- DO_CLASS_COMMIT (R370). -/
def execDoClassCommit (h : Hdr) (s : State) : Host.Outcome State Fault Refusal := .next (s.arrive h (.classCommit))

/-- DO_VALVE_TEST (R420). -/
def execDoValveTest (h : Hdr) (mm : Nat) (ms6 : Int) (s : State) : Host.Outcome State Fault Refusal :=
  .next (s.arrive h (.valveTest mm ms6))

/-- VALVE_SETTING_SET (R396). -/
def execValveSettingSet (h : Hdr) (k : Key) (v : Val) (s : State) : Host.Outcome State Fault Refusal :=
  .next (s.arrive h (.setKey k v))

/-- PEAK_SHARE_SET (R83). -/
def execPeakShareSet (h : Hdr) (k : Key) (v : Val) (s : State) : Host.Outcome State Fault Refusal :=
  .next (s.arrive h (.setKey k v))

/-- PEAK_BUDGET_SET (R93). -/
def execPeakBudgetSet (h : Hdr) (k : Key) (v : Val) (s : State) : Host.Outcome State Fault Refusal :=
  .next (s.arrive h (.setKey k v))

/-- DO_SEQ_NOW (R441). -/
def execDoSeqNow (h : Hdr) (e : Nat) (s : State) : Host.Outcome State Fault Refusal := .next (s.arrive h (.seqNow e))

/-- SEQ_STAGED_SET (R434). -/
def execSeqStagedSet (h : Hdr) (k : Key) (v : Val) (s : State) : Host.Outcome State Fault Refusal :=
  .next (s.arrive h (.setKey k v))

/-- DO_SEQ_COMMIT (R434). -/
def execDoSeqCommit (h : Hdr) (s : State) : Host.Outcome State Fault Refusal := .next (s.arrive h (.seqCommit))

/-- DO_CHECK_RUN (R445). -/
def execDoCheckRun (h : Hdr) (c : CheckKind) (s : State) : Host.Outcome State Fault Refusal := .next (s.arrive h (.checkRun c))

/-- CHECK_INTERVAL_SET (R446). -/
def execCheckIntervalSet (h : Hdr) (k : Key) (v : Val) (s : State) : Host.Outcome State Fault Refusal :=
  .next (s.arrive h (.setKey k v))

/-- LOOP_QUANTITY_SET (R458). -/
def execLoopQuantitySet (h : Hdr) (k : Key) (v : Val) (s : State) : Host.Outcome State Fault Refusal :=
  .next (s.arrive h (.setKey k v))

/-- DO_MEM_REKEY (R484). -/
def execDoMemRekey (h : Hdr) (n : Nat) (r : Region) (s : State) : Host.Outcome State Fault Refusal :=
  .next (s.arrive h (.memRekey n r))

/-- DO_TURRET_CREATE (R497). -/
def execDoTurretCreate (h : Hdr) (n : Int) (s : State) : Host.Outcome State Fault Refusal := .next (s.arrive h (.turretCreate n))

/-- DO_TURRET_CLAIM (R499). -/
def execDoTurretClaim (h : Hdr) (n : Nat) (key : List Byte) (s : State) : Host.Outcome State Fault Refusal :=
  .next (s.arrive h (.turretClaim n key))

/-- GET_KEY_NONCE (R502). -/
def execGetKeyNonce (h : Hdr) (s : State) : Host.Outcome State Fault Refusal := .next (s.arrive h (.getKeyNonce))

/-- DO_KEY_IMPORT (R502). -/
def execDoKeyImport (h : Hdr) (slot b : Int) (s : State) : Host.Outcome State Fault Refusal :=
  .next (s.arrive h (.keyImport slot b))

/-- DO_KEY_ERASE (R502). -/
def execDoKeyErase (h : Hdr) (slot : Int) (s : State) : Host.Outcome State Fault Refusal := .next (s.arrive h (.keyErase slot))

/-- DO_BLOB_WRITE (R507). -/
def execDoBlobWrite (h : Hdr) (b off : Int) (data : List Byte) (s : State) : Host.Outcome State Fault Refusal :=
  .next (s.arrive h (.blobWrite b off data))

/-- DO_BLOB_READ (R507). -/
def execDoBlobRead (h : Hdr) (b off len : Int) (s : State) : Host.Outcome State Fault Refusal :=
  .next (s.arrive h (.blobRead b off len))

/-- DO_BLOB_CLEAR (R507). -/
def execDoBlobClear (h : Hdr) (b : Int) (s : State) : Host.Outcome State Fault Refusal := .next (s.arrive h (.blobClear b))

/-- XRANGE_SET (R509). -/
def execXrangeSet (h : Hdr) (k : Key) (v : Val) (s : State) : Host.Outcome State Fault Refusal :=
  .next (s.arrive h (.setKey k v))

/-- ASSIGNMENT_SET (R510). -/
def execAssignmentSet (h : Hdr) (k : Key) (v : Val) (s : State) : Host.Outcome State Fault Refusal :=
  .next (s.arrive h (.setKey k v))

/-- DO_TURRET_REVOKE (R521). -/
def execDoTurretRevoke (h : Hdr) (n : Int) (s : State) : Host.Outcome State Fault Refusal := .next (s.arrive h (.turretRevoke n))

/-- DO_TURRET_RESTORE (R522). -/
def execDoTurretRestore (h : Hdr) (n : Int) (s : State) : Host.Outcome State Fault Refusal :=
  .next (s.arrive h (.turretRestore n))

/-- DO_TURRET_DESTROY (R523). -/
def execDoTurretDestroy (h : Hdr) (n : Int) (s : State) : Host.Outcome State Fault Refusal :=
  .next (s.arrive h (.turretDestroy n))

/-- DO_SYS_SEAL (R524). -/
def execDoSysSeal (h : Hdr) (b : Int) (s : State) : Host.Outcome State Fault Refusal := .next (s.arrive h (.sysSeal b))

/-- DO_SYS_UNSEAL (R525). -/
def execDoSysUnseal (h : Hdr) (s : State) : Host.Outcome State Fault Refusal := .next (s.arrive h (.sysUnseal))

/-- DO_STREAM_NEXT (R514). -/
def execDoStreamNext (h : Hdr) (n : Nat) (s : State) : Host.Outcome State Fault Refusal := .next (s.arrive h (.streamNext n))

/-- DO_DOME_DIG_HASH (R540). -/
def execDoDomeDigHash (h : Hdr) (alg : DigAlg) (k : Option Nat) (b off len : Int) (out : Option (Int × Int)) (s : State) :
    Host.Outcome State Fault Refusal :=
  .next (s.arrive h (.digHash alg k b off len out))

/-- DO_DOME_DIG_START (R540). -/
def execDoDomeDigStart (h : Hdr) (alg : DigAlg) (k : Option Nat) (s : State) : Host.Outcome State Fault Refusal :=
  .next (s.arrive h (.digStart alg k))

/-- DO_DOME_DIG_UPDATE (R540). -/
def execDoDomeDigUpdate (h : Hdr) (hd b off len : Int) (s : State) : Host.Outcome State Fault Refusal :=
  .next (s.arrive h (.digUpdate hd b off len))

/-- DO_DOME_DIG_FINAL (R540). -/
def execDoDomeDigFinal (h : Hdr) (hd : Int) (out : Option (Int × Int)) (s : State) : Host.Outcome State Fault Refusal :=
  .next (s.arrive h (.digFinal hd out))

/-- DO_DOME_DIG_DROP (R540). -/
def execDoDomeDigDrop (h : Hdr) (hd : Int) (s : State) : Host.Outcome State Fault Refusal := .next (s.arrive h (.digDrop hd))

/-- DO_DOME_DIG_TABLE (R542). -/
def execDoDomeDigTable (h : Hdr) (head slot : Nat) (s : State) : Host.Outcome State Fault Refusal :=
  .next (s.arrive h (.digTable head slot))

/-- DO_DOME_PKE_SIGN (R543). -/
def execDoDomePkeSign (h : Hdr) (k b : Int) (s : State) : Host.Outcome State Fault Refusal := .next (s.arrive h (.pkeSign k b))

/-- DO_DOME_PKE_VERIFY (R544). -/
def execDoDomePkeVerify (h : Hdr) (c : Curve) (b : Int) (s : State) : Host.Outcome State Fault Refusal :=
  .next (s.arrive h (.pkeVerify c b))

/-- DO_DOME_PKE_KEYGEN (R544). -/
def execDoDomePkeKeygen (h : Hdr) (c : Curve) (k : Int) (s : State) : Host.Outcome State Fault Refusal :=
  .next (s.arrive h (.pkeKeygen c k))

/-- DO_DOME_PKE_ECDH (R544). -/
def execDoDomePkeEcdh (h : Hdr) (k b : Int) (k2 : Option Int) (s : State) : Host.Outcome State Fault Refusal :=
  .next (s.arrive h (.pkeEcdh k b k2))

/-- DO_DOME_PKE_PUBLIC (R544). -/
def execDoDomePkePublic (h : Hdr) (k : Int) (s : State) : Host.Outcome State Fault Refusal := .next (s.arrive h (.pkePublic k))

/-- DO_DOME_PKE_DIAG (R554). -/
def execDoDomePkeDiag (h : Hdr) (b : Int) (s : State) : Host.Outcome State Fault Refusal := .next (s.arrive h (.pkeDiag b))

/-- DO_DOME_RNG_FILL (R556). -/
def execDoDomeRngFill (h : Hdr) (b off len : Int) (s : State) : Host.Outcome State Fault Refusal :=
  .next (s.arrive h (.rngFill b off len))

end Sys2Proof.Machine
end

