-- ==== Sys2Proof/Machine/Dispatch.lean ====
section
/-! DEFINITION. One arm for each command: the meaning it has, by name. -/

namespace Sys2Proof.Machine

/-- A command's effect on everything but the queue. -/
def exec (i : Instr) (s : State) : Host.Outcome State Fault Refusal :=
  match i with
  | .l24Valid above19 p24Low => Sys2Proof.Machine.execL24Valid above19 p24Low s
  | .l24Lost => Sys2Proof.Machine.execL24Lost s
  | .l24Removed => Sys2Proof.Machine.execL24Removed s
  | .holdupCharged => Sys2Proof.Machine.execHoldupCharged s
  | .l24High => Sys2Proof.Machine.execL24High s
  | .p24Low => Sys2Proof.Machine.execP24Low s
  | .p24Ok => Sys2Proof.Machine.execP24Ok s
  | .p24High above33 => Sys2Proof.Machine.execP24High above33 s
  | .p24OvervoltageClear => Sys2Proof.Machine.execP24OvervoltageClear s
  | .tamperMeshBreak => Sys2Proof.Machine.execTamperMeshBreak s
  | .haltAnnounce => Sys2Proof.Machine.execHaltAnnounce s
  | .junctionReading milliC => Sys2Proof.Machine.execJunctionReading milliC s
  | .hpresLow head => Sys2Proof.Machine.execHpresLow head s
  | .headIdentityRead head first second => Sys2Proof.Machine.execHeadIdentityRead head first second s
  | .hpresHigh head => Sys2Proof.Machine.execHpresHigh head s
  | .headSupplyOverload head => Sys2Proof.Machine.execHeadSupplyOverload head s
  | .valveOpenCommon bank => Sys2Proof.Machine.execValveOpenCommon bank s
  | .valveShortReturn bank => Sys2Proof.Machine.execValveShortReturn bank s
  | .csinChange driven => Sys2Proof.Machine.execCsinChange driven s
  | .referenceStable => Sys2Proof.Machine.execReferenceStable s
  | .rngStartupTest boot => Sys2Proof.Machine.execRngStartupTest boot s
  | .epochCommit tests => Sys2Proof.Machine.execEpochCommit tests s
  | .startComplete => Sys2Proof.Machine.execStartComplete s
  | .islandAutoGate isl => Sys2Proof.Machine.execIslandAutoGate isl s
  | .handshakeWatchdog wait openedAt => Sys2Proof.Machine.execHandshakeWatchdog wait openedAt s
  | .i25Reset => Sys2Proof.Machine.execI25Reset s
  | .i25RestartDone => Sys2Proof.Machine.execI25RestartDone s
  | .ledgerGrant => Sys2Proof.Machine.execLedgerGrant s
  | .ledgerDeadline => Sys2Proof.Machine.execLedgerDeadline s
  | .ledgerP24Check measured => Sys2Proof.Machine.execLedgerP24Check measured s
  | .getPath h p => Sys2Proof.Machine.execGetPath h p s
  | .setPath h p tok => Sys2Proof.Machine.execSetPath h p tok s
  | .showPath h p => Sys2Proof.Machine.execShowPath h p s
  | .watchPath h p a => Sys2Proof.Machine.execWatchPath h p a s
  | .watchPeriod sess idx => Sys2Proof.Machine.execWatchPeriod sess idx s
  | .helpPath h p => Sys2Proof.Machine.execHelpPath h p s
  | .loginChallenge h n => Sys2Proof.Machine.execLoginChallenge h n s
  | .loginResponse h n r => Sys2Proof.Machine.execLoginResponse h n r s
  | .loginPin h n digits => Sys2Proof.Machine.execLoginPin h n digits s
  | .logout h => Sys2Proof.Machine.execLogout h s
  | .abort h a => Sys2Proof.Machine.execAbort h a s
  | .untaggedLineStart sess => Sys2Proof.Machine.execUntaggedLineStart sess s
  | .challengeExpiry sess => Sys2Proof.Machine.execChallengeExpiry sess s
  | .sessionIdleTimeout sess => Sys2Proof.Machine.execSessionIdleTimeout sess s
  | .lockoutExpiry who => Sys2Proof.Machine.execLockoutExpiry who s
  | .pinLockoutExpiry n => Sys2Proof.Machine.execPinLockoutExpiry n s
  | .characterReceived port c tags => Sys2Proof.Machine.execCharacterReceived port c tags s
  | .idleLine port => Sys2Proof.Machine.execIdleLine port s
  | .chainBreak => Sys2Proof.Machine.execChainBreak s
  | .ownLineSend => Sys2Proof.Machine.execOwnLineSend s
  | .chainFormatSet h k v => Sys2Proof.Machine.execChainFormatSet h k v s
  | .chainFormatChange => Sys2Proof.Machine.execChainFormatChange s
  | .irFlood microA => Sys2Proof.Machine.execIrFlood microA s
  | .irFloodEvent => Sys2Proof.Machine.execIrFloodEvent s
  | .irTxResume => Sys2Proof.Machine.execIrTxResume s
  | .irFault => Sys2Proof.Machine.execIrFault s
  | .chainSlowReceiveMatch line => Sys2Proof.Machine.execChainSlowReceiveMatch line s
  | .chainStartEdgeWake => Sys2Proof.Machine.execChainStartEdgeWake s
  | .csinRiseInWatch => Sys2Proof.Machine.execCsinRiseInWatch s
  | .irStartEdgeWake => Sys2Proof.Machine.execIrStartEdgeWake s
  | .wakeComplete => Sys2Proof.Machine.execWakeComplete s
  | .doSysRun h => Sys2Proof.Machine.execDoSysRun h s
  | .doSysStop h => Sys2Proof.Machine.execDoSysStop h s
  | .doSysWatch h => Sys2Proof.Machine.execDoSysWatch h s
  | .watchEntryComplete => Sys2Proof.Machine.execWatchEntryComplete s
  | .doSysHalt h => Sys2Proof.Machine.execDoSysHalt h s
  | .showSysHalt h => Sys2Proof.Machine.execShowSysHalt h s
  | .doSysRestart h r => Sys2Proof.Machine.execDoSysRestart h r s
  | .recordWriteStart => Sys2Proof.Machine.execRecordWriteStart s
  | .flashOpComplete => Sys2Proof.Machine.execFlashOpComplete s
  | .supersededSlotErase rec => Sys2Proof.Machine.execSupersededSlotErase rec s
  | .recordRepair rec => Sys2Proof.Machine.execRecordRepair rec s
  | .checkpointDue => Sys2Proof.Machine.execCheckpointDue s
  | .nvCheckpointSet h k v => Sys2Proof.Machine.execNvCheckpointSet h k v s
  | .doNvCheckpoint h => Sys2Proof.Machine.execDoNvCheckpoint h s
  | .doNvSave h => Sys2Proof.Machine.execDoNvSave h s
  | .doNvVerify h => Sys2Proof.Machine.execDoNvVerify h s
  | .islandGateSet h k v => Sys2Proof.Machine.execIslandGateSet h k v s
  | .enumerate h n => Sys2Proof.Machine.execEnumerate h n s
  | .towerDuplicateCheck addrs => Sys2Proof.Machine.execTowerDuplicateCheck addrs s
  | .spireCountStep counts => Sys2Proof.Machine.execSpireCountStep counts s
  | .lineMarkSend => Sys2Proof.Machine.execLineMarkSend s
  | .mark m arrival16 residence16 replayed => Sys2Proof.Machine.execMark m arrival16 residence16 replayed s
  | .markLineStart => Sys2Proof.Machine.execMarkLineStart s
  | .markMissing => Sys2Proof.Machine.execMarkMissing s
  | .spireLoss => Sys2Proof.Machine.execSpireLoss s
  | .spireLostTimeout => Sys2Proof.Machine.execSpireLostTimeout s
  | .noMarksAfterTraining => Sys2Proof.Machine.execNoMarksAfterTraining s
  | .doTowerPromote h => Sys2Proof.Machine.execDoTowerPromote h s
  | .linkBeacon port => Sys2Proof.Machine.execLinkBeacon port s
  | .ts1 port set => Sys2Proof.Machine.execTs1 port set s
  | .training port healthy => Sys2Proof.Machine.execTraining port healthy s
  | .trainingTimeout port => Sys2Proof.Machine.execTrainingTimeout port s
  | .trainingComplete port hop16 => Sys2Proof.Machine.execTrainingComplete port hop16 s
  | .frameReceived port bytes ending codeError => Sys2Proof.Machine.execFrameReceived port bytes ending codeError s
  | .frameTransmit port => Sys2Proof.Machine.execFrameTransmit port s
  | .ack port set => Sys2Proof.Machine.execAck port set s
  | .nak port set => Sys2Proof.Machine.execNak port set s
  | .replayTimer port => Sys2Proof.Machine.execReplayTimer port s
  | .bypassSetReceived port bytes => Sys2Proof.Machine.execBypassSetReceived port bytes s
  | .xoff port => Sys2Proof.Machine.execXoff port s
  | .xon port => Sys2Proof.Machine.execXon port s
  | .receiveBufferThreshold port free => Sys2Proof.Machine.execReceiveBufferThreshold port free s
  | .linkStalled port => Sys2Proof.Machine.execLinkStalled port s
  | .addr port addr => Sys2Proof.Machine.execAddr port addr s
  | .countReq port addr count => Sys2Proof.Machine.execCountReq port addr count s
  | .tmgmt port m => Sys2Proof.Machine.execTmgmt port m s
  | .haltNotice info => Sys2Proof.Machine.execHaltNotice info s
  | .openStream m => Sys2Proof.Machine.execOpenStream m s
  | .openOk m => Sys2Proof.Machine.execOpenOk m s
  | .closeStream stream modAddr reason => Sys2Proof.Machine.execCloseStream stream modAddr reason s
  | .keyReady m => Sys2Proof.Machine.execKeyReady m s
  | .keyConfirm m => Sys2Proof.Machine.execKeyConfirm m s
  | .keyFail stream modAddr reason => Sys2Proof.Machine.execKeyFail stream modAddr reason s
  | .keyReadyRetry stream => Sys2Proof.Machine.execKeyReadyRetry stream s
  | .rekeyWindowEnd stream => Sys2Proof.Machine.execRekeyWindowEnd stream s
  | .laneErrorLimit port lane errors => Sys2Proof.Machine.execLaneErrorLimit port lane errors s
  | .repl port set => Sys2Proof.Machine.execRepl port set s
  | .width port set => Sys2Proof.Machine.execWidth port set s
  | .laneChangeComplete port hop16 => Sys2Proof.Machine.execLaneChangeComplete port hop16 s
  | .lockTimeout port => Sys2Proof.Machine.execLockTimeout port s
  | .haltSet port set => Sys2Proof.Machine.execHaltSet port set s
  | .streamRateSet h k v => Sys2Proof.Machine.execStreamRateSet h k v s
  | .linkHeadroomSet h k v => Sys2Proof.Machine.execLinkHeadroomSet h k v s
  | .stepperSpeedStep => Sys2Proof.Machine.execStepperSpeedStep s
  | .rateLoopStep => Sys2Proof.Machine.execRateLoopStep s
  | .ejectCapacityUpdate => Sys2Proof.Machine.execEjectCapacityUpdate s
  | .feedTargetUnitSet h k v => Sys2Proof.Machine.execFeedTargetUnitSet h k v s
  | .feedCurrentSet h k v => Sys2Proof.Machine.execFeedCurrentSet h k v s
  | .captureMarkSet h k v => Sys2Proof.Machine.execCaptureMarkSet h k v s
  | .doFeedPause h => Sys2Proof.Machine.execDoFeedPause h s
  | .doFeedResume h => Sys2Proof.Machine.execDoFeedResume h s
  | .rollStandstill => Sys2Proof.Machine.execRollStandstill s
  | .rampReachesTarget => Sys2Proof.Machine.execRampReachesTarget s
  | .segmentOpen => Sys2Proof.Machine.execSegmentOpen s
  | .segmentClose => Sys2Proof.Machine.execSegmentClose s
  | .clearTimeout => Sys2Proof.Machine.execClearTimeout s
  | .segmentForcedClose => Sys2Proof.Machine.execSegmentForcedClose s
  | .feedStall => Sys2Proof.Machine.execFeedStall s
  | .feedCoilFault f => Sys2Proof.Machine.execFeedCoilFault f s
  | .lineCycleStart => Sys2Proof.Machine.execLineCycleStart s
  | .phaseSlotStart phase => Sys2Proof.Machine.execPhaseSlotStart phase s
  | .lanternPulseEnd phase lows => Sys2Proof.Machine.execLanternPulseEnd phase lows s
  | .readoutComplete head phase r => Sys2Proof.Machine.execReadoutComplete head phase r s
  | .lanternStagedSet h k v => Sys2Proof.Machine.execLanternStagedSet h k v s
  | .doLanternCommit h => Sys2Proof.Machine.execDoLanternCommit h s
  | .headExpectTypeSet h k v => Sys2Proof.Machine.execHeadExpectTypeSet h k v s
  | .doShadeCalibrate h => Sys2Proof.Machine.execDoShadeCalibrate h s
  | .shadeCaptureDone x => Sys2Proof.Machine.execShadeCaptureDone x s
  | .lineClassify => Sys2Proof.Machine.execLineClassify s
  | .objectDecide => Sys2Proof.Machine.execObjectDecide s
  | .deciderPosition => Sys2Proof.Machine.execDeciderPosition s
  | .matchStoreExpiry => Sys2Proof.Machine.execMatchStoreExpiry s
  | .viewFeatureRecord r => Sys2Proof.Machine.execViewFeatureRecord r s
  | .viewWaitEnd => Sys2Proof.Machine.execViewWaitEnd s
  | .statPeriod turret => Sys2Proof.Machine.execStatPeriod turret s
  | .classStagedSet h k v => Sys2Proof.Machine.execClassStagedSet h k v s
  | .doClassCommit h => Sys2Proof.Machine.execDoClassCommit h s
  | .valveRequestFile mm => Sys2Proof.Machine.execValveRequestFile mm s
  | .valveActionStart mm => Sys2Proof.Machine.execValveActionStart mm s
  | .valvePeakEnd mm mA => Sys2Proof.Machine.execValvePeakEnd mm mA s
  | .valveActionEnd mm => Sys2Proof.Machine.execValveActionEnd mm s
  | .valveFaultLatch mm x => Sys2Proof.Machine.execValveFaultLatch mm x s
  | .doValveTest h mm ms6 => Sys2Proof.Machine.execDoValveTest h mm ms6 s
  | .valveSettingSet h k v => Sys2Proof.Machine.execValveSettingSet h k v s
  | .peakShareSet h k v => Sys2Proof.Machine.execPeakShareSet h k v s
  | .peakBudgetSet h k v => Sys2Proof.Machine.execPeakBudgetSet h k v s
  | .seqFrameStart => Sys2Proof.Machine.execSeqFrameStart s
  | .seqSlotStart slot => Sys2Proof.Machine.execSeqSlotStart slot s
  | .seqSettleEnd => Sys2Proof.Machine.execSeqSettleEnd s
  | .seqResult r => Sys2Proof.Machine.execSeqResult r s
  | .seqDelayEnd turret => Sys2Proof.Machine.execSeqDelayEnd turret s
  | .doSeqNow h e => Sys2Proof.Machine.execDoSeqNow h e s
  | .loopReadbackDue n microMa microV => Sys2Proof.Machine.execLoopReadbackDue n microMa microV s
  | .seqStagedSet h k v => Sys2Proof.Machine.execSeqStagedSet h k v s
  | .doSeqCommit h => Sys2Proof.Machine.execDoSeqCommit h s
  | .doCheckRun h c => Sys2Proof.Machine.execDoCheckRun h c s
  | .checkInterval => Sys2Proof.Machine.execCheckInterval s
  | .checkIntervalSet h k v => Sys2Proof.Machine.execCheckIntervalSet h k v s
  | .fePinOver pin => Sys2Proof.Machine.execFePinOver pin s
  | .fePinRecover pin => Sys2Proof.Machine.execFePinRecover pin s
  | .excLimit entry => Sys2Proof.Machine.execExcLimit entry s
  | .excRequestRefile => Sys2Proof.Machine.execExcRequestRefile s
  | .loopSample n => Sys2Proof.Machine.execLoopSample n s
  | .loopSaturation n => Sys2Proof.Machine.execLoopSaturation n s
  | .loopHeadroomFault n => Sys2Proof.Machine.execLoopHeadroomFault n s
  | .loopHeadroomOk n => Sys2Proof.Machine.execLoopHeadroomOk n s
  | .loopQuantitySet h k v => Sys2Proof.Machine.execLoopQuantitySet h k v s
  | .memRead requester owner region sector => Sys2Proof.Machine.execMemRead requester owner region sector s
  | .memWrite requester owner region sector off data => Sys2Proof.Machine.execMemWrite requester owner region sector off data s
  | .tagCheckComplete requester x => Sys2Proof.Machine.execTagCheckComplete requester x s
  | .doMemRekey h n r => Sys2Proof.Machine.execDoMemRekey h n r s
  | .rekeyPass => Sys2Proof.Machine.execRekeyPass s
  | .scrubPass bad imageFails => Sys2Proof.Machine.execScrubPass bad imageFails s
  | .doTurretCreate h n => Sys2Proof.Machine.execDoTurretCreate h n s
  | .doTurretClaim h n key => Sys2Proof.Machine.execDoTurretClaim h n key s
  | .getKeyNonce h => Sys2Proof.Machine.execGetKeyNonce h s
  | .keyNonceExpiry sess => Sys2Proof.Machine.execKeyNonceExpiry sess s
  | .doKeyImport h slot b => Sys2Proof.Machine.execDoKeyImport h slot b s
  | .doKeyErase h slot => Sys2Proof.Machine.execDoKeyErase h slot s
  | .doBlobWrite h b off data => Sys2Proof.Machine.execDoBlobWrite h b off data s
  | .doBlobRead h b off len => Sys2Proof.Machine.execDoBlobRead h b off len s
  | .doBlobClear h b => Sys2Proof.Machine.execDoBlobClear h b s
  | .xrangeSet h k v => Sys2Proof.Machine.execXrangeSet h k v s
  | .assignmentSet h k v => Sys2Proof.Machine.execAssignmentSet h k v s
  | .doTurretRevoke h n => Sys2Proof.Machine.execDoTurretRevoke h n s
  | .doTurretRestore h n => Sys2Proof.Machine.execDoTurretRestore h n s
  | .doTurretDestroy h n => Sys2Proof.Machine.execDoTurretDestroy h n s
  | .doSysSeal h b => Sys2Proof.Machine.execDoSysSeal h b s
  | .doSysUnseal h => Sys2Proof.Machine.execDoSysUnseal h s
  | .doStreamNext h n => Sys2Proof.Machine.execDoStreamNext h n s
  | .blobWrite stream tag blob off data => Sys2Proof.Machine.execBlobWrite stream tag blob off data s
  | .blobRead stream tag blob off len => Sys2Proof.Machine.execBlobRead stream tag blob off len s
  | .tableWrite stream tag head slot off data => Sys2Proof.Machine.execTableWrite stream tag head slot off data s
  | .mgmtDomeOperation stream tag fields => Sys2Proof.Machine.execMgmtDomeOperation stream tag fields s
  | .domeFrameStart => Sys2Proof.Machine.execDomeFrameStart s
  | .doDomeDigHash h alg k b off len out => Sys2Proof.Machine.execDoDomeDigHash h alg k b off len out s
  | .doDomeDigStart h alg k => Sys2Proof.Machine.execDoDomeDigStart h alg k s
  | .doDomeDigUpdate h hd b off len => Sys2Proof.Machine.execDoDomeDigUpdate h hd b off len s
  | .doDomeDigFinal h hd out => Sys2Proof.Machine.execDoDomeDigFinal h hd out s
  | .doDomeDigDrop h hd => Sys2Proof.Machine.execDoDomeDigDrop h hd s
  | .doDomeDigTable h head slot => Sys2Proof.Machine.execDoDomeDigTable h head slot s
  | .digestJobComplete job => Sys2Proof.Machine.execDigestJobComplete job s
  | .doDomePkeSign h k b => Sys2Proof.Machine.execDoDomePkeSign h k b s
  | .doDomePkeVerify h c b => Sys2Proof.Machine.execDoDomePkeVerify h c b s
  | .doDomePkeKeygen h c k => Sys2Proof.Machine.execDoDomePkeKeygen h c k s
  | .doDomePkeEcdh h k b k2 => Sys2Proof.Machine.execDoDomePkeEcdh h k b k2 s
  | .doDomePkePublic h k => Sys2Proof.Machine.execDoDomePkePublic h k s
  | .pkeOperationComplete found => Sys2Proof.Machine.execPkeOperationComplete found s
  | .doDomePkeDiag h b => Sys2Proof.Machine.execDoDomePkeDiag h b s
  | .doDomeRngFill h b off len => Sys2Proof.Machine.execDoDomeRngFill h b off len s
  | .rngReseed => Sys2Proof.Machine.execRngReseed s
  | .rngHealthFail => Sys2Proof.Machine.execRngHealthFail s
  | .rngRetest passed => Sys2Proof.Machine.execRngRetest passed s
  | .l24FlashLevel above19 => Sys2Proof.Machine.execL24FlashLevel above19 s
  | .holdupExhausted => Sys2Proof.Machine.execHoldupExhausted s
  | .irTurnaround => Sys2Proof.Machine.execIrTurnaround s

end Sys2Proof.Machine
end

