-- ==== Sys2Proof/Machine/Time.lean ====
section
/-! DEFINITION. The count of ticks (R15, R71, R74, R75) and what the block does on its own while no command waits. -/

namespace Sys2Proof.Machine

/-- The ticks that one idle step adds and the fraction carried to the next: one tick of the reference, or one cycle of
the 32.768 kHz crystal in WATCH, 3 051 or 3 052 ticks with a mean of 10^8 / 32 768 = 3 051 + 97/128 (R75). -/
def State.idleTicks (s : State) : Nat × Nat :=
  if s.sys.state = .watch then
    (if 128 ≤ s.sys.crystal + 97 then (3052, s.sys.crystal + 97 - 128) else (3051, s.sys.crystal + 97))
  else (1, s.sys.crystal)

/-- Whether the logic runs, so that the count advances: not in OFF, and not once the hold-up has run out (R25). -/
def State.counting (s : State) : Bool := decide (s.sys.state ≠ .off) && s.pwr.logicOn

/-- The state one idle step later (log entry 8): the count moves. While a correction is under way, one tick in each 2 000
is withheld (the count is ahead) or added (the count lags), so the count never decreases (R74, R250). -/
def State.tickOn (s : State) : State :=
  let n := s.idleTicks
  if s.sys.state = .watch ∨ s.tower.slew = 0 then
    s.onSys fun y => { y with tick := y.tick + n.1, crystal := n.2 }
  else if s.tower.slewPhase + 1 < 2000 then
    (s.onSys fun y => { y with tick := y.tick + n.1 }).onTower fun t => { t with slewPhase := t.slewPhase + 1 }
  else if 0 < s.tower.slew then s.onTower fun t => { t with slewPhase := 0, slew := t.slew - 1 }
  else (s.onSys fun y => { y with tick := y.tick + 2 }).onTower fun t => { t with slewPhase := 0, slew := t.slew + 1 }

/-- The tick ends, the count moves on, and what falls due of its own begins. -/
def State.timePasses (s : State) : State := s.endTick.tickOn.lanternTick.linkTick

/-- The step of a block with no command waiting: the tick ends, and time passes. The count has 64 bits, and no rule provides for a wrap, so
the step that would wrap it is a fault. -/
def State.idle (s : State) : Host.Outcome State Fault Refusal :=
  if s.counting then
    if s.timePasses.sys.tick < 2 ^ 64 then .next s.timePasses else .fault .tickWrap
  else .next s

end Sys2Proof.Machine
end

