-- ==== Sys2Proof/Safety.lean ====
section
/-! DEFINITION. The words that claims are stated in: the invariants of a run, what it takes for the command of a line to start,
and what its answer is. -/

namespace Sys2Proof

/-- Whether a character carries a receive tag (R197). -/
def CharTags.any (g : CharTags) : Bool := g.noise || g.framing || g.parity

end Sys2Proof

namespace Sys2Proof.Machine

/-! ## Invariants -/

/-- The memory is in its canonical form: addresses rise, and no listed byte is what an unlisted one reads as. -/
def State.memoryOk (s : State) : Prop := SMap.wf 0 s.ram = true

/-- So many idle steps one after another, while the count does not wrap. -/
def State.ticksOn (s : State) : Nat → State
  | 0 => s
  | n + 1 => s.tickOn.ticksOn n

/-! ## Lines whose command starts -/

/-- Whom the command of a line answers. -/
abbrev State.replyTo (s : State) (h : Hdr) : ReplyTo := Hdr.reply h (s.getSess h.sess)

/-- The state in which the command of a line starts: the session has received a line, and the command is its running untagged
command, or an entry of the job table (R180, R181). -/
def State.begun (s : State) (h : Hdr) (c : Cmd) : State :=
  let t := s.modSess h.sess fun y => { y with lastCheck := decide (h.check ≠ .absent), lastActive := s.now }
  match h.tag with
  | none => t.modSess h.sess fun y => { y with running := some (c, s.replyTo h) }
  | some n =>
    let job : Job := { sess := h.sess, tag := n, turret := (s.getSess h.sess).login, cmd := c, reply := s.replyTo h }
    { t with jobs := t.liveJobs ++ [job] }

/-- The session of a line as the line has been received on it. -/
def State.received (s : State) (h : Hdr) : State :=
  s.modSess h.sess fun y => { y with lastCheck := decide (h.check ≠ .absent), lastActive := s.now }

/-- A line is taken and nothing of it turns it away before its command: R99, R154, R156, R157, R158. -/
def State.heard (s : State) (h : Hdr) (c : Cmd) : Bool :=
  s.takesLines h.sess && !s.forOther h && !s.islandDown &&
  !(decide (h.check = .bad) || (decide (h.check = .absent) && s.on .sessRequireCheck h.sess)) && (s.lineBar h c).isNone

/-- A line is taken as it arrives and nothing stands against its start: R99, R154, R156, R157, R158, R180, R182. -/
def State.starts (s : State) (h : Hdr) (c : Cmd) : Bool :=
  s.heard h c && (s.getSess h.sess).waiting.isNone &&
  (match h.tag with
   | none => (s.getSess h.sess).running.isNone
   | some n => !s.jobBars h.sess n (s.getSess h.sess).login)

/-- The command of a line starts as the line arrives, in READY, RUN or PAUSED, and nothing of R108, R160 or R170 bars it. -/
def State.begins (s : State) (h : Hdr) (c : Cmd) : Bool :=
  s.serving && s.starts h c && (s.gate (s.replyTo h) c).isNone

/-- The command of a line starts as the line arrives, in READY, RUN or PAUSED, and R108, R160 or R170 bars it with a code. -/
def State.barred (s : State) (h : Hdr) (c : Cmd) (code : Nat) : Bool :=
  s.serving && s.starts h c && decide (s.gate (s.replyTo h) c = some code)

/-- A state in which the session of a line has been answered since another: these data lines, then this final line, each with the
line's address and tag (R161, R163). The number that tells their order among events is the model's own. -/
def State.answered (t s : State) (h : Hdr) (dat : List LineBody) (b : LineBody) : Prop :=
  ∃ n, (t.getSess h.sess).out =
    (s.getSess h.sess).out ++ dat.map (fun d => { s.answerLine (s.replyTo h) d false with ready := n }) ++
      [{ s.answerLine (s.replyTo h) b true with ready := n }]

/-- A state whose sessions are those of another after one event has been raised in it, and nothing else has reached them. -/
def State.told (t s : State) (a : Aud) (src word : String) (fs : List Fld) : Prop := t.sess = (s.emit a src word fs).sess

/-- A state in which a command has been answered `ER` with a code and has had no other effect. -/
def State.refused (t s : State) (h : Hdr) (code : Nat) : Prop :=
  t = { s with sess := t.sess, jobs := t.jobs } ∧ t.answered s h [] (.er code [])

/-! ## Writes of settings -/

/-- The instance of a path that a `SET` of a session writes (R160). -/
abbrev State.target (s : State) (h : Hdr) (k : Key) : Key := k.ofTurret (s.replyTo h).tur

/-- The value's form, the session's rights, the path, the state and the range allow a write (R153, R159, R168, R587), and no
session with a higher number has set the path in this tick (Table 4-6): only what the path's own row says can still stand against
it. -/
def State.settable (s : State) (h : Hdr) (k : Key) (v : Val) : Bool :=
  let x := s.target h k
  x.s.info.ty.kindOk v && s.mayWrite (s.replyTo h) x && decide (x.s.info.run ≠ .ro) &&
  !(decide (x.s = .seqPartitioned) && s.isSealed) && !s.runBars x && !s.setBar x v && x.s.info.ty.rangeOk v &&
  !s.outranked (s.replyTo h) x

/-- A `SET` line starts, and nothing but what the path's own row says can still stand against its write. -/
def State.sets (s : State) (h : Hdr) (k : Key) (v : Val) : Bool := s.begins h (.setKey k v) && s.settable h k v

/-- A state in which a `SET` has been answered `OK`, its path has the value, and no other setting has changed. -/
def State.wrote (t s : State) (h : Hdr) (k : Key) (v : Val) : Prop :=
  t.val k = v ∧ (∀ q : Key, q.code ≠ k.code → t.val q = s.val q) ∧ t.answered s h [] (.ok [])

/-! ## Characters on the chain -/

/-- The samples of a character on the chain are a byte with these tags: its start bit is one, no break is being held, and the
samples are no break themselves (R197, R219). -/
def State.reads (s : State) (bits : List RxBit) (mark : Nat) (c : Byte) (g : CharTags) : Bool :=
  decide (s.serial.fmt.decode bits = (c, g)) && !s.serial.fmt.isBreak bits &&
  !((s.serial.fmt.frame bits).headD ⟨false, false, false⟩).value && !(s.serial.brk.isSome && decide (mark * s.serial.fmt.baud < secTicks))

/-- What has been sent of the chain's stream, and what of it waits (R203). -/
abbrev Serial.stream (p : Serial) : List (Option Byte) := p.sent ++ p.backlog

/-- The forwarded stream can take so many characters more, and loses none (R208). -/
abbrev Serial.takes (p : Serial) (n : Nat) : Prop := p.repeating = false ∧ (charsIn p.backlog).length + n ≤ maxBacklog

/-! ## A halt -/

/-- A state in which a module that was running has halted with a cause, by the table of halt actions (R123, Table 3-5) and by what
a halt does to sessions and streams (R125, R128). The records of flash, the settings, the tower's own state, the shading table and
the counts of sorted objects are as they were. -/
def State.haltedFrom (t s : State) (cause : Nat) : Prop :=
  t.sys.state = .halted ∧ t.sys.halt = some { cause := cause, tick := s.sys.tick } ∧ t.sys.mode = s.sys.mode ∧ t.sys.tick = s.sys.tick ∧
  (∀ b, t.vcomClosed b = false) ∧ t.eject.queue = [] ∧
  (∀ mm, (t.getValve mm).state ≠ .peak ∧ (t.getValve mm).state ≠ .hold) ∧
  t.lantern.on = 0 ∧ t.feed.braked = true ∧ t.feed.speed = 0 ∧ t.fe.pass = none ∧ t.fe.slot = none ∧
  (∀ n, n = 1 ∨ n = 2 → t.getLoop n = (s.getLoop n).alarm (s.int .loopAlarmMa n)) ∧
  (∀ p, p < 2 → (t.getPort p).state = .down ∧ (t.getPort p).out = ((s.getPort p).put (decide (p = 0))
    (if s.portLive p then List.replicate 16 (.halt ⟨s.tower.addr, cause, s.sys.tick⟩) else [])).out) ∧
  t.ram = s.ram.flash ∧ t.turrets = [] ∧ t.streams = [] ∧ t.mem.keyBase = 0 ∧ t.mem.keyDraw = [] ∧ t.dome.queue = [] ∧ t.dome.jobs = [] ∧
  (∀ x, (t.getHead x).v5 = 0 ∧ (t.getHead x).v12 = false) ∧
  t.ledger.reqs = [] ∧ t.ledger.grants = [] ∧ t.nv.writes = [] ∧ t.nv.recs = s.nv.recs ∧
  (∀ k, k ≠ 0 → (t.getSess k).isOpen = false) ∧ (t.getSess 0).login = none ∧ t.serial.irLine = {} ∧
  t.cfg = s.cfg ∧ t.tower = s.tower ∧ t.isl = s.isl ∧ t.shadeTab = s.shadeTab ∧ t.track = s.track ∧ t.pending = s.pending

end Sys2Proof.Machine
end

