-- ==== Sys2Proof/Certificates/Slice0/Obligations.lean ====
section
/-! DEFINITION. The statements about the block. A statement about a command names the parts of the state that it may change and
says that every other part is as before; what a part holds is said in the words of the rules that the statement cites. -/

open Sys2Proof Sys2Proof.Machine

/-! ## The block as a whole -/

/-- A step takes the command at the front of the queue and runs it on the state with the queue's rest. -/
def Obligations.StepRunsFront : Prop :=
  ∀ (c : Instr) (rest : List Instr) (s : State), step { s with pending := c :: rest } = exec c { s with pending := rest }

/-- With no command waiting the block idles (log entry 8, the model's choice): in OFF, and once the hold-up has run out, nothing changes;
else the tick ends, the count advances by the ticks of one idle step, and the Lantern and the links do what that tick brings; a step that
would wrap the count is a fault. The end of a tick in which nothing was decided, aborted, accepted or filed, and of whose module nothing
has changed that its tower is told, changes nothing. What the model chose for it: log entries 8, 111. -/
def Obligations.IdleStep : Prop :=
  (∀ s : State, s.pending = [] →
    ((s.sys.state = .off ∨ s.pwr.logicOn = false) → step s = .next s) ∧
    (s.sys.state ≠ .off → s.pwr.logicOn = true → ∀ u : State, u = s.endTick →
      (u.sys.state ≠ .watch → u.tower.slew = 0 → u.sys.tick + 1 < 2 ^ 64 → ∃ t, step s = .next t ∧ t.sys.tick = u.sys.tick + 1 ∧
        t = (State.lanternTick { u with sys := { u.sys with tick := u.sys.tick + 1 } }).linkTick) ∧
      (u.sys.state = .watch → u.sys.tick + 3052 < 2 ^ 64 → ∃ n f, (n = 3051 ∨ n = 3052) ∧ ∃ t, step s = .next t ∧
        t.sys.tick = u.sys.tick + n ∧
        t = (State.lanternTick { u with sys := { u.sys with tick := u.sys.tick + n, crystal := f } }).linkTick) ∧
      (u.sys.state ≠ .watch → u.tower.slew ≠ 0 → u.sys.tick + 2 < 2 ^ 64 → ∃ n k d, n ≤ 2 ∧ ∃ t, step s = .next t ∧
        t.sys.tick = u.sys.tick + n ∧ t = (State.lanternTick { u with
          sys := { u.sys with tick := u.sys.tick + n }, tower := { u.tower with slewPhase := k, slew := d } }).linkTick) ∧
      (u.sys.state ≠ .watch → u.tower.slew = 0 → 2 ^ 64 ≤ u.sys.tick + 1 → step s = .fault .tickWrap))) ∧
  (∀ s : State, s.track.deciding = [] → s.sys.aborts = [] → s.dome.queue = [] → s.dome.jobs = [] → s.ledger.reqs = [] →
    s.tower.told = some { s.ownTmgmt with reached := [] } → s.endTick = s)

/-- In WATCH the count advances from the 32.768 kHz crystal (R75): 128 idle steps, which stand for 128 of its cycles, add exactly 390 625
ticks of 10 ns, and leave the fraction as it was. -/
def Obligations.WatchKeepsTime : Prop :=
  ∀ s : State, s.sys.state = .watch → s.sys.crystal < 128 →
    (s.ticksOn 128).sys = { s.sys with tick := s.sys.tick + 390625 } ∧ (s.ticksOn 128).tower = s.tower

/-- The count never steps back, whatever correction is under way (R74, R250). -/
def Obligations.CountNeverFalls : Prop :=
  ∀ (n : Nat) (s : State), s.sys.tick ≤ (s.ticksOn n).sys.tick

/-- The memory is canonical at reset. What the model chose for it: log entries 6, 9. -/
def Obligations.ResetMemoryOk : Prop := State.reset.memoryOk

/-- Every step keeps the memory in its canonical form: its addresses rise and no listed byte is what an unlisted one reads as. What the
model chose for it: log entries 8, 9. -/
def Obligations.StepKeepsMemory : Prop :=
 ∀ s t : State, s.memoryOk → step s = .next t → t.memoryOk

/-- Every command completes in every state, and none touches the queue: a step leaves exactly the queue's rest. What the model chose for
it: log entry 1. -/
def Obligations.CommandsLeaveTheQueue : Prop :=
  (∀ (c : Instr) (s : State), ∃ t, exec c s = .next t ∧ t.pending = s.pending) ∧
  (∀ (c : Instr) (rest : List Instr) (s : State), s.pending = c :: rest → ∃ t, step s = .next t ∧ t.pending = rest)

/-- The module as it leaves the factory: OFF in Open mode (R9), a valid epoch record of 0 and a valid key store in which turret 0 is
CREATED and no other turret exists (R145, R505), every other record lost, the block with no supply, and nothing waiting. What the model
chose for it: log entry 6. -/
def Obligations.ResetState : Prop :=
  State.reset.sys.state = .off ∧ State.reset.sys.mode = .opn ∧ State.reset.pwr.l24Valid = false ∧ State.reset.tower.addr = 0 ∧
  State.reset.heldEpoch = some 0 ∧ (State.reset.getTurret 0).state = .created ∧
  (∀ n, n ≠ 0 → (State.reset.getTurret n).state = .absent) ∧
  (∀ k, State.reset.val k = k.dflt) ∧ State.reset.ram = [] ∧ State.reset.pending = []

/-! ## Power, halt and START -/

/-- L24 rising out of OFF starts the module with a count of 0 (R102), with the records, the mode and the mesh as they were and all that no
record holds gone; on a module that still runs it changes the supply's own bits and lets a sound loop carry its current again, and nothing
else, so a latched halt stays (R54). Its removal leaves OFF with the address, the halt, the last halt and every session gone (R130), and
at most the mode, what flash holds, the mesh, CSIN and the heads plugged in kept. A flash record survives with its slots as they stood,
but for the lockouts that `keystore` holds as times. What the model chose for it: log entries 6, 44, 89. -/
def Obligations.L24ComesAndGoes : Prop :=
  (∀ (a p : Bool) (s : State), s.sys.state = .off → ∃ t, exec (.l24Valid a p) s = .next t ∧
    t.sys.state = .start ∧ t.sys.tick = 0 ∧ t.sys.mode = s.sys.mode ∧ t.sys.halt = none ∧
    t.pwr.l24Valid = true ∧ t.pwr.logicOn = true ∧ t.pwr.holdCharged = false ∧ t.pwr.above19 = a ∧ t.pwr.p24Low = p ∧
    t.pwr.meshBroken = s.pwr.meshBroken ∧ t.nv.recs = s.nv.recs ∧ t.nv.running = none ∧ t.cfg = [] ∧
    t.ram = s.ram.flash ∧ t.turrets = [] ∧ t.jobs = [] ∧ t.serial = s.serial ∧ t.pending = s.pending) ∧
  (∀ (a p : Bool) (s : State), s.sys.state ≠ .off →
    ∃ t, exec (.l24Valid a p) s = .next t ∧ t = { s with
      pwr := { s.pwr with l24Valid := true, above19 := a, logicOn := true, lostAt := none, csout := true }, loops := t.loops } ∧
    (∀ n, t.getLoop n = if n = 1 ∨ n = 2 then { s.getLoop n with off := decide ((s.getLoop n).state = .fault) } else s.getLoop n)) ∧
  (∀ s : State, ∃ t, exec .l24Removed s = .next t ∧
    t = { State.reset with pwr := t.pwr, sys := t.sys, nv := t.nv, heads := t.heads, turrets := [],
                             ram := s.ram.flash, mem := { flashGens := s.mem.flashGens }, pending := s.pending } ∧
    t.pwr = { meshBroken := s.pwr.meshBroken, csin := s.pwr.csin } ∧ t.sys.state = .off ∧ t.sys.mode = s.sys.mode ∧
    t.sys.halt = none ∧ t.sys.lastHalt = none ∧ t.tower.addr = 0 ∧
    (∀ x, (t.getHead x).state = .absent) ∧
    (s.nv.running = none → s.nv.erasing = none → ∀ r, r ≠ .keystore → t.getRec r = s.getRec r))

/-- What the supplies report (R24, R25, R26, R50, R51, R52, R64, R82): the hold-up and the flash level let held grants go on; the hold-up
carries the logic for 12 ms at least, and once it has run out the loops conduct no more than 1.0 mA (R64); L24 above 32 V and P24 above 30
V are told to the Keep; P24 low is held, and told once while the module serves; P24 back is told where that was, and lets held grants go
on; above 33.0 V the P24 switch opens and P24 counts as low. A junction reading up to 125 °C is held; above 115 °C the module is hot until
a reading below 110 °C, which the Keep hears of, but in WATCH only once the module wakes (R571, R583). What the model chose for it: log
entries 59, 61, 85, 89, 93. -/
def Obligations.SuppliesReport : Prop :=
  (∀ s : State, s.pwr.l24Valid = true →
    exec .holdupCharged s = .next (s.onPwr fun p => { p with holdCharged := true }).grantNext) ∧
  (∀ (s : State) (l : Tick), s.pwr.l24Valid = false → s.pwr.logicOn = true → s.pwr.lostAt = some l → l + 12 * msTicks ≤ s.sys.tick →
    exec .holdupExhausted s = .next ((s.onPwr fun p => { p with logicOn := false }).flashCollapse).loopsOff) ∧
  (∀ (s : State) (l : Tick), s.pwr.lostAt = some l → s.sys.tick < l + 12 * msTicks → exec .holdupExhausted s = .next s) ∧
  (∀ (s : State) (n : Nat), n = 1 ∨ n = 2 → ((s.loopsOff).getLoop n).off = true) ∧
  (∀ (a : Bool) (s : State), s.pwr.l24Valid = true →
    exec (.l24FlashLevel a) s =
      .next (if a then (s.onPwr fun p => { p with above19 := a }).grantNext else s.onPwr fun p => { p with above19 := a })) ∧
  (∀ s : State, s.pwr.l24Valid = true → ∃ t, exec .l24High s = .next t ∧
    t = { s with pwr := { s.pwr with l24High := true }, sess := t.sess } ∧ t.told s .keep "pwr" "l24-high" []) ∧
  (∀ s : State, s.pwr.p24Low = false → ∃ t, exec .p24Low s = .next t ∧
    t = { s with pwr := t.pwr, sys := { s.sys with free := s.sys.free + 1 }, sess := t.sess } ∧
    t.pwr = { s.pwr with p24Low := true, p24Absent := Config.p24Absent s.sys.free, p24Told := t.pwr.p24Told, vcom := t.pwr.vcom } ∧
    (∀ b, b < 2 → t.vcomClosed b =
      (s.serving && !s.pwr.p24Open && !Config.p24Absent s.sys.free && !SMap.look false s.pwr.shortReturn b)) ∧
    (s.serving = true → t.pwr.p24Told = true ∧ t.told s .keep "pwr" "p24-low" []) ∧
    (s.serving = false → t.pwr.p24Told = s.pwr.p24Told ∧ t.sess = s.sess)) ∧
  (∀ s : State, s.pwr.p24Low = true → s.pwr.p24Open = false →
    exec .p24Ok s = .next (let t := (s.onPwr fun p => { p with p24Low := false, p24Told := false, p24Absent := false }).setVcom;
      (if s.pwr.p24Told then t.emit .keep "pwr" "p24-ok" [] else t).grantNext)) ∧
  (∀ s : State, ∃ t, exec (.p24High false) s = .next t ∧ t = { s with pwr := { s.pwr with p24High := true }, sess := t.sess } ∧
    t.told s .keep "pwr" "p24-high" []) ∧
  (∀ s : State, ∃ t, exec (.p24High true) s = .next t ∧
    t = { s with pwr := t.pwr, sys := { s.sys with free := t.sys.free }, sess := t.sess } ∧
    t.pwr.p24High = true ∧ t.pwr.p24Open = true ∧ t.pwr.p24Low = true ∧ t.vcomClosed 0 = false ∧ t.vcomClosed 1 = false) ∧
  (∀ s : State, ∃ t, exec .p24OvervoltageClear s = .next t ∧ t = { s with pwr := t.pwr } ∧
    t.pwr.p24High = false ∧ t.pwr.p24Open = false ∧ t.pwr.p24Low = s.pwr.p24Low) ∧
  (∀ (x : Int) (s : State), s.sys.state ≠ .off → s.pwr.logicOn = true → x ≤ 125000 →
      ∃ t, exec (.junctionReading x) s = .next t ∧
        t = { s with pwr := { s.pwr with junction := x, hot := t.pwr.hot, hotWaits := t.pwr.hotWaits }, sess := t.sess } ∧
        (t.pwr.hot = true ↔ 115000 < x ∨ (s.pwr.hot = true ∧ 110000 ≤ x)) ∧
        (s.sys.state ≠ .watch → 115000 < x → s.pwr.hot = false → t.told s .keep "sys" "hot" []) ∧
        (s.sys.state ≠ .watch → x < 110000 → s.pwr.hot = true → t.told s .keep "sys" "hot-ok" []) ∧
        (t.pwr.hot = s.pwr.hot ∨ s.sys.state = .watch → t.sess = s.sess) ∧
        t.pwr.hotWaits = s.pwr.hotWaits ++ (if s.sys.state = .watch ∧ t.pwr.hot ≠ s.pwr.hot then [t.pwr.hot] else []))

/-- Whatever detects a halt cause (R24, R54, R98, R122, R571) halts a module that runs, by the table of halt actions: the loss of L24 with
cause 05, a broken mesh with 09 while L24 is valid, a junction above 125 °C with 06, and a handshake past its bound with 07: for the
public-key engine the bound counts from the start of the operation that runs, and for any other wait from when it opened. -/
def Obligations.HaltCauses : Prop :=
  ∀ s : State, s.sys.state ≠ .off → s.sys.state ≠ .halted →
    (∃ t, exec .l24Lost s = .next t ∧ t.haltedFrom s 5 ∧ t.pwr.l24Valid = false ∧ t.pwr.holdCharged = false) ∧
    (s.pwr.l24Valid = true → ∃ t, exec .tamperMeshBreak s = .next t ∧ t.haltedFrom s 9 ∧ t.pwr.meshBroken = true) ∧
    (∀ x, 125000 < x → s.pwr.logicOn = true → ∃ t, exec (.junctionReading x) s = .next t ∧ t.haltedFrom s 6 ∧ t.pwr.junction = x) ∧
    (∀ w o, s.sys.state ≠ .watch → s.pwr.logicOn = true → s.waitOver w o = true →
      ∃ t, exec (.handshakeWatchdog w o) s = .next t ∧ t.haltedFrom s 7) ∧
    (∀ w o, w ≠ .publicKey → (s.waitOver w o = true ↔ WaitKind.bound w o < s.sys.tick))

/-- In HALTED a further cause, the loss of L24, sets its bit in the mask and changes nothing but that and the supply's own bits; one that
is found in the tick of the first and has the lower number takes its place, and the first sets its bit (R141); a halt is announced once on
the chain before anything that waits there, and the chain's running command is answered `ER 60 HALTED` with the cause (R124). What the
model chose for it: log entry 44. -/
def Obligations.HaltedModule : Prop :=
  (∀ (s : State) (h : HaltRec), s.sys.state = .halted → s.sys.halt = some h →
    exec .l24Lost s = .next { s with
      pwr := { s.pwr with l24Valid := false, above19 := false, l24High := false, holdCharged := false, csout := false,
                          lostAt := some (s.pwr.lostAt.getD s.sys.tick) },
      sys := { s.sys with halt := some (if h.tick = s.sys.tick ∧ 5 < h.cause
        then { h with cause := 5, mask := h.mask ||| 2 ^ h.cause } else { h with mask := h.mask ||| 2 ^ 5 }) } }) ∧
  (∀ (s : State) (h : HaltRec), s.sys.state = .halted → s.sys.halt = some h → h.announced = false → s.jobs = [] →
    (s.getSess 0).waiting = none → s.serial.held = [] → s.serial.irHeld = [] → s.hears .all "sys" 0 = true →
    ∃ t, exec .haltAnnounce s = .next t ∧
      t = { s with sys := { s.sys with halt := some { h with announced := true } }, sess := t.sess,
                   serial := { s.serial with taken := 0, irTaken := 0 } } ∧
      ((s.getSess 0).running = none →
        (t.getSess 0).out = s.eventLine "sys" "halt" [.dec2 h.cause] :: (s.getSess 0).out) ∧
      (∀ c r, (s.getSess 0).running = some (c, r) → r.sess = 0 → r.tag = none → r.addrd = false → r.gen = (s.getSess 0).gen →
        (s.getSess 0).isOpen = true →
        ∃ n, (t.getSess 0).out = s.eventLine "sys" "halt" [.dec2 h.cause] :: (s.getSess 0).out ++
          [{ addr := none, tag := none, body := .er 60 [.dec2 h.cause], final := true, ready := n }]))

/-- "The tick count is 0 at the moment L24 becomes valid." (R102): L24 becomes valid out of OFF, whether the 19 V level and P24 are there
or not. -/
def Obligations.CountStartsAtZero : Prop :=
  ∀ (a p : Bool) (s : State), s.sys.state = .off →
    ∃ t, exec (.l24Valid a p) s = .next t ∧ t.sys.tick = 0 ∧ t.pwr.l24Valid = true

/-- "After L24 removal, `sys.last_halt` reads `00`." (R130): at once, and when L24 is valid again, whatever halt there was before. -/
def Obligations.LastHaltIsForgotten : Prop :=
  ∀ (r : ReplyTo) (a p : Bool) (s : State), ∃ t u, exec .l24Removed s = .next t ∧ exec (.l24Valid a p) t = .next u ∧
    t.readFor r ⟨.sysLastHalt, 0, 0⟩ = [.dec2 0] ∧ u.readFor r ⟨.sysLastHalt, 0, 0⟩ = [.dec2 0]

/-- "When I25 is reset more than 3 times within 10 s, the module halts with cause 07." (R100): the times of the resets before are in
`isl.cmdLog`, and this reset is one more. -/
def Obligations.FourthIslandResetHalts : Prop :=
  ∀ s : State, (s.serving = true ∨ (s.sys.state = .start ∧ 9 ≤ s.sys.step)) →
    3 ≤ (s.isl.cmdLog.filter fun x => decide (s.sys.tick < x + 10 * secTicks)).length →
    ∃ t h, exec .i25Reset s = .next t ∧ t.sys.state = .halted ∧ t.sys.halt = some h ∧ h.cause = 7

/-- "The handshake watchdog does not run in WATCH." (R101): no wait, however old, does anything there. -/
def Obligations.WatchdogSleepsInWatch : Prop :=
  ∀ (w : WaitKind) (o : Tick) (s : State), s.sys.state = .watch → exec (.handshakeWatchdog w o) s = .next s

/-- The steps of START (R112, R113, R115, R116, R532, R562, Table 3-3): I27 takes over the count where it stands; a broken mesh halts the
module at once; entropy tests that fail are repeated 10 ms later; with the entropy tests passed, a bad image or microcode signature, a
failed self-check and a key store that is not valid or does not unwrap, or a device key that is not that of the certificate, each halt the
module with its own cause, and else the key store gives the turrets and the mode; with the hold-up charged the next epoch is written, and
an epoch of 0xFFFFFF halts with 08; READY is entered once no head's identity is still being read. What the model chose for it: log entries
5, 12, 44, 107. -/
def Obligations.StartSteps : Prop :=
  (∀ s : State, s.sys.state = .start → s.sys.step = 2 →
    exec .referenceStable s = .next { s with sys := { s.sys with refOn := true, step := 3 } }) ∧
  (∀ (b : BootIn) (s : State), s.sys.state = .start → s.sys.step = 3 → s.pwr.meshBroken = true →
    ∃ t, exec (.rngStartupTest b) s = .next t ∧ t.sys.halt.map (·.cause) = some 9) ∧
  (∀ (b : BootIn) (s : State), s.sys.state = .start → s.sys.step = 3 → s.pwr.meshBroken = false → s.testsMay = true →
    b.entropyOk = false → exec (.rngStartupTest b) s = .next { s with dome := { s.dome with testAt := some s.sys.tick } }) ∧
  (∀ (b : BootIn) (s : State) (f : Tick), s.sys.state = .start → s.sys.step = 3 → s.pwr.meshBroken = false →
    s.dome.testAt = some f → s.sys.tick < f + 10 * msTicks → exec (.rngStartupTest b) s = .next s) ∧
  (∀ (b : BootIn) (s : State), s.sys.state = .start → s.sys.step = 3 → b.entropyOk = true → s.testsMay = true →
    ∃ t, exec (.rngStartupTest b) s = .next t ∧
      (s.pwr.meshBroken = false → b.firmwareOk = false → t.sys.halt.map (·.cause) = some 2) ∧
      (s.pwr.meshBroken = false → b.firmwareOk = true → b.microcodeOk = false → t.sys.halt.map (·.cause) = some 3) ∧
      (s.pwr.meshBroken = false → b.firmwareOk = true → b.microcodeOk = true → b.knownAnswerOk = false →
        t.sys.halt.map (·.cause) = some 4) ∧
      (s.pwr.meshBroken = false → b.firmwareOk = true → b.microcodeOk = true → b.knownAnswerOk = true →
        (bootUnwraps b = false ∨ b.certKey ≠ publicKey .p384 deviceKey) → t.sys.halt.map (·.cause) = some 8) ∧
      (s.pwr.meshBroken = false → b.firmwareOk = true → b.microcodeOk = true → b.knownAnswerOk = true → bootUnwraps b = true →
        b.certKey = publicKey .p384 deviceKey → b.badSlots = [] →
        ∀ k, ((s.getRec .keystore).start).body = .keystore k → ((s.getRec .keystore).start).cur ≠ none →
          t.sys.state = .start ∧ t.sys.step = 11 ∧ t.turrets = k.turrets ∧ t.sys.mode = k.mode ∧ t.mem.keyBase = s.sys.draws + 1)) ∧
  (∀ (x : SelfTest) (s : State) (n : Nat), s.sys.state = .start → s.sys.step = 11 → s.pwr.holdCharged = true → s.nvPendingCount = 0 →
    s.heldEpoch = some n → n < 0xFFFFFF →
    exec (.epochCommit x) s = .next (s.fileWrite
      { record := .epoch, body := .epoch (n + 1), reply := none, onCommit := .epoch (n + 1) x, stubborn := true })) ∧
  (∀ (x : SelfTest) (s : State), s.sys.state = .start → s.sys.step = 11 → s.pwr.holdCharged = true → s.nvPendingCount = 0 →
    s.heldEpoch = some 0xFFFFFF → ∃ t, exec (.epochCommit x) s = .next t ∧ t.sys.halt.map (·.cause) = some 8) ∧
  (∀ (x : SelfTest) (s : State), s.pwr.holdCharged = false → exec (.epochCommit x) s = .next s) ∧
  (∀ s : State, s.sys.state = .start → s.sys.step = 12 → s.identifying = true → exec .startComplete s = .next s) ∧
  (∀ s : State, s.sys.state = .start → s.sys.step = 12 → s.identifying = false → ∃ t, exec .startComplete s = .next t ∧
    t.sys.state = .ready ∧ t.sys.step = 14 ∧ t.sys.tick = s.sys.tick ∧ (t.getSess 0).isOpen = true ∧ (t.getSess 1).isOpen = true ∧
    t.isl.gate = s.nat .islandGate ∧ t.nv.recs = s.nv.recs ∧ t.turrets = s.turrets ∧ t.cfg = s.cfg ∧ t.ram = s.ram)

/-- In HALTED the two commands of R125: `SHOW sys.halt` gives the cause, its count and its mask and draws a challenge in place of the last
(R126); `DO sys.restart` with the Keep's right response keeps the halt as the last one and starts the module again from its records (R127,
R128, R129), and a wrong one is answered `ER 31 LOGIN`, the fifth of a run locking further ones out; a key store that fails its digest or
its unwrap is answered `ER 50 AUTH`. What the model chose for it: log entries 12, 42, 44. -/
def Obligations.HaltAndRestart : Prop :=
  (∀ (hd : Hdr) (s : State) (h : HaltRec), s.sys.state = .halted → s.starts hd .showSysHalt = true → s.sys.halt = some h →
    ∃ t, exec (.showSysHalt hd) s = .next t ∧
      t = { s with sys := { s.sys with halt := some { h with challenge := some s.drawChallenge }, draws := s.sys.draws + 1 },
                   dome := { s.dome with rngReqs := s.dome.rngReqs + 1 }, sess := t.sess, jobs := t.jobs } ∧
      t.answered s hd [.data [.word "sys.halt", .dec2 h.cause, .hex h.tick 16, .hex h.mask 4, .hex s.drawChallenge 16]]
        (.ok [.int 1])) ∧
  (∀ (hd : Hdr) (s : State) (h : HaltRec) (key : KeySlot) (c x : Nat), s.sys.state = .halted →
    s.starts hd (.sysRestart ⟨some x, 0, true, none⟩) = true → s.sys.halt = some h → s.sys.restartLock = none → s.nv.idle = true →
    s.restartable h.cause = true → s.storedLogin = some key → key.kind = .login → h.challenge = some c →
    (x = loginHmac key.key c 0 0 → ∃ t, exec (.doSysRestart hd ⟨some x, 0, true, none⟩) s = .next t ∧
      t.answered s hd [] (.ok []) ∧ t.sys.state = .start ∧ t.sys.halt = none ∧ t.sys.lastHalt = some (h.cause, h.tick, h.mask) ∧
      t.sys.tick = s.sys.tick ∧ t.sys.mode = s.sys.mode ∧ t.sys.restarts = satInc s.sys.restarts ∧ t.nv.recs = s.nv.recs ∧
      t.tower.addr = s.tower.addr ∧ t.cfg = [] ∧ t.ram = s.ram.flash ∧ t.turrets = [] ∧ t.jobs = [] ∧ t.pending = s.pending) ∧
    (x ≠ loginHmac key.key c 0 0 → ∃ t, exec (.doSysRestart hd ⟨some x, 0, true, none⟩) s = .next t ∧
      t = { s with sys := t.sys, sess := t.sess, jobs := t.jobs, nv := { s.nv with unwrapBad := false },
                   mem := { s.mem with probeFails := t.mem.probeFails } } ∧
      t.answered s hd [] (.er 31 []) ∧ t.sys.state = .halted ∧ t.sys.halt = some { h with challenge := none } ∧
      (s.sys.restartFails < 4 → t.sys.restartFails = s.sys.restartFails + 1 ∧ t.sys.restartLock = none) ∧
      (s.sys.restartFails = 4 → t.sys.restartFails = 0 ∧ t.sys.restartLock = some (s.sys.tick + lockTicks)))) ∧
  (∀ (hd : Hdr) (x : RestartIn) (s : State) (h : HaltRec), s.sys.state = .halted → s.starts hd (.sysRestart x) = true →
    s.sys.halt = some h → s.sys.restartLock = none → s.nv.idle = true → s.restartable h.cause = true →
    (s.getRec .keystore).cur.isSome = true → (x.digestOk = false ∨ unwraps 0 x.wrap = false) →
    ∃ t, exec (.doSysRestart hd x) s = .next t ∧ t.answered s hd [] (.er 50 []) ∧
      t = { s with sys := { s.sys with halt := some { h with challenge := none } }, sess := t.sess, jobs := t.jobs, nv := t.nv,
                   mem := { s.mem with probeFails := t.mem.probeFails } })

/-- The Keep runs, stops and halts the module (R109, R110, R111, R122): a run that nothing bars makes the configured heads ACTIVE, forgets
what was tracked and enters RUN; a stop sets pause reason STOP and is answered only later; a halt is a halt with cause 10. What the model
chose for it: log entries 43, 105. -/
def Obligations.RunStopHalt : Prop :=
  (∀ (hd : Hdr) (s : State), s.begins hd .sysRun = true → s.runBar = false → s.coilsFree = false ∨ s.stepperFits = true →
    ∃ t, exec (.doSysRun hd) s = .next t ∧
    t = { s with sys := t.sys, feed := t.feed, ledger := t.ledger, heads := t.heads, track := t.track, sess := t.sess,
                 jobs := t.jobs } ∧
    t.sys = { s.sys with state := .run, watchEntry := false } ∧ t.answered s hd [] (.ok []) ∧
    (∀ x, x ∈ s.configuredHeads → (t.getHead x).state = .active) ∧
    t.track = { s.track with opened := [], talls := [], store := [], images := [] } ∧ t.feed.cmd = {} ∧
    t.feed.pauses = s.feed.pauses) ∧
  (∀ (hd : Hdr) (s : State), s.begins hd .sysStop = true → s.sorting = true → s.sys.stopReply = none →
    ∃ t, exec (.doSysStop hd) s = .next t ∧ t = { s with sys := t.sys, feed := t.feed, sess := t.sess, jobs := t.jobs } ∧
      t.sys = { s.sys with stopReply := some (s.replyTo hd) } ∧ t.feed.pauses = s.feed.pauses ||| pauseStop ∧
      (t.getSess hd.sess).out = (s.getSess hd.sess).out) ∧
  (∀ (hd : Hdr) (s : State), s.begins hd .sysHalt = true →
    ∃ t, exec (.doSysHalt hd) s = .next t ∧ t.sys.state = .halted ∧ t.sys.halt = some { cause := 10, tick := s.sys.tick } ∧
      t.ram = s.ram.flash ∧ t.turrets = [] ∧ t.eject.queue = [] ∧ t.ledger.grants = [] ∧ t.nv.recs = s.nv.recs ∧ t.cfg = s.cfg ∧
      t.tower = s.tower)

/-- Pauses of the feed (R69, R318, R319, R320, R321, R330, Table 8-5): `DO feed.pause` sets reason COMMAND and withdraws an acceleration
that waits, and the first reason keeps the roll's speed for the resume; with the stepper's island gated it is refused; `DO feed.resume`
clears COMMAND, SPIRE and STALL and answers with what is left, and of a pause and a resume in one tick the pause holds; at a standstill
with a reason held the module is PAUSED; a ramp ends at its target, and the feed is steady from then if the roll turns. What the model
chose for it: log entries 5, 51, 105. -/
def Obligations.FeedPauses : Prop :=
  (∀ (hd : Hdr) (s : State), s.begins hd .feedPause = true → (s.stepperMode = false ∨ s.gated 16 = false) →
    ∃ t, exec (.doFeedPause hd) s = .next t ∧
    t = { s with feed := t.feed, ledger := t.ledger, sess := t.sess, jobs := t.jobs } ∧ t.feed.pauses = s.feed.pauses ||| 1 ∧
    t.ledger.reqs = s.ledger.reqs.filter (fun q => decide (q.cls ≠ .stepper)) ∧ t.ledger.grants = s.ledger.grants ∧
    t.answered s hd [] (.ok []) ∧ t.feed.pausedAt = some s.sys.tick ∧
    (s.feed.pauses = 0 → t.feed.firstPause = some s.sys.tick ∧ t.feed.resumeTo = s.feed.speed ∧ t.feed.ramping = false) ∧
    (s.feed.pauses ≠ 0 → t.feed = { s.feed with pauses := s.feed.pauses ||| 1, pausedAt := some s.sys.tick })) ∧
  (∀ (hd : Hdr) (s : State), s.begins hd .feedPause = true → s.stepperMode = true → s.gated 16 = true →
    ∃ t, exec (.doFeedPause hd) s = .next t ∧ t = { s with sess := t.sess, jobs := t.jobs } ∧ t.answered s hd [] (.er 23 [])) ∧
  (∀ (hd : Hdr) (s : State), s.begins hd .feedResume = true → s.feed.pauses &&& pauseCoil = 0 →
    (s.stepperMode = false ∨ s.gated 16 = false) →
    (s.feed.pauses &&& pauseSpire = 0 ∨ s.tower.source ≠ .free) → ∃ t, exec (.doFeedResume hd) s = .next t ∧
    t = { s with feed := t.feed, seam := t.seam, ledger := t.ledger, sys := t.sys, sess := t.sess, jobs := t.jobs } ∧
    t.feed.pauses = (if s.feed.pausedAt = some s.sys.tick then maskOff s.feed.pauses 57 ||| 1 else maskOff s.feed.pauses 57) ∧
    t.answered s hd [] (.ok [.mask (maskOff s.feed.pauses 57)]) ∧
    t.sys.state = (if s.sys.state = .paused ∧ s.feed.pauses ≠ 0 ∧ maskOff s.feed.pauses 57 = 0 then .run else s.sys.state)) ∧
  (∀ s : State, s.sys.state = .run → s.feed.pauses ≠ 0 → s.feed.speed = 0 → ∃ t, exec .rollStandstill s = .next t ∧
    t = { s with sys := { s.sys with state := .paused }, feed := t.feed, ledger := t.ledger, sess := t.sess } ∧
    t.feed.cmd = {} ∧ t.feed.pauses = s.feed.pauses ∧ t.feed.speed = 0 ∧
    (s.int .feedHoldCurrent = 0 → t.feed.energised = false ∧ t.ledger.stepper = none) ∧
    (s.int .feedHoldCurrent ≠ 0 → t.feed.energised = s.feed.energised ∧ t.ledger = s.ledger)) ∧
  (∀ s : State, s.sorting = true → s.feed.ramping = true → s.feed.pauses = 0 → s.speedGoal ≤ s.feed.speed →
    exec .rampReachesTarget s = .next { s with feed := { s.feed with
      ramping := false, cmd := { num := s.feed.speed }, state := .steady,
      steadyAt := if s.feed.speed = 0 then none else some s.sys.tick } })

/-- The speed of the roll (R309, R310, R311, R312, R313, R315, R328): every 10 ms it turns by what its speed makes; the verify fence may
hold that; a slower or equal goal is reached by at most one ramp step, the speed never passing the goal; a faster one waits for its ledger
grant, with the speed as it was, and a request that still waits when the next step comes is refused and counted; a grant raises the speed
unless a pause reason is held; the rate loop with a target of 0 commands 0, and a commanded speed is never above the cap; the capacity
update touches only what it counts from. Feed failures and segments (R322, R323, R329, R330, R333): a stall at or above the stall speed
stops the roll at once and sets STALL, a coil fault sets COIL, takes the current from the coils and names the coil; the first line of a
feed that has settled opens a segment that begins with that line; a curtain that has not cleared in time makes the line that runs the
timeout line. What the model chose for it: log entries 15, 41, 51, 91. -/
def Obligations.FeedSpeedAndFaults : Prop :=
  (∀ s : State, s.sorting = true → s.stepperMode = true → s.feed.energised = true → s.feed.stepAt + 10 * msTicks ≤ s.sys.tick →
    s.fenced 16 = true → ∃ t, exec .stepperSpeedStep s = .next t ∧ t = { s with mem := t.mem } ∧
      t.getReqr 16 = { s.getReqr 16 with heldAt := some ((s.getReqr 16).heldAt.getD s.sys.tick) }) ∧
  (∀ s : State, s.sorting = true → s.stepperMode = true → s.feed.energised = true → s.speedGoal ≤ s.feed.speed →
    s.feed.stepAt + 10 * msTicks ≤ s.sys.tick → s.fenced 16 = false →
    ∃ t, exec .stepperSpeedStep s = .next t ∧ t = { s with feed := t.feed, ledger := t.ledger } ∧ t.feed.stepAt = s.sys.tick ∧
      t.feed.roll = s.feed.roll + (if s.int .feedDirection = 0 then 1 else -1) * (s.feed.speed * 256 / s.nat .feedMicrostep : Nat) ∧
      t.feed.speed = max s.speedGoal (s.feed.speed - s.rampStep) ∧ t.feed.pauses = s.feed.pauses ∧ t.feed.cmd = s.feed.cmd) ∧
  (∀ s : State, s.sorting = true → s.stepperMode = true → s.feed.energised = true → s.feed.speed < s.speedGoal →
    s.feed.stepAt + 10 * msTicks ≤ s.sys.tick → s.fenced 16 = false →
    exec .stepperSpeedStep s = .next ((((s.endAccel.turnRoll.onFeed fun f => f.made s.sys.tick).onFeed fun f =>
      { f with state := f.settledState }).file .stepper 0 s.accelPeak 1 (10 * msTicks)
      (.accel (min s.speedGoal (s.feed.speed + s.rampStep)))))) ∧
  (∀ (q : Req) (s : State), s.ledger.reqs = [q] → q.cls = .stepper → s.endAccel.ledger.reqs = [] ∧
    s.endAccel.feed = { s.feed with leave := satInc s.feed.leave } ∧
    SMap.look 0 s.endAccel.ledger.refused q.cls.code = satInc (SMap.look 0 s.ledger.refused q.cls.code)) ∧
  (∀ (v : Nat) (s : State), s.feed.pauses = 0 →
    s.started (.accel v) = { s with feed := { s.feed with speed := v, state := .accel } }) ∧
  (∀ (v : Nat) (s : State), s.feed.pauses ≠ 0 → s.started (.accel v) = s) ∧
  (∀ s : State, s.sys.state = .run → s.feed.pauses = 0 → s.stepperMode = true → s.feed.ramping = false → s.int .feedTarget = 0 →
    s.fill6 ≤ s.int .capturePauseMark → s.feed.rateAt + 10 * msTicks ≤ s.sys.tick → ∃ t, exec .rateLoopStep s = .next t ∧ t.feed.cmd = {} ∧
      t = { s with feed := t.feed }) ∧
  (∀ (s : State) (m : Frac), (s.newCmd m).le { num := s.cap.2 } = true) ∧
  (∀ s : State, s.sorting = true → s.feed.capAt + secTicks ≤ s.sys.tick → ∃ t, exec .ejectCapacityUpdate s = .next t ∧
    t = { s with feed := { s.feed with capC := t.feed.capC, capAt := s.sys.tick }, track := { s.track with decided10 := t.track.decided10 },
                 eject := { s.eject with charge10 := t.eject.charge10 } } ∧
    (s.eject.charge10 = [] → t.feed.capC = none)) ∧
  (∀ s : State, s.sorting = true → s.stepperMode = true → 0 < s.feed.speed → s.nat .feedStallMinSpeed ≤ s.feed.speed →
    ∃ t, exec .feedStall s = .next t ∧ t = { s with feed := t.feed, ledger := t.ledger, sess := t.sess } ∧
      t.feed.pauses = s.feed.pauses ||| pauseStall ∧ t.feed.speed = 0 ∧ t.feed.cmd = {} ∧ t.feed.stalls = satInc s.feed.stalls ∧
      t.told s .keep "feed" "stall" []) ∧
  (∀ (f : CoilFault) (s : State), s.serving = true → s.stepperMode = true → ∃ t, exec (.feedCoilFault f) s = .next t ∧
    t = { s with feed := t.feed, ledger := t.ledger, sess := t.sess } ∧ t.feed.pauses = s.feed.pauses ||| pauseCoil ∧
    t.feed.speed = 0 ∧ t.feed.energised = false ∧ t.ledger.stepper = none ∧ t.feed.coil = some f ∧ t.feed.state = .fault ∧
    t.told s .keep "feed" "coil" [.word (if f.phaseB then "b" else "a"), .word (if f.short then "short" else "open")]) ∧
  (∀ s : State, s.sys.state = .run → s.seam.isOpen = false → s.feed.pauses = 0 → s.settled = true →
    ∃ t, exec .segmentOpen s = .next t ∧ t.seam.isOpen = true ∧ t.seam.firstLine = s.seam.line ∧
      t.seam.firstProduct = s.seam.product ∧ t.seam.product = s.seam.product + 1 ∧ t.seam.number = s.seam.number ∧
      (s.imageStreams = [] → t = { s with seam := t.seam, lantern := { s.lantern with cur := t.lantern.cur } })) ∧
  (∀ s : State, s.sorting = true → s.feed.pauses ≠ 0 → s.clearLate = true → s.seam.timeoutLine = none →
    s.seam.clear < s.nat .seamClearLines →
    exec .clearTimeout s = .next { s with seam := { s.seam with timeoutLine := some s.seam.line } })

/-! ## The ledger and the flash -/

/-- The ledger grants (R76, R78, R79, R80): of the requests that may be granted the first by priority and then by filing is granted,
leaves the queue and holds its budgets; with none to grant nothing changes; and a grant never takes the L24 headroom above 2.5 W, nor the
reservations and ramps above the peak that the valve pool leaves. What is filed in a tick is judged when the tick ends. A request is
granted up to its deadline, where room that comes in that tick still counts, and is refused and counted under its class once that has
passed: a refused acceleration costs one ramp step. The measured average that is over 110 % of the limit is told once, until a comparison
finds it at or below the limit (R96). What the model chose for it: log entries 59, 111. -/
def Obligations.LedgerGrantsAndRefuses : Prop :=
  (∀ (s : State) (r : Req), s.firstGrant = some r → ∃ t, exec .ledgerGrant s = .next t ∧
    s.grantable r = true ∧ r ∈ s.ledger.reqs ∧ r.filed < s.sys.tick ∧
    (∀ q, q ∈ s.ledger.reqs → s.grantable q = true → q.filed < s.sys.tick → q.before r = false) ∧
    t = (s.onLedger fun _ => t.ledger).started r.what ∧
    t.ledger.reqs = s.ledger.reqs.filter (fun q => decide (q.id ≠ r.id)) ∧ t.ledger.grants = s.ledger.grants ++ [r]) ∧
  (∀ s : State, s.firstGrant = none → exec .ledgerGrant s = .next s) ∧
  (∀ s t : State, exec .ledgerGrant s = .next t →
    (s.ledger.l24Used ≤ l24Headroom → t.ledger.l24Used ≤ l24Headroom) ∧
    (s.ledger.standPeak + s.ledger.rampPeak ≤ peakTotal - s.valvePool →
      t.ledger.standPeak + t.ledger.rampPeak ≤ peakTotal - t.valvePool)) ∧
  (∀ (s : State) (r : Req), s.ledger.reqs = [r] → s.grantable r = true → s.ledgerTick = s.grant r) ∧
  (∀ (s : State), (∀ r, r ∈ s.ledger.reqs → s.grantable r = false) → s.ledgerTick = s) ∧
  (∀ (s : State) (r : Req), s.grantable r = true → s.sys.tick ≤ r.deadline) ∧
  (∀ (s : State) (q : Req), s.firstDue = some q → s.sys.tick ≤ q.deadline → exec .ledgerDeadline s = .next s) ∧
  (∀ (s : State) (q : Req) (v : Nat), s.firstDue = some q → q.deadline < s.sys.tick → q.what = .accel v →
    ∃ u : State, exec .ledgerDeadline s = .next u.grantNext ∧
      u = { s with ledger := u.ledger, feed := { s.feed with leave := satInc s.feed.leave } } ∧
      u.ledger.reqs = s.ledger.reqs.filter (fun r => decide (r.id ≠ q.id)) ∧ u.ledger.grants = s.ledger.grants ∧
      SMap.look 0 u.ledger.refused q.cls.code = satInc (SMap.look 0 s.ledger.refused q.cls.code)) ∧
  (∀ s : State, s.firstDue = none → exec .ledgerDeadline s = .next s) ∧
  (∀ (m : Nat) (s : State), ∃ t, exec (.ledgerP24Check m) s = .next t ∧
    t = { s with ledger := { s.ledger with measured := m, overTold := t.ledger.overTold }, sess := t.sess } ∧
    (t.ledger.overTold = true ↔ s.nat .ledgerAvgLimit * 110 < m * 100 ∨ (s.ledger.overTold = true ∧ s.nat .ledgerAvgLimit < m)) ∧
    (s.nat .ledgerAvgLimit * 110 < m * 100 → s.ledger.overTold = false → t.told s .keep "ledger" "p24-over" []) ∧
    (m * 100 ≤ s.nat .ledgerAvgLimit * 110 ∨ s.ledger.overTold = true → t.sess = s.sess))

/-- Record writes (R131, R132, R133, R134, R135, R139, R143): the controller, running nothing, starts the next waiting write with the
erase of the spare slot, or past it where the slot is erased; an operation that is granted and completes moves the write on to its next
step; the commit marker makes the new slot the one in use and valid; an operation that completes in HALTED changes the flash and ends the
write; housekeeping asks to erase a superseded slot only with nothing pending, as it does for what a destroyed turret left; below 19.0 V
or before the hold-up is charged no such erase is granted, and one that completes leaves the slot erased; a damaged record is rewritten
with the content in use; a checkpoint that falls due is filed once for every turret, or kept for the wake. The commands of the record
store (R131, R148, R463, R588): `nv.checkpoint` and `nv.save` file their write; `nv.verify` answers with the number of slots probed, and
changes nothing but the slots that fail their probe, the count of failures, the sessions and the job table. What the model chose for it:
log entries 5, 33, 45, 56, 95, 96, 97, 98. -/
def Obligations.RecordsAreWritten : Prop :=
  (∀ (s : State) (w : Write) (rest : List Write), s.nv.running = none → s.nv.erasing = none →
    nextWrite s.nv.writes = some (w, rest) → s.serving = true → ∃ t, exec .recordWriteStart s = .next t ∧
      t = { s with nv := t.nv, ledger := t.ledger } ∧
      t.nv.recs = s.nv.recs ∧ t.nv.writes = rest ∧
      ∃ x, t.nv.running = some x ∧ x.record = w.record ∧ x.body = s.bodyOf w ∧ x.reply = w.reply ∧ x.onCommit = w.onCommit ∧
        x.step = (if ((s.getRec w.record).slot (s.getRec w.record).spare).stage = .erased then 2 else 1)) ∧
  (∀ (s : State) (w : Write), s.nv.running = some w → w.granted = true → s.nv.erasing = none → s.pwr.logicOn = true →
    s.sys.state ≠ .halted → w.step < 4 → w.stopNext = false →
    ∃ t, exec .flashOpComplete s = .next t ∧ t = { s with nv := t.nv, ledger := t.ledger, isl := t.isl } ∧ t.nv.writes = s.nv.writes ∧
      t.getRec w.record = w.flashEffect (s.getRec w.record) ∧ (∀ r : RecName, r.code ≠ w.record.code → t.getRec r = s.getRec r) ∧
      ∃ x, t.nv.running = some x ∧ x.record = w.record ∧ x.body = w.body ∧
        x.step = (if w.step = 2 ∧ 1 < w.pages then 2 else w.step + 1)) ∧
  (∀ (s : State) (w : Write), s.nv.running = some w → w.granted = true → s.nv.erasing = none → s.pwr.logicOn = true →
    s.sys.state ≠ .halted → w.step = 4 → w.reply = none → w.onCommit = .answer →
    ∃ t, exec .flashOpComplete s = .next t ∧ t = { s with nv := t.nv, ledger := t.ledger } ∧ t.nv.writes = s.nv.writes ∧
      (t.getRec w.record).cur = some (s.getRec w.record).spare ∧
      ((t.getRec w.record).slot (s.getRec w.record).spare).stage = .valid ∧
      ((t.getRec w.record).slot (s.getRec w.record).spare).body = ((s.getRec w.record).slot (s.getRec w.record).spare).body ∧
      (t.getRec w.record).slot (!(s.getRec w.record).spare) = (s.getRec w.record).slot (!(s.getRec w.record).spare) ∧
      (∀ r : RecName, r.code ≠ w.record.code → t.getRec r = s.getRec r)) ∧
  (∀ (s : State) (w : Write), s.nv.running = some w → w.granted = true → s.nv.erasing = none → s.pwr.logicOn = true →
    s.sys.state = .halted →
    ∃ t, exec .flashOpComplete s = .next t ∧ t = { s with nv := t.nv, ledger := t.ledger, isl := t.isl } ∧ t.nv.running = none ∧
      t.getRec w.record = w.flashEffect (s.getRec w.record)) ∧
  (∀ (r : RecName) (b : Bool) (s : State), s.nvPendingCount = 0 → s.nv.idle = true → s.serving = true →
    ((s.getRec r).slot b).stage = .superseded → (b = true → (s.getRec r).a.stage ≠ .superseded) →
    ∃ t, exec (.supersededSlotErase r) s = .next t ∧ t = { s with nv := t.nv, ledger := t.ledger } ∧ t.nv.recs = s.nv.recs ∧
      (∃ e, t.nv.erasing = some e ∧ e.record = r ∧ e.slot = b ∧
        ((s.pwr.above19 = false ∨ s.pwr.holdCharged = false) → e.granted = false))) ∧
  (∀ (s : State) (r : RecName) (b : Bool) (rest : List (RecName × Bool)), s.nv.writes = [] → s.nv.erases = (r, b) :: rest →
    s.nv.idle = true → s.serving = true → exec .recordWriteStart s = .next (s.fileErase r b)) ∧
  (∀ (s : State) (e : Erase), s.nv.running = none → s.nv.erasing = some e → e.granted = true → s.pwr.logicOn = true →
    ∃ t, exec .flashOpComplete s = .next t ∧ t = { s with nv := t.nv, ledger := t.ledger } ∧ t.nv.erasing = none ∧
      (t.getRec e.record).slot e.slot = Slot.init ∧ (t.getRec e.record).slot (!e.slot) = (s.getRec e.record).slot (!e.slot) ∧
      (t.getRec e.record).cur = (s.getRec e.record).cur ∧ (e.record, e.slot) ∉ t.nv.erases ∧
      (∀ q : RecName, q.code ≠ e.record.code → t.getRec q = s.getRec q)) ∧
  (∀ (r : RecName) (s : State), (s.getRec r).damaged = true → s.serving = true →
    (∀ w, w ∈ s.nv.writes → w.record ≠ r) → ∃ t, exec (.recordRepair r) s = .next t ∧
      t = s.fileWrite { record := r, body := (s.getRec r).body, reply := none }) ∧
  (∀ s : State, s.serving = true → s.checkpointAt ≤ s.sys.tick → s.nv.ckMade = false →
    ∃ t, exec .checkpointDue s = .next t ∧ t.nv.ckMade = true ∧
      t = (s.presentTurrets.foldl (fun t n => t.fileWrite { record := .stats n, body := .none, reply := none }) s).onNv fun n =>
        { n with ckMade := true }) ∧
  (∀ s : State, s.serving = true → s.nv.ckMade = true → exec .checkpointDue s = .next s) ∧
  (∀ s : State, s.sys.state = .watch → s.checkpointAt ≤ s.sys.tick →
    exec .checkpointDue s = .next { s with nv := { s.nv with ckDue := true } }) ∧
  (∀ s : State, s.sys.tick < s.checkpointAt → exec .checkpointDue s = .next s) ∧
  (∀ (hd : Hdr) (s : State), s.begins hd .nvCheckpoint = true →
    exec (.doNvCheckpoint hd) s = .next ((s.begun hd .nvCheckpoint).fileWrite
      { record := .stats ((s.getSess hd.sess).login.getD 0), body := .none, reply := some (.traop (s.replyTo hd)) })) ∧
  (∀ (hd : Hdr) (s : State), s.begins hd .nvSave = true →
    exec (.doNvSave hd) s = .next ((s.begun hd .nvSave).fileWrite
      { record := .config, reply := some (.traop (s.replyTo hd)),
        body := .config (s.cfg.filter fun p => inConfig p.1) (s.configTagNow (s.cfg.filter fun p => inConfig p.1)) })) ∧
  (∀ (hd : Hdr) (bad : List BadSlot) (s : State), s.begins hd (.nvVerify bad) = true → ∃ t, exec (.doNvVerify ⟨hd, bad⟩) s = .next t ∧
    t = { s with nv := (s.markBad bad).nv, mem := { s.mem with probeFails := t.mem.probeFails }, sess := t.sess, jobs := t.jobs } ∧
    t.answered s hd [] (.ok [.int (2 * s.records.length)]))

/-! ## WATCH -/

/-- `DO sys.watch` (R118) is answered on acceptance, with entry to follow; it is refused above 460 800 baud on a driven chain, and on a
Spire that knows a downstream module to sort (R242). Entry (R105, R119, R465), once nothing that it waits for is left, opens both VCOM
switches, darkens the Lantern, de-energises the coils, removes the heads' supplies, drops every grant, request and reservation, puts both
ports in electrical idle, gives each loop its WATCH level, and begins to repeat the chain. What the model chose for it: log entries 43,
50, 61, 106. -/
def Obligations.WatchEntry : Prop :=
  (∀ (hd : Hdr) (s : State), s.begins hd .sysWatch = true → s.sys.state = .ready → s.liveJobs = [] → s.sortsBelow = false →
    (s.serial.fmt.baud ≤ 460800 ∨ s.pwr.csin = false) → ∃ t, exec (.doSysWatch hd) s = .next t ∧
    t = { s with sys := { s.sys with watchEntry := true }, sess := t.sess, jobs := t.jobs } ∧ t.answered s hd [] (.ok [])) ∧
  (∀ (hd : Hdr) (s : State), s.begins hd .sysWatch = true →
    ((460800 < s.serial.fmt.baud ∧ s.pwr.csin = true) ∨ (s.tower.spire = true ∧ s.tower.active ≠ [])) →
      ∃ t, exec (.doSysWatch hd) s = .next t ∧
    t = { s with sess := t.sess, jobs := t.jobs } ∧ t.answered s hd [] (.er 23 [])) ∧
  (∀ s : State, s.watchMay = false → exec .watchEntryComplete s = .next s) ∧
  (∀ s : State, s.watchMay = true → ∃ t, exec .watchEntryComplete s = .next t ∧
    t.sys.state = .watch ∧ t.sys.refOn = false ∧ (∀ b, t.vcomClosed b = false) ∧ t.lantern.on = 0 ∧
    t.ledger.reqs = [] ∧ t.ledger.grants = [] ∧ t.ledger.strobe = none ∧ t.ledger.stepper = none ∧ t.serial.repeating = true) ∧
  (∀ s : State, s.watchMay = true → s.openStreams = [] → ∃ t, exec .watchEntryComplete s = .next t ∧
    t = { s with
      pwr := { s.pwr with vcom := [] },
      sys := { s.sys with state := .watch, watchEntry := false, refOn := false, crystal := 0 },
      ledger := { s.ledger with reqs := [], grants := [], charges := [], strobe := none, stepper := none, wait := t.ledger.wait },
      serial := { s.serial with repeating := true, woke := [], wokeBusy := [] }, mem := { s.mem with scrubWaits := false },
      lantern := { s.lantern with on := 0, cur := none, prev := none, waits := [], pulseAt := none, slot := none,
                                  calib := t.lantern.calib },
      feed := { s.feed with energised := false, state := t.feed.state, speed := 0, cmd := {} },
      fe := { s.fe with pass := none, urgents := [], checks := [], reads := [], slot := none, excWanted := false, begun := false },
      ports := t.ports, heads := t.heads, loops := t.loops, sess := t.sess, jobs := t.jobs } ∧
    (s.lantern.calib = none → t.sess = s.sess ∧ t.jobs = s.jobs ∧ t.lantern.calib = none) ∧
    (s.configuredHeads ≠ [] → t.lantern.calib = none) ∧
    (∀ p, t.getPort p = if p < 2 then (s.getPort p).quiet else s.getPort p) ∧
    (∀ x, t.getHead x = if x < 2 then { s.getHead x with state := .absent, v5 := 0, v12 := false } else s.getHead x) ∧
    (∀ n, n = 1 ∨ n = 2 → (s.getLoop n).state ≠ .fault → (t.getLoop n).state = .watch ∧
      (s.int .loopQuantity n = 6 → (t.getLoop n).ma6 = 4000000) ∧
      (s.int .loopQuantity n ≠ 6 → s.int .loopWatch n = 0 → (t.getLoop n).ma6 = (s.getLoop n).ma6) ∧
      (s.int .loopQuantity n ≠ 6 → s.int .loopWatch n = 1 → (t.getLoop n).ma6 = 3600000) ∧
      (s.int .loopQuantity n ≠ 6 → 1 < s.int .loopWatch n → (t.getLoop n).off = true)))

/-- What wakes a module in WATCH (R118, R225, R226, R227, R229): the first source is kept. At 9 600 baud or below a line for the module,
which is stored; above, a start edge, which starts the 48 MHz oscillator; a pulse on the IR port while flood is clear. CSIN rising at a
high rate starts the oscillator and no more. A wake event in READY ends a WATCH entry under way. The wake is complete (R105, R110, R120,
R121, R228): the module is in READY with the reference on, each loop's window starts again, the streams that are open stay so, and the
lines that were kept are executed, and the further ones answered `ER 40 BUSY`. The settings, the records, DRAM, the turrets and the tower
are as they were. What the model chose for it: log entries 39, 54, 61, 90, 106. -/
def Obligations.WakeSourcesAndWake : Prop :=
  (∀ (line : List Byte) (s : State), s.sys.state = .watch → s.serial.fmt.baud ≤ 9600 → s.pwr.csin = true →
    s.matchesHead line = true → (line.drop 2).head? ≠ some 0x1A → s.serial.woke.length < 2 →
    exec (.chainSlowReceiveMatch line) s = .next { s with
      sys := { s.sys with waking := some (s.sys.waking.getD .chain) },
      serial := { s.serial with woke := s.serial.woke ++ [LineBuf.ofBytes s.tower.addr line] } } ∧
    ((LineBuf.ofBytes s.tower.addr line).fate = .both ∨ (LineBuf.ofBytes s.tower.addr line).fate = .withhold)) ∧
  (∀ (line : List Byte) (s : State), s.matchesHead line = false → exec (.chainSlowReceiveMatch line) s = .next s) ∧
  (∀ s : State, s.sys.state = .watch → 9600 < s.serial.fmt.baud → s.pwr.csin = true → exec .chainStartEdgeWake s =
    .next { s with sys := { s.sys with waking := some (s.sys.waking.getD .chain), osc48 := true } }) ∧
  (∀ s : State, s.sys.state = .watch → s.pwr.csin = false → 460800 < s.serial.fmt.baud → exec .csinRiseInWatch s =
    .next { s with pwr := { s.pwr with csin := true }, sys := { s.sys with osc48 := true } }) ∧
  (∀ s : State, s.sys.state = .watch → s.serial.irFlood = false → s.gated 24 = false → exec .irStartEdgeWake s =
    .next { s with sys := { s.sys with waking := some (s.sys.waking.getD .ir) } }) ∧
  (∀ s : State, s.serial.irFlood = true → exec .irStartEdgeWake s = .next s) ∧
  (∀ s : State, s.sys.state = .ready → 9600 < s.serial.fmt.baud → s.pwr.csin = true →
    exec .chainStartEdgeWake s = .next { s with sys := { s.sys with watchEntry := false } }) ∧
  (∀ (src : SerialPort) (s : State), s.sys.state = .watch → s.sys.waking = some src → exec .wakeComplete s = .next
    (s.serial.wokeBusy.foldl State.busyLine (s.serial.woke.foldl (fun t b => t.lineIn 0 b)
      ((s.wakeUp src).onSerial fun p => { p with woke := [], wokeBusy := [] })))) ∧
  (∀ (src : SerialPort) (s : State), s.nv.ckDue = false → s.sys.state = .watch → ∃ t : State, s.wakeUp src = t ∧
    t = { s with pwr := t.pwr, sys := t.sys, ledger := t.ledger, sess := t.sess, feed := t.feed, heads := t.heads,
                 loops := t.loops, fe := t.fe, dome := t.dome, streams := t.streams, nv := t.nv } ∧ t.nv.recs = s.nv.recs ∧
    t.sys = { s.sys with state := .ready, waking := none, refOn := true, osc48 := false } ∧
    (∀ n, n = 1 ∨ n = 2 → t.getLoop n = { s.getLoop n with
      samples := [], badUntil := some (s.sys.tick + s.nat .loopWindowMs n * msTicks) }) ∧
    t.dome.rngReqs = 0 ∧ (∀ n, (t.getStream n).slot0 = (s.getStream n).slot0 ∧ (t.getStream n).isOpen = (s.getStream n).isOpen) ∧
    (s.pwr.hotWaits = [] → s.pwr.p24Low = false → t.told (s.enter .ready) .keep "sys" "wake"
      [.word (match src with | .chain => "chain" | .ir => "ir")])) ∧
  (∀ s : State, s.sys.waking = none → exec .wakeComplete s = .next s)

/-! ## Islands -/

/-- An island that has had no work for 1 ms gates itself while `island.auto_gate` is on (R70). I25 is reset (R99, R100): every session is
logged out with nothing running, waiting or to be sent, and the job table is empty; lines then wait until the restart, which every session
hears of and which delivers the held lines in order. The fourth reset in 10 s halts the module. What the model chose for it: log entries
35, 65, 104. -/
def Obligations.IslandsGateAndReset : Prop :=
  (∀ s : State, s.on .islandAutoGate = true → s.serving = true → (∀ j, j ∈ s.dome.jobs → j.started = none) →
    s.isl.busy05 + msTicks ≤ s.sys.tick → exec (.islandAutoGate 5) s = .next { s with isl := { s.isl with auto05 := true } }) ∧
  (∀ s : State, s.on .islandAutoGate = true → s.serving = true → (∀ j, j ∈ s.dome.queue → j.started = none ∨ j.writing = true) →
    s.isl.busy06 + msTicks ≤ s.sys.tick → exec (.islandAutoGate 6) s = .next { s with isl := { s.isl with auto06 := true } }) ∧
  (∀ (n : Nat) (s : State), s.on .islandAutoGate = false ∨ s.serving = false ∨ (n ≠ 5 ∧ n ≠ 6) ∨
      (n = 5 ∧ s.sys.tick < s.isl.busy05 + msTicks) ∨ (n = 6 ∧ s.sys.tick < s.isl.busy06 + msTicks) →
    exec (.islandAutoGate n) s = .next s) ∧
  (∀ s : State, (s.serving = true ∨ (s.sys.state = .start ∧ 9 ≤ s.sys.step)) → ∃ t, exec .i25Reset s = .next t ∧ t.jobs = [] ∧
    t.isl.cmdDown = true ∧
    ∀ k, k < 4 → (t.getSess k).login = none ∧ (t.getSess k).running = none ∧ (t.getSess k).waiting = none ∧ (t.getSess k).out = []) ∧
  (∀ s : State, s.serving = true → s.jobs = [] → (∀ k, k < 4 → (s.getSess k).running = none ∧ (s.getSess k).waiting = none) →
    (s.isl.cmdLog.filter fun x => decide (s.sys.tick < x + 10 * secTicks)).length < 3 →
    ∃ t, exec .i25Reset s = .next t ∧ t = { s with isl := t.isl, sess := t.sess, serial := { s.serial with
      taken := s.serial.line.entries.length, irTaken := s.serial.irLine.entries.length } } ∧
      t.isl = { s.isl with
        cmdDown := true, cmdResets := satInc s.isl.cmdResets,
        cmdLog := (s.isl.cmdLog.filter fun x => decide (s.sys.tick < x + 10 * secTicks)) ++ [s.sys.tick] } ∧
      ∀ k, k < 4 → (t.getSess k).isOpen = (s.getSess k).isOpen) ∧
  (∀ s : State, s.serving = true → s.jobs = [] → (∀ k, k < 4 → (s.getSess k).running = none ∧ (s.getSess k).waiting = none) →
    3 ≤ (s.isl.cmdLog.filter fun x => decide (s.sys.tick < x + 10 * secTicks)).length →
    ∃ t, exec .i25Reset s = .next t ∧ t.sys.state = .halted ∧ t.sys.halt = some { cause := 7, tick := s.sys.tick }) ∧
  (∀ s : State, s.isl.cmdDown = true → s.serving = true → exec .i25RestartDone s = .next
    (let t := ((s.onIsl fun i => { i with cmdDown := false }).emit .all "island" "25 reset" []).onSerial fun p =>
      { p with held := [], irHeld := [], taken := 0, irTaken := 0 }
    s.serial.irHeld.foldl (fun u b => u.lineIn 1 b) (s.serial.held.foldl (fun u b => u.lineIn 0 b) t))) ∧
  (∀ s : State, s.isl.cmdDown = true → s.serving = true → s.serial.held = [] → s.serial.irHeld = [] →
    ∃ t, exec .i25RestartDone s = .next t ∧
      t = { s with isl := { s.isl with cmdDown := false }, sess := t.sess, serial := { s.serial with taken := 0, irTaken := 0 } } ∧
      t.told s .all "island" "25 reset" [])

/-! ## Reading and writing settings -/

/-- `GET`, `SHOW` and `HELP` (R159, R161, R168, R170, R585): a path that names no leaf is answered `ER 20 NO PATH`, one that the session
may not read `ER 30 DENIED`; else the answer is what is read in the state in which the command starts. Nothing is changed but the session
that asked. `WATCH` (R158, R162): a watch of changes, or of a period between 10 and 60 000 ms, takes the place of the session's watch of
the same path; `OFF` takes it away; a period that ends raises an event with the value as it is then on every session of the turret, and so
does a change that is found; a comparison that finds none raises nothing, and before a watch falls due nothing happens. What the model
chose for it: log entries 35, 36, 46, 47, 98, 109. -/
def Obligations.PathsAreRead : Prop :=
  (∀ (hd : Hdr) (p : Path) (s : State), s.begins hd (.getPath p) = true → leafOf p = none →
    ∃ t, exec (.getPath hd p) s = .next t ∧ t.refused s hd 20) ∧
  (∀ (hd : Hdr) (p : Path) (k : Key) (s : State), s.begins hd (.getPath p) = true → leafOf p = some k → k.isAct = false →
    s.mayRead (s.replyTo hd) (s.target hd k) false = false → ∃ t, exec (.getPath hd p) s = .next t ∧ t.refused s hd 30) ∧
  (∀ (hd : Hdr) (p : Path) (k : Key) (s : State), s.begins hd (.getPath p) = true → leafOf p = some k → k.isAct = false →
    s.mayRead (s.replyTo hd) (s.target hd k) false = true → k.s ≠ .keyDevice → ∃ t, exec (.getPath hd p) s = .next t ∧
    t = { s with sess := t.sess, jobs := t.jobs } ∧
    t.answered s hd [] (.ok ((s.begun hd (.getPath p)).readFor (s.replyTo hd) (s.target hd k)))) ∧
  (∀ (hd : Hdr) (p : Path) (s : State), s.begins hd (.showPath p) = true → leavesUnder p = [] → p ≠ [.w "key", .w "device"] →
    ∃ t, exec (.showPath hd p) s = .next t ∧ t.refused s hd 20) ∧
  (∀ (hd : Hdr) (p : Path) (k : Key) (s : State), s.begins hd (.showPath p) = true → leavesUnder p = [k] → leafOf p = some k →
    p ≠ [.w "key", .w "device"] → k.isAct = false → k.s ≠ .keyDevice → s.mayRead (s.replyTo hd) (s.target hd k) true = true →
    ∃ t, exec (.showPath hd p) s = .next t ∧ t = { s with sess := t.sess, jobs := t.jobs } ∧
    t.answered s hd [.data (.path (s.target hd k) :: (s.begun hd (.showPath p)).readFor (s.replyTo hd) (s.target hd k))]
      (.ok [.int 1])) ∧
  (∀ (hd : Hdr) (s : State), s.begins hd (.helpPath none) = true → ∃ t, exec (.helpPath hd none) s = .next t ∧
    t = { s with sess := t.sess, jobs := t.jobs } ∧ t.answered s hd (verbs.map fun v => .data [.word v]) (.ok [.int verbs.length])) ∧
  (∀ (hd : Hdr) (p : Path) (s : State), s.begins hd (.helpPath (some p)) = true → helpLines p ≠ [] → (helpLines p).length ≤ 256 →
    ∃ (t : State) (ls : List LineBody), exec (.helpPath hd (some p)) s = .next t ∧ t = { s with sess := t.sess, jobs := t.jobs } ∧
      ls.length = (helpLines p).length ∧ t.answered s hd ls (.ok [.int (helpLines p).length])) ∧
  (∀ (hd : Hdr) (p : Path) (s : State), s.begins hd (.helpPath (some p)) = true → helpLines p = [] →
    ∃ t, exec (.helpPath hd (some p)) s = .next t ∧ t.refused s hd 20) ∧
  (∀ (hd : Hdr) (p : Path) (k : Key) (ms : Nat) (s : State), s.begins hd (.watchPath p (.period ms)) = true → leafOf p = some k →
    k.isAct = false → (s.replyTo hd).turret ≠ none → s.mayRead (s.replyTo hd) (s.target hd k) true = true →
    ((s.getSess hd.sess).watches.filter fun w => decide (w.key ≠ s.target hd k)).length < 16 → 10 ≤ ms → ms ≤ 60000 →
    ∃ t, exec (.watchPath hd p (.period ms)) s = .next t ∧ t = { s with sess := t.sess, jobs := t.jobs } ∧ t.answered s hd [] (.ok []) ∧
    ∃ w, (t.getSess hd.sess).watches = ((s.getSess hd.sess).watches.filter fun w => decide (w.key ≠ s.target hd k)) ++ [w] ∧
      w.key = s.target hd k ∧ w.period = some ms ∧ w.due = s.sys.tick + ms * msTicks) ∧
  (∀ (hd : Hdr) (p : Path) (k : Key) (ms : Nat) (s : State), s.begins hd (.watchPath p (.period ms)) = true → leafOf p = some k →
    k.isAct = false → (s.replyTo hd).turret ≠ none → s.mayRead (s.replyTo hd) (s.target hd k) true = true →
    (ms < 10 ∨ 60000 < ms) → ∃ t, exec (.watchPath hd p (.period ms)) s = .next t ∧ t.refused s hd 21) ∧
  (∀ (hd : Hdr) (p : Path) (k : Key) (s : State), s.begins hd (.watchPath p .change) = true → leafOf p = some k →
    k.isAct = false → (s.replyTo hd).turret ≠ none → s.mayRead (s.replyTo hd) (s.target hd k) true = true →
    16 ≤ ((s.getSess hd.sess).watches.filter fun w => decide (w.key ≠ s.target hd k)).length →
    ∃ t, exec (.watchPath hd p .change) s = .next t ∧ t.refused s hd 40) ∧
  (∀ (hd : Hdr) (p : Path) (k : Key) (s : State), s.begins hd (.watchPath p .off) = true → leafOf p = some k →
    k.isAct = false → (s.replyTo hd).turret ≠ none → s.mayRead (s.replyTo hd) (s.target hd k) true = true →
    ∃ t, exec (.watchPath hd p .off) s = .next t ∧ t = { s with sess := t.sess, jobs := t.jobs } ∧ t.answered s hd [] (.ok []) ∧
      (t.getSess hd.sess).watches = (s.getSess hd.sess).watches.filter fun w => decide (w.key ≠ s.target hd k)) ∧
  (∀ (n i ms m : Nat) (w : WatchE) (s : State), (s.getSess n).watches[i]? = some w → w.period = some ms → s.serving = true →
    w.due ≤ s.sys.tick → (s.getSess n).login = some m → s.mayRead (s.asSess n) w.key true = true →
      ∃ t, exec (.watchPeriod n i) s = .next t ∧ t = { s with sess := t.sess } ∧
    (t.getSess n).watches = setAt (s.getSess n).watches i { w with due := w.due + ms * msTicks, last := some (s.readFor (s.asSess n) w.key), told := some s.sys.tick } ∧
    (∀ k, s.hears (.turret m false) "watch" k = true → k < 4 → (s.getSess k).events.length < maxEvents →
      ∃ q, (t.getSess k).events = (s.getSess k).events ++ [{ s.eventLine "watch" (String.ofList (pathChars w.key))
        (s.readFor (s.asSess n) w.key) with ready := q }])) ∧
  (∀ (n i m : Nat) (w : WatchE) (s : State), (s.getSess n).watches[i]? = some w → w.period = none → s.serving = true →
    w.due ≤ s.sys.tick → (s.getSess n).login = some m → s.mayRead (s.asSess n) w.key true = true →
      w.last ≠ some (s.readFor (s.asSess n) w.key) → ∃ t, exec (.watchPeriod n i) s = .next t ∧
    t = { s with sess := t.sess } ∧
    (t.getSess n).watches = setAt (s.getSess n).watches i
      { w with due := s.sys.tick + watchTicks, last := some (s.readFor (s.asSess n) w.key), told := some s.sys.tick } ∧
    (∀ k, s.hears (.turret m false) "watch" k = true → k < 4 → (s.getSess k).events.length < maxEvents →
      ∃ q, (t.getSess k).events = (s.getSess k).events ++ [{ s.eventLine "watch" (String.ofList (pathChars w.key))
        (s.readFor (s.asSess n) w.key) with ready := q }])) ∧
  (∀ (n i : Nat) (w : WatchE) (s : State), (s.getSess n).watches[i]? = some w → w.period = none →
    w.last = some (s.readFor (s.asSess n) w.key) → ∃ t, exec (.watchPeriod n i) s = .next t ∧ t = { s with sess := t.sess } ∧
    ∀ k, (t.getSess k).events = (s.getSess k).events) ∧
  (∀ (n i : Nat) (w : WatchE) (s : State), (s.getSess n).watches[i]? = some w → s.sys.tick < w.due →
    exec (.watchPeriod n i) s = .next s)

/-- `SET` of a path (R153, R159, R168, R587): its faults are answered in the order NO PATH, SYNTAX, DENIED, READ ONLY, STATE, RANGE, and
each leaves every setting as it was; else a path without a row of its own takes its value, and no other setting changes. What the model
chose for it: log entries 42, 47, 104, 108. -/
def Obligations.PathsAreWritten : Prop :=
  (∀ (hd : Hdr) (p : Path) (tok : List Char) (s : State), s.begins hd (.setPath p tok) = true → leafOf p = none →
    ∃ t, exec (.setPath hd p tok) s = .next t ∧ t.refused s hd 20) ∧
  (∀ (hd : Hdr) (p : Path) (tok : List Char) (k : Key) (s : State), s.begins hd (.setPath p tok) = true → leafOf p = some k →
    k.isAct = false → k.s.info.ty.form tok = none → ∃ t, exec (.setPath hd p tok) s = .next t ∧ t.refused s hd 10) ∧
  (∀ (hd : Hdr) (p : Path) (tok : List Char) (k : Key) (v : Val) (s : State), s.begins hd (.setPath p tok) = true → leafOf p = some k →
    k.isAct = false → k.s.info.ty.form tok = some v → k.s.info.ty.kindOk v = true →
    (s.mayWrite (s.replyTo hd) (s.target hd k) = false → ∃ t, exec (.setPath hd p tok) s = .next t ∧ t.refused s hd 30) ∧
    (s.mayWrite (s.replyTo hd) (s.target hd k) = true → k.s.info.run = .ro →
      ∃ t, exec (.setPath hd p tok) s = .next t ∧ t.refused s hd 22) ∧
    (s.mayWrite (s.replyTo hd) (s.target hd k) = true → k.s.info.run = .no → s.sorting = true →
      ∃ t, exec (.setPath hd p tok) s = .next t ∧ t.refused s hd 23) ∧
    (s.mayWrite (s.replyTo hd) (s.target hd k) = true → k.s.info.run = .yes → k.s ≠ .seqPartitioned →
      s.setBar (s.target hd k) v = false → k.s.info.ty.rangeOk v = false →
      ∃ t, exec (.setPath hd p tok) s = .next t ∧ t.refused s hd 21)) ∧
  (∀ (hd : Hdr) (p : Path) (tok : List Char) (k : Key) (v : Val) (s : State), s.begins hd (.setPath p tok) = true →
    leafOf p = some k → k.isAct = false → k.s.info.ty.form tok = some v → k.s.info.row = .plain → s.settable hd k v = true →
    s.plainRange (s.target hd k) v = false → (k.s = .feedMode → (s.setVal (s.target hd k) v).coilsRefused = false) →
    ∃ t, exec (.setPath hd p tok) s = .next t ∧ t.wrote s hd (s.target hd k) v ∧
      (k.s ∉ [.loopAlarmMa, .towerRole, .towerPartner, .islandAutoGate, .linkEnable, .seqPartitioned, .feedMode, .irBaud, .irPulse] →
        t = { s with cfg := t.cfg, sess := t.sess, jobs := t.jobs }))

/-- Settings bound to one another (R308, R313, R317, R396): a write of headroom or hysteresis, of the feed target or its unit, of a
capture mark, or of a valve current takes effect at once where the bound holds with it, and is else answered `ER 21 RANGE` with every
setting as it was. Those that draw on a budget (R83, R92, R93, R288, R310): a phase current keeps accel ≥ run ≥ hold, an energised
stepper's reservation follows it where it fits (`ER 41` where it does not, with every setting as it was), and a hold current gives current
to coils that rested without; the peak shares stay within the valve pool; a new peak budget or average limit leaves the standing
reservations their room; the tower's reserved rates stay within 16 Gb/s, and a new sum is announced. What the model chose for it: log
entries 42, 51. -/
def Obligations.BoundSettingsKeepBounds : Prop :=
  ∀ (hd : Hdr) (k : Key) (v : Val) (s : State), s.sets hd k v = true → ∀ u : State, u = s.setVal (s.target hd k) v →
    (k.s.info.row = .linkHeadroom →
      (u.nat .linkHeadroom (s.target hd k).i + u.nat .linkHysteresis (s.target hd k).i ≤ 98304 →
        ∃ t, exec (.linkHeadroomSet hd k v) s = .next t ∧ t = { s with cfg := t.cfg, sess := t.sess, jobs := t.jobs } ∧
          t.wrote s hd (s.target hd k) v) ∧
      (98304 < u.nat .linkHeadroom (s.target hd k).i + u.nat .linkHysteresis (s.target hd k).i →
        ∃ t, exec (.linkHeadroomSet hd k v) s = .next t ∧ t.refused s hd 21)) ∧
    (k.s.info.row = .feedTargetUnit →
      (u.int .feedTargetUnit ≠ 1 ∨ u.int .feedTarget ≤ 60000000 →
        ∃ t, exec (.feedTargetUnitSet hd k v) s = .next t ∧ t = { s with cfg := t.cfg, sess := t.sess, jobs := t.jobs } ∧
          t.wrote s hd (s.target hd k) v) ∧
      (u.int .feedTargetUnit = 1 → 60000000 < u.int .feedTarget →
        ∃ t, exec (.feedTargetUnitSet hd k v) s = .next t ∧ t.refused s hd 21)) ∧
    (k.s.info.row = .captureMark →
      (u.int .captureResumeMark < u.int .captureSlowMark → u.int .captureSlowMark < u.int .capturePauseMark →
        ∃ t, exec (.captureMarkSet hd k v) s = .next t ∧ t.wrote s hd (s.target hd k) v ∧
          t = { s with cfg := t.cfg, sess := t.sess, jobs := t.jobs, feed := t.feed, seam := t.seam, ledger := t.ledger, sys := t.sys } ∧
          (u.int .capturePauseMark < u.fill6 → t.feed.pauses = s.feed.pauses ||| pauseCapture) ∧
          (u.fill6 < u.int .captureResumeMark → t.feed.pauses = maskOff s.feed.pauses pauseCapture)) ∧
      (u.int .captureSlowMark ≤ u.int .captureResumeMark ∨ u.int .capturePauseMark ≤ u.int .captureSlowMark →
        ∃ t, exec (.captureMarkSet hd k v) s = .next t ∧ t.refused s hd 21)) ∧
    (k.s.info.row = .valveSetting →
      (u.int .valveHoldA (s.target hd k).i ≤ u.int .valvePeakA (s.target hd k).i →
        ∃ t, exec (.valveSettingSet hd k v) s = .next t ∧ t = { s with cfg := t.cfg, sess := t.sess, jobs := t.jobs } ∧
          t.wrote s hd (s.target hd k) v) ∧
      (u.int .valvePeakA (s.target hd k).i < u.int .valveHoldA (s.target hd k).i →
        ∃ t, exec (.valveSettingSet hd k v) s = .next t ∧ t.refused s hd 21)) ∧
    (k.s.info.row = .feedCurrent →
      (u.int .feedAccelCurrent < u.int .feedRunCurrent ∨ u.int .feedRunCurrent < u.int .feedHoldCurrent →
        ∃ t, exec (.feedCurrentSet hd k v) s = .next t ∧ t.refused s hd 21) ∧
      (u.int .feedRunCurrent ≤ u.int .feedAccelCurrent → u.int .feedHoldCurrent ≤ u.int .feedRunCurrent → s.feed.energised = false →
        u.coilsRefused = false → ∃ t, exec (.feedCurrentSet hd k v) s = .next t ∧
          t = { s with cfg := t.cfg, sess := t.sess, jobs := t.jobs, ledger := t.ledger, feed := t.feed } ∧
          t.wrote s hd (s.target hd k) v ∧
          (s.serving = false ∨ u.coilsFree = false ∨ u.int .feedHoldCurrent = 0 → t.feed = s.feed ∧ t.ledger = s.ledger) ∧
          (s.serving = true → u.coilsFree = true → u.int .feedHoldCurrent ≠ 0 →
            t.feed.energised = true ∧ t.ledger.stepper = some u.stepperReserve)) ∧
      (u.int .feedRunCurrent ≤ u.int .feedAccelCurrent → u.int .feedHoldCurrent ≤ u.int .feedRunCurrent → s.feed.energised = true →
        u.standingFits u.ledger.strobe (some u.stepperReserve) = true →
        ∃ t, exec (.feedCurrentSet hd k v) s = .next t ∧
          t = { s with cfg := t.cfg, sess := t.sess, jobs := t.jobs, ledger := t.ledger, feed := t.feed } ∧
          t.wrote s hd (s.target hd k) v ∧ (u.int .feedHoldCurrent ≠ 0 → t.ledger.stepper = some u.stepperReserve ∧ t.feed = s.feed)) ∧
      (u.int .feedRunCurrent ≤ u.int .feedAccelCurrent → u.int .feedHoldCurrent ≤ u.int .feedRunCurrent → s.feed.energised = true →
        u.standingFits u.ledger.strobe (some u.stepperReserve) = false →
        ∃ t, exec (.feedCurrentSet hd k v) s = .next t ∧ t.answered s hd [] (.er 41 []) ∧
          t = { s with sess := t.sess, jobs := t.jobs, ledger := { s.ledger with refused := t.ledger.refused } })) ∧
    (k.s.info.row = .peakShare →
      (u.shareSum ≤ u.valvePool → ∃ t, exec (.peakShareSet hd k v) s = .next t ∧
        t = { s with cfg := t.cfg, sess := t.sess, jobs := t.jobs } ∧ t.wrote s hd (s.target hd k) v) ∧
      (u.valvePool < u.shareSum → ∃ t, exec (.peakShareSet hd k v) s = .next t ∧ t.refused s hd 21)) ∧
    (k.s.info.row = .peakBudget →
      (k.s = .ejectPeakBudget → u.valvePool < u.shareSum → ∃ t, exec (.peakBudgetSet hd k v) s = .next t ∧ t.refused s hd 21) ∧
      (k.s ≠ .ejectPeakBudget ∨ u.shareSum ≤ u.valvePool → u.standingFits u.ledger.strobe u.ledger.stepper = true →
        ∃ t, exec (.peakBudgetSet hd k v) s = .next t ∧ t = { s with cfg := t.cfg, sess := t.sess, jobs := t.jobs } ∧
          t.wrote s hd (s.target hd k) v) ∧
      (k.s ≠ .ejectPeakBudget ∨ u.shareSum ≤ u.valvePool → u.standingFits u.ledger.strobe u.ledger.stepper = false →
        ∃ t, exec (.peakBudgetSet hd k v) s = .next t ∧ t.refused s hd 41)) ∧
    (k.s = .streamRateMbps →
      (towerMbps < u.towerRates → s.rateSum < u.rateSum → ∃ t, exec (.streamRateSet hd k v) s = .next t ∧
        t = { s with sess := t.sess, jobs := t.jobs } ∧ t.answered s hd [] (.er 21 [.word "bandwidth"])) ∧
      (u.towerRates ≤ towerMbps ∨ u.rateSum ≤ s.rateSum → ∃ t, exec (.streamRateSet hd k v) s = .next t ∧
        t = { s with cfg := t.cfg, sess := t.sess, jobs := t.jobs } ∧ t.wrote s hd (s.target hd k) v))

/-- Settings that wait for a commit or a later moment (R199, R347, R370, R376, R434): a line-plan setting turns `lantern.committed` off
and leaves the running plan; a classification setting is staged and marks its slots STAGED, or is refused where a rule is not one; a
sequencer setting is staged, with every setting in force as it was; a chain format is answered in the old one, and waits. So are the
bounds and effects of the settings of islands, heads, checks, loops and checkpoints (R68, R340, R446, R458, R459, R588). What the model
chose for it: log entries 34, 36, 53, 99. -/
def Obligations.WaitingSettingsAreStaged : Prop :=
  ∀ (hd : Hdr) (k : Key) (v : Val) (s : State), s.sets hd k v = true →
    (k.s.info.row = .lanternStaged → ∃ t, exec (.lanternStagedSet hd k v) s = .next t ∧ t.wrote s hd (s.target hd k) v ∧
      t = { s with cfg := t.cfg, sess := t.sess, jobs := t.jobs, lantern := { s.lantern with committed := false } }) ∧
    (k.s.info.row = .classStaged → k.s ≠ .classRule → ∃ t, exec (.classStagedSet hd k v) s = .next t ∧
      t = { s with staged := t.staged, sess := t.sess, jobs := t.jobs, track := t.track } ∧
      t.stagedVal (s.target hd k) = v ∧ t.answered s hd [] (.ok []) ∧
      (t.getClassSlot (4 * (s.target hd k).i + (s.target hd k).j)).state = .staged) ∧
    (k.s = .classRule → ∀ b, v = .bytes b →
      (ruleOk b = true → ∃ t, exec (.classStagedSet hd k v) s = .next t ∧
        t = { s with staged := t.staged, sess := t.sess, jobs := t.jobs, track := t.track } ∧
        t.stagedVal (s.target hd k) = v ∧ t.answered s hd [] (.ok [])) ∧
      (ruleOk b = false → ∃ t, exec (.classStagedSet hd k v) s = .next t ∧ t.refused s hd 21)) ∧
    (k.s.info.row = .seqStaged → ∃ t, exec (.seqStagedSet hd k v) s = .next t ∧
      t = { s with staged := t.staged, sess := t.sess, jobs := t.jobs } ∧ t.stagedVal (s.target hd k) = v ∧
      t.answered s hd [] (.ok [])) ∧
    (k.s.info.row = .chainFormat → ∃ t, exec (.chainFormatSet hd k v) s = .next t ∧
      t = { s with serial := { s.serial with newFmt := t.serial.newFmt, fmtWait := t.serial.fmtWait }, sess := t.sess, jobs := t.jobs } ∧
      (t.serial.fmtWait.map (·.sess)) = some hd.sess ∧ t.answered s hd [] (.ok []) ∧
      (k.s = .chainBaud → (t.serial.newFmt = none ↔ { s.serial.fmtSet with baud := v.int.toNat } = s.serial.fmt) ∧
        ∀ f, t.serial.newFmt = some f → f = { s.serial.fmtSet with baud := v.int.toNat })) ∧
    (k.s = .islandGate →
      (s.sys.state = .ready → gateWrong v.int.toNat = false → ∃ t, exec (.islandGateSet hd k v) s = .next t ∧
        t.wrote s hd (s.target hd k) v ∧
        t = { s with cfg := t.cfg, sess := t.sess, jobs := t.jobs, isl := { s.isl with gate := v.int.toNat } }) ∧
      (s.sys.state = .ready → gateWrong v.int.toNat = true →
        ∃ t, exec (.islandGateSet hd k v) s = .next t ∧ t.refused s hd 21)) ∧
    (k.s = .headExpectType → ∃ t, exec (.headExpectTypeSet hd k v) s = .next t ∧ t.wrote s hd (s.target hd k) v ∧
      t = { s with cfg := t.cfg, sess := t.sess, jobs := t.jobs, heads := t.heads } ∧
      ((s.getHead (s.target hd k).i).state ≠ .mismatch ∨ s.sys.state ≠ .ready → ∀ x, t.getHead x = s.getHead x)) ∧
    (k.s = .checkIntervalS →
      (v.int = 0 ∨ s.partitioned = false ∨ 3100 ≤ s.longest 0 → ∃ t, exec (.checkIntervalSet hd k v) s = .next t ∧
        t.wrote s hd (s.target hd k) v ∧ t = { s with cfg := t.cfg, sess := t.sess, jobs := t.jobs }) ∧
      (v.int ≠ 0 → s.partitioned = true → s.longest 0 < 3100 → ∃ t, exec (.checkIntervalSet hd k v) s = .next t ∧
        t = { s with sess := t.sess, jobs := t.jobs } ∧ t.answered s hd [] (.er 21 [.word "slot"]))) ∧
    (k.s = .loopQuantity →
      ((v.int = qRate ∨ v.int = qMass ∨ v.int = qState) → s.nat .loopTurret (s.target hd k).i ≠ 0 →
        ∃ t, exec (.loopQuantitySet hd k v) s = .next t ∧ t.refused s hd 30) ∧
      ((v.int = qRate ∨ v.int = qMass ∨ v.int = qState ∨ v.int = qEntry) → s.nat .loopTurret (s.target hd k).i = 0 →
        (v.int = qEntry → s.nat .seqTurret (s.nat .loopEntry (s.target hd k).i) = 0) →
        ∃ t, exec (.loopQuantitySet hd k v) s = .next t ∧ t.wrote s hd (s.target hd k) v ∧
          t = { s with cfg := t.cfg, sess := t.sess, jobs := t.jobs, loops := t.loops } ∧
          t.getLoop (s.target hd k).i = { s.getLoop (s.target hd k).i with samples := [], badUntil := none })) ∧
    (k.s = .loopLo →
      (v.int = s.int .loopHi (s.target hd k).i → ∃ t, exec (.loopQuantitySet hd k v) s = .next t ∧ t.refused s hd 21) ∧
      (v.int ≠ s.int .loopHi (s.target hd k).i → ∃ t, exec (.loopQuantitySet hd k v) s = .next t ∧
        t.wrote s hd (s.target hd k) v ∧ t = { s with cfg := t.cfg, sess := t.sess, jobs := t.jobs })) ∧
    (k.s = .nvCheckpointS → ∃ t, exec (.nvCheckpointSet hd k v) s = .next t ∧ t.wrote s hd (s.target hd k) v ∧
      t = { s with cfg := t.cfg, sess := t.sess, jobs := t.jobs, nv := { s.nv with writes := t.nv.writes, ckMade := t.nv.ckMade } } ∧
      (s.sys.tick < s.nv.ckLast + v.int.toNat * secTicks → t.nv = s.nv) ∧
      (s.nv.ckLast + v.int.toNat * secTicks ≤ s.sys.tick → t.nv.writes = s.fileCheckpoints.nv.writes ∧ t.nv.ckMade = true))

/-- Assignments (R508, R509, R510, R511, R513, R514): an x-range is refused where it is out of order or meets another turret's; an
assignment that keeps its bounds is in force at once, but for a sequencer slot's turret, which is staged; one that breaks a bound changes
nothing. A stream given to a turret gets the lowest generation that it has not used. What the model chose for it: log entry 32. -/
def Obligations.AssignmentsKeepBounds : Prop :=
  ∀ (hd : Hdr) (k : Key) (v : Val) (s : State), s.sets hd k v = true →
    (k.s = .turretXaLo ∨ k.s = .turretXaHi →
      ∀ lo hi, lo = (if k.s = .turretXaLo then v.int.toNat else s.nat .turretXaLo (s.target hd k).i) →
        hi = (if k.s = .turretXaHi then v.int.toNat else s.nat .turretXaHi (s.target hd k).i) →
      (lo < 65535 → hi < 65535 → hi < lo → ∃ t, exec (.xrangeSet hd k v) s = .next t ∧ t.refused s hd 21) ∧
      (∀ m, m < 64 → m ≠ (s.target hd k).i → lo < 65535 → hi < 65535 → s.nat .turretXaLo m < 65535 → s.nat .turretXaHi m < 65535 →
        lo ≤ s.nat .turretXaHi m → s.nat .turretXaLo m ≤ hi → ∃ t, exec (.xrangeSet hd k v) s = .next t ∧ t.refused s hd 21) ∧
      (lo = 65535 ∨ hi = 65535 → ∃ t, exec (.xrangeSet hd k v) s = .next t ∧ t.wrote s hd (s.target hd k) v ∧
        t = { s with cfg := t.cfg, sess := t.sess, jobs := t.jobs })) ∧
    (k.s.info.row = .assignment → s.assignRange (s.target hd k) v = true →
      ∃ t, exec (.assignmentSet hd k v) s = .next t ∧ t.refused s hd 21) ∧
    (k.s = .valveTurret ∨ k.s = .turretJobs ∨ k.s = .ejectQueueShare ∨ k.s = .turretProtKib → s.assignRange (s.target hd k) v = false →
      ∃ t, exec (.assignmentSet hd k v) s = .next t ∧ t.wrote s hd (s.target hd k) v ∧
        t = { s with cfg := t.cfg, sess := t.sess, jobs := t.jobs }) ∧
    (k.s = .seqSlotTurret → ∃ t, exec (.assignmentSet hd k v) s = .next t ∧
      t = { s with staged := t.staged, sess := t.sess, jobs := t.jobs } ∧ t.stagedVal (s.target hd k) = v ∧
      t.answered s hd [] (.ok [])) ∧
    (k.s = .streamTurret → s.val (s.target hd k) ≠ v → v.int < 64 → (s.assign (s.target hd k) v).towerRates ≤ towerMbps →
      ∃ t, exec (.streamRateSet hd k v) s = .next t ∧ t.val (s.target hd k) = v ∧ t.answered s hd [] (.ok []) ∧
        t = { s with isl := { s.isl with auto05 := false, busy05 := s.sys.tick }, cfg := t.cfg, sess := t.sess, jobs := t.jobs,
                     ports := t.ports, streams := t.streams } ∧
        (t.getStream (s.target hd k).i).assigned = true ∧
        (t.getStream (s.target hd k).i).gen = (s.getStream (s.target hd k).i).nextGen ∧
        (t.getStream (s.target hd k).i).txCount = 0 ∧
        (∀ n, n ≠ (s.target hd k).i → t.getStream n = s.getStream n))

/-! ## Sessions -/

/-- Challenge login (R172, R173, R175): `LOGIN n` answers a fresh challenge, bound to the turret and to the time; the right response logs
the session in, with its watches ended and its fails at 0; a wrong or late one is answered `ER 31 LOGIN`, and the fifth in a row locks the
turret out on that session for 15 minutes, in which `ER 32 LOCKOUT` says how long it lasts; a login key that does not unwrap halts the
module with cause 08 (R504); a challenge expires after 60 s, and no sooner. What the model chose for it: log entries 2, 4, 12, 48, 88. -/
def Obligations.ChallengeLogins : Prop :=
  (∀ (hd : Hdr) (n : Nat) (s : State), s.begins hd (.loginChallenge n) = true → hd.sess < 2 → n ≤ 63 →
    s.locked hd.sess n = false → s.dome.rngFault = false → ∃ t, exec (.loginChallenge hd n) s = .next t ∧
    t = { s with sys := { s.sys with draws := s.sys.draws + 1 }, dome := { s.dome with rngReqs := s.dome.rngReqs + 1 },
                 sess := t.sess, jobs := t.jobs } ∧
    t.answered s hd [] (.ok [.challenge s.drawChallenge]) ∧
    (t.getSess hd.sess).challenge = some ⟨s.drawChallenge, n, s.sys.tick⟩ ∧ (t.getSess hd.sess).login = (s.getSess hd.sess).login) ∧
  (∀ (hd : Hdr) (n : Int) (s : State), s.begins hd (.loginChallenge n) = true → (hd.sess < 2 → n < 0 ∨ 63 < n) →
    ∃ t, exec (.loginChallenge hd n) s = .next t ∧ t.refused s hd (if hd.sess < 2 then 21 else 23)) ∧
  (∀ (hd : Hdr) (n : Nat) (s : State), s.begins hd (.loginChallenge n) = true → hd.sess < 2 → n ≤ 63 →
    s.locked hd.sess n = true → ∃ t, exec (.loginChallenge hd n) s = .next t ∧ t = { s with sess := t.sess, jobs := t.jobs } ∧
    t.answered s hd [] (.er 32 [.int (s.secsTo (SMap.look 0 (s.getSess hd.sess).lockEnd n))])) ∧
  (∀ (hd : Hdr) (n x : Nat) (w : Option (List Byte)) (c : Chal) (s : State), s.begins hd (.loginResponse n ⟨x, w⟩) = true →
    hd.sess < 2 → n ≤ 63 →
    (s.getTurret n).state ≠ .revoked → s.locked hd.sess n = false → (s.getSess hd.sess).challenge = some c → c.turret = n →
    s.sys.tick < c.issued + challengeTicks → (SMap.look KeySlot.init (s.getTurret n).slots 1).kind = .login →
    (unwraps n w = true → x = loginHmac (SMap.look KeySlot.init (s.getTurret n).slots 1).key c.value n hd.sess → s.jobs = [] →
      (s.getSess hd.sess).running = none → ∃ t, exec (.loginResponse hd n ⟨x, w⟩) s = .next t ∧
      t = { s with sess := t.sess, jobs := t.jobs, isl := t.isl, nv := { s.nv with unwrapBad := false } } ∧
      t.answered s hd [] (.ok []) ∧
      (t.getSess hd.sess).login = some n ∧ (t.getSess hd.sess).challenge = none ∧
      ((s.getSess hd.sess).login ≠ none → (t.getSess hd.sess).watches = []) ∧ SMap.look 0 (t.getSess hd.sess).fails n = 0) ∧
    (unwraps n w = false → ∃ t, exec (.loginResponse hd n ⟨x, w⟩) s = .next t ∧ t.sys.state = .halted ∧
      t.sys.halt = some { cause := 8, tick := s.sys.tick })) ∧
  (∀ (hd : Hdr) (n x : Nat) (s : State), s.begins hd (.loginResponse n ⟨x, none⟩) = true → hd.sess < 2 → n ≤ 63 →
    (s.getTurret n).state ≠ .revoked → s.locked hd.sess n = false →
    (∀ c, (s.getSess hd.sess).challenge = some c → c.turret ≠ n ∨ c.issued + challengeTicks ≤ s.sys.tick ∨
      x ≠ loginHmac (SMap.look KeySlot.init (s.getTurret n).slots 1).key c.value n hd.sess) →
    ∃ t, exec (.loginResponse hd n ⟨x, none⟩) s = .next t ∧
      t = { s with sess := t.sess, jobs := t.jobs, isl := t.isl, nv := { s.nv with unwrapBad := false } } ∧
      t.answered s hd [] (.er 31 []) ∧
      (t.getSess hd.sess).login = (s.getSess hd.sess).login ∧ (t.getSess hd.sess).challenge = none ∧
      (SMap.look 0 (s.getSess hd.sess).fails n < 4 →
        SMap.look 0 (t.getSess hd.sess).fails n = SMap.look 0 (s.getSess hd.sess).fails n + 1 ∧
        (t.getSess hd.sess).lockEnd = (s.getSess hd.sess).lockEnd) ∧
      (SMap.look 0 (s.getSess hd.sess).fails n = 4 → SMap.look 0 (t.getSess hd.sess).fails n = 0 ∧
        SMap.look 0 (t.getSess hd.sess).lockEnd n = s.sys.tick + lockTicks)) ∧
  (∀ (k : Nat) (c : Chal) (s : State), (s.getSess k).challenge = some c → ∃ t, exec (.challengeExpiry k) s = .next t ∧
    t = { s with sess := t.sess } ∧ (∀ q, q ≠ k → t.getSess q = s.getSess q) ∧
    (c.issued + challengeTicks ≤ s.sys.tick → t.getSess k = { s.getSess k with challenge := none }) ∧
    (s.sys.tick < c.issued + challengeTicks → t.getSess k = s.getSess k))

/-- PIN login (R176): only on session 1, and only where the turret holds a PIN; the right PIN logs in and ends the count, a wrong one is
answered `ER 31 LOGIN`, and the fifth in a row locks every PIN login of the turret out, with its record written. The lockout ends after 15
minutes with L24 valid. What the model chose for it: log entries 44, 88. -/
def Obligations.PinLogins : Prop :=
  (∀ (hd : Hdr) (n : Nat) (ds : List Char) (s : State), s.begins hd (.loginPin n ds) = true → pinForm ds = false →
    ∃ t, exec (.loginPin hd n ds) s = .next t ∧ t.refused s hd 10) ∧
  (∀ (hd : Hdr) (n : Nat) (ds : List Char) (s : State), s.begins hd (.loginPin n ds) = true → pinForm ds = true →
    (hd.sess ≠ 1 ∨ (n ≤ 63 ∧ (s.getTurret n).pins = [])) → ∃ t, exec (.loginPin hd n ds) s = .next t ∧ t.refused s hd 23) ∧
  (∀ (hd : Hdr) (n : Nat) (ds : List Char) (s : State), s.begins hd (.loginPin n ds) = true → pinForm ds = true → hd.sess = 1 →
    n ≤ 63 → (s.getTurret n).state ≠ .revoked → (s.getTurret n).pins ≠ [] → (s.getTurret n).pinLock = none →
    ((ds.map fun c => BitVec.ofNat 8 c.toNat) ∈ (s.getTurret n).pins → s.jobs = [] → (s.getSess hd.sess).running = none →
      ∃ t, exec (.loginPin hd n ds) s = .next t ∧
      t = { s with sess := t.sess, jobs := t.jobs, turrets := t.turrets } ∧ t.answered s hd [] (.ok []) ∧
      (t.getSess 1).login = some n ∧ (t.getTurret n).pinFails = 0) ∧
    ((ds.map fun c => BitVec.ofNat 8 c.toNat) ∉ (s.getTurret n).pins → (s.getTurret n).pinFails < 4 →
      ∃ t, exec (.loginPin hd n ds) s = .next t ∧ t = { s with sess := t.sess, jobs := t.jobs, turrets := t.turrets } ∧
        t.answered s hd [] (.er 31 []) ∧ t.getTurret n = { s.getTurret n with pinFails := (s.getTurret n).pinFails + 1 } ∧
        (t.getSess 1).login = (s.getSess 1).login) ∧
    ((ds.map fun c => BitVec.ofNat 8 c.toNat) ∉ (s.getTurret n).pins → 4 ≤ (s.getTurret n).pinFails →
      ∃ t, exec (.loginPin hd n ds) s = .next t ∧ t = { s with sess := t.sess, jobs := t.jobs, turrets := t.turrets, nv := t.nv } ∧
        t.answered s hd [] (.er 31 []) ∧ t.getTurret n = { s.getTurret n with pinFails := 0, pinLock := some (s.sys.tick + lockTicks) } ∧
        t.nv = { s.nv with writes := s.nv.writes ++ [{ record := .keystore, body := .none, reply := none }] })) ∧
  (∀ (n : Nat) (e : Tick) (s : State), (s.getTurret n).pinLock = some e → e ≤ s.sys.tick → s.pwr.l24Valid = true →
    ∃ t, exec (.pinLockoutExpiry n) s = .next t ∧
    t = { s with turrets := t.turrets, nv := t.nv } ∧ t.getTurret n = { s.getTurret n with pinLock := none } ∧
    t.nv = { s.nv with writes := s.nv.writes ++ [{ record := .keystore, body := .none, reply := none }] } ∧
    ∀ m, m ≠ n → t.getTurret m = s.getTurret m) ∧
  (∀ (n : Nat) (s : State), s.pwr.l24Valid = false ∨ (∀ e, (s.getTurret n).pinLock = some e → s.sys.tick < e) →
    exec (.pinLockoutExpiry n) s = .next s)

/-- How a login ends (R171, R175, R178): `LOGOUT` on the chain and IR sessions, answered `ER 23 STATE` elsewhere; an idle time with
nothing in flight ends it too; in each case the watches and the challenge end with it; a session that has no login loses its challenge
alone. Lockouts and import nonces expire when their time has come, and no sooner. What the model chose for it: log entry 48. -/
def Obligations.LoginsEnd : Prop :=
  (∀ (hd : Hdr) (s : State), s.begins hd .logout = true → hd.sess < 2 → s.jobs = [] →
    (s.getSess hd.sess).running = none → (s.getSess hd.sess).login = none → ∃ t, exec (.logout hd) s = .next t ∧
    t = { s with sess := t.sess, jobs := t.jobs } ∧ t.answered s hd [] (.ok []) ∧ (t.getSess hd.sess).login = none ∧
    (t.getSess hd.sess).challenge = none ∧ ∀ q, q ≠ hd.sess → t.getSess q = s.getSess q) ∧
  (∀ (hd : Hdr) (s : State), s.begins hd .logout = true → hd.sess < 2 → s.jobs = [] →
    (s.getSess hd.sess).running = none → (s.getSess hd.sess).login ≠ none → ∃ t, exec (.logout hd) s = .next t ∧
    t = { s with sess := t.sess, jobs := t.jobs } ∧ t.answered s hd [] (.ok []) ∧ (t.getSess hd.sess).login = none ∧
    (t.getSess hd.sess).watches = [] ∧ (t.getSess hd.sess).challenge = none ∧ (t.getSess hd.sess).nonce = none ∧
    ∀ q, q ≠ hd.sess → t.getSess q = s.getSess q) ∧
  (∀ (hd : Hdr) (s : State), s.begins hd .logout = true → 2 ≤ hd.sess → ∃ t, exec (.logout hd) s = .next t ∧ t.refused s hd 23) ∧
  (∀ (k : Nat) (s : State), k < 2 → (s.getSess k).login ≠ none → s.nat .sessIdleS k ≠ 0 → s.busySess k = false →
    (s.getSess k).lastActive + s.nat .sessIdleS k * secTicks ≤ s.sys.tick → ∃ t, exec (.sessionIdleTimeout k) s = .next t ∧
      t = { s with sess := t.sess } ∧ (t.getSess k).login = none ∧
      (t.getSess k).watches = [] ∧ (t.getSess k).challenge = none ∧
      ∀ q, q < 4 → q ≠ k → s.hears .keep "session" q = false → t.getSess q = s.getSess q) ∧
  (∀ (k : Nat) (s : State), 2 ≤ k ∨ s.nat .sessIdleS k = 0 ∨ s.busySess k = true ∨
    s.sys.tick < (s.getSess k).lastActive + s.nat .sessIdleS k * secTicks → exec (.sessionIdleTimeout k) s = .next s) ∧
  (∀ (k n : Nat) (s : State), s.locked k n = false → ∃ t, exec (.lockoutExpiry (some (k, n))) s = .next t ∧ t = { s with sess := t.sess } ∧
    t.getSess k = { s.getSess k with lockEnd := SMap.put 0 (s.getSess k).lockEnd n 0 } ∧ ∀ q, q ≠ k → t.getSess q = s.getSess q) ∧
  (∀ (k n : Nat) (s : State), s.locked k n = true → exec (.lockoutExpiry (some (k, n))) s = .next s) ∧
  (∀ (e : Tick) (s : State), s.sys.restartLock = some e → exec (.lockoutExpiry none) s =
    .next (if s.sys.tick < e then s else { s with sys := { s.sys with restartLock := none } })) ∧
  (∀ (k : Nat) (v : List Byte) (at_ : Tick) (s : State), (s.getSess k).nonce = some (v, at_) →
    ∃ t, exec (.keyNonceExpiry k) s = .next t ∧ t = { s with sess := t.sess } ∧ (∀ q, q ≠ k → t.getSess q = s.getSess q) ∧
    (at_ + 60 * secTicks ≤ s.sys.tick → t.getSess k = { s.getSess k with nonce := none }) ∧
    (s.sys.tick < at_ + 60 * secTicks → t.getSess k = s.getSess k))

/-- One untagged command at a time, and `ABORT` (R180, R183, R184): a line that comes while one runs waits, a further one is answered `ER
40 BUSY`, and the waiting line starts once nothing runs; `ABORT` acts as its tick ends, so that what completes in that tick stands (Table
4-6): it withdraws a command that has not passed its commit point, answers it `ER 42 ABORTED` and then says how many it aborted, and
leaves every other to end as it would; a module that has halted by then answers it `ER 60 HALTED`. What the model chose for it: log
entries 42, 43, 111. -/
def Obligations.LinesWaitAndAbort : Prop :=
  (∀ (hd : Hdr) (p : Path) (s : State), s.heard hd (.getPath p) = true → hd.tag = none → s.sys.state ≠ .halted →
    (s.getSess hd.sess).running ≠ none → (s.getSess hd.sess).waiting = none → ∃ t, exec (.getPath hd p) s = .next t ∧
    t = { s with sess := t.sess } ∧ (t.getSess hd.sess).waiting = some (hd, .getPath p) ∧
    (t.getSess hd.sess).running = (s.getSess hd.sess).running ∧ (t.getSess hd.sess).out = (s.getSess hd.sess).out) ∧
  (∀ (hd : Hdr) (p : Path) (s : State), s.heard hd (.getPath p) = true → hd.tag = none → s.sys.state ≠ .halted →
    (s.getSess hd.sess).running ≠ none → (s.getSess hd.sess).waiting ≠ none → ∃ t, exec (.getPath hd p) s = .next t ∧
    t = { s with sess := t.sess } ∧ (t.getSess hd.sess).waiting = (s.getSess hd.sess).waiting ∧
    ∃ n, (t.getSess hd.sess).out = (s.getSess hd.sess).out ++ [{ s.answerLine (s.replyTo hd) (.er 40 []) false with ready := n }]) ∧
  (∀ (k : Nat) (hd : Hdr) (c : Cmd) (s : State), s.serving = true → s.takesLines k = true → s.islandDown = false →
    (s.getSess k).running = none → (s.getSess k).waiting = some (hd, c) → hd.sess = k → hd.tag = none → (∀ a, c ≠ .abort a) →
    s.lineBar hd c = none → s.gate (s.replyTo hd) c = none → exec (.untaggedLineStart k) s = .next
      (((s.modSess k fun y => { y with waiting := none }).modSess k fun y => { y with running := some (c, s.replyTo hd) }).act
        (s.replyTo hd) c)) ∧
  (∀ (k : Nat) (s : State), (s.getSess k).running ≠ none → exec (.untaggedLineStart k) s = .next s) ∧
  (∀ (hd : Hdr) (a : AbortArg) (s : State), s.heard hd (.abort a) = true → s.sys.state ≠ .halted → hd.tag = none →
    ∃ t, exec (.abort hd a) s = .next t ∧ t = (s.received hd).onSys fun y => { y with aborts := y.aborts ++ [(s.replyTo hd, a)] }) ∧
  (∀ (s v : State) (c : Cmd) (q r : ReplyTo), s.sys.aborts = [(q, .untagged)] → s.sys.state ≠ .halted →
    v = { s with sys := { s.sys with aborts := [] } } →
    (s.getSess q.sess).running = some (c, r) → r.sess = q.sess → (s.getSess q.sess).waiting = none →
    (∀ u, v.abortable r = some u → (u.getSess q.sess).waiting = none → s.abortTick = (u.er r 42).say q [] (.ok [.int 1])) ∧
    (v.abortable r = none → s.abortTick = v.say q [] (.ok [.int 0]))) ∧
  (∀ (q : ReplyTo) (n : Nat) (s : State), s.sys.aborts = [(q, .tag n)] → s.sys.state ≠ .halted →
    (∀ j, j ∈ s.jobs → j.sess = q.sess → j.reply.tag ≠ some n) →
    s.abortTick = State.say { s with sys := { s.sys with aborts := [] } } q [] (.ok [.int 0])) ∧
  (∀ (q : ReplyTo) (a : AbortArg) (h : HaltRec) (s : State), s.sys.aborts = [(q, a)] → s.sys.state = .halted → s.sys.halt = some h →
    s.abortTick = State.say { s with sys := { s.sys with aborts := [] } } q [] (.er 60 [.dec2 h.cause])) ∧
  (∀ s : State, s.sys.aborts = [] → s.abortTick = s)

/-! ## The serial ports -/

/-- A character on the chain (R47, R195, R197, R203–R207, R219, R224): a bit is the majority of its three samples, and one that disagrees
tags the character; none is taken in OFF, with the logic off, or while the pair is undriven; in WATCH the pair is repeated as it is; a
line that begins with no address stays with this module, one that is for another is forwarded in order, a bad character as 0x1A, and one
addressed to this module is withheld from where that shows, with silence in its place. A break is forwarded as one 0x1A and an idle line.
A whole line is executed. What the model chose for it: log entries 39, 48, 67, 68. -/
def Obligations.ChainCharacters : Prop :=
  (∀ c : Byte, Fmt.init.decode ((false :: ((List.range 8).map fun i => c.toNat.testBit i) ++ [true]).map fun v => ⟨v, v, v⟩) = (c, {})) ∧
  (∀ (c : Byte) (i : Nat), i < 8 →
    Fmt.init.decode ((false :: ((List.range 8).map fun i => c.toNat.testBit i) ++ [true]).zipIdx.map fun v =>
      ⟨v.1, decide (v.2 = i + 1) != v.1, v.1⟩) = (c, { noise := true })) ∧
  (∀ (bits : List RxBit) (m : Nat) (c : Byte) (g : CharTags) (s : State), s.reads bits m c g = true →
    s.sys.state = .off ∨ s.pwr.logicOn = false ∨ s.pwr.csin = false →
    exec (.characterReceived .chain (.chain bits) m) s = .next { s with serial := { s.serial with brk := none } }) ∧
  (∀ (bits : List RxBit) (m : Nat) (c : Byte) (g : CharTags) (s : State), s.reads bits m c g = true →
    s.sys.state = .watch → s.pwr.logicOn = true → s.pwr.csin = true → s.collects = false →
    s.serial.repeating = true → exec (.characterReceived .chain (.chain bits) m) s =
      .next { s with serial := { s.serial with sent := s.serial.sent ++ [some c], brk := none, lastRx := some s.sys.tick, charEnd := s.sys.tick } }) ∧
  (∀ (bits : List RxBit) (m : Nat) (s : State), ((s.serial.fmt.frame bits).headD ⟨false, false, false⟩).value = true ∨
    (s.serial.brk ≠ none ∧ m * s.serial.fmt.baud < secTicks) → exec (.characterReceived .chain (.chain bits) m) s = .next s) ∧
  (∀ (bits : List RxBit) (m : Nat) (c : Byte) (g : CharTags) (s : State), s.reads bits m c g = true →
    s.sys.state ≠ .off → s.sys.state ≠ .watch → s.pwr.logicOn = true → s.pwr.csin = true →
    s.serial.takes 1 → (g.any = true ∨ (c ≠ 13 ∧ c ≠ 10)) →
    (3 ≤ s.serial.line.count → s.serial.line.fate = .forward →
      ∃ t, exec (.characterReceived .chain (.chain bits) m) s = .next t ∧ t = { s with serial := t.serial } ∧
        t.serial.stream = s.serial.stream ++ [some (if g.any ∨ c = 0x1A then 0x1A else c)] ∧
        t.serial.line.count = s.serial.line.count + 1 ∧ t.serial.line.fate = .forward ∧
        t.serial.damaged = if g.any then satInc s.serial.damaged else s.serial.damaged) ∧
    (3 ≤ s.serial.line.count → s.serial.line.fate = .execute ∨ s.serial.line.fate = .withhold → s.islandDown = false →
      s.serial.line.overrun = false → s.serial.line.count < 200 →
      ∃ t, exec (.characterReceived .chain (.chain bits) m) s = .next t ∧ t = { s with serial := t.serial } ∧
        t.serial.sent = s.serial.sent ∧ t.serial.backlog = s.serial.backlog ∧
        t.serial.line.chars = s.serial.line.chars ++ [if g.any ∨ c = 0x1A then 0x1A else c] ∧
        t.serial.line.fate = s.serial.line.fate) ∧
    (s.serial.line.count = 0 → g.any = false → c ≠ 0x1A → c ≠ 0x40 →
      ∃ t, exec (.characterReceived .chain (.chain bits) m) s = .next t ∧
      t = { s with serial := t.serial } ∧ t.serial.sent = s.serial.sent ∧ t.serial.backlog = s.serial.backlog ∧
      t.serial.line.fate = .execute) ∧
    (s.serial.line.count = 2 → s.serial.line.fate = .undecided → g.any = false → c ≠ 0x1A → s.tower.addr ≠ 0 →
      s.serial.line.head ++ [c] = addrBytes s.tower.addr → s.islandDown = false → s.serial.line.overrun = false →
      ∃ t, exec (.characterReceived .chain (.chain bits) m) s = .next t ∧ t = { s with serial := t.serial } ∧
        t.serial.stream = s.serial.stream ++ [none] ∧ t.serial.line.fate = .withhold)) ∧
  (∀ (bits : List RxBit) (m : Nat) (s : State), s.serial.fmt.isBreak bits = true → s.serial.brk = none →
    (s.serial.fmt.frame bits).head? ≠ none → s.sys.state ≠ .off → s.sys.state ≠ .watch → s.pwr.logicOn = true → s.pwr.csin = true →
    s.serial.takes 2 → s.serial.line = {} → s.islandDown = false →
    ∃ t, exec (.characterReceived .chain (.chain bits) m) s = .next t ∧ t = { s with serial := t.serial } ∧
      t.serial.sent = s.serial.stream ++ [some 0x1A, none] ∧ t.serial.backlog = [] ∧ t.serial.line = {} ∧
      t.serial.brk = some (s.sys.tick - s.serial.fmt.charTicks 1) ∧ t.serial.brkTold = false) ∧
  (∀ (bits : List RxBit) (m : Nat) (s : State), s.reads bits m 13 {} = true →
    s.sys.state ≠ .off → s.sys.state ≠ .watch → s.pwr.logicOn = true → s.pwr.csin = true → s.serial.repeating = false →
    s.serial.line.count ≠ 0 → s.serial.line.fate = .execute → s.serial.line.isEnum = false → s.islandDown = false →
    exec (.characterReceived .chain (.chain bits) m) s = .next
      ((s.onSerial fun p => { p with brk := none, lastRx := some s.sys.tick, line := { fate := .withhold }, taken := 0,
                                     lastCr := true }).lineIn 0 s.serial.line))

/-- The rest of the chain port (R47, R155, R199, R202, R207, R208, R209, R219, R224): one character time after the last stop bit an idle
line discards a partial line and lets the backlog out, followed by the idle line; CSIN going away reads as one; a break of more than 10 ms
is told once to session 0 and the Keep; at a line boundary one waiting line of the module's own is sent whole, ended by CR LF, unless more
than 819 characters wait or the verify fence holds it (R480); and a new format takes effect once its answer has been sent and the port has
been silent for ten character times. What the model chose for it: log entries 39, 41, 67. -/
def Obligations.ChainPortIdlesAndSends : Prop :=
  (∀ s : State, s.sys.state ≠ .off → s.sys.state ≠ .watch → s.pwr.logicOn = true → s.serial.line.tooLong = false →
    s.serial.line.overrun = false → (∀ l, s.serial.lastRx = some l → l + s.serial.fmt.charTicks 1 ≤ s.sys.tick) →
    ∃ t, exec (.idleLine .chain) s = .next t ∧ t = { s with serial := t.serial } ∧
    t.serial.line = {} ∧ t.serial.backlog = [] ∧ t.serial.repeating = false ∧ t.serial.sent.getLast? = some none ∧
    (t.serial.sent = s.serial.stream ++ [none] ∨ t.serial.sent = s.serial.stream)) ∧
  (∀ (l : Tick) (s : State), s.sys.state = .off ∨ (s.serial.lastRx = some l ∧ s.sys.tick < l + s.serial.fmt.charTicks 1) →
    exec (.idleLine .chain) s = .next s) ∧
  (∀ (s : State), s.pwr.csin = false ∨ s.sys.state = .off → exec (.csinChange false) s =
    .next { s with pwr := { s.pwr with csin := false } }) ∧
  (∀ (s : State), exec (.csinChange true) s = .next { s with pwr := { s.pwr with csin := true } }) ∧
  (∀ (s : State), s.pwr.csin = true → s.sys.state ≠ .off → s.pwr.logicOn = true →
    exec (.csinChange false) s = .next ({ s with pwr := { s.pwr with csin := false } } : State).chainIdle) ∧
  (∀ (b : Tick) (s : State), s.sys.state ≠ .off → s.sys.state ≠ .watch → s.serial.brk = some b →
    b + 10 * msTicks < s.sys.tick → s.serial.brkTold = false → s.pwr.csin = true →
    s.pwr.logicOn = true → ∃ t, exec .chainBreak s = .next t ∧
    t = { s with serial := { s.serial with brkTold := true }, sess := t.sess } ∧ t.told s .keepAndChain "chain" "break" []) ∧
  (∀ s : State, s.serial.brk = none ∨ s.serial.brkTold = true → exec .chainBreak s = .next s) ∧
  (∀ (l : OutLine) (u : State) (s : State), s.ownMay = true → s.fenced 25 = false → s.takeLine 0 = some (l, u) →
    ∃ t, exec .ownLineSend s = .next t ∧ t = { u with serial := t.serial, jobs := t.jobs } ∧
      t.serial.sent = (s.serial.yield s.sys.tick).sent ++ (lineChars l (s.checked 0) ++ crLf).map some ∧
      t.serial.backlog = (s.serial.yield s.sys.tick).backlog) ∧
  (∀ s : State, s.takeLine 0 = none ∨ 819 < (charsIn s.serial.backlog).length ∨ s.sys.tick < s.serial.txFree →
    exec .ownLineSend s = .next s) ∧
  (∀ (l : OutLine) (u : State) (s : State), s.ownMay = true → s.fenced 25 = true → s.takeLine 0 = some (l, u) →
    ∃ t, exec .ownLineSend s = .next t ∧ t = { s with mem := t.mem } ∧
      t.getReqr 25 = { s.getReqr 25 with heldAt := some ((s.getReqr 25).heldAt.getD s.sys.tick) }) ∧
  (∀ (f : Fmt) (s : State), s.serial.newFmt = some f → s.serial.backlog = [] → s.serial.line.count = 0 →
    (∀ w, s.serial.fmtWait = some w → s.answerSent w = true) → s.serial.lastChar + s.serial.fmt.charTicks 10 ≤ s.sys.tick →
    exec .chainFormatChange s = .next { s with serial := { s.serial with fmt := f, newFmt := none, fmtWait := none } }) ∧
  (∀ (w : AnsWait) (s : State), s.sys.tick < s.serial.lastChar + s.serial.fmt.charTicks 10 ∨
    (s.serial.fmtWait = some w ∧ s.answerSent w = false) → exec .chainFormatChange s = .next s) ∧
  (∀ (w : AnsWait) (s : State), w.gen = (s.getSess w.sess).gen → w.until_ = none →
    (∃ l, l ∈ (s.getSess w.sess).out ∧ l.ready = w.ready) → s.answerSent w = false) ∧
  (∀ (w : AnsWait) (t : Tick) (s : State), w.until_ = some t → (s.answerSent w = true ↔ t ≤ s.sys.tick))

/-- The IR port (R200, R213–R217, R222): a character is taken only while the port works and from when it no longer sends; a whole line
goes to session 1; once the receiver has seen no pulse for the turnaround time a waiting line is sent, unless the verify fence holds it
(R480), and the receiver blanked until 100 µs after its end. Flood mutes the port, is told to session 0 and the Keep once it has lasted
100 ms, and again when it has cleared; a minute of it is a fault, and 50 ms without it end both. What the model chose for it: log entries
39, 41, 68. -/
def Obligations.IrPortReceivesAndSends : Prop :=
  (∀ (ps : List IrPulse) (m : Nat) (s : State), s.irUp = false ∨ s.sys.tick - s.irTicks 1 < s.serial.irTxEnd ∨
    (∀ p, p ∈ ps → p.width < usTicks) → exec (.characterReceived .ir (.ir ps) m) s = .next s) ∧
  (∀ (ps : List IrPulse) (m : Nat) (c : Byte) (g : CharTags) (s : State), irDecode s.irFormat.1 ps = some (c, g) → s.irUp = true →
    s.serial.irTxEnd ≤ s.sys.tick - s.irTicks 1 → s.islandDown = false → (g.any = true ∨ (c ≠ 13 ∧ c ≠ 10)) →
    s.serial.irLine.overrun = false → s.serial.irLine.count < 200 → ∃ t, exec (.characterReceived .ir (.ir ps) m) s = .next t ∧
    t = { s with serial := { s.serial with irLine := t.serial.irLine, irRx := some s.sys.tick, irPulse := t.serial.irPulse,
                                           irDamaged := t.serial.irDamaged } } ∧
    t.serial.irLine.chars = s.serial.irLine.chars ++ [if g.any ∨ c = 0x1A then 0x1A else c] ∧
    t.serial.irDamaged = (if g.any then satInc s.serial.irDamaged else s.serial.irDamaged) ∧
    t.serial.irLine.flood = (s.serial.irLine.flood || s.irFlooded (s.sys.tick - s.irTicks 1))) ∧
  (∀ (ps : List IrPulse) (m : Nat) (s : State), irDecode s.irFormat.1 ps = some (13, {}) → s.irUp = true →
    s.serial.irTxEnd ≤ s.sys.tick - s.irTicks 1 → s.islandDown = false → s.irFlooded (s.sys.tick - s.irTicks 1) = false →
    ∃ q, exec (.characterReceived .ir (.ir ps) m) s = .next
      ((s.onSerial fun p => { p with irRx := some s.sys.tick, irPulse := some q, irLine := {}, irTaken := 0 }).lineIn 1
        s.serial.irLine)) ∧
  (∀ s : State, s.serial.irLine.tooLong = false → s.serial.irLine.overrun = false →
    (∀ l, s.serial.irRx = some l → l + s.irTicks 1 ≤ s.sys.tick) →
    exec (.idleLine .ir) s = .next { s with serial := { s.serial with irLine := {}, irTaken := 0 } }) ∧
  (∀ (l : OutLine) (u s : State), s.irMay = true → s.fenced 25 = false → s.serial.irRest = none → s.takeLine 1 = some (l, u) →
    ∃ t, exec .irTurnaround s = .next t ∧ t = { u with jobs := t.jobs, serial := { u.serial with
      irSent := u.serial.irSent ++ (lineChars l (s.checked 1) ++ crLf).map s.irChar, irNow := some l, irRest := none, irLine := {},
      irTaken := 0, irTxEnd := t.serial.irTxEnd, irHold := t.serial.irHold, fmtWait := t.serial.fmtWait } } ∧
      t.serial.irTxEnd = s.sys.tick + s.irTicks (lineChars l (s.checked 1) ++ crLf).length + 100 * usTicks) ∧
  (∀ (p : Tick) (s : State), s.serial.irMute = true ∨ s.sys.tick < s.serial.irTxEnd ∨
    (s.serial.irPulse = some p ∧ s.sys.tick < p + s.nat .irTurnaround * msTicks) → exec .irTurnaround s = .next s) ∧
  (∀ s : State, s.irMay = true → s.fenced 25 = true → s.serial.irRest ≠ none ∨ s.takeLine 1 ≠ none →
    ∃ t, exec .irTurnaround s = .next t ∧ t = { s with mem := t.mem } ∧
      t.getReqr 25 = { s.getReqr 25 with heldAt := some ((s.getReqr 25).heldAt.getD s.sys.tick) }) ∧
  (∀ (x : Nat) (s : State), s.irStarted = true → 40 < x → s.serial.irFlood = false → ∃ t, exec (.irFlood x) s = .next t ∧
    t = { s with serial := t.serial, jobs := t.jobs } ∧ t.serial.irFlood = true ∧ t.serial.irMute = true ∧
    t.serial.irFloodAt = s.sys.tick ∧ t.serial.irFloods = satInc s.serial.irFloods ∧
    t.serial.irOver = some (s.serial.irOver.getD s.sys.tick) ∧ t.serial.irLine = s.serial.irLine ∧ t.serial.sent = s.serial.sent) ∧
  (∀ (x : Nat) (s : State), s.irStarted = true → x < 30 → s.serial.irFlood = true → ∃ t, exec (.irFlood x) s = .next t ∧
    t = { s with serial := { s.serial with irOver := none, irFlood := false, irClearAt := s.sys.tick, irTold := false },
                 sess := t.sess } ∧
    (s.serial.irTold = true → t.told s .keepAndChain "ir" "clear" []) ∧ (s.serial.irTold = false → t.sess = s.sess)) ∧
  (∀ (x : Nat) (s : State), 30 ≤ x → x ≤ 40 → s.irStarted = true →
    exec (.irFlood x) s = .next { s with serial := { s.serial with irOver := none } }) ∧
  (∀ s : State, s.irStarted = true → s.serial.irFlood = true → s.serial.irTold = false →
    s.serial.irFloodAt + 100 * msTicks ≤ s.sys.tick → ∃ t, exec .irFloodEvent s = .next t ∧
    t = { s with serial := { s.serial with irTold := true }, sess := t.sess } ∧ t.told s .keepAndChain "ir" "flood" []) ∧
  (∀ s : State, s.sys.tick < s.serial.irFloodAt + 100 * msTicks → exec .irFloodEvent s = .next s) ∧
  (∀ (o : Tick) (s : State), s.irStarted = true → s.serial.irFault = false → s.serial.irOver = some o → o + 60 * secTicks ≤ s.sys.tick →
    ∃ t, exec .irFault s = .next t ∧
    t = { s with serial := { s.serial with irFault := true }, sess := t.sess } ∧ t.told s .keepAndChain "ir" "fault" []) ∧
  (∀ s : State, s.serial.irFlood = false → s.serial.irClearAt + 50 * msTicks ≤ s.sys.tick →
    exec .irTxResume s = .next { s with serial := { s.serial with irMute := false, irFault := false } }) ∧
  (∀ s : State, s.serial.irFlood = true ∨ s.sys.tick < s.serial.irClearAt + 50 * msTicks → exec .irTxResume s = .next s)

/-! ## The tower -/

/-- `ENUM n` on the chain (R234, R235, R236, R237, R239, R241): a module that does not sort takes *n* + 1, or the address it is pinned to,
or none from 32 up, and sends the line on with the number it took; one that sorts keeps its address and says so; a line that fails its
check is sent on as it came, and a malformed one, or one on another session, is answered and not acted on. A tower of many (R233, R240,
R253, R288, R294): a Spire notes where another module holds its own address; a neighbour whose address is not one less is told; a count
asked for is answered, or passed on; a management message gives the module's epoch, rates, state, role and partner. What the model chose
for it: log entries 20, 22, 48, 66, 112. -/
def Obligations.EnumerationAndTowerOrder : Prop :=
  (∀ (hd : Hdr) (n : Nat) (s : State), s.takesLines 0 = true → hd.sess = 0 → hd.addr = .absent → hd.tag = none → hd.check ≠ .bad →
    (hd.check = .absent → s.on .sessRequireCheck 0 = false) → n ≤ 33 → s.serial.takes 16 →
    (s.sorting = false → n < 32 → (s.nat .towerPin = 0 ∨ n = 0) → ∃ t, exec (.enumerate hd (some n)) s = .next t ∧
      t = { s with tower := t.tower, sess := t.sess, serial := t.serial, ports := t.ports } ∧ t.tower.addr = n + 1 ∧
      t.tower.spire = decide (n = 0) ∧ t.tower.dup = false ∧ (n ≠ 0 → t.ports = s.ports) ∧
      t.serial.stream = s.serial.stream ++ (enumChars (n + 1) (decide (hd.check = .good))).map some) ∧
    (s.sorting = false → n < 32 → 0 < n → s.nat .towerPin ≠ 0 → ∃ t, exec (.enumerate hd (some n)) s = .next t ∧
      t = { s with tower := t.tower, sess := t.sess, serial := t.serial, ports := t.ports } ∧
      t.tower.addr = s.nat .towerPin ∧
      t.serial.stream = s.serial.stream ++ (enumChars (s.nat .towerPin) (decide (hd.check = .good))).map some) ∧
    (s.sorting = false → 32 ≤ n → ∃ t, exec (.enumerate hd (some n)) s = .next t ∧
      t = { s with tower := t.tower, sess := t.sess, serial := t.serial } ∧ t.tower.addr = 0 ∧
      t.tower.spire = false ∧ t.serial.stream = s.serial.stream ++ (enumChars 33 (decide (hd.check = .good))).map some) ∧
    (s.sorting = true → s.tower.addr ≠ n + 1 → s.tower.addr ≠ 0 → ∃ t, exec (.enumerate hd (some n)) s = .next t ∧
      t = { s with sess := t.sess, serial := t.serial } ∧
      t.serial.stream = s.serial.stream ++ (enumChars s.tower.addr (decide (hd.check = .good))).map some)) ∧
  (∀ (hd : Hdr) (n : Option Nat) (s : State), s.takesLines 0 = true → hd.sess = 0 → hd.addr = .absent → hd.tag = none →
    hd.check = .bad → s.serial.takes (enumEcho hd n).length →
    ∃ t, exec (.enumerate hd n) s = .next t ∧ t = { s with sess := t.sess, serial := t.serial } ∧
    t.serial.stream = s.serial.stream ++ (enumEcho hd n).map some ∧ (t.getSess 0).out = (s.getSess 0).out) ∧
  (∀ (hd : Hdr) (n : Option Nat) (s : State), s.serial.repeating = true → hd.sess = 0 → hd.addr = .absent →
    s.pwr.logicOn = true → s.pwr.csin = true →
    exec (.enumerate hd n) s = .next { s with serial := { s.serial with sent := s.serial.sent ++ (enumEcho hd n).map some } }) ∧
  (∀ (hd : Hdr) (n : Option Nat) (s : State), s.takesLines hd.sess = true → s.forOther hd = false → s.sys.state ≠ .halted →
    hd.check = .good → (Hdr.enumOf hd n = none ∨ hd.sess ≠ 0) →
    ∃ t, exec (.enumerate hd n) s = .next t ∧ t = { s with sess := t.sess } ∧
    ∃ q, (t.getSess hd.sess).out = (s.getSess hd.sess).out ++
      [{ s.answerLine (s.replyTo hd) (.er (if Hdr.enumOf hd n = none then 10 else 23) []) false with ready := q }]) ∧
  (∀ (as : List Nat) (s : State), s.tower.spire = true → s.tower.firstSent = true → ∃ t, exec (.towerDuplicateCheck as) s = .next t ∧
    t = { s with tower := { s.tower with dup := t.tower.dup }, sess := t.sess } ∧
    (t.tower.dup = true ↔ s.tower.dup = true ∨ (0 < s.tower.addr ∧ s.tower.addr < 33 ∧
      2 ≤ (as.filter fun x => decide (x = s.tower.addr)).length)) ∧
    ((∀ a, 0 < a → a < 33 → (as.filter fun x => decide (x = a)).length < 2) → t.sess = s.sess)) ∧
  (∀ (as : List Nat) (s : State), s.tower.spire = false ∨ s.tower.firstSent = false → exec (.towerDuplicateCheck as) s = .next s) ∧
  (∀ (a : Nat) (s : State), s.tower.addr ≠ 0 → a ≠ 0 → a + 1 ≠ s.tower.addr → ∃ t, exec (.addr 0 a) s = .next t ∧
    t = { s with sess := t.sess } ∧ t.told s .keep "tower" "order" [.int s.tower.addr, .int a]) ∧
  (∀ (p a : Nat) (s : State), p ≠ 0 ∨ s.tower.addr = 0 ∨ a = 0 ∨ a + 1 = s.tower.addr → exec (.addr p a) s = .next s) ∧
  (∀ (p a : Nat) (s : State),
    exec (.countReq p s.tower.addr none) s = .next (s.sendBypass p (.count s.tower.addr s.sys.tick)) ∧
    (a ≠ s.tower.addr → exec (.countReq p a none) s = .next (s.sendBypass (1 - p) (.countReq a)))) ∧
  (∀ (a c : Nat) (s : State), s.tower.spire = true → exec (.countReq 1 a (some c)) s =
    .next { s with tower := { s.tower with counts := SMap.put 0 s.tower.counts a (c + 1) } }) ∧
  (∀ (p a c : Nat) (s : State), s.tower.spire = false ∨ p ≠ 1 →
    exec (.countReq p a (some c)) s = .next (s.sendBypass (1 - p) (.count a c))) ∧
  (∀ (p : Nat) (m : Tmgmt) (s : State), m.addr ≠ 0 → ∃ t, exec (.tmgmt p m) s = .next t ∧
    t = { s with tower := t.tower, ports := t.ports } ∧ SMap.look 0 t.tower.epochs m.addr = m.epoch + 1 ∧
    SMap.look 0 t.tower.rates m.addr = m.rates ∧ SMap.look 0 t.tower.roles m.addr = m.role + 1 ∧
    SMap.look 0 t.tower.views m.addr = (if m.role = 1 then m.partner else 0) ∧
    (m.addr ∈ t.tower.active ↔ p = 1 ∧ (m.state = MState.run.place ∨ m.state = MState.paused.place)) ∧
    (p = 1 → m.addr ∈ t.tower.reached) ∧ (p ≠ 1 → t.tower.reached = s.tower.reached) ∧
    t.tower.dup = (s.tower.dup || decide (m.addr = s.tower.addr)) ∧
    (SMap.look 0 s.tower.epochs m.addr ≠ m.epoch + 1 → SMap.look 0 t.tower.genRx m.addr = 0 ∧
      ∀ e, e ∈ t.tower.cntRx → e.1 / 4 ≠ m.addr) ∧
    (SMap.look 0 s.tower.epochs m.addr = m.epoch + 1 → t.tower.genRx = s.tower.genRx ∧ t.tower.cntRx = s.tower.cntRx))

/-- Marks and the count (R247, R248, R249, R250, R251, R253, R254): before its first mark a Spire steps over every count below it, and
then sends marks, one a mark period; another module passes each mark on with the delays added, and says whether it met a replay; by one
that did not it steps forward where it lags by more than 100 µs and else slews by the error, and it is locked by eight errors in a row
within 50 ns; the line that a mark announced starts at its tick, not before. What the model chose for it: log entries 40, 49, 90. -/
def Obligations.MarksKeepTime : Prop :=
  (∀ (cs : List Nat) (s : State), s.tower.spire = true → s.tower.firstSent = false → s.countsHeld = true →
    ∃ t, exec (.spireCountStep cs) s = .next t ∧
    t = { s with sys := { s.sys with tick := t.sys.tick }, tower := { s.tower with stepped := true } } ∧
    ∀ top, top = (cs ++ s.tower.counts.map fun c : Nat × Nat => c.2 - 1).foldl max 0 →
      t.sys.tick = (if s.sys.tick < top then top + 100 * usTicks else s.sys.tick)) ∧
  (∀ (cs : List Nat) (s : State), s.tower.spire = false ∨ s.tower.firstSent = true ∨ s.countsHeld = false →
    exec (.spireCountStep cs) s = .next s) ∧
  (∀ s : State, s.tower.spire = true → s.tower.stepped = true → s.serving = true →
    (∀ a, s.tower.markAt = some a → a + s.markTicks ≤ s.sys.tick) → ∃ m : Mark, exec .lineMarkSend s = .next
    (State.sendBypass { s with tower := { s.tower with firstSent := true, markAt := some s.sys.tick } } 1 (.mark m false s.sys.tick)) ∧
    m.origin = s.sys.tick ∧ m.delay16 = 0 ∧ m.lead = s.nat .towerMarkLead * usTicks ∧ m.timeOnly = s.lantern.planNext.isNone) ∧
  (∀ (a : Tick) (s : State), s.tower.spire = false ∨ s.tower.stepped = false ∨ s.serving = false ∨
    s.tower.markAt = some a ∧ s.sys.tick < a + s.markTicks → exec .lineMarkSend s = .next s) ∧
  (∀ (m : Mark) (x y : Nat) (s : State), s.tower.spire = false → s.tower.addr ≠ 0 → m.timeOnly = true →
    ∀ e : Int, e = (x : Int) - (16 * m.origin + (m.delay16 + (s.getPort 0).hop16) : Nat) →
    ∃ t, exec (.mark m x y false) s = .next t ∧
      t = { s with sys := { s.sys with tick := t.sys.tick }, tower := t.tower, ports := t.ports, sess := t.sess } ∧
      t.ports = (s.sendBypass 1 (.mark { m with delay16 := (m.delay16 + (s.getPort 0).hop16 + y) % 2 ^ 24 } false s.sys.tick)).ports ∧
      t.tower.err16 = e ∧ t.tower.markSeen = true ∧ t.tower.markHeard = some s.sys.tick ∧ t.tower.lossAt = none ∧
      t.tower.slewPhase = s.tower.slewPhase ∧
      (e < -160000 → t.sys.tick = s.sys.tick + ((-e) / 16).toNat ∧ t.tower.slew = 0) ∧
      (-160000 ≤ e → t.sys.tick = s.sys.tick ∧ t.tower.slew = roundDiv e 16) ∧
      ((-80 ≤ e ∧ e ≤ 80) → t.tower.good = min 8 (s.tower.good + 1) ∧
        (t.tower.locked = true ↔ s.tower.locked = true ∨ 7 ≤ s.tower.good)) ∧
      (e < -80 ∨ 80 < e → t.tower.good = 0 ∧ t.tower.locked = false ∧ t.tower.source = .local) ∧
      (t.tower.locked = true → t.tower.source = .spire)) ∧
  (∀ (m : Mark) (x y : Nat) (s : State), s.tower.spire = false → s.tower.addr ≠ 0 → m.timeOnly = true →
    exec (.mark m x y true) s = .next (State.sendBypass { s with tower := { s.tower with
      markSeen := true, markHeard := some s.sys.tick } } 1
      (.mark { m with delay16 := (m.delay16 + (s.getPort 0).hop16 + y) % 2 ^ 24 } true s.sys.tick))) ∧
  (∀ (m : Mark) (x y : Nat) (r : Bool) (s : State), s.tower.spire = true → ∃ t, exec (.mark m x y r) s = .next t ∧
    t = { s with tower := { s.tower with twoTold := t.tower.twoTold }, sess := t.sess }) ∧
  (∀ (m : Mark) (ms : List Mark) (s : State), s.tower.marks = m :: ms →
    (m.origin + m.lead ≤ s.sys.tick → s.serving = true → s.ownLines = false → exec .markLineStart s = .next
      (State.startLine { s with tower := { s.tower with marks := ms, missing := 0 } } m.line)) ∧
    (s.sys.tick < m.origin + m.lead → exec .markLineStart s = .next s)) ∧
  (∀ s : State, s.tower.marks = [] → exec .markLineStart s = .next s)

/-- The Spire is lost (R254, R256, R258, R259): where the start tick of the next line has come without its mark, the line starts one mark
period after the last, and the third miss in a row is Spire loss, as is a second after training without any mark; the module then runs
freely; 200 ms later the feed pauses with reason SPIRE and the Keep is told; and a free-running module may be promoted to a Spire of its
own, which reads the counts below it. What the model chose for it: log entries 49, 76, 78. -/
def Obligations.SpireLost : Prop :=
  (∀ (d : Tick) (s : State), s.serving = true → s.tower.spire = false → s.tower.addr ≠ 0 → s.tower.source ≠ .free →
    s.nextMarkStart = some d → d ≤ s.sys.tick → s.markWaits = false →
    (s.ownLines = true → s.tower.missing < 2 → exec .markMissing s = .next { s with tower := { s.tower with
      missing := s.tower.missing + 1, markStart := some d, bridged := satInc s.tower.bridged } }) ∧
    (s.ownLines = true → 2 ≤ s.tower.missing → exec .markMissing s = .next { s with tower := { s.tower with
      missing := s.tower.missing + 1, markStart := some d, source := .free, locked := false, good := 0, slew := 0,
      losses := satInc s.tower.losses, lossAt := some s.sys.tick, lossTold := false } }) ∧
    (s.ownLines = false → s.tower.missing < 2 → exec .markMissing s = .next
      ((State.startLine { s with tower := { s.tower with missing := s.tower.missing + 1, markStart := some d } } s.seam.next).onTower
        fun t => { t with bridged := satInc t.bridged })) ∧
    (s.ownLines = false → 2 ≤ s.tower.missing → exec .markMissing s = .next
      ((State.startLine { s with tower := { s.tower with missing := s.tower.missing + 1, markStart := some d } } s.seam.next).onTower
        fun t => { t with
          source := .free, locked := false, good := 0, slew := 0, losses := satInc t.losses, lossAt := some s.sys.tick,
          lossTold := false }))) ∧
  (∀ s : State, s.markWaits = true ∨ s.nextMarkStart.all (fun d => decide (s.sys.tick < d)) = true →
    exec .markMissing s = .next s) ∧
  (∀ s : State, s.serving = true → s.tower.spire = false → s.tower.addr ≠ 0 → s.tower.source ≠ .free →
    ∀ t, t = { s with tower := { s.tower with
        source := .free, locked := false, good := 0, slew := 0, losses := satInc s.tower.losses, lossAt := some s.sys.tick,
        lossTold := false } } →
    (s.lossDue = true → exec .spireLoss s = .next t) ∧
    (∀ a, s.tower.markSeen = false → s.tower.trainedAt = some a → a + secTicks ≤ s.sys.tick →
      exec .noMarksAfterTraining s = .next t)) ∧
  (∀ s : State, s.serving = false ∨ s.tower.spire = true ∨ s.tower.addr = 0 ∨ s.lossDue = false → exec .spireLoss s = .next s) ∧
  (∀ s : State, s.tower.markSeen = true ∨ (∀ a, s.tower.trainedAt = some a → s.sys.tick < a + secTicks) →
    exec .noMarksAfterTraining s = .next s) ∧
  (∀ (a : Tick) (s : State), s.tower.source = .free → s.tower.lossAt = some a → s.tower.lossTold = false →
    (a + 200 * msTicks ≤ s.sys.tick → ∃ t, exec .spireLostTimeout s = .next t ∧
      t = { s with tower := { s.tower with lossTold := true }, feed := t.feed, ledger := t.ledger, sess := t.sess } ∧
      t.feed.pauses = s.feed.pauses ||| pauseSpire ∧ t.feed.speed = s.feed.speed ∧ t.ledger.grants = s.ledger.grants ∧
      t.told s .keep "tower" "spire-lost" []) ∧
    (s.sys.tick < a + 200 * msTicks → exec .spireLostTimeout s = .next s)) ∧
  (∀ (hd : Hdr) (s : State), s.begins hd .towerPromote = true → s.tower.source = .free → ∃ t, exec (.doTowerPromote hd) s = .next t ∧
    t = { s with tower := t.tower, ports := t.ports, sess := t.sess, jobs := t.jobs } ∧ t.answered s hd [] (.ok []) ∧
    t.tower.spire = true ∧ t.tower.promoted = true ∧ t.tower.source = .local ∧ t.tower.stepped = false ∧ t.tower.firstSent = false ∧
    t.tower.addr = s.tower.addr ∧ t.tower.counts = [] ∧ t.ports = (State.readCounts { s with tower := t.tower }).ports) ∧
  (∀ (hd : Hdr) (s : State), s.begins hd .towerPromote = true → s.tower.source ≠ .free →
    ∃ t, exec (.doTowerPromote hd) s = .next t ∧ t.refused s hd 23)

/-! ## Ecnio Link -/

/-- A frame read from the bytes that it puts on the wire is that frame with its sequence number (R270, R271), whatever its fields: no bit
of a header, a payload, a tag or a number is dropped. -/
def Obligations.FrameRoundTrip : Prop :=
  ∀ (f : Frame) (seq : Nat), f.stream < 256 → f.modAddr < 256 → f.stype < 8 → f.dir < 2 → f.phase < 2 → 0 < f.len → f.len ≤ 2048 →
    f.epoch < 2 ^ 24 → f.count < 2 ^ 40 → f.body.length = f.len + 16 → seq < 4096 → frameOf (f.wire seq) .eof false = some (seq, f)

/-- A link trains (R266, R267, R268, R269, Table 7-3): a live port that is down sends a beacon every 100 ms, and asks for training once
TS1 comes; in training the upstream end picks the lanes that are healthy at both ends and sends their map, which the downstream end takes
and echoes; without a healthy lane, or after 10 ms, training fails; after 64 TIME exchanges, whose mean is the latency of the hop, the
link is up with its numbers at 0. What the model chose for it: log entry 73. -/
def Obligations.LinkTrains : Prop :=
  (∀ (p : Nat) (s : State), s.portLive p = true → (s.getPort p).state = .down → (s.getPort p).beaconAt ≤ s.sys.tick →
    exec (.linkBeacon p) s = .next ((s.modPort p fun q =>
      { q with beaconAt := s.sys.tick + 100 * msTicks, burstTo := s.sys.tick + 100 * usTicks, skipAt := symTime s.sys.tick }).put p
        [.beacon (s.getPort p).tsMask])) ∧
  (∀ (p : Nat) (s : State), s.portLive p = false ∨ (s.getPort p).state ≠ .down ∨ s.sys.tick < (s.getPort p).beaconAt →
    exec (.linkBeacon p) s = .next s) ∧
  (∀ (p : Nat) (sets : List LaneSet) (d : List Byte) (s : State), (s.getPort p).ctrlOf sets = some (0x10, d) → s.portLive p = true →
    ((s.getPort p).state = .down → (s.getPort p).trainReq = false → exec (.ts1 p sets) s = .next
      (((s.modPort p fun q => { q with tsLanes := ts1Lanes sets, peerMask := some (byteAt d 2) }).modPort p fun q =>
        { q with trainReq := true }).file .train 0 0 1 (50 * msTicks) (.train p))) ∧
    ((s.getPort p).state = .training ∨ (s.getPort p).state = .down ∧ (s.getPort p).trainReq = true → exec (.ts1 p sets) s = .next
      (s.modPort p fun q => { q with tsLanes := ts1Lanes sets, peerMask := some (byteAt d 2) }))) ∧
  (∀ (p : Nat) (sets : List LaneSet) (s : State), (s.getPort p).ctrlOf sets = none → exec (.ts1 p sets) s = .next s) ∧
  (∀ (sets : List LaneSet) (d : List Byte) (s : State), (s.getPort 0).ctrlOf sets = some (0x10, d) → (s.getPort 0).state = .retrain →
    exec (.ts1 0 sets) s = .next ((s.linkDown 0 "retrain").ts1In 0 sets d)) ∧
  (∀ (p : Nat) (x : TrainIn) (s : State), s.portLive p = false → exec (.training p x) s = .next s) ∧
  (∀ (x : TrainIn) (s : State), s.portLive 1 = true → (s.getPort 1).state = .training → (s.getPort 1).width = 0 →
    ∀ h, h = x.healthy.filter (fun l => (s.peerLanes 1 x.sets).testBit l) →
      (h = [] → exec (.training 1 x) s = .next (s.trainFails 1)) ∧
      (h ≠ [] → ∃ t, exec (.training 1 x) s = .next t ∧ t = { s with ports := t.ports } ∧ (t.getPort 1).healthy = h ∧
        (t.getPort 1).width = widthOf h ∧ (t.getPort 1).map = h.take (widthOf h) ∧ (t.getPort 1).spare = h[widthOf h]? ∧
        (t.getPort 1).state = .training ∧ (t.getPort 1).out = (s.getPort 1).out ++
          [.ts1 (x.healthy.foldl (fun k l => k ||| 2 ^ l) 0), .ts2 (widthOf h) (h.take (widthOf h)) h[widthOf h]?] ∧
        ∀ q, q ≠ 1 → t.getPort q = s.getPort q)) ∧
  (∀ (x : TrainIn) (d : List Byte) (s : State), s.portLive 0 = true → (s.getPort 0).state = .training → (s.getPort 0).width = 0 →
    (x.healthy = [] → exec (.training 0 x) s = .next (s.trainFails 0)) ∧
    (∀ v, x.healthy ≠ [] → (s.getPort 0).ctrlOf x.sets = some (0x11, d) → v = byteAt d 1 → (v = 1 ∨ v = 2 ∨ v = 4) →
      ∃ t, exec (.training 0 x) s = .next t ∧ t = { s with ports := t.ports } ∧ (t.getPort 0).width = v ∧
        (t.getPort 0).map = (laneMap v d).1 ∧ (t.getPort 0).spare = (laneMap v d).2 ∧ (t.getPort 0).state = .training ∧
        (t.getPort 0).out = (s.getPort 0).out ++
          [.ts1 (x.healthy.foldl (fun k l => k ||| 2 ^ l) 0), .ts2 v (laneMap v d).1 (laneMap v d).2])) ∧
  (∀ (p : Nat) (s : State), (s.getPort p).state = .training → (s.getPort p).grantAt + 10 * msTicks ≤ s.sys.tick →
    ∃ t, exec (.trainingTimeout p) s = .next t ∧ s.trainFails p = t ∧
      t = { s with ports := t.ports, ledger := { s.ledger with grants := t.ledger.grants } } ∧ (t.getPort p).state = .down ∧
      t.ledger.grants = s.ledger.grants.filter (fun g => decide (g.what ≠ .train p)) ∧ ∀ q, q ≠ p → t.getPort q = s.getPort q) ∧
  (∀ (p : Nat) (s : State), (s.getPort p).state ≠ .training ∨ s.sys.tick < (s.getPort p).grantAt + 10 * msTicks →
    exec (.trainingTimeout p) s = .next s) ∧
  (∀ (p : Nat) (xs : List Exchange) (r : List LinkOut × Nat) (s : State), s.portLive p = true → (s.getPort p).state = .training →
    0 < (s.getPort p).width →
    s.sys.tick < (s.getPort p).grantAt + 10 * msTicks → exchanged p 64 xs (s.freeNat % 2 ^ 16) = some r →
    ∃ t, exec (.trainingComplete p xs) s = .next t ∧
      t = { s with ports := t.ports, ledger := { s.ledger with grants := t.ledger.grants }, sess := t.sess,
                   tower := { s.tower with trainedAt := t.tower.trainedAt }, sys := { s.sys with free := t.sys.free } } ∧
      (t.getPort p).state = .up ∧ (t.getPort p).width = (s.getPort p).width ∧ (t.getPort p).map = (s.getPort p).map ∧
      (t.getPort p).spare = (s.getPort p).spare ∧ (t.getPort p).hop16 = r.2 ∧ (t.getPort p).txSeq = 0 ∧ (t.getPort p).rxSeq = 0 ∧
      (t.getPort p).unacked = [] ∧
      (p = 0 → t.tower.trainedAt = some s.sys.tick ∧ t.sys.free = s.sys.free) ∧ (p ≠ 0 → t.tower.trainedAt = s.tower.trainedAt) ∧
      t.ledger.grants = s.ledger.grants.filter (fun g => decide (g.what ≠ .train p)) ∧
      t.told s .keep "link" (portWord p) [.word "up", .int (s.getPort p).width]) ∧
  (∀ (p : Nat) (xs : List Exchange) (s : State), s.portLive p = false ∨ (s.getPort p).state ≠ .training ∨ (s.getPort p).width = 0 ∨
    (s.getPort p).grantAt + 10 * msTicks ≤ s.sys.tick ∨ xs.length ≠ 64 → exec (.trainingComplete p xs) s = .next s) ∧
  (∀ (xs : List Exchange) (x : Nat), xs.length = 64 → (∀ e, e ∈ xs → e.twice16 = some (2 * x)) → hopOf 64 xs = some x)

/-- A link goes down and recovers (R276, R285, R301, R302, R303, R304, R305): its port is quiet but for its counters and its next beacon
100 ms later, the frames that waited are lost, and the Keep hears why; nothing heard within `link.x.lock_timeout` is one reason. A lane
with too many errors is replaced by the spare at the upstream end, or the width falls, and the other end follows; a change that takes over
100 µs brings the link down. A neighbour's halt does, and is passed on to the host. Flow control (R283, R284, R285): XOFF holds new frames
off until XON, and is told once a second has passed; a receive buffer with less room than the headroom sends XOFF, and XON once it has
that and the hysteresis, and what waits to go on takes room in it. What the model chose for it: log entries 19, 50, 71, 100. -/
def Obligations.LinkGoesDownAndRecovers : Prop :=
  (∀ (p : Nat) (why : String) (s : State), ((s.getPort p).state = .up ∨ (s.getPort p).state = .retrain) → (p ≠ 0 ∨ s.openStreams = []) →
    ∃ t : State, s.linkDown p why = t ∧ t = { s with ports := t.ports, sess := t.sess } ∧
      t.getPort p = { (s.getPort p).quiet with
        downs := satInc (s.getPort p).downs, beaconAt := s.sys.tick + 100 * msTicks,
        framesLost := satAdd (s.getPort p).framesLost (s.getPort p).waitQ.length } ∧
      (∀ q, q ≠ p → t.getPort q = s.getPort q) ∧ t.told s .keep "link" (portWord p) [.word "down", .word why]) ∧
  (∀ (p : Nat) (s : State), ((s.getPort p).state = .up ∨ (s.getPort p).state = .retrain) →
    ((s.getPort p).heard + s.nat .linkLockTimeout p / 10 < s.sys.tick → exec (.lockTimeout p) s = .next (s.linkDown p "lock")) ∧
    (s.sys.tick ≤ (s.getPort p).heard + s.nat .linkLockTimeout p / 10 → exec (.lockTimeout p) s = .next s)) ∧
  (∀ (p : Nat) (s : State), (s.getPort p).state = .down ∨ (s.getPort p).state = .training → exec (.lockTimeout p) s = .next s) ∧
  (∀ (l n : Nat) (s : State), (s.getPort 1).state = .up → l ∈ (s.getPort 1).map → s.nat .linkLaneLimit 1 < n →
    exec (.laneErrorLimit 1 l n) s = .next (s.changeLanes 1 l)) ∧
  (∀ (l sp : Nat) (s : State), (s.getPort 1).spare = some sp → ∀ m, m = (s.getPort 1).map.map (fun x => if x = l then sp else x) →
    ∃ t : State, s.changeLanes 1 l = t ∧ t = { s with ports := t.ports, sess := t.sess } ∧
      (t.getPort 1).state = .retrain ∧ (t.getPort 1).map = m ∧ (t.getPort 1).changeWidth = some (s.getPort 1).width ∧
      (t.getPort 1).spare = none ∧ (t.getPort 1).failed = (s.getPort 1).failed ++ [l] ∧
      (t.getPort 1).change = some ((s.getPort 1).change.getD s.sys.tick) ∧
      (t.getPort 1).laneReps = satInc (s.getPort 1).laneReps ∧
      (t.getPort 1).out = ((s.put 1 ((s.getPort 1).cut s.sys.tick ++ [.repl true l m none])).getPort 1).out ∧
      t.told s .keep "link" (portWord 1) [.word "lane", .int l]) ∧
  (∀ (l : Nat) (s : State), (s.getPort 1).spare = none →
    ∀ h, h = ((List.range 5).filter fun x => decide (x ∈ (s.getPort 1).map ∧ x ≠ l)) → ∀ w, w = (if 2 ≤ h.length then 2 else 1) →
    (h = [] → s.changeLanes 1 l = s.linkDown 1 "lanes") ∧
    (h ≠ [] → ∃ t : State, s.changeLanes 1 l = t ∧ t = { s with ports := t.ports, sess := t.sess } ∧
      (t.getPort 1).state = .retrain ∧ (t.getPort 1).changeWidth = some w ∧ (t.getPort 1).map = h.take w ∧
      (t.getPort 1).spare = h[w]? ∧ (t.getPort 1).failed = (s.getPort 1).failed ++ [l] ∧
      (t.getPort 1).out = ((s.put 1 ((s.getPort 1).cut s.sys.tick ++ [.widthSet w (h.take w) h[w]?])).getPort 1).out ∧
      t.told s .keep "link" (portWord 1) [.word "width", .int w])) ∧
  (∀ (l n : Nat) (s : State), (s.getPort 0).state = .up → l ∈ (s.getPort 0).map → s.nat .linkLaneLimit 0 < n →
    ∃ t, exec (.laneErrorLimit 0 l n) s = .next t ∧ t = { s with ports := t.ports } ∧ (t.getPort 0).state = .retrain ∧
      (t.getPort 0).map = (s.getPort 0).map ∧ (t.getPort 0).out = ((s.put 0 ((s.getPort 0).cut s.sys.tick ++
        [.repl false l (s.getPort 0).map (s.getPort 0).spare])).getPort 0).out) ∧
  (∀ (p l n : Nat) (s : State), (s.getPort p).state ≠ .up ∨ l ∉ (s.getPort p).map ∨ n ≤ s.nat .linkLaneLimit p →
    exec (.laneErrorLimit p l n) s = .next s) ∧
  (∀ (sets : List LaneSet) (d : List Byte) (s : State), (s.getPort 1).ctrlOf sets = some (0x13, d) → byteAt d 0 = 0 →
    (s.getPort 1).state = .up → byteAt d 1 ∈ (s.getPort 1).map →
    exec (.repl 1 sets) s = .next ((s.hear 1).changeLanes 1 (byteAt d 1))) ∧
  (∀ (sets : List LaneSet) (d : List Byte) (s : State), (s.getPort 0).ctrlOf sets = some (0x13, d) → byteAt d 0 ≠ 0 →
    ((s.getPort 0).state = .up ∨ (s.getPort 0).state = .retrain) →
    ∃ t, exec (.repl 0 sets) s = .next t ∧ t = { s with ports := t.ports, sess := t.sess } ∧ (t.getPort 0).state = .retrain ∧
      (t.getPort 0).map = (laneMap (s.getPort 0).width d).1 ∧ (t.getPort 0).spare = (laneMap (s.getPort 0).width d).2 ∧
      (t.getPort 0).laneReps = satInc (s.getPort 0).laneReps ∧
      t.told s .keep "link" (portWord 0) [.word "lane", .int (byteAt d 1)]) ∧
  (∀ (sets : List LaneSet) (d : List Byte) (s : State), (s.getPort 0).ctrlOf sets = some (0x14, d) →
    ((s.getPort 0).state = .up ∨ (s.getPort 0).state = .retrain) →
    (byteAt d 1 = 0 → exec (.width 0 sets) s = .next (s.linkDown 0 "lanes")) ∧
    (byteAt d 1 = 1 ∨ byteAt d 1 = 2 → ∃ t, exec (.width 0 sets) s = .next t ∧ t = { s with ports := t.ports, sess := t.sess } ∧
      (t.getPort 0).state = .retrain ∧ (t.getPort 0).changeWidth = some (byteAt d 1) ∧
      (t.getPort 0).map = (laneMap (byteAt d 1) d).1 ∧ (t.getPort 0).spare = (laneMap (byteAt d 1) d).2 ∧
      t.told s .keep "link" (portWord 0) [.word "width", .int (byteAt d 1)])) ∧
  (∀ (p at_ w : Nat) (xs : List Exchange) (r : List LinkOut × Nat) (s : State), (s.getPort p).change = some at_ →
    (s.getPort p).changeWidth = some w → (s.getPort p).unacked = [] →
    (s.sys.tick ≤ at_ + 100 * usTicks → exchanged p 8 xs (s.getPort p).hop16 = some r →
      ∃ t, exec (.laneChangeComplete p xs) s = .next t ∧ t = { s with ports := t.ports } ∧
      (t.getPort p).state = .up ∧ (t.getPort p).width = w ∧ (t.getPort p).hop16 = r.2 ∧ (t.getPort p).change = none) ∧
    (at_ + 100 * usTicks < s.sys.tick → exec (.laneChangeComplete p xs) s = .next (s.linkDown p "retrain"))) ∧
  (∀ (p : Nat) (sets : List LaneSet) (d : List Byte) (s : State), (s.getPort p).ctrlOf sets = some (0x20, d) →
    ((s.getPort p).state ≠ .down ∨ s.portLive p = true) → exec (.haltSet p sets) s = .next
      (let u := (s.linkDown p "peer-halt").linkEvent p "peer-halt" [.dec2 (haltData d).addr, .dec2 (haltData d).cause]
       if p = 1 then u.sendBypass 0 (.haltNotice (haltData d)) else u)) ∧
  (∀ (i : HaltInfo) (s : State), exec (.haltNotice i) s = .next (s.sendBypass 0 (.haltNotice i))) ∧
  (∀ (p : Nat) (s : State), ((s.getPort p).state = .up ∨ (s.getPort p).state = .retrain) →
    exec (.xoff p) s = .next (s.modPort p fun q => { q with xoffIn := some (q.xoffIn.getD s.sys.tick) }) ∧
    exec (.xon p) s = .next (s.modPort p fun q => { q with xoffIn := none, xoffTold := false })) ∧
  (∀ (p : Nat) (a : Tick) (s : State), (s.getPort p).xoffIn = some a → (s.getPort p).xoffTold = false →
    (a + secTicks ≤ s.sys.tick → ∃ t, exec (.linkStalled p) s = .next t ∧
      t = { s with ports := t.ports, sess := t.sess } ∧ t.getPort p = { s.getPort p with xoffTold := true } ∧
      t.told s .keep "link" (portWord p) [.word "stalled"]) ∧
    (s.sys.tick < a + secTicks → exec (.linkStalled p) s = .next s)) ∧
  (∀ (p : Nat) (s : State), (s.getPort p).xoffIn = none → exec (.linkStalled p) s = .next s) ∧
  (∀ (p n : Nat) (s : State), n + s.rxWaiting p ≤ rxSize → ∃ t, exec (.receiveBufferThreshold p n) s = .next (t.flow p) ∧
    t = s.modPort p (fun q => { q with rxBusy := rxSize - n - s.rxWaiting p }) ∧ t.rxFree p = n) ∧
  (∀ (p : Nat) (s : State), ∀ h, h = max (s.nat .linkHeadroom p) (s.getPort p).headroomMin → (s.getPort p).state = .up →
    (s.rxFree p < h → (s.getPort p).xoffOut = false → s.flow p =
      (s.modPort p fun q => { q with xoffOut := true, xoffs := satInc q.xoffs }).sendBypass p .xoff) ∧
    (h + s.nat .linkHysteresis p < s.rxFree p → (s.getPort p).xoffOut = true → s.flow p =
      (s.modPort p fun q => { q with xoffOut := false }).sendBypass p .xon) ∧
    (h ≤ s.rxFree p → s.rxFree p ≤ h + s.nat .linkHysteresis p → s.flow p = s)) ∧
  (∀ (w : WaitFrame) (s : State), (s.getPort 0).waitQ = [w] → (w.cls ≠ 256 → s.rxWaiting 1 = w.frame.symbols) ∧
    (w.cls = 256 → s.rxWaiting 1 = 0))

/-- Frames and bypass sets (R274, R275, R276, R277, R278, R281, R288, R303): a good frame in order is acknowledged, and goes on by its
direction and its address; one that fails its checks is counted, asked for again once, and ended with EDB where it has begun to leave; one
received before is acknowledged and dropped. An acknowledgment frees what it names; without one within the replay timer all is sent again
in order. A bypass set leaves at a boundary between frames, a mark with the time that it has waited; one in order is acknowledged and
acted on. More than `link.x.crc_limit` bad frames among the last 2^`link.x.crc_window` bring the link down. The class that deficit
round-robin serves leaves with the next number, and a frame or a bypass set of this module's own once the verify fence lets it (R480).
What the model chose for it: log entries 20, 31, 41, 72, 74, 75, 101. -/
def Obligations.LinkFrames : Prop :=
  (∀ (p : Nat) (ls : List (List Sym)) (e : Sym) (c : Bool) (s : State), (s.getPort p).state ≠ .up →
    exec (.frameReceived p ls e c) s = .next s) ∧
  (∀ (p : Nat) (ls : List (List Sym)) (e : Sym) (c : Bool) (x : RxFrame) (s : State), (s.getPort p).state = .up →
    (s.getPort p).rxFrame ls e c = x → x.frame = none → (s.badIn p true).length ≤ s.nat .linkCrcLimit p →
    ∃ u : State, exec (.frameReceived p ls e c) s = .next (u.forwardBad x (s.getPort p).rxSeq) ∧
    u = { s with ports := u.ports } ∧ (u.getPort p).crcErrors = satInc (s.getPort p).crcErrors ∧
    (u.getPort p).nakSent = ((s.getPort p).nakSent || decide (x.ending = .eof)) ∧
    (u.getPort p).rxSeq = (s.getPort p).rxSeq ∧ (u.getPort p).out = ((s.put p
      (if (s.getPort p).nakSent ∨ x.ending = .edb then [] else [(s.getPort p).ackSet true])).getPort p).out) ∧
  (∀ (p : Nat) (ls : List (List Sym)) (e : Sym) (c : Bool) (x : RxFrame) (s : State), (s.getPort p).state = .up →
    (s.getPort p).rxFrame ls e c = x → x.frame = none → s.nat .linkCrcLimit p < (s.badIn p true).length →
    ∃ t u : State, exec (.frameReceived p ls e c) s = .next (u.forwardBad x (s.getPort p).rxSeq) ∧ u = t.linkDown p "crc" ∧
      t = { s with ports := t.ports } ∧ (t.getPort p).crcErrors = satInc (s.getPort p).crcErrors) ∧
  (∀ (p i : Nat) (b : Bool) (s : State), i ∈ s.badIn p b ↔
    (i ∈ (s.getPort p).winBad ∧ (s.getPort p).winFrames < i + 2 ^ s.nat .linkCrcWindow p) ∨ (b = true ∧ i = (s.getPort p).winFrames)) ∧
  (∀ (p : Nat) (m : BMsg) (ms : List BMsg) (s : State), (s.getPort p).bWait = m :: ms →
    ((s.getPort p).state = .up → (s.getPort p).bUnacked.length < 7 → (s.getPort p).busyTo ≤ s.sys.tick →
      s.fenced 22 = false ∨ s.originates m = false →
      ∃ t : State, s.pump p = t ∧ t = { s with ports := t.ports } ∧ (t.getPort p).bWait = ms ∧
        (t.getPort p).busyTo = s.sys.tick + (s.getPort p).symTicks 38 ∧ (t.getPort p).out = ((s.put p [.bypass (s.getPort p).bTx false
          (s.getPort p).bypAck (m.leave (s.tower.spire && decide (p = 1)) s.sys.tick)]).getPort p).out) ∧
    ((s.getPort p).state ≠ .up ∨ 7 ≤ (s.getPort p).bUnacked.length ∨ s.sys.tick < (s.getPort p).busyTo ∨
      s.fenced 22 = true ∧ s.originates m = true → ∀ q, (s.pump p).getPort q = s.getPort q)) ∧
  (∀ (m : Mark) (r : Bool) (a b : Tick), a ≤ b →
    (BMsg.mark m r a).leave false b = .mark { m with delay16 := (m.delay16 + 16 * (b - a)) % 2 ^ 24 } r b ∧
    (BMsg.mark m r a).leave true b = .mark { m with origin := b } r b) ∧
  (∀ (x : RxFrame) (k r : Nat) (s : State), s.routeOf (headerOf x.bytes) = some k → 16 ≤ x.bytes.length → byteAt x.bytes 0 / 16 = 1 →
    beNat (sliceAt x.bytes 0 2) % 4096 = r → (s.getPort k).waitQ = [] →
    (s.getPort k).mayStart s.sys.tick (headerOf x.bytes).symbols = true → ∃ t : State, s.forwardBad x r = t ∧
      t = { s with ports := t.ports } ∧
    (t.getPort k).txSeq = (s.getPort k).txSeq ∧ (t.getPort k).unacked = (s.getPort k).unacked ∧
    ∃ bs, (t.getPort k).out = ((s.put k [.edb bs]).getPort k).out ∧ bs.drop 2 = x.bytes.drop 2) ∧
  (∀ (p n : Nat) (ls : List (List Sym)) (e : Sym) (c : Bool) (f : Frame) (s : State), (s.getPort p).state = .up →
    ((s.getPort p).rxFrame ls e c).frame = some (n, f) →
    (n ≠ (s.getPort p).rxSeq → ((s.getPort p).rxSeq + 4096 - n) % 4096 ≤ 2047 →
      ∃ t, exec (.frameReceived p ls e c) s = .next t ∧ t = { s with ports := t.ports } ∧ (t.getPort p).rxSeq = (s.getPort p).rxSeq ∧
      (t.getPort p).out = ((s.put p [(s.getPort p).ackSet false]).getPort p).out) ∧
    (n = (s.getPort p).rxSeq → ∃ u : State, exec (.frameReceived p ls e c) s = .next (u.routeFrame p f) ∧
      u = { s with ports := u.ports } ∧ (u.getPort p).rxSeq = (n + 1) % 4096 ∧ (u.getPort p).nakSent = false ∧
      (u.getPort p).heard = s.sys.tick ∧
      (u.getPort p).out = ((s.put p [.ack ((n + 1 + 4095) % 4096) (s.getPort p).bypAck]).getPort p).out ∧
      ∀ q, q ≠ p → u.getPort q = s.getPort q)) ∧
  (∀ (p : Nat) (f : Frame) (s : State),
    (f.stype ≠ typeTower → f.dir = 0 → s.routeFrame p f = s.forwardFrame 0 f) ∧
    (f.stype ≠ typeTower → f.dir ≠ 0 → (s.tower.addr = 0 ∨ f.modAddr ≠ s.tower.addr) → s.routeFrame p f = s.forwardFrame 1 f) ∧
    (f.stype ≠ typeTower → f.dir ≠ 0 → s.tower.addr ≠ 0 → f.modAddr = s.tower.addr → s.routeFrame p f = s.streamIn p f) ∧
    (f.stype = typeTower → (s.tower.addr = 0 ∨ f.modAddr ≠ s.tower.addr) →
      s.routeFrame p f = s.forwardFrame (if s.tower.addr < f.modAddr then 1 else 0) f) ∧
    (f.stype = typeTower → s.tower.addr ≠ 0 → f.modAddr = s.tower.addr → s.routeFrame p f = s.towerFrame p f)) ∧
  (∀ (n : Nat) (f : Frame) (s : State), (s.getPort n).state = .up → f.stype ≠ typeTower → ∃ t : State, s.forwardFrame n f = t ∧
    t = { s with ports := t.ports } ∧ t.getPort n = { s.getPort n with waitQ := (s.getPort n).waitQ ++ [⟨512 + f.modAddr, f⟩] }) ∧
  (∀ (p c : Nat) (d : SMap Int) (s : State),
    s.serve p ((s.offers p).filter fun o => (s.getPort p).mayStart s.sys.tick o.2) = some (c, d) →
    (∀ w, s.frameHeld p = false → (s.getPort p).waitQ.find? (fun w => decide (w.cls = c)) = some w →
      ∃ t, exec (.frameTransmit p) s = .next t ∧
      t = { s with ports := t.ports } ∧ (t.getPort p).waitQ = dropClass c (s.getPort p).waitQ ∧ (t.getPort p).deficit = d ∧
      (t.getPort p).txSeq = ((s.getPort p).txSeq + 1) % 4096 ∧
      (t.getPort p).unacked = (s.getPort p).unacked ++ [⟨(s.getPort p).txSeq, w.frame, 1⟩] ∧
      (t.getPort p).out = ((s.put p [.frame (s.getPort p).txSeq w.frame]).getPort p).out ∧
      (t.getPort p).busyTo = s.sys.tick + (s.getPort p).symTicks w.frame.symbols ∧
      (t.getPort p).ackAt = (if (s.getPort p).unacked = [] ∧ (s.getPort p).bUnacked = [] then s.sys.tick else (s.getPort p).ackAt)) ∧
    (s.frameHeld p = false → (s.getPort p).waitQ.find? (fun w => decide (w.cls = c)) = none → exec (.frameTransmit p) s = .next
      ((s.modPort p fun q => { q with deficit := d }).sendStream c))) ∧
  (∀ (p : Nat) (s : State), s.serve p ((s.offers p).filter fun o => (s.getPort p).mayStart s.sys.tick o.2) = none →
    (s.frameHeld p = false → exec (.frameTransmit p) s = .next s) ∧
    (s.frameHeld p = true → ∃ t, exec (.frameTransmit p) s = .next t ∧ t = { s with mem := t.mem } ∧
      t.getReqr 22 = { s.getReqr 22 with heldAt := some ((s.getReqr 22).heldAt.getD s.sys.tick) })) ∧
  (∀ (w : WaitFrame) (s : State), (s.getPort 1).waitQ = [w] →
    ((w.cls ≠ 256 ∨ s.fenced 22 = false) → (s.getPort 1).mayStart s.sys.tick w.frame.symbols = true →
      ∃ d, s.serve 1 ((s.offers 1).filter fun o => (s.getPort 1).mayStart s.sys.tick o.2) = some (w.cls, d)) ∧
    ((w.cls = 256 ∧ s.fenced 22 = true ∨ (s.getPort 1).mayStart s.sys.tick w.frame.symbols = false) →
      s.serve 1 ((s.offers 1).filter fun o => (s.getPort 1).mayStart s.sys.tick o.2) = none)) ∧
  (∀ (p : Nat) (sets : List LaneSet) (d : List Byte) (s : State), (s.getPort p).ctrlOf sets = some (0x01, d) → (s.getPort p).state = .up →
    ∃ t, exec (.ack p sets) s = .next t ∧ (t.getPort p).unacked = afterAck TxFrame.seq (ackData d).1 (s.getPort p).unacked ∧
      t = { s with ports := t.ports, capture := t.capture, feed := t.feed, seam := t.seam, ledger := t.ledger, sys := t.sys,
                   sess := t.sess }) ∧
  (∀ (p : Nat) (sets : List LaneSet) (d : List Byte) (s : State), (s.getPort p).ctrlOf sets = some (0x02, d) → (s.getPort p).state = .up →
    (∀ x, x ∈ (s.getPort p).unacked → x.sends < maxSends) → ∃ t, exec (.nak p sets) s = .next t ∧
      (t.getPort p).unacked = (afterAck TxFrame.seq (ackData d).1 (s.getPort p).unacked).map fun x => { x with sends := x.sends + 1 }) ∧
  (∀ (p : Nat) (s : State), (s.getPort p).state = .up → ((s.getPort p).unacked ≠ [] ∨ (s.getPort p).bUnacked ≠ []) →
    (s.getPort p).ackAt + (s.getPort p).replayTicks ≤ s.sys.tick →
    ((∀ x, x ∈ (s.getPort p).unacked → x.sends < maxSends) → ∃ t, exec (.replayTimer p) s = .next t ∧ t = { s with ports := t.ports } ∧
      (t.getPort p).unacked = (s.getPort p).unacked.map (fun x => { x with sends := x.sends + 1 }) ∧
      (t.getPort p).out = ((s.put p (((s.getPort p).unacked.map fun x => LinkOut.frame x.seq x.frame) ++
        ((s.getPort p).bUnacked.map fun x => LinkOut.bypass x.seq true (s.getPort p).bypAck x.msg))).getPort p).out) ∧
    (∀ x, x ∈ (s.getPort p).unacked → maxSends ≤ x.sends → exec (.replayTimer p) s = .next (s.linkDown p "replay"))) ∧
  (∀ (p : Nat) (s : State), s.sys.tick < (s.getPort p).ackAt + (s.getPort p).replayTicks →
    exec (.replayTimer p) s = .next s) ∧
  (∀ (p : Nat) (x : BypassIn) (s : State), (s.getPort p).rxBypass x.lanes = none ∨ (s.getPort p).state ≠ .up →
    exec (.bypassSetReceived p x) s = .next s) ∧
  (∀ (p : Nat) (x : BypassIn) (b : BypassSet) (s : State), (s.getPort p).rxBypass x.lanes = some b → (s.getPort p).state = .up →
    b.ack = none →
    (b.seq = (s.getPort p).bRx → ∃ u : State, exec (.bypassSetReceived p x) s =
        .next (match b.msg with | some m => u.bypassIn p x m | none => u) ∧
      u = { s with ports := u.ports } ∧ (u.getPort p).bRx = ((s.getPort p).bRx + 1) % 8 ∧ (u.getPort p).bGot = true ∧
      (u.getPort p).out = ((s.put p [.ack (((s.getPort p).rxSeq + 4095) % 4096) (some (b.seq % 8))]).getPort p).out) ∧
    (b.seq ≠ (s.getPort p).bRx → ∃ t, exec (.bypassSetReceived p x) s = .next t ∧ t = { s with ports := t.ports } ∧
      (t.getPort p).bRx = (s.getPort p).bRx ∧ (t.getPort p).out = ((s.put p [(s.getPort p).ackSet false]).getPort p).out))

/-- Streams (R287, R288, R289, R292, R296, R297, R514): an OPEN under the key in use opens a stream of this module that has an owner; one
that does not match is answered CLOSE; a close ends the stream; what names another module goes on. A rekey is confirmed, to be flipped to,
retried three times and then told as failed, and the old key goes when its window ends. What the model chose for it: log entries 4, 16,
50, 102, 112. -/
def Obligations.StreamsOpenCloseAndRekey : Prop :=
  (∀ (m : KeyMsg) (n g : Nat) (s : State), (s.getPort 0).state = .up → m.modAddr = s.tower.addr → s.streamOwner m.stream = some n →
    s.serving = true → (s.getStream m.stream).slot m.phase = some g → m.phase = (s.getStream m.stream).txPhase →
    s.ctlGood m g 0x10 = true → s.towerRates ≤ 16000 →
    (s.getStream m.stream).isOpen = false →
    (s.int .streamType m.stream ≠ 3 → (1 < s.int .streamType m.stream ∨ s.seam.isOpen = false) →
      ∃ t, exec (.openStream m) s = .next t ∧
        t = { s with streams := t.streams, ports := t.ports } ∧ (t.getStream m.stream).isOpen = true ∧
        (t.getStream m.stream).slot m.phase = some g ∧ ∀ k, k ≠ m.stream → t.getStream k = s.getStream k) ∧
    (s.int .streamType m.stream = 3 → ∀ k, s.freeConsole = some k → ∃ t, exec (.openStream m) s = .next t ∧
      t = { s with streams := t.streams, ports := t.ports, sess := t.sess } ∧ (t.getStream m.stream).isOpen = true ∧
      (t.getStream m.stream).sess = some k ∧ (t.getSess k).isOpen = true ∧ (t.getSess k).login = some n ∧
      (t.getSess k).stream = some m.stream ∧ ∀ q, q ≠ k → t.getSess q = s.getSess q) ∧
    (s.int .streamType m.stream = 3 → s.freeConsole = none → exec (.openStream m) s = .next
      (s.sendBypass 0 (.close m.stream s.tower.addr .busy)))) ∧
  (∀ (m : KeyMsg) (s : State), (s.getPort 0).state = .up → m.modAddr = s.tower.addr → s.streamOwner m.stream = none →
    exec (.openStream m) s = .next (s.sendBypass 0 (.close m.stream s.tower.addr .state))) ∧
  (∀ (m : KeyMsg) (n g : Nat) (s : State), (s.getPort 0).state = .up → m.modAddr = s.tower.addr → s.streamOwner m.stream = some n →
    s.serving = true → (s.getStream m.stream).slot m.phase = some g → s.ctlGood m g 0x10 = false →
    exec (.openStream m) s = .next (s.sendBypass 0 (.close m.stream s.tower.addr .key))) ∧
  (∀ (m : KeyMsg) (g kind : Nat) (s : State), s.ctlGood m g kind = true ↔
    m.ctl < 2 ^ 20 ∧ m.check = s.ctlCheck m.stream g 1 kind m.phase m.ctl) ∧
  (∀ (n g kind ph : Nat) (w : KeyMsg → BMsg) (s : State), 2 ^ 20 ≤ (s.getStream n).ctl (g % 2) → s.sendKeyed n g kind ph w = s) ∧
  (∀ (m : KeyMsg) (s : State), m.modAddr ≠ s.tower.addr →
    ((s.getPort 0).state = .up → exec (.openStream m) s = .next (s.sendBypass 1 (.openS m))) ∧
    exec (.openOk m) s = .next (s.sendBypass 0 (.openOk m)) ∧ exec (.keyReady m) s = .next (s.sendBypass 1 (.keyReady m)) ∧
    exec (.keyConfirm m) s = .next (s.sendBypass 1 (.keyConfirm m))) ∧
  (∀ (n a : Nat) (w : CloseReason) (s : State), a ≠ s.tower.addr →
    exec (.closeStream n a w) s = .next (s.sendBypass 1 (.close n a w)) ∧
    exec (.keyFail n a w) s = .next (s.sendBypass 1 (.keyFail n a w))) ∧
  (∀ (n : Nat) (w : CloseReason) (s : State), (s.getStream n).isOpen = true → (s.getStream n).sess = none →
    ∃ t, exec (.closeStream n s.tower.addr w) s = .next t ∧
      t = { s with streams := t.streams, capture := t.capture, ports := t.ports, feed := t.feed, seam := t.seam, ledger := t.ledger,
                   sys := t.sys, sess := t.sess } ∧
      (t.getStream n).isOpen = false ∧ (t.getStream n).recs = [] ∧ (t.getStream n).flipPending = false ∧
      (∀ r, r ∈ t.capture.recs → r.stream = n → r.data.length ≤ r.sent) ∧ ∀ k, k ≠ n → t.getStream k = s.getStream k) ∧
  (∀ (m : KeyMsg) (s : State), m.modAddr = s.tower.addr → (s.getStream m.stream).isOpen = true →
    (s.getStream m.stream).slot m.phase = some ((s.getStream m.stream).gen + 1) →
    s.ctlGood m ((s.getStream m.stream).gen + 1) 0x18 = true → ∃ t, exec (.keyReady m) s = .next t ∧
    t = { s with streams := t.streams, ports := t.ports } ∧ (t.getStream m.stream).flipPending = true ∧
    (t.getStream m.stream).readySent = none ∧ (t.getStream m.stream).gen = (s.getStream m.stream).gen) ∧
  (∀ (m : KeyMsg) (x : Nat × Tick) (s : State), m.modAddr = s.tower.addr → (s.getStream m.stream).isOpen = true →
    (s.getStream m.stream).readySent = some x → (s.getStream m.stream).slot m.phase = some ((s.getStream m.stream).gen + 1) →
    s.ctlGood m ((s.getStream m.stream).gen + 1) 0x19 = true → exec (.keyConfirm m) s = .next
      (s.modStream m.stream fun y => { y with flipPending := true, readySent := none })) ∧
  (∀ (n : Nat) (w : CloseReason) (s : State), exec (.keyFail n s.tower.addr w) s = .next
    (s.modStream n fun y => { y with readySent := none, flipPending := false })) ∧
  (∀ (n i a : Nat) (s : State), (s.getStream n).readySent = some (i, a) → s.sys.tick < a + 100 * msTicks →
    exec (.keyReadyRetry n) s = .next s) ∧
  (∀ (n i a : Nat) (s : State), (s.getStream n).readySent = some (i, a) → a + 100 * msTicks ≤ s.sys.tick →
    (i < 3 → ∃ t, exec (.keyReadyRetry n) s = .next t ∧ t = { s with streams := t.streams, ports := t.ports } ∧
      (t.getStream n).readySent = some (i + 1, s.sys.tick)) ∧
    (3 ≤ i → ∃ t, exec (.keyReadyRetry n) s = .next t ∧ t = { s with streams := t.streams, sess := t.sess } ∧
      t.getStream n = { s.getStream n with readySent := none } ∧
      t.told s (.turret (s.nat .streamTurret n) false) "stream" "rekey-failed" [.int n])) ∧
  (∀ (n : Nat) (x : Tick) (s : State), (s.getStream n).window = some x →
    (x + 50 * msTicks ≤ s.sys.tick → exec (.rekeyWindowEnd n) s = .next
      (s.modStream n fun y => { y.setSlot (s.getStream n).oldPhase none [] with window := none })) ∧
    (s.sys.tick < x + 50 * msTicks → exec (.rekeyWindowEnd n) s = .next s)) ∧
  (∀ (n : Nat) (s : State), (s.getStream n).window = none → exec (.rekeyWindowEnd n) s = .next s) ∧
  (∀ (hd : Hdr) (n : Nat) (s : State), s.begins hd (.streamNext n) = true → (s.getStream n).assigned = true →
    (s.getStream n).keyPending = false → ((s.getPort 0).state = .up ∨ (s.getPort 0).state = .retrain) →
    ∃ t, exec (.doStreamNext hd n) s = .next t ∧
    t = { s with streams := t.streams, ports := t.ports, sess := t.sess, jobs := t.jobs,
                 isl := { s.isl with auto05 := false, busy05 := s.sys.tick } } ∧ t.answered s hd [] (.ok []) ∧
    (t.getStream n).slot (((s.getStream n).gen + 1) % 2) = some ((s.getStream n).gen + 1) ∧
    (t.getStream n).gen = (s.getStream n).gen ∧ (t.getStream n).txPhase = (s.getStream n).txPhase) ∧
  (∀ (hd : Hdr) (n : Nat) (s : State), s.begins hd (.streamNext n) = true → (s.getStream n).assigned = true →
    (s.getStream n).keyPending = true → ∃ t, exec (.doStreamNext hd n) s = .next t ∧ t.refused s hd 40) ∧
  (∀ (hd : Hdr) (n : Nat) (s : State), s.begins hd (.streamNext n) = true → (s.getStream n).assigned = true →
    (s.getStream n).keyPending = false → ((s.getPort 0).state = .down ∨ (s.getPort 0).state = .training) →
    ∃ t, exec (.doStreamNext hd n) s = .next t ∧ t.refused s hd 61)

/-! ## Heads, the Lantern and lines -/

/-- Heads (R33, R58, R338–R340, R362): HPRES low with the supplies allowed brings +5V on at 60 mA, to be read 25 ms later; two equal good
reads make the head READY with its supplies, or MISMATCH where another type is expected; a bad read is tried up to three times more and
then the head is BADID and off; HPRES high and an overload take both supplies away, and the open objects of an ACTIVE head close. What the
model chose for it: log entries 21, 103. -/
def Obligations.HeadsComeAndGo : Prop :=
  (∀ (x : Nat) (s : State), s.headsPowered = true → s.pwr.l24Valid = true → (s.getHead x).state = .absent →
    ∃ t, exec (.hpresLow x) s = .next t ∧ t = { s with heads := t.heads } ∧
    t.getHead x = { s.getHead x with present := true, state := .ident, v5 := 60, v12 := false, tries := 0,
                                     due := s.sys.tick + 25 * msTicks, ident := none } ∧
    ∀ q, q ≠ x → t.getHead q = s.getHead q) ∧
  (∀ (x : Nat) (s : State), s.headsPowered = false ∨ s.pwr.l24Valid = false → exec (.hpresLow x) s = .next
    (s.modHead x fun h => { h with present := true })) ∧
  (∀ (x : Nat) (a b : List Byte) (s : State), (s.getHead x).state ≠ .ident ∨ s.headsRead = false ∨ s.sys.tick < (s.getHead x).due →
    exec (.headIdentityRead x a b) s = .next s) ∧
  (∀ (x : Nat) (bs : List Byte) (s : State), (s.getHead x).state = .ident → s.headsRead = true → (s.getHead x).due ≤ s.sys.tick →
    identGood bs = true → (if s.int .headSample x = 0 then (identOf bs).cds else (identOf bs).sh) = true →
    ((s.textOf ⟨.headExpectType, x, 0⟩ = [] ∨ s.textOf ⟨.headExpectType, x, 0⟩ = (identOf bs).type) →
      ∃ t, exec (.headIdentityRead x bs bs) s = .next t ∧ t = { s with heads := t.heads } ∧
        t.getHead x = { s.getHead x with state := .ready, v5 := 360, v12 := (identOf bs).needs12, ident := some (identOf bs) } ∧
        ∀ q, q ≠ x → t.getHead q = s.getHead q) ∧
    (s.textOf ⟨.headExpectType, x, 0⟩ ≠ [] → s.textOf ⟨.headExpectType, x, 0⟩ ≠ (identOf bs).type →
      ∃ t, exec (.headIdentityRead x bs bs) s = .next t ∧ t = { s with heads := t.heads, sess := t.sess } ∧
        t.getHead x = { s.getHead x with state := .mismatch, v5 := 360, v12 := (identOf bs).needs12, ident := some (identOf bs) } ∧
        t.told s .keep "head" (headWord x) [.word "mismatch"])) ∧
  (∀ (x : Nat) (a b : List Byte) (s : State), (s.getHead x).state = .ident → s.headsRead = true →
    (s.getHead x).due ≤ s.sys.tick → (a ≠ b ∨ identGood a = false) →
    ((s.getHead x).tries < 3 → ∃ t, exec (.headIdentityRead x a b) s = .next t ∧ t = { s with heads := t.heads } ∧
      t.getHead x = { s.getHead x with tries := (s.getHead x).tries + 1, due := s.sys.tick + 10 * msTicks }) ∧
    (3 ≤ (s.getHead x).tries → ∃ t, exec (.headIdentityRead x a b) s = .next t ∧ t = { s with heads := t.heads, sess := t.sess } ∧
      t.getHead x = { s.getHead x with state := .badid, v5 := 0, v12 := false } ∧
      t.told s .keep "head" (headWord x) [.word "id-bad"])) ∧
  (∀ (x : Nat) (s : State), ∃ t, exec (.hpresHigh x) s = .next t ∧ (t.getHead x).present = false ∧ (t.getHead x).state = .absent ∧
    (t.getHead x).v5 = 0 ∧ (t.getHead x).v12 = false ∧ (t.getHead x).ident = none ∧
    (∀ q, q ≠ x → t.getHead q = s.getHead q) ∧
    ((s.getHead x).state = .active → ∀ o, o ∈ t.track.opened ↔ o ∈ s.track.opened ∧ o.head ≠ x) ∧
    ((s.getHead x).state ≠ .active → (s.getHead x).state ≠ .ready ∨ s.lantern.calib = none →
      t = { s with heads := t.heads, sess := t.sess } ∧ (s.sorting = true → t.told s .keep "head" (headWord x) [.word "absent"]) ∧
      (s.sorting = false → t.sess = s.sess))) ∧
  (∀ (x : Nat) (s : State), (s.getHead x).v5 ≠ 0 → ∃ t, exec (.headSupplyOverload x) s = .next t ∧ (t.getHead x).state = .supply ∧
    (t.getHead x).v5 = 0 ∧ (t.getHead x).v12 = false ∧ (∀ q, q ≠ x → t.getHead q = s.getHead q) ∧
    ((s.getHead x).state ≠ .active → (s.getHead x).state ≠ .ready ∨ s.lantern.calib = none →
      t = { s with heads := t.heads, sess := t.sess } ∧ t.told s .keep "head" (headWord x) [.word "supply"])) ∧
  (∀ (x : Nat) (s : State), (s.getHead x).v5 = 0 → exec (.headSupplyOverload x) s = .next s)

/-- The line cycle (R256, R325, R344, R345, R349–R352, R356): a line starts with its line index and, inside a segment, the next product
index; one that comes before the cycle before has ended waits for that end, and is late; a module that starts its own lines starts them
when a cycle is over, and one that runs freely a mark period after the last; the slots run in order, each at its tick, and in each, once
the offset has passed, the channels of its mask conduct that can, once the verify fence lets them (R480); a plane whose channel cannot is
NOSTROBE; at the end of the pulse all are off, and a channel that was low for more than 10 % of it has a compliance pulse. Deferred starts
and pulses come as time passes. What the model chose for it: log entries 17, 19, 41, 58, 78, 113. -/
def Obligations.LineCycles : Prop :=
  (∀ (line : Nat) (p : Plan) (s : State), s.lantern.planNext = some p →
    (s.lantern.busyTo s.sys.tick = none → s.lantern.waits = [] → s.startLine line =
      { s with
        lantern := { s.lantern with
          plan := some p, nextPlan := none, prev := s.lantern.cur, slot := none, pulseAt := none, on := 0
          cur := some { line := line, product := if s.seam.isOpen then some s.seam.product else none, tick := s.sys.tick, late := false } }
        seam := { s.seam with
          line := line, next := (line + 1) % 2 ^ 48, lineTick := s.sys.tick
          product := if s.seam.isOpen then (s.seam.product + 1) % 2 ^ 48 else s.seam.product } }) ∧
    (s.lantern.busyTo s.sys.tick ≠ none ∨ s.lantern.waits ≠ [] → s.startLine line =
      { s with lantern := { s.lantern with waits := s.lantern.waits ++ [line], lateStarts := satInc s.lantern.lateStarts }
               seam := { s.seam with next := (line + 1) % 2 ^ 48 } })) ∧
  (∀ (line : Nat) (rest : List Nat) (c : Cycle) (p q : Plan) (s : State), s.lantern.waits = line :: rest → s.lantern.cur = some c →
    s.lantern.plan = some p → s.lantern.planNext = some q →
    (s.sys.tick < c.tick + cycleTicks p.rate → s.lineTurn = s) ∧
    (c.tick + cycleTicks p.rate ≤ s.sys.tick → s.lineTurn =
      { s with
        lantern := { s.lantern with
          waits := rest, plan := some q, nextPlan := none, prev := some c, slot := none, pulseAt := none, on := 0
          cur := some { line := line, product := if s.seam.isOpen then some s.seam.product else none,
                        tick := c.tick + cycleTicks p.rate, late := true } }
        seam := { s.seam with
          line := line, lineTick := c.tick + cycleTicks p.rate
          product := if s.seam.isOpen then (s.seam.product + 1) % 2 ^ 48 else s.seam.product } })) ∧
  (∀ s : State, (s.lantern.waits = [] → s.lineTurn = s) ∧ (s.lantern.pulseAt = none → s.pulseStart = s) ∧
    s.lanternTick = if s.serving then s.lineTurn.pulseStart else s) ∧
  (∀ s : State, s.serving = true →
    (s.ownLines = true → s.lantern.busyTo s.sys.tick = none → exec .lineCycleStart s = .next (s.startLine s.seam.next)) ∧
    (s.ownLines = true → s.lantern.busyTo s.sys.tick ≠ none → exec .lineCycleStart s = .next s) ∧
    (∀ d, s.ownLines = false → s.tower.source = .free → s.nextMarkStart = some d →
      (d ≤ s.sys.tick → exec .lineCycleStart s = .next
        (State.startLine { s with tower := { s.tower with markStart := some d } } s.seam.next)) ∧
      (s.sys.tick < d → exec .lineCycleStart s = .next s)) ∧
    (s.ownLines = false → s.tower.source = .free → s.nextMarkStart = none → s.lantern.busyTo s.sys.tick = none →
      exec .lineCycleStart s = .next (s.startLine s.seam.next))) ∧
  (∀ s : State, s.serving = false ∨ s.ownLines = false ∧ s.tower.source ≠ .free → exec .lineCycleStart s = .next s) ∧
  (∀ (ph : Nat) (c : Cycle) (p : Plan) (s u : State), s.lineTurn = u → u.lantern.cur = some c → u.lantern.plan = some p →
    (ph < p.phases → slotStart c p ph ≤ u.sys.tick → (u.lantern.slot = none ∧ ph = 0 ∨ ∃ q, u.lantern.slot = some q ∧ ph = q + 1) →
      exec (.phaseSlotStart ph) s = .next (State.pulseStart
        { u with lantern := { u.lantern with
          slot := some ph, pulseAt := some (slotStart c p ph + p.offset ph / 10000), pulseLate := 0, on := 0 } })) ∧
    (u.sys.tick < slotStart c p ph ∨ p.phases ≤ ph → exec (.phaseSlotStart ph) s = .next u) ∧
    (∀ q, u.lantern.slot = some q → ph ≠ q + 1 → exec (.phaseSlotStart ph) s = .next u) ∧
    (u.lantern.slot = none → ph ≠ 0 → exec (.phaseSlotStart ph) s = .next u)) ∧
  (∀ (ph : Nat) (k : Tick) (c : Cycle) (p : Plan) (s : State), s.lantern.cur = some c → s.lantern.plan = some p →
    s.lantern.slot = some ph → s.lantern.pulseAt = some k →
    (s.sys.tick < k → s.pulseStart = s) ∧
    (k ≤ s.sys.tick → s.fenced 15 = true → ∃ t, s.pulseStart = t ∧
      t = { s with mem := t.mem, lantern := { s.lantern with pulseLate := s.sys.tick + 1 - k } } ∧
      t.getReqr 15 = { s.getReqr 15 with heldAt := some ((s.getReqr 15).heldAt.getD s.sys.tick) }) ∧
    (k ≤ s.sys.tick → s.fenced 15 = false → s.whiteCapture = false → ∃ t, s.pulseStart = t ∧
      t = { s with lantern := t.lantern } ∧ t.lantern.slot = some ph ∧ t.lantern.pulseAt = none ∧
      (∀ ch, ch < 6 → t.lantern.on.testBit ch = ((p.mask ph).testBit ch && !s.darkCapture && s.canFire ch)) ∧
      ((∀ ch, ch < 6 → (p.mask ph).testBit ch = true → s.canFire ch = true) → t.lantern.cur = some c ∧
        t.lantern.darkLines = s.lantern.darkLines) ∧
      (s.darkCapture = false → (∃ ch, ch < 6 ∧ (p.mask ph).testBit ch = true ∧ s.canFire ch = false) → c.has fNoStrobe = false →
        t.lantern.cur = some (c.flag ph fNoStrobe) ∧ t.lantern.darkLines = satInc s.lantern.darkLines)) ∧
    (∀ ch, k ≤ s.sys.tick → s.fenced 15 = false → s.whiteCapture = true →
      (List.range 6).find? (fun ch => (p.mask ph).testBit ch && !s.canFire ch) = some ch → ∃ u : State,
      s.pulseStart = u.failCalib 70 [dotFld "lantern" (toString ch)] ∧ u = { s with lantern := u.lantern } ∧
      u.lantern.slot = some ph ∧ u.lantern.calib = s.lantern.calib)) ∧
  (∀ (k : Calib) (c : Cycle) (s : State), s.lantern.calib = some k → s.lantern.cur = some c →
    (s.darkCapture = true ↔ k.first ≤ c.line ∧ c.line < k.first + 256) ∧
    (s.whiteCapture = true ↔ k.first + 256 ≤ c.line ∧ c.line < k.first + 512)) ∧
  (∀ (ph : Nat) (lows : List (Nat × Nat)) (c : Cycle) (p : Plan) (s u : State), s.pulseStart = u → u.lantern.cur = some c →
    u.lantern.plan = some p → u.lantern.slot = some ph → u.lantern.pulseAt = none →
    slotStart c p ph + (p.offset ph + p.width ph) / 10000 + u.lantern.pulseLate ≤ u.sys.tick →
    (∀ x, x ∈ lows → u.lantern.on.testBit x.1 = true → 10 * x.2 ≤ p.width ph) →
    ∃ t, exec (.lanternPulseEnd ph lows) s = .next t ∧ t = { u with lantern := t.lantern } ∧ t.lantern.on = 0 ∧
      t.lantern.cur = u.lantern.cur ∧ ∀ ch, ch < 6 → t.getChan ch = if u.lantern.on.testBit ch then { u.getChan ch with consec := 0 }
        else u.getChan ch) ∧
  (∀ (ph ch low : Nat) (c : Cycle) (p : Plan) (s u : State), s.pulseStart = u → u.lantern.cur = some c → u.lantern.plan = some p →
    u.lantern.slot = some ph → u.lantern.pulseAt = none →
    slotStart c p ph + (p.offset ph + p.width ph) / 10000 + u.lantern.pulseLate ≤ u.sys.tick → ch < 6 →
    u.lantern.on = 2 ^ ch → p.width ph < 10 * low → u.whiteCapture = false → (u.getChan ch).toldAt = none →
    (u.getChan ch).consec < 99 → ∃ t, exec (.lanternPulseEnd ph [(ch, low)]) s = .next t ∧
      t = { u with lantern := t.lantern, sess := t.sess } ∧ t.lantern.on = 0 ∧
      t.lantern.cur = some (c.flag ph fCompliance) ∧
      t.getChan ch = { u.getChan ch with compliance := satInc (u.getChan ch).compliance, consec := (u.getChan ch).consec + 1,
                                         toldAt := some u.sys.tick } ∧
      t.told u .keep "lantern" (toString ch) [.word "compliance"]) ∧
  (∀ (ph : Nat) (lows : List (Nat × Nat)) (c : Cycle) (p : Plan) (s u : State), s.pulseStart = u → u.lantern.cur = some c →
    u.lantern.plan = some p →
    u.lantern.slot ≠ some ph ∨ u.lantern.pulseAt ≠ none ∨
      u.sys.tick < slotStart c p ph + (p.offset ph + p.width ph) / 10000 + u.lantern.pulseLate →
    exec (.lanternPulseEnd ph lows) s = .next u)

/-- Readout, the plan's commit and shading calibration (R345–R348, R353–R357): a plane of an ACTIVE head holds each column's corrected
value and the flags of its line, once its readout has ended; a difference of 0 V or less is code 0, and one of 2.0 V / gain or more 65
535; a plan that keeps the limits, with no channel of it disabled and room for its reservation, is committed and runs from the next cycle,
and is else refused; a calibration captures 512 lines from the next on, and its tables go to flash, or it is answered `ER 70 HARDWARE`
with what was wrong; where the session's rights or the state bar either command it is answered with their code. What the model chose for
it: log entries 5, 21, 53, 79, 113. -/
def Obligations.PlanesAndShading : Prop :=
  (∀ (x ph : Nat) (r : Readout) (i : Ident) (c : Cycle) (p : Plan) (s : State), (s.getHead x).ident = some i →
    s.lantern.readCycle ph = some c → s.lantern.plan = some p → s.readoutDue x ph c p ≤ s.sys.tick →
    ((s.getHead x).state = .active → s.sorting = true → ∃ t, exec (.readoutComplete x ph r) s = .next t ∧
      (t.getHead x).planeLine = c.line ∧ (t.getHead x).ident = some i ∧ (∀ q, q ≠ x → t.getHead q = s.getHead q) ∧
      SMap.find (t.getHead x).planes ph = some
        { pixels := repairRow (s.correct x ph c (i.columnsOf (s.codesOf x i r).1))
          flags := SMap.look 0 c.flags ph ||| (if (s.codesOf x i r).2 then fSaturated else 0) |||
            (if s.defaultFor c then fDefaultShade else 0) ||| (if c.late then fLate else 0) } ∧
      (t.getHead x).saturated = (if (s.codesOf x i r).2 ∧ (s.getHead x).satLine ≠ some c.line then satInc (s.getHead x).saturated
        else (s.getHead x).saturated) ∧
      (s.imageStreams = [] → t = { s with heads := t.heads, track := s.track.readOut c s.sys.tick })) ∧
    (∀ k, (s.getHead x).state = .ready → s.configured x = true → s.lantern.calib = some k →
      exec (.readoutComplete x ph r) s = .next { s.modHead x (fun h => h.countSat c.line (s.codesOf x i r).2) with
        lantern := { s.lantern with calib := some (k.join x ph c (i.columnsOf (s.codesOf x i r).1)) } })) ∧
  (∀ (x ph : Nat) (r : Readout) (i : Ident) (c : Cycle) (p : Plan) (s : State), (s.getHead x).ident = some i →
    s.lantern.readCycle ph = some c → s.lantern.plan = some p → s.sys.tick < s.readoutDue x ph c p →
    exec (.readoutComplete x ph r) s = .next s) ∧
  (∀ (g : Nat) (v : Int), (v ≤ 0 → codeOf g v = 0) ∧ (2000000000 ≤ v * g → codeOf g v = 65535)) ∧
  (∀ (x ph : Nat) (r : Readout) (s : State), (s.getHead x).state ≠ .active ∨ s.sorting = false →
    (s.getHead x).state ≠ .ready ∨ s.lantern.calib = none → exec (.readoutComplete x ph r) s = .next s) ∧
  (∀ (hd : Hdr) (code : Nat) (s : State), s.barred hd .lanternCommit code = true →
    ∃ t, exec (.doLanternCommit hd) s = .next t ∧ t.refused s hd code) ∧
  (∀ (hd : Hdr) (p : Plan) (s : State), s.begins hd .lanternCommit = true → s.sys.state = .ready → s.stagedPlan = p →
    (∃ t, exec (.doLanternCommit hd) s = .next t ∧ (∀ c, c ∈ p.channels → (t.getChan c).state =
      if Config.lanternTestLow s.sys.free c then .disabled else (s.getChan c).state) ∧ t.sys.free = s.sys.free + 1 ∧
      (∀ c, p.channels = [c] → (s.getChan c).state ≠ .disabled → ∃ u : State, u = { s with sess := u.sess } ∧
        (if Config.lanternTestLow s.sys.free c then u.told s .keep "lantern" (toString c) [.word "open"] else u = s) ∧
        t.answered u hd [] (if s.planFits p = false ∨ s.tooLong p = true then .er 21 []
          else if Config.lanternTestLow s.sys.free c then .er 70 [dotFld "lantern" (toString c)]
          else if s.standingFits (some p.reserve) s.ledger.stepper then .ok [] else .er 41 []))) ∧
    ((∀ c, c ∈ p.channels → (s.getChan c).state = .disabled ∨ Config.lanternTestLow s.sys.free c = false) →
      (s.planFits p = false ∨ s.tooLong p = true → ∃ t, exec (.doLanternCommit hd) s = .next t ∧ t.answered s hd [] (.er 21 []) ∧
        t = { s with sys := { s.sys with free := s.sys.free + 1 }, sess := t.sess, jobs := t.jobs })) ∧
    (s.planFits p = true → s.tooLong p = false →
      (∀ c, c ∈ p.channels → (s.getChan c).state = .disabled ∨ Config.lanternTestLow s.sys.free c = false) →
      (∀ c, p.channels.find? (fun c => decide ((s.getChan c).state = .disabled)) = some c →
        ∃ t, exec (.doLanternCommit hd) s = .next t ∧ t.answered s hd [] (.er 70 [dotFld "lantern" (toString c)]) ∧
          t = { s with sys := { s.sys with free := s.sys.free + 1 }, sess := t.sess, jobs := t.jobs }) ∧
      ((∀ c, c ∈ p.channels → (s.getChan c).state ≠ .disabled) → s.standingFits (some p.reserve) s.ledger.stepper = false →
        ∃ t, exec (.doLanternCommit hd) s = .next t ∧ t.answered s hd [] (.er 41 []) ∧
          t = { s.countRefused .strobe with sys := { s.sys with free := s.sys.free + 1 }, sess := t.sess, jobs := t.jobs }) ∧
      ((∀ c, c ∈ p.channels → (s.getChan c).state ≠ .disabled) → s.standingFits (some p.reserve) s.ledger.stepper = true →
        ∃ t, exec (.doLanternCommit hd) s = .next t ∧ t.answered s hd [] (.ok []) ∧
          t = { s with sys := { s.sys with free := s.sys.free + 1 }, ledger := { s.ledger with strobe := some p.reserve },
                       lantern := { s.lantern with nextPlan := some p, committed := true }, sess := t.sess, jobs := t.jobs }))) ∧
  (∀ (hd : Hdr) (s : State), s.begins hd .shadeCalibrate = true → s.sys.state = .ready → s.lantern.committed = true →
    s.lantern.calib = none → (∀ x, x ∈ s.configuredHeads → (s.getHead x).state = .ready) →
    exec (.doShadeCalibrate hd) s = .next
      ((s.begun hd .shadeCalibrate).onLantern fun l => { l with calib := some { reply := s.replyTo hd, first := s.seam.next } })) ∧
  (∀ (hd : Hdr) (s : State), s.begins hd .shadeCalibrate = true → s.lantern.committed = false →
    ∃ t, exec (.doShadeCalibrate hd) s = .next t ∧ t.refused s hd 23) ∧
  (∀ (hd : Hdr) (code : Nat) (s : State), s.barred hd .shadeCalibrate code = true →
    ∃ t, exec (.doShadeCalibrate hd) s = .next t ∧ t.refused s hd code) ∧
  (∀ (k : Calib) (c : Cycle) (p : Plan) (x ph : Nat) (cells : List (Nat × Nat)) (s : State), s.lantern.calib = some k →
    s.lantern.cur = some c → s.lantern.plan = some p → s.capPlanes k = [(x, ph, cells)] →
    (c.line < k.first + 512 → exec (.shadeCaptureDone ()) s = .next s) ∧
    (k.first + 512 < c.line →
      (p.mask ph ≠ 0 → capPale cells = true → exec (.shadeCaptureDone ()) s = .next (s.failCalib 70 [.word "white"])) ∧
      (p.mask ph = 0 ∨ capPale cells = false → s.nat .shadeDefectMax < capDefects cells (s.nat .shadeWhiteTarget) →
        exec (.shadeCaptureDone ()) s = .next (s.failCalib 70 [dotFld "shade" (headWord x)])) ∧
      (p.mask ph = 0 ∨ capPale cells = false → capDefects cells (s.nat .shadeWhiteTarget) ≤ s.nat .shadeDefectMax →
        ∃ tab, exec (.shadeCaptureDone ()) s = .next ((s.onLantern fun l => { l with calib := none }).fileWrite
          { record := .shade, body := .shade tab, reply := some (.traop k.reply), onCommit := .shade ⟨tab, [(x, ph)]⟩,
            done := .num (capDefects cells (s.nat .shadeWhiteTarget)) }) ∧
        ∀ j, j < cells.length → SMap.look Shade.init tab (shadeKey x ph j) =
          shadeOf (s.nat .shadeWhiteTarget) ((cells[j]?).getD (0, 0))))) ∧
  (∀ (k : Calib) (code : Nat) (d : List Fld) (s : State), s.lantern.calib = some k →
    s.failCalib code d = (s.onLantern fun l => { l with calib := none }).er k.reply code d) ∧
  (∀ s : State, s.lantern.calib = none → exec (.shadeCaptureDone ()) s = .next s) ∧
  (∀ (x : ShadeSet) (c : Cycle) (s : State), (s.useShade x).shadeTab = x.tab ∧
    (s.sys.tick ≤ c.tick → (s.useShade x).shadeFor c = x.tab) ∧ (c.tick < s.sys.tick → (s.useShade x).shadeFor c = s.shadeTab))

/-! ## Objects and decisions -/

/-- Objects (R323, R367, R371–R374, R386): a ready line in which nothing has a class leaves nothing open and one more line clear; a run of
classed pixels that touches no open object opens one, which holds what the run gives it; a run that touches the one open object of its
turret extends it; and an object that the line does not reach closes. A segment closes (R111, R323, R326, R333): with a pause reason held,
once the curtain has been clear for `seam.clear_lines` lines, or by force once no captured object is open after the timeout line, which
the Keep hears of; the segment number goes up, and a stop ends in READY. What the model chose for it: log entries 17, 58, 77, 92. -/
def Obligations.LinesMakeObjectsAndSegments : Prop :=
  (∀ s : State, s.readyLine = none ∨ s.sorting = false → exec .lineClassify s = .next s) ∧
  (∀ (x : Nat) (c : Cycle) (s : State), s.sorting = true → s.readyLine = some c → s.activeHeads = [x] → s.track.nextTables = [] →
    s.track.opened = [] → s.track.views = [] → s.rangesOn x = [] → ∃ t, exec .lineClassify s = .next t ∧
    t = { s with heads := t.heads, track := t.track, feed := t.feed, seam := t.seam } ∧
    t.seam = { s.seam with clear := s.seam.clear + 1, seen := some ⟨c.line, c.product.getD s.seam.index, c.tick⟩ } ∧
    t.track.classified = c.line + 1 ∧ t.track.opened = [] ∧ t.track.toDecide = s.track.toDecide ∧
    t.track.store = s.track.store ∧ (t.getHead x).planes = []) ∧
  (∀ (x n lo hi : Nat) (r : Run) (c : Cycle) (s : State), s.sorting = true → s.readyLine = some c → s.activeHeads = [x] →
    s.track.nextTables = [] → s.track.opened = [] → s.track.views = [] → s.rangesOn x = [(n, lo, hi)] →
    runsFrom lo none (s.classesOn x n lo (min (hi + 1) (s.columns x) - lo) (s.getHead x).planes
      ((s.lantern.plan.map (·.phases)).getD 1)) = [r] →
    ∃ t o, exec .lineClassify s = .next t ∧ t = { s with heads := t.heads, track := t.track, feed := t.feed, seam := t.seam } ∧
      t.seam = { s.seam with clear := 0, seen := some ⟨c.line, c.product.getD s.seam.index, c.tick⟩ } ∧ t.track.opened = [o] ∧
        o.head = x ∧ o.turret = n ∧ o.first = c.line ∧ o.last = c.line ∧
      o.lo = r.lo ∧ o.hi = r.hi ∧ o.area = r.hi + 1 - r.lo ∧ o.firstRef = s.lineRef c.tick ∧
      (s.seam.timeoutLine = none → o.captured = c.product.isSome) ∧
      (o.flags &&& oEdge ≠ 0 ↔ r.lo = lo ∨ r.hi = hi) ∧ t.track.toDecide = s.track.toDecide) ∧
  (∀ (x n lo hi : Nat) (r : Run) (o : Obj) (c : Cycle) (s : State), s.sorting = true → s.readyLine = some c → s.activeHeads = [x] →
    s.track.nextTables = [] → s.track.opened = [o] → o.head = x → o.turret = n → o.last + 1 = c.line → s.rangesOn x = [(n, lo, hi)] →
    o.height < 511 → runsFrom lo none (s.classesOn x n lo (min (hi + 1) (s.columns x) - lo) (s.getHead x).planes
      ((s.lantern.plan.map (·.phases)).getD 1)) = [r] → (∃ q, q ∈ o.lastRuns ∧ touches q (r.lo, r.hi) = true) →
    ∃ t o', exec .lineClassify s = .next t ∧ t.track.opened = [o'] ∧ o'.id = o.id ∧ o'.first = o.first ∧ o'.last = c.line ∧
      o'.lo = min o.lo r.lo ∧ o'.hi = max o.hi r.hi ∧ o'.area = o.area + (r.hi + 1 - r.lo) ∧
      o'.sumLine = o.sumLine + (r.hi + 1 - r.lo) * (c.line - o.first) ∧ o'.lastRuns = [(r.lo, r.hi)]) ∧
  (∀ (x : Nat) (o : Obj) (c : Cycle) (s : State), s.sorting = true → s.readyLine = some c → s.activeHeads = [x] →
    s.track.nextTables = [] → s.track.opened = [o] → s.track.views = [] → o.head = x → s.rangesOn x = [] → s.int .towerRole = 0 →
    s.int .trackGeometry = 0 → (∀ p, p ∈ o.areas → p.2 ≤ 65535) →
    (∀ q, q ∈ s.track.toDecide → q.readyAt ≤ (s.track.classifying c).readyAt) → ∃ t o', exec .lineClassify s = .next t ∧
      t.track.opened = [] ∧
      t.track.toDecide = s.track.toDecide ++ [o'] ∧ o'.id = o.id ∧ o'.area = o.area ∧ o'.flags = o.flags ∧
      o'.readyAt = (s.track.classifying c).readyAt) ∧
  (∀ s : State, s.sorting = true → s.feed.pauses ≠ 0 → s.nat .seamClearLines ≤ s.seam.clear → s.seam.isOpen = true →
    s.imageStreams = [] → s.feed.pauses &&& pauseStop = 0 → exec .segmentClose s = .next
      { s with lantern := { s.lantern with cur := s.lantern.cur.map (·.outside s.seam.lastLine),
                                           prev := s.lantern.prev.map (·.outside s.seam.lastLine) }
               seam := { s.seam with isOpen := false, number := s.seam.number + 1, captured := 0, excludedHere := 0,
                                     product := (s.seam.lastLine.product + 1) % 2 ^ 48, timeoutLine := none } }) ∧
  (∀ s : State, s.sorting = false ∨ s.feed.pauses = 0 ∨ s.seam.clear < s.nat .seamClearLines → exec .segmentClose s = .next s) ∧
  (∀ (n : Nat) (s : State), s.sorting = true → s.seam.timeoutLine = some n → n < s.track.classified →
    (∀ o, o ∈ s.track.opened → o.captured = false) → s.seam.isOpen = true → s.imageStreams = [] → s.feed.pauses &&& pauseStop = 0 →
    ∃ t, exec .segmentForcedClose s = .next t ∧
    t = { s with lantern := { s.lantern with cur := s.lantern.cur.map (·.outside s.seam.lastLine),
                                             prev := s.lantern.prev.map (·.outside s.seam.lastLine) }
                 seam := t.seam, sess := t.sess } ∧ t.told s .keep "seam" "forced" [] ∧
    t.seam = { s.seam with isOpen := false, number := s.seam.number + 1, captured := 0, excludedHere := 0,
                           product := (s.seam.lastLine.product + 1) % 2 ^ 48, timeoutLine := none,
                           forced := satInc s.seam.forced }) ∧
  (∀ s : State, (∀ n, s.seam.timeoutLine = some n → s.track.classified ≤ n) ∨ (∃ o, o ∈ s.track.opened ∧ o.captured = true) →
    exec .segmentForcedClose s = .next s) ∧
  (∀ s : State, s.sorting = true → s.feed.pauses &&& pauseStop ≠ 0 → s.nat .seamClearLines ≤ s.seam.clear → s.seam.isOpen = false →
    ∃ t, exec .segmentClose s = .next t ∧ t.sys.state = .ready ∧ t.sys.stopReply = none ∧
      t.feed.pauses &&& pauseStop = 0 ∧ t.track.opened = [] ∧ t.seam.timeoutLine = none ∧ t.seam.clear = 0 ∧
      (∀ x, x < 2 → (s.getHead x).state = .active → (t.getHead x).state = .ready) ∧ t.cfg = s.cfg ∧ t.eject = s.eject ∧
      t.turrets = s.turrets ∧ t.tower = s.tower ∧ t.nv = s.nv)

/-- Decisions (R244, R370, R377, R381–R383, R388–R390, R393): in Open mode the object that has waited longest is decided, in Sealed mode
only the position of its own turret's rotation decides; a decision is counted under its action, and nothing is counted for an object of a
turret that is gone or revoked, or outside the owned width; VIEW records fill in a match; a head A object whose match store time is up is
unmatched; the STAT period gives its record and starts again; `DO class.commit` files the turret's recipe. What the model chose for it:
log entries 18, 25, 26, 77, 80, 81, 82, 111. -/
def Obligations.ObjectsAreDecided : Prop :=
  (∀ (o : Obj) (rest : List Obj) (k : Nat) (cs : List Nat) (s : State), s.isSealed = false → s.track.toDecide = o :: rest →
    (s.getTurret o.turret).state ≠ .absent → (s.getTurret o.turret).state ≠ .revoked → s.outsideOwn o = false →
    s.judge o = (0, k, cs) → s.turretStreams typeChip o.turret = [] → (s.awaitsViews = false ∨ o.flags &&& oFused ≠ 0) →
    ∃ t, exec .objectDecide s = .next t ∧
    (s.awaitsViews = true → exec .viewWaitEnd s = .next t) ∧ t = { s with track := t.track, sys := { s.sys with free := t.sys.free } } ∧
    t.track.toDecide = rest.filter (fun x => decide (x.id ≠ o.id)) ∧ t.track.store = s.track.store ∧ t.track.opened = s.track.opened ∧
    (t.getStat o.turret).objects = satInc (s.getStat o.turret).objects ∧
    (t.getStat o.turret).accepted = satInc (s.getStat o.turret).accepted ∧
    (t.getStat o.turret).rejected = (s.getStat o.turret).rejected ∧
    (t.getPeriod o.turret).decided = satInc (s.getPeriod o.turret).decided ∧
    (∀ n, n ≠ o.turret → t.getStat n = s.getStat n ∧ t.getPeriod n = s.getPeriod n)) ∧
  (∀ (o : Obj) (rest : List Obj) (k mm : Nat) (cs : List Nat) (f : Flight) (s : State), s.isSealed = false → s.sorting = true →
    s.track.toDecide = o :: rest → (s.awaitsViews = false ∨ o.flags &&& oFused ≠ 0) → (s.getTurret o.turret).state = .claimed →
    s.outsideOwn o = false → s.judge o = (1, k, cs) →
    s.turretStreams typeChip o.turret = [] → s.matchFlight o = some f → s.span o = ([mm], false) →
    s.usable o.turret useEject mm = true → s.eject.queue = [] →
    s.sys.tick + decisionLead ≤ (s.actTimes o.turret mm f.arrival f.lead f.lag).1 →
    ∃ t, exec .objectDecide s = .next t ∧ t = { s with track := t.track, eject := t.eject } ∧
      t.eject = { s.eject with nextId := s.eject.nextId + 1, queue :=
        [{ id := s.eject.nextId, valve := mm, turret := o.turret, kind := .eject,
           s := (s.actTimes o.turret mm f.arrival f.lead f.lag).1, e := (s.actTimes o.turret mm f.arrival f.lead f.lag).2.1,
           s0 := (s.actTimes o.turret mm f.arrival f.lead f.lag).1, needs := (s.getReqr 12).delivered,
           needs11 := (s.getReqr 11).delivered }] } ∧
      (t.getStat o.turret).rejected = satInc (s.getStat o.turret).rejected ∧
      (t.getStat o.turret).rejects = satInc (s.getStat o.turret).rejects) ∧
  (∀ (o : Obj) (rest : List Obj) (s : State), s.isSealed = false → s.track.toDecide = o :: rest → s.viewDone o = true →
    s.awaitsViews = true → o.flags &&& oFused = 0 → exec .objectDecide s = exec .viewWaitEnd s ∧ exec .objectDecide s = .next
      { s with track := { s.track with toDecide := rest.filter fun x => decide (x.id ≠ o.id), deciding := s.track.deciding ++ [o] } }) ∧
  (∀ s : State, (s.track.deciding = [] → s.decideTick = s) ∧ (∀ o, s.track.deciding = [o] → s.decideTick =
    (State.decideObj { s with track := { s.track with deciding := [] } } o).onTrack Track.pruneImages)) ∧
  (∀ (o : Obj) (rest : List Obj) (s : State), s.isSealed = false → s.track.toDecide = o :: rest →
    (s.awaitsViews = false ∨ o.flags &&& oFused ≠ 0) →
    ((s.getTurret o.turret).state = .absent ∨ (s.getTurret o.turret).state = .revoked → ∃ t, exec .objectDecide s = .next t ∧
      t = { s with track := t.track } ∧ t.track.stats = s.track.stats ∧ t.track.periods = s.track.periods ∧
      t.track.toDecide = rest.filter (fun x => decide (x.id ≠ o.id))) ∧
    ((s.getTurret o.turret).state = .claimed → s.outsideOwn o = true → ∃ t, exec .objectDecide s = .next t ∧
      t = { s with track := t.track, tower := { s.tower with outside := satInc s.tower.outside } } ∧ t.track.stats = s.track.stats ∧
      t.track.toDecide = rest.filter (fun x => decide (x.id ≠ o.id)))) ∧
  (∀ s : State, s.isSealed = true → exec .objectDecide s = .next s ∧ exec .viewWaitEnd s = .next s) ∧
  (∀ s : State, (∀ o, o ∈ s.track.toDecide → s.viewDone o = false) →
    exec .objectDecide s = .next s ∧ exec .viewWaitEnd s = .next s) ∧
  (∀ (o : Obj) (s : State), s.awaitsViews = true → o.flags &&& oFused = 0 →
    s.sys.tick < o.readyAt + s.nat .trackViewWait * usTicks → s.viewDone o = false) ∧
  (∀ s : State, s.awaitsViews = false → exec .viewWaitEnd s = .next s) ∧
  (∀ (p : Nat) (ts : List Nat) (s : State), s.isSealed = true → s.rangeTurrets = ts → ts ≠ [] → p = s.sys.tick / 2500 →
    (p < s.track.rotation → exec .deciderPosition s = .next s) ∧
    (s.track.rotation ≤ p → ∃ t, exec .deciderPosition s = .next t ∧ t.track.rotation = p + 1 ∧
      ((∀ o, o ∈ s.track.toDecide → some o.turret ≠ ts[p % ts.length]? ∨ s.viewDone o = false) →
        t = { s with track := { s.track with rotation := p + 1 } }) ∧
      (∀ o rest, s.track.toDecide = o :: rest → some o.turret = ts[p % ts.length]? → s.viewDone o = true →
        t.track.toDecide = rest.filter fun x => decide (x.id ≠ o.id)))) ∧
  (∀ (r : ViewRec) (o : Obj) (s : State), s.int .towerRole = 0 → s.track.waiting = [o] →
    (s.viewMatches r o = true → o.flags &&& oFused = 0 → ∃ t o', exec (.viewFeatureRecord r) s = .next t ∧
      t = { s with track := t.track } ∧ t.track.waiting = [o'] ∧
      o' = { o with flags := o.flags ||| oFused ||| (r.flags &&& oAreaSat), second := o'.second } ∧
      ∃ x, o'.second = some x ∧ x.area = r.area ∧ x.source = 2 ∧ x.modAddr = r.modAddr ∧ x.firstLine = r.firstLine) ∧
    (s.viewMatches r o = true → o.flags &&& oFused ≠ 0 → exec (.viewFeatureRecord r) s = .next
      { s with track := { s.track with viewUnused := satInc s.track.viewUnused } })) ∧
  (∀ (r : ViewRec) (s : State), s.int .towerRole = 0 → (∀ o, o ∈ s.track.waiting → s.viewMatches r o = false) →
    ((∃ d, d ∈ s.track.decided ∧ s.viewMeets r d.turret d.col256 d.ref = true ∧ d.fused = true ∧ d.at_ = s.sys.tick) →
      exec (.viewFeatureRecord r) s = .next { s with track := { s.track with viewUnused := satInc s.track.viewUnused } }) ∧
    ((∃ d, d ∈ s.track.decided ∧ s.viewMeets r d.turret d.col256 d.ref = true) →
      (∀ d, d ∈ s.track.decided → s.viewMeets r d.turret d.col256 d.ref = true → d.at_ ≠ s.sys.tick) →
      exec (.viewFeatureRecord r) s = .next { s with tower := { s.tower with viewLate := satInc s.tower.viewLate } }) ∧
    ((∀ d, d ∈ s.track.decided → s.viewMeets r d.turret d.col256 d.ref = false) →
      (s.viewAhead r = true → exec (.viewFeatureRecord r) s = .next { s with track := { s.track with views := s.track.views ++ [r] } }) ∧
      (s.viewAhead r = false → exec (.viewFeatureRecord r) s = .next s))) ∧
  (∀ (r : ViewRec) (s : State), s.int .towerRole ≠ 0 → exec (.viewFeatureRecord r) s = .next s) ∧
  (∀ (o k : Obj) (s : State), s.track.store = [o] → o.head = 0 → o.expires ≤ s.sys.tick → s.lineAhead o.expires = false →
    k = { o with flags := o.flags ||| oFallback, readyAt := s.lineReadAt o.expires } → ∃ t, exec .matchStoreExpiry s = .next t ∧
    t.track.store = [] ∧ t.track.unmatchedA = satInc s.track.unmatchedA ∧ t.track.opened = s.track.opened ∧
    (s.isSealed = true ∨ (∃ q rest, s.track.toDecide = q :: rest ∧ q.readyAt ≤ k.readyAt ∧ q.id ≠ k.id ∧ s.viewDone q = true) →
      t = { s with track := { s.track with
        store := [], unmatchedA := satInc s.track.unmatchedA
        toDecide := (s.track.toDecide.takeWhile fun x => decide (x.readyAt ≤ k.readyAt)) ++ [k] ++
          s.track.toDecide.dropWhile fun x => decide (x.readyAt ≤ k.readyAt) } }) ∧
    (s.isSealed = false → s.awaitsViews = false → s.track.toDecide = [] → t.track.toDecide = [])) ∧
  (∀ (o : Obj) (s : State), s.track.store = [o] → s.sys.tick < o.expires ∨ s.lineAhead o.expires = true →
    exec .matchStoreExpiry s = .next s) ∧
  (∀ s : State, s.track.store = [] → exec .matchStoreExpiry s = .next s) ∧
  (∀ (n k : Nat) (s : State), s.turretStreams typeStat n = [k] → s.periodStart n + s.nat .classStatPeriod n * msTicks ≤ s.sys.tick →
    (s.getStream k).recs.length < maxStat →
    ∃ t, exec (.statPeriod n) s = .next t ∧ t = { s with streams := t.streams, track := t.track } ∧
      t.getPeriod n = { Period.init with start := s.sys.tick } ∧ (∀ m, m ≠ n → t.getPeriod m = s.getPeriod m) ∧
        t.track.stats = s.track.stats ∧
      t.getStream k = { s.getStream k with recs := (s.getStream k).recs ++
        [(true, statRecord s.tower.addr n s.sys.tick ((s.sys.tick - s.periodStart n) / msTicks) (s.getPeriod n))] }) ∧
  (∀ (n : Nat) (s : State), s.turretStreams typeStat n = [] → s.periodStart n + s.nat .classStatPeriod n * msTicks ≤ s.sys.tick →
    exec (.statPeriod n) s = .next (s.modPeriod n fun _ => { Period.init with start := s.sys.tick })) ∧
  (∀ (n : Nat) (s : State), s.sys.tick < s.periodStart n + s.nat .classStatPeriod n * msTicks → exec (.statPeriod n) s = .next s) ∧
  (∀ (hd : Hdr) (n : Nat) (s : State), s.begins hd .classCommit = true → (s.getSess hd.sess).login = some n →
    ∃ t, exec (.doClassCommit hd) s = .next t ∧ t = { s with sess := t.sess, jobs := t.jobs, nv := t.nv } ∧
      (t.getSess hd.sess).out = (s.getSess hd.sess).out ∧
      t.nv = { s.nv with writes := s.nv.writes ++ [{ record := .recipe n, body := .recipe (s.newRecipe n true), turret := n,
                                                     reply := some (.traop (s.replyTo hd)), onCommit := .recipe n true false [] }] })

/-! ## Ejection -/

/-- A valve action from its request to its end (R84, R86, R87, R395, R406, R414, R419): the request of the valve's next action is filed,
or denied where no room could ever do; with its start come and room in the shares it starts its peak, else it waits and is denied at
`eject.max_delay`; at the end of the peak it holds, a second low peak in a row latching OPEN; at its end the output is off, and its charge
ends. A latched fault ends it and tells the Keep, and only a test that finds none clears it. A short return opens the bank's VCOM. `DO
valve.mm.test` files one action, or is refused. What the model chose for it: log entries 14, 23, 41, 52, 63, 87, 94. -/
def Obligations.ValveActions : Prop :=
  (∀ (mm : Nat) (a : Action) (s : State), earliest (s.actsOf mm .scheduled) = some a → s.sys.tick + 4 * usTicks < a.s →
    exec (.valveRequestFile mm) s = .next s) ∧
  (∀ (mm : Nat) (a : Action) (s : State), earliest (s.actsOf mm .scheduled) = some a → a.s ≤ s.sys.tick + 4 * usTicks →
    (s.mayFire mm = true → s.actFaulted a = false → (if s.isSealed then s.peakShare a.turret else s.valvePool) ≥ s.peakMa mm →
      exec (.valveRequestFile mm) s = .next { s with eject := { s.eject with
        queue := s.eject.queue.map fun x => if x.id = a.id then { a with stage := .filed } else x } }) ∧
    (s.mayFire mm = false → a.replies = [] → ∃ t, exec (.valveRequestFile mm) s = .next t ∧
      t = { s with eject := t.eject, track := t.track, ledger := t.ledger } ∧
      t.eject.queue = s.eject.queue.filter (fun x => decide (x.id ≠ a.id)) ∧
      (t.getStat a.turret).denied = satInc (s.getStat a.turret).denied) ∧
    (s.mayFire mm = true → s.actFaulted a = false → (if s.isSealed then s.peakShare a.turret else s.valvePool) < s.peakMa mm →
      a.replies = [] →
      ∃ t, exec (.valveRequestFile mm) s = .next t ∧ t = { s with eject := t.eject, track := t.track, ledger := t.ledger } ∧
        t.eject.queue = s.eject.queue.filter (fun x => decide (x.id ≠ a.id)) ∧
        SMap.look 0 t.ledger.refused (Cls.code .valve) = satInc (SMap.look 0 s.ledger.refused (Cls.code .valve)) ∧
        (t.getStat a.turret).denied = satInc (s.getStat a.turret).denied ∧
        t.getValve a.valve = { s.getValve a.valve with denied := satInc (s.getValve a.valve).denied }) ∧
    (s.mayFire mm = true → s.actFaulted a = true → ∃ t, exec (.valveRequestFile mm) s = .next t ∧
      t = { s with eject := t.eject, track := t.track, ledger := t.ledger } ∧
      t.eject = { s.eject with queue := s.eject.queue.filter fun x => decide (x.id ≠ a.id) } ∧
      (t.getStat a.turret).faulted = satInc (s.getStat a.turret).faulted)) ∧
  (∀ (mm : Nat) (s : State), s.actsOf mm .scheduled = [] → exec (.valveRequestFile mm) s = .next s) ∧
  (∀ (mm : Nat) (a : Action) (s : State), earliest (s.actsOf mm .filed) = some a →
    (s.sys.tick < a.s → exec (.valveActionStart mm) s = .next s) ∧
    (a.s ≤ s.sys.tick → s.mayFire mm = true → a.s0 + s.nat .ejectMaxDelay * usTicks < stepUp s.sys.tick → s.actFaulted a = false →
      a.replies = [] →
      ∃ t, exec (.valveActionStart mm) s = .next t ∧ t = { s with eject := t.eject, track := t.track, ledger := t.ledger } ∧
        t.eject.queue = s.eject.queue.filter (fun x => decide (x.id ≠ a.id)) ∧
        (t.getStat a.turret).denied = satInc (s.getStat a.turret).denied ∧
        SMap.look 0 t.ledger.refused (Cls.code .valve) = satInc (SMap.look 0 s.ledger.refused (Cls.code .valve)))) ∧
  (∀ (mm t0 : Nat) (a : Action) (s : State), earliest (s.actsOf mm .filed) = some a → a.valve = mm → a.s ≤ s.sys.tick →
    t0 = stepUp s.sys.tick → t0 ≤ a.s0 + s.nat .ejectMaxDelay * usTicks → s.mayFire mm = true → s.actFaulted a = false →
    SMap.look false s.pwr.shortReturn (bankOf mm) = false → s.pwr.p24Low = false →
    s.vcomClosed (bankOf mm) = true → s.fenceOpen a = true → s.actWaits a = false →
    (∀ b, b ∈ s.eject.queue → b.valve = mm → b.running = false) →
    (a.s = t0 ∨ ∀ b, b ∈ s.eject.queue → b.valve = mm → b.id ≠ a.id →
      a.e + (t0 - a.s) + s.nat .ejectMergeGap * usTicks < b.s) →
    (∀ parts cs, s.valveRoom a.id a.turret (s.peakMa mm) (s.holdMa mm) t0 (s.actSpan a t0).1 (s.actSpan a t0).2 = some (parts, cs) →
      ∃ t, exec (.valveActionStart mm) s = .next t ∧ t = { s with eject := t.eject, ledger := t.ledger, track := t.track } ∧
        t.eject.queue = s.eject.queue.map (fun x => if x.id = a.id then
          { a with stage := .peak, s := t0, e := a.e + (t0 - a.s), parts := parts } else x) ∧
        t.getValve mm = { s.getValve mm with state := .peak, actions := satInc (s.getValve mm).actions } ∧
        (∀ m, m ≠ mm → t.getValve m = s.getValve m) ∧ (∀ c, c ∈ cs → c ∈ t.ledger.charges) ∧
        (t.getStat a.turret).actions = satInc (s.getStat a.turret).actions) ∧
    (s.valveRoom a.id a.turret (s.peakMa mm) (s.holdMa mm) t0 (s.actSpan a t0).1 (s.actSpan a t0).2 = none →
      s.sys.tick < a.s0 + s.nat .ejectMaxDelay * usTicks → exec (.valveActionStart mm) s = .next s)) ∧
  (∀ (mm : Nat) (a : Action) (s : State), s.runningAct mm = some a → a.stage = .peak → s.peakEnd a ≤ s.sys.tick →
    ∀ mA, (s.peakMa mm ≤ 2 * mA → ∃ t, exec (.valvePeakEnd mm mA) s = .next t ∧ t = { s with eject := t.eject } ∧
      t.getValve mm = { s.getValve mm with state := .hold, lowRun := 0 } ∧ (∀ m, m ≠ mm → t.getValve m = s.getValve m) ∧
      t.eject.queue = s.eject.queue.map fun x => if x.id = a.id then
        { a with stage := .hold, parts := holdParts a.parts (s.holdMa mm) } else x) ∧
    (2 * mA < s.peakMa mm → (s.getValve mm).lowRun = 0 → ∃ t, exec (.valvePeakEnd mm mA) s = .next t ∧ t = { s with eject := t.eject } ∧
      t.getValve mm = { s.getValve mm with state := .hold, lowRun := 1, low := satInc (s.getValve mm).low }) ∧
    (2 * mA < s.peakMa mm → 0 < (s.getValve mm).lowRun → a.valve = mm → a.replies = [] → ∃ t, exec (.valvePeakEnd mm mA) s = .next t ∧
      t = { s with eject := t.eject, ledger := t.ledger, sess := t.sess } ∧
      t.getValve mm = { s.getValve mm with state := .opn, latch := .opn, lowRun := (s.getValve mm).lowRun + 1, low := satInc (s.getValve mm).low } ∧
      t.eject.queue = s.eject.queue.filter (fun x => decide (x.id ≠ a.id)) ∧ t.told s .keep "valve" (two mm) [.word "open"])) ∧
  (∀ (mm mA : Nat) (a : Action) (s : State), s.runningAct mm = some a →
    (a.stage ≠ .peak ∨ s.sys.tick < s.peakEnd a → exec (.valvePeakEnd mm mA) s = .next s) ∧
    (s.sys.tick < a.e → exec (.valveActionEnd mm) s = .next s)) ∧
  (∀ (mm : Nat) (a : Action) (s : State), s.runningAct mm = some a → a.valve = mm →
    (a.e ≤ s.sys.tick → a.replies = [] → ∃ t, exec (.valveActionEnd mm) s = .next t ∧
      t = { s with eject := t.eject, ledger := t.ledger } ∧
      t.getValve mm = { s.getValve mm with state := (s.getValve mm).latch.rest } ∧ (∀ m, m ≠ mm → t.getValve m = s.getValve m) ∧
      t.eject.queue = s.eject.queue.filter (fun x => decide (x.id ≠ a.id)) ∧
      (∀ c, c ∈ t.ledger.charges → c.act = a.id → c.until_ ≤ s.sys.tick)) ∧
    (∀ r, a.e ≤ s.sys.tick → a.replies = [r] → ∃ t : State, exec (.valveActionEnd mm) s = .next (t.ok r []) ∧
      t = { s with eject := t.eject, ledger := t.ledger } ∧
      t.getValve mm = { s.getValve mm with state := .idle, latch := .clear } ∧ (∀ m, m ≠ mm → t.getValve m = s.getValve m) ∧
      t.eject.queue = s.eject.queue.filter (fun x => decide (x.id ≠ a.id))) ∧
    (∀ x : Overcurrent, a.replies = [] → (3000 < x.mA ∨ 3 * s.peakMa mm < 2 * x.mA ∧ 2000 ≤ x.ns) →
      ∃ t, exec (.valveFaultLatch mm x) s = .next t ∧ t = { s with eject := t.eject, ledger := t.ledger, sess := t.sess } ∧
      t.getValve mm = { s.getValve mm with state := .short, latch := .short, lowRun := 0 } ∧
      t.eject.queue = s.eject.queue.filter (fun x => decide (x.id ≠ a.id)) ∧ t.told s .keep "valve" (two mm) [.word "short"]) ∧
    (∀ x : Overcurrent, x.mA ≤ 3000 → (2 * x.mA ≤ 3 * s.peakMa mm ∨ x.ns < 2000) → a.stage ≠ .peak →
      exec (.valveFaultLatch mm x) s = .next s)) ∧
  (∀ (mm mA : Nat) (x : Overcurrent) (s : State), s.runningAct mm = none → exec (.valveFaultLatch mm x) s = .next s ∧
    exec (.valvePeakEnd mm mA) s = .next s ∧ exec (.valveActionEnd mm) s = .next s) ∧
  (∀ (b : Nat) (s : State), (∀ a, a ∈ s.eject.queue → bankOf a.valve = b → a.running = false) →
    ((s.serving = true ∨ s.sys.state = .start) → ∃ t, exec (.valveOpenCommon b) s = .next t ∧ t = { s with sess := t.sess } ∧
      t.told s .keep "valve" (headWord b) [.word "open-common"]) ∧
    (s.vcomClosed b = true → ∃ t, exec (.valveShortReturn b) s = .next t ∧ t = { s with pwr := t.pwr, sess := t.sess } ∧
      t.vcomClosed b = false ∧ SMap.look false t.pwr.shortReturn b = true ∧ (∀ q, q ≠ b → t.vcomClosed q = s.vcomClosed q) ∧
      t.told s .keep "valve" (headWord b) [.word "short-return"])) ∧
  (∀ (hd : Hdr) (mm : Nat) (ms : Int) (s : State), s.begins hd (.valveTest mm ms) = true → s.sys.state = .ready →
    s.mayFire mm = true →
    (ms < 100000 ∨ 100000000 < ms → ∃ t, exec (.doValveTest hd mm ms) s = .next t ∧ t.refused s hd 21) ∧
    (100000 ≤ ms → ms ≤ 100000000 → (∀ a, a ∈ s.eject.queue → a.valve ≠ mm) →
      (s.freeEntries (s.nat .valveTurret mm) = 0 → ∃ t, exec (.doValveTest hd mm ms) s = .next t ∧ t.refused s hd 40) ∧
      (0 < s.freeEntries (s.nat .valveTurret mm) → ∃ t, exec (.doValveTest hd mm ms) s = .next t ∧
      t = { s with sess := t.sess, jobs := t.jobs, eject := t.eject } ∧ (t.getSess hd.sess).out = (s.getSess hd.sess).out ∧
      ∃ a, t.eject = { s.eject with queue := s.eject.queue ++ [a], nextId := s.eject.nextId + 1 } ∧ a.valve = mm ∧ a.kind = .test ∧
        a.turret = s.nat .valveTurret mm ∧ a.stage = .scheduled ∧ a.replies = [s.replyTo hd] ∧ a.e = toStep (a.s + ms / 10) ∧
        s.sys.tick + 400 ≤ a.s ∧ a.s < s.sys.tick + 450))) ∧
  (∀ (hd : Hdr) (mm : Nat) (ms : Int) (s : State), s.begins hd (.valveTest mm ms) = true →
    (s.sys.state ≠ .ready ∨ s.mayFire mm = false) → ∃ t, exec (.doValveTest hd mm ms) s = .next t ∧ t.refused s hd 23) ∧
  (∀ (hd : Hdr) (mm code : Nat) (ms : Int) (s : State), s.barred hd (.valveTest mm ms) code = true →
    ∃ t, exec (.doValveTest hd mm ms) s = .next t ∧ t.refused s hd code) ∧
  (∀ (x : Action) (s : State), s.mergeWith x.valve x.s x.e = [] →
    s.place x = { s with eject := { s.eject with queue := s.eject.queue ++ [{ x with id := s.eject.nextId }],
                                                 nextId := s.eject.nextId + 1 } }) ∧
  (∀ (x w : Action) (s : State), s.mergeWith x.valve x.s x.e = [w] → w.running = false → ∃ m : Action,
    s.place x = { s with eject := (s.place x).eject, ledger := (s.place x).ledger, track := (s.place x).track } ∧
    (s.place x).eject = { s.eject with queue := s.eject.queue.map fun y => if y.id = w.id then m else y } ∧
    m.id = w.id ∧ m.valve = w.valve ∧ m.turret = w.turret ∧ m.s = min w.s x.s ∧ m.e = max w.e x.e ∧ m.s0 = min w.s0 x.s0 ∧
    m.needs = max w.needs x.needs ∧ m.needs11 = max w.needs11 x.needs11 ∧ m.replies = w.replies ++ x.replies ∧
    ((s.place x).getStat x.turret).merged = satInc (s.getStat x.turret).merged) ∧
  (∀ (x a : Action) (s : State), s.mergeWith x.valve x.s x.e = [a] → a.running = true → x.replies = [] →
    (x.e ≤ a.e → s.place x = State.modStat { s with eject := { s.eject with
      queue := s.eject.queue.map fun y => if y.id = a.id then { y with e := a.e } else y } } x.turret fun y =>
        { y with merged := satInc y.merged }) ∧
    (a.e < x.e → ∀ cs, s.chargeSpan s.ledger.charges a.id x.turret (s.holdMa a.valve) a.e x.e = some cs →
      (s.place x).ledger = s.ledger.addCharges s.sys.tick cs ∧
      (s.place x).eject.queue = (s.eject.queue.map fun y => if y.id = a.id then { y with e := x.e } else y) ∧
      ((s.place x).getStat x.turret).merged = satInc (s.getStat x.turret).merged) ∧
    (a.e < x.e → s.chargeSpan s.ledger.charges a.id x.turret (s.holdMa a.valve) a.e x.e = none →
      (x.s < a.e → (s.place x).eject.queue = s.eject.queue ∧ (s.place x).ledger = s.ledger ∧
        ((s.place x).getStat x.turret).denied = satInc (s.getStat x.turret).denied) ∧
      (a.e ≤ x.s → s.place x = { s with eject := { s.eject with
        queue := s.eject.queue ++ [{ x with id := s.eject.nextId }], nextId := s.eject.nextId + 1 } })))

/-! ## The front end and the current loops -/

/-- The course of the sequencer (R425, R429, R430, R434–R438, R440–R443): with no pass running, committed entries take effect and the next
pass is an urgent request that may run, then a readback that has fallen due, then a check, then the next entry of the loop, unless the
verify fence holds it; frames, slots and delays make room for it; a pass measures once its settling is over; DC mode yields the mean of
the samples and IQ mode *I*, *Q* or *M* (R429); its result is stored as scale × x + offset with its flags, and an urgent request answers
the commands that asked. What the model chose for it: log entries 28, 29, 41, 53, 70, 110. -/
def Obligations.SequencerPasses : Prop :=
  (∀ s : State, s.fe.pass.isSome = true ∨ s.feRuns = false → s.startNext = s) ∧
  (∀ s : State, s.fe.pass = none → s.fenced 18 = true → s.startPass.fe.pass ≠ none → ∃ t : State, s.startNext = t ∧
    t = { s with mem := t.mem } ∧
    t.getReqr 18 = { s.getReqr 18 with heldAt := some ((s.getReqr 18).heldAt.getD s.sys.tick) }) ∧
  (∀ s : State, s.fe.pass = none → s.fenced 18 = false → s.feRuns = true → s.fe.nextEntries = [] →
    (∀ u, s.nextUrgent = some u → s.startNext = { s with fe := { s.fe with
      nextEntries := [], urgents := s.fe.urgents.filter fun v => decide (v.entry ≠ u.entry),
      pass := some { kind := .urgent u, turret := u.turret, opened := s.sys.tick, due := s.sys.tick + s.setupTicks u.entry,
                     pinFault := s.pinOver (.urgent u) } } }) ∧
    (s.nextUrgent = none → ∀ r, s.nextRead = some r → s.startNext = { s with fe := { s.fe with
      nextEntries := [], reads := s.fe.reads.tail,
      pass := some { kind := .readback r, turret := 0, opened := s.sys.tick, due := s.sys.tick + 2200 } } }) ∧
    (s.nextUrgent = none → s.nextRead = none → ∀ c, s.fe.checks.find? (fun c => s.mayRun c.turret (checkTicks c.kind)) = some c →
      s.startNext = { s with fe := { s.fe with
        nextEntries := [], checks := s.fe.checks.erase c,
        pass := some { kind := .check c, turret := c.turret, opened := s.sys.tick, due := s.sys.tick + checkSetup c.kind } } }) ∧
    (s.nextUrgent = none → s.nextRead = none → s.fe.checks = [] → ∀ k p, s.currentLoop = some k → s.loopPass k = some p →
      s.startNext.fe.pass = some { p with opened := s.sys.tick, from_ := p.reps, due := s.sys.tick + s.passSetup p.kind,
                                          pinFault := s.pinOver p.kind } ∧
      s.startNext = { s with fe := s.startNext.fe })) ∧
  (∀ s : State, s.serving = true → s.sys.tick % s.frameTicks = 0 → s.fe.nextFrame = [] → s.fe.partNext = false →
    exec .seqFrameStart s = .next
      (State.startNext { s with fe := { s.fe with begun := true, frame := s.sys.tick, slot := none, nextFrame := [], partNext := false } })) ∧
  (∀ s : State, s.serving = false ∨ s.sys.tick % s.frameTicks ≠ 0 → exec .seqFrameStart s = .next s) ∧
  (∀ (k : Nat) (s : State), s.feRuns = true → s.partitioned = true → k < 16 →
    s.slotEnd k - s.nat .seqSlotUs k * usTicks ≤ s.sys.tick → s.sys.tick < s.slotEnd k →
    exec (.seqSlotStart k) s = .next (State.startNext { s with fe := { s.fe with slot := some k } })) ∧
  (∀ (k : Nat) (s : State), s.feRuns = false ∨ s.partitioned = false ∨ 16 ≤ k ∨ s.slotEnd k ≤ s.sys.tick ∨
    s.sys.tick < s.slotEnd k - s.nat .seqSlotUs k * usTicks → exec (.seqSlotStart k) s = .next s) ∧
  (∀ (p : Pass) (s : State), s.fe.pass = some p →
    (p.settled = false → p.due ≤ s.sys.tick → exec .seqSettleEnd s = .next { s with fe := { s.fe with
      pass := some { p with settled := true, due := p.due + s.passSamples p.kind * 50 } } }) ∧
    (p.settled = true ∨ s.sys.tick < p.due → exec .seqSettleEnd s = .next s)) ∧
  (∀ (n : Nat) (x : Tick) (s : State), s.partitioned = false → (s.getTurLoop 64).delayTo = some x →
    (x ≤ s.sys.tick → s.fe.pass.isSome = true → ∃ t, exec (.seqDelayEnd n) s = .next t ∧ t = { s with fe := t.fe } ∧
      t.getTurLoop 64 = { s.getTurLoop 64 with delayTo := none } ∧ ∀ q, q ≠ 64 → t.getTurLoop q = s.getTurLoop q) ∧
    (s.sys.tick < x → exec (.seqDelayEnd n) s = .next s)) ∧
  (∀ (r : Sample) (s : State), s.fe.pass = none → exec (.seqResult r) s = .next s) ∧
  (∀ (r : Sample) (p : Pass) (s : State), s.fe.pass = some p → p.settled = false ∨ s.sys.tick < p.due ∨
    r.codes.length ≠ s.passSamples p.kind → exec (.seqResult r) s = .next s) ∧
  (∀ (e : Nat) (r : Sample) (d : Demod) (s : State),
    (s.int .seqMode e = 0 → s.quantity e r d = some (codeVolts r.codes.sum r.codes.length d.gain 1)) ∧
    (s.int .seqMode e = 1 → (s.int .seqValue e = 1 → s.quantity e r d = some (r.inPhase d)) ∧
      (s.int .seqValue e = 2 → s.quantity e r d = some (r.quadrature d)) ∧
      (s.int .seqValue e = 3 → s.quantity e r d = some (r.magnitude d)))) ∧
  (∀ (r : Sample) (p : Pass) (e : Nat) (x : Frac) (s : State), s.fe.pass = some p → p.kind = .loop e → p.settled = true →
    s.feRuns = true → p.due ≤ s.sys.tick → r.codes.length = s.nat .seqSamples e →
    s.quantity e r (s.entryDemod e (p.reps - p.from_)) = some x → 32 ≤ s.nat .seqRatio e → s.int .seqEvent e = 0 →
    s.nat .feedMassEntry ≠ e → ∃ t, exec (.seqResult r) s = .next t ∧
    t = { s with fe := t.fe, cfg := t.cfg } ∧
    (t.getEntry e).result = some (((Frac.of6 (s.int .seqScale e)).mul x).add (.of6 (s.int .seqOffset e))) ∧
    (t.getEntry e).raw = x ∧ (t.getEntry e).tick = p.due - s.nat .seqSamples e * 25 ∧
    (t.getEntry e).count = satInc (s.getEntry e).count ∧ (t.getEntry e).armed = (s.getEntry e).armed ∧
    ((t.getEntry e).flags &&& rOver ≠ 0 ↔ r.exceeded = true) ∧ ((t.getEntry e).flags &&& rClip ≠ 0 ↔ r.clip = true) ∧
    ((t.getEntry e).flags &&& rNoRatio = 0) ∧ ∀ q, q ≠ e → t.getEntry q = s.getEntry q) ∧
  (∀ (r : Sample) (p : Pass) (u : Urgent) (q : ReplyTo) (x y : Frac) (s : State), s.fe.pass = some p → p.kind = .urgent u →
    p.settled = true → s.feRuns = true → p.due ≤ s.sys.tick → r.codes.length = s.nat .seqSamples u.entry →
    s.quantity u.entry r (s.entryDemod u.entry 0) = some x → u.replies = [q] → 32 ≤ s.nat .seqRatio u.entry →
    s.int .seqEvent u.entry = 0 → s.nat .feedMassEntry ≠ u.entry → (s.getSess q.sess).isOpen = true →
    y = ((Frac.of6 (s.int .seqScale u.entry)).mul x).add (.of6 (s.int .seqOffset u.entry)) → ∃ t n f, exec (.seqResult r) s = .next t ∧
    t = { s with fe := t.fe, cfg := t.cfg, sess := t.sess, jobs := t.jobs } ∧ (t.getEntry u.entry).result = some y ∧
    (t.getEntry u.entry).flags = f ∧ (t.getSess q.sess).out = (s.getSess q.sess).out ++
      [{ s.answerLine q (.ok [.real y, .mask f]) true with ready := n }]) ∧
  (∀ (hd : Hdr) (e : Nat) (s : State), s.begins hd (.seqNow e) = true → s.gated 17 = false → s.int .seqEnable e ≠ 0 →
    s.fe.fault = false → s.fe.excFault = false → s.failedPin (s.entryPins e) = none → s.fe.urgents = [] → (∃ p u, s.fe.pass = some p ∧
      p.kind = .urgent u) →
    ∃ t, exec (.doSeqNow hd e) s = .next t ∧
    t = { s with sess := t.sess, jobs := t.jobs, fe := { s.fe with
      urgents := [{ entry := e, turret := s.nat .seqTurret e, trig := false, replies := [s.replyTo hd], at_ := s.sys.tick }] } } ∧
    (t.getSess hd.sess).out = (s.getSess hd.sess).out) ∧
  (∀ (hd : Hdr) (e : Nat) (s : State), s.begins hd (.seqNow e) = true → s.gated 17 = true ∨ s.int .seqEnable e = 0 →
    ∃ t, exec (.doSeqNow hd e) s = .next t ∧ t.refused s hd 23) ∧
  (∀ (hd : Hdr) (e : Nat) (s : State), s.begins hd (.seqNow e) = true → s.gated 17 = false → s.int .seqEnable e ≠ 0 →
    s.fe.fault = true → ∃ t, exec (.doSeqNow hd e) s = .next t ∧ t = { s with sess := t.sess, jobs := t.jobs } ∧
    t.answered s hd [] (.er 70 [.word "fe"])) ∧
  (∀ (hd : Hdr) (e k : Nat) (s : State), s.begins hd (.seqNow e) = true → s.gated 17 = false → s.int .seqEnable e ≠ 0 →
    s.fe.fault = false → s.fe.excFault = false → s.failedPin (s.entryPins e) = some k → ∃ t, exec (.doSeqNow hd e) s = .next t ∧
    t = { s with sess := t.sess, jobs := t.jobs } ∧ t.answered s hd [] (.er 70 (pinDetail k))) ∧
  (∀ (hd : Hdr) (s : State), s.begins hd .seqCommit = true → s.gated 17 = true → ∃ t, exec (.doSeqCommit hd) s = .next t ∧
    t.refused s hd 23) ∧
  (∀ (hd : Hdr) (n : Nat) (isKeep : Bool) (s : State), s.begins hd .seqCommit = true → s.gated 17 = false →
    (s.getSess hd.sess).login = some n → isKeep = decide (n = 0) →
    (s.slotMissing n isKeep = true → ∃ t, exec (.doSeqCommit hd) s = .next t ∧ t = { s with sess := t.sess, jobs := t.jobs } ∧
      t.answered s hd [] (.er 23 [.word "slot"])) ∧
    (∀ e, s.slotMissing n isKeep = false → s.badEntry n isKeep = some e → ∃ t, exec (.doSeqCommit hd) s = .next t ∧
      t = { s with sess := t.sess, jobs := t.jobs } ∧ t.answered s hd [] (.er 21 [dotFld "seq" (toString e)])) ∧
    (s.slotMissing n isKeep = false → s.badEntry n isKeep = none → s.slotRange n isKeep = true → ∃ t, exec (.doSeqCommit hd) s = .next t ∧
      t = { s with sess := t.sess, jobs := t.jobs } ∧ t.answered s hd [] (.er 21 [.word "slot"])) ∧
    (s.slotMissing n isKeep = false → s.badEntry n isKeep = none → s.slotRange n isKeep = false → ∀ w : Write,
      w = { record := .recipe n, body := .recipe (s.newRecipe n false), turret := n, reply := some (.traop (s.replyTo hd)),
            onCommit := .recipe n false true (if n = 0 then frameKeys.filterMap fun k => (SMap.find s.staged k.code).map fun v => (k, v)
                                              else []) } →
      (wantsExcite s.entryVal (s.entriesOf n) = false ∨ s.exciteHeld = true → ∃ t, exec (.doSeqCommit hd) s = .next t ∧
        t = { s with sess := t.sess, jobs := t.jobs, nv := { s.nv with writes := s.nv.writes ++ [w] } }) ∧
      (wantsExcite s.entryVal (s.entriesOf n) = true → s.exciteHeld = false → ∃ t, exec (.doSeqCommit hd) s = .next t ∧
        t.fe.commits = s.fe.commits ++ [w] ∧ t.nv = s.nv)))

/-- Checks, pins and excitation (R426, R445, R446, R449, R451, R452): `DO check.run` files one check with its pin's owner or the Keep, and
the check interval files `gain`, `exc` and `bias`; a check that is out of its limits is counted and told; a pin above its rating goes
OVER, flags the pass that uses it, and comes back; the excitation limit is told; a refused excite request is filed again. What the model
chose for it: log entries 29, 53. -/
def Obligations.ChecksAndPins : Prop :=
  (∀ (hd : Hdr) (s : State), s.begins hd (.checkRun .bias) = true → s.gated 17 = false → s.fe.fault = false →
    s.partitioned = false → s.fe.pass.isSome = true →
    ((s.getSess hd.sess).login = some 0 → ∃ t, exec (.doCheckRun hd .bias) s = .next t ∧
      t = { s with sess := t.sess, jobs := t.jobs, fe := { s.fe with
        checks := s.fe.checks ++ [{ kind := .bias, turret := 0, reply := some (s.replyTo hd) }] } } ∧
      (t.getSess hd.sess).out = (s.getSess hd.sess).out) ∧
    (∀ n, (s.getSess hd.sess).login = some n → n ≠ 0 → ∃ t, exec (.doCheckRun hd .bias) s = .next t ∧ t.refused s hd 30)) ∧
  (∀ (hd : Hdr) (k : CheckKind) (s : State), s.begins hd (.checkRun k) = true → s.mayCheck ((s.getSess hd.sess).login.getD 0) k = true →
    (s.gated 17 = true → ∃ t, exec (.doCheckRun hd k) s = .next t ∧ t.refused s hd 23) ∧
    (s.gated 17 = false → s.fe.fault = true → s.partitioned = false → ∃ t, exec (.doCheckRun hd k) s = .next t ∧
      t = { s with sess := t.sess, jobs := t.jobs } ∧ t.answered s hd [] (.er 70 [.word "fe"]))) ∧
  (∀ s : State, s.feRuns = true → s.nat .checkIntervalS ≠ 0 → s.fe.checks = [] →
    (∃ p e, s.fe.pass = some p ∧ p.kind = .loop e) → s.fe.checkAt + s.nat .checkIntervalS * secTicks ≤ s.sys.tick →
    exec .checkInterval s = .next
      { s with fe := { s.fe with checkAt := s.sys.tick, checks := [{ kind := .gain, turret := 0, reply := none },
        { kind := .exc, turret := 0, reply := none }, { kind := .bias, turret := 0, reply := none }] } }) ∧
  (∀ s : State, s.feRuns = false ∨ s.nat .checkIntervalS = 0 ∨ s.sys.tick < s.fe.checkAt + s.nat .checkIntervalS * secTicks →
    exec .checkInterval s = .next s) ∧
  (∀ (x : Sample) (p : Pass) (c : CheckJob) (s : State), s.fe.pass = some p → p.kind = .check c → p.settled = true → s.feRuns = true →
    c.kind = .bias → c.reply = none → c.fail = false → p.due ≤ s.sys.tick → x.codes.length = 4096 → ∀ v, v = x.codes.sum * 78125000 →
    (102195200000000000 ≤ v → v ≤ 102604800000000000 → ∃ t, exec (.seqResult x) s = .next t ∧ t = { s with fe := t.fe, cfg := t.cfg } ∧
      t.fe.fails = s.fe.fails) ∧
    (v < 102195200000000000 ∨ 102604800000000000 < v → ∃ t, exec (.seqResult x) s = .next t ∧
      t = { s with fe := t.fe, cfg := t.cfg, sess := t.sess } ∧
      t.fe.fails = satInc s.fe.fails ∧ t.told s (.turret c.turret false) "check" "bias" [.word "fail"])) ∧
  (∀ (p : Nat) (s : State), s.serving = true → (s.getPin p).state = .ok → ∃ t, exec (.fePinOver p) s = .next t ∧
    t = { s with fe := t.fe, sess := t.sess } ∧ t.getPin p = { s.getPin p with state := .exceeded, overAt := s.sys.tick } ∧
    (∀ q, q ≠ p → t.getPin q = s.getPin q) ∧
    (∀ e x, s.fe.pass = some x → x.kind = .loop e → p ∈ s.entryPins e → t.fe.pass = some { x with pinFault := true }) ∧
    (∀ e x, s.fe.pass = some x → x.kind = .loop e → p ∉ s.entryPins e → t.fe.pass = some x) ∧
    t.told s (.turret (s.nat .fePinTurret p) true) "fe" "pin" [.int p, .word "over"]) ∧
  (∀ (p : Nat) (s : State), s.serving = true → (s.getPin p).state = .exceeded → s.sys.tick < (s.getPin p).overAt + secTicks →
    exec (.fePinRecover p) s = .next s) ∧
  (∀ (p : Nat) (s : State), s.serving = true → (s.getPin p).state = .exceeded → (s.getPin p).overAt + secTicks ≤ s.sys.tick →
    ∃ t, exec (.fePinRecover p) s = .next t ∧
    t = { s with fe := t.fe, sess := t.sess } ∧ t.getPin p = { s.getPin p with state := .ok } ∧ t.fe.pass = s.fe.pass ∧
    t.told s (.turret (s.nat .fePinTurret p) true) "fe" "pin" [.int p, .word "ok"]) ∧
  (∀ (p : Nat) (s : State), s.serving = false → exec (.fePinOver p) s = .next s ∧ exec (.fePinRecover p) s = .next s) ∧
  (∀ (e : Nat) (s : State), s.feRuns = false ∨ s.fe.pass = none ∨
    (∃ p, s.fe.pass = some p ∧ (s.drives p e = false ∨ p.limitTold = true ∨ s.sys.tick < p.opened + 100 * msTicks)) →
    exec (.excLimit e) s = .next s) ∧
  (∀ (e : Nat) (p : Pass) (s : State), s.feRuns = true → s.fe.pass = some p → s.drives p e = true → p.limitTold = false →
    p.opened + 100 * msTicks ≤ s.sys.tick → ∃ t, exec (.excLimit e) s = .next t ∧
    t = { s with fe := { s.fe with pass := some { p with limitTold := true } }, sess := t.sess } ∧
    t.told s (.turret (s.nat .seqTurret e) false) "fe" "exc-limit" [.int e]) ∧
  (∀ s : State, s.serving = true → s.fe.excWanted = true → s.fe.excAt + 10 * secTicks ≤ s.sys.tick →
    wantsExcite s.comingVal = true → s.exciteHeld = false →
    (∀ q, q ∈ s.ledger.reqs → q.what ≠ .excite) → ∃ t, exec .excRequestRefile s = .next t ∧ t.fe.excWanted = false ∧
      ∃ q, (q ∈ t.ledger.reqs ∨ q ∈ t.ledger.grants) ∧ q.what = .excite ∧ q.filed = s.sys.tick) ∧
  (∀ s : State, s.fe.excWanted = false ∨ s.sys.tick < s.fe.excAt + 10 * secTicks → exec .excRequestRefile s = .next s)

/-- The current loops (R440, R457–R461, R464, R467, R468): at its sample a loop carries 3.6 mA without a quantity, its fixed current, the
current of the module's state, its alarm where its owner is revoked, or the measurement of its quantity between *lo* and *hi*, from a
valid window; a stage that failed stays off, and a sample waits behind the verify fence (R480). Saturation turns `headroom` off; after 100
ms it is counted and told, and a high alarm gives way to 3.60 mA; out of saturation it is on again. A readback falls due every 100 ms on
an enabled loop, and is stored, and its third difference above 0.1 mA in a row is told. What the model chose for it: log entries 29, 41,
54. -/
def Obligations.CurrentLoops : Prop :=
  (∀ (n : Nat) (s : State), s.serving = true → s.fenced 19 = false → n = 1 ∨ n = 2 → (s.getLoop n).state ≠ .fault →
    (s.getTurret (s.nat .loopTurret n)).state ≠ .revoked → (s.getLoop n).sampleAt ≤ s.sys.tick → s.holdsLevel n = false →
    ∀ c : CLoop, c = { s.getLoop n with sampleAt := s.sys.tick + 10 * msTicks } → ∃ t, exec (.loopSample n) s = .next t ∧
    t = { s with loops := t.loops, track := { s.track with ratio := t.track.ratio, metals := t.track.metals } } ∧
    (∀ q, q ≠ n → t.getLoop q = s.getLoop q) ∧
    (s.int .loopQuantity n = 0 → t.getLoop n = c.carry 3600000 .measure ∧ (t.getLoop n).ma6 = 3600000) ∧
    (s.int .loopQuantity n = 6 → t.getLoop n = c.carry s.sys.state.loopMa6 .measure) ∧
    (s.int .loopQuantity n = 7 → t.getLoop n = c.carry (s.int .loopFixedMa n) .measure) ∧
    (s.int .loopQuantity n = 4 → s.nat .seqTurret (s.nat .loopEntry n) = s.nat .loopTurret n → s.gated 17 = false →
      (s.getLoop n).badUntil = none → (s.getLoop n).samples = [] → ∀ x,
      (s.getEntry (s.nat .loopEntry n)).result = some x → (s.getEntry (s.nat .loopEntry n)).flags = 0 →
      (t.getLoop n).state = .measure ∧ (t.getLoop n).ma6 = measureMa6 (Frac.mean [x]) (s.int .loopLo n) (s.int .loopHi n) ∧
      (t.getLoop n).code = loopCode (t.getLoop n).ma6) ∧
    (s.int .loopQuantity n = 4 → (s.getEntry (s.nat .loopEntry n)).result = none ∨ s.gated 17 = true ∨
      s.nat .seqTurret (s.nat .loopEntry n) ≠ s.nat .loopTurret n → (s.getLoop n).state ≠ .fallback →
      (t.getLoop n).state = .alarm ∧ (t.getLoop n).ma6 = s.int .loopAlarmMa n ∧
      (t.getLoop n).badUntil = some (s.sys.tick + s.nat .loopWindowMs n * msTicks))) ∧
  (∀ (n : Nat) (s : State), s.serving = true → s.fenced 19 = false → n = 1 ∨ n = 2 → (s.getLoop n).sampleAt ≤ s.sys.tick →
    s.holdsLevel n = false → ∀ c : CLoop, c = { s.getLoop n with sampleAt := s.sys.tick + 10 * msTicks } →
    ((s.getTurret (s.nat .loopTurret n)).state = .revoked → ∃ t, exec (.loopSample n) s = .next t ∧
      t.getLoop n = c.alarm (s.int .loopAlarmMa n)) ∧
    ((s.getLoop n).state = .fault → s.int .loopQuantity n = 7 → ∃ t, exec (.loopSample n) s = .next t ∧ t.getLoop n = c)) ∧
  (∀ (n : Nat) (s : State), s.serving = false ∨ s.sys.tick < (s.getLoop n).sampleAt ∨ s.holdsLevel n = true →
    exec (.loopSample n) s = .next s) ∧
  (∀ (n : Nat) (s : State), s.serving = true → s.fenced 19 = true → n = 1 ∨ n = 2 → (s.getLoop n).sampleAt ≤ s.sys.tick →
    s.holdsLevel n = false → ∃ t, exec (.loopSample n) s = .next t ∧ t = { s with mem := t.mem } ∧
      t.getReqr 19 = { s.getReqr 19 with heldAt := some ((s.getReqr 19).heldAt.getD s.sys.tick) }) ∧
  (∀ (n : Nat) (s : State), s.holdsLevel n = true ↔ s.gated 17 = true ∧ s.int .loopQuantity n ≠ 2 ∧ s.int .loopQuantity n ≠ 4) ∧
  (∀ (x : Frac) (lo hi : Int), lo < hi → 0 < x.den → (x.num * 1000000 ≤ lo * x.den → measureMa6 x lo hi ≤ 4000000) ∧
    (hi * x.den ≤ x.num * 1000000 → 20000000 ≤ measureMa6 x lo hi) ∧
    3800000 ≤ measureMa6 x lo hi ∧ measureMa6 x lo hi ≤ 20500000) ∧
  (∀ (n : Nat) (s : State), s.judges n = true → (s.getLoop n).headroom = true → ∃ t, exec (.loopSaturation n) s = .next t ∧
    t = { s with loops := t.loops } ∧ t.getLoop n = { s.getLoop n with headroom := false, told := false, offAt := s.sys.tick, lostAt := s.sys.tick } ∧
    ∀ q, q ≠ n → t.getLoop q = s.getLoop q) ∧
  (∀ (n : Nat) (s : State), s.judges n = true → (s.getLoop n).headroom = false →
    (s.sys.tick < (s.getLoop n).offAt + 100 * msTicks → exec (.loopHeadroomFault n) s = .next s) ∧
    (s.sys.tick < (s.getLoop n).lostAt + 100 * msTicks → exec (.loopHeadroomOk n) s = .next s)) ∧
  (∀ (n : Nat) (s : State), s.judges n = true → (s.getLoop n).headroom = false → (s.getLoop n).told = false →
    (s.getLoop n).offAt + 100 * msTicks ≤ s.sys.tick → ∃ t, exec (.loopHeadroomFault n) s = .next t ∧
      t = { s with loops := t.loops, sess := t.sess } ∧
      (∀ q, q ≠ n → t.getLoop q = s.getLoop q) ∧ (t.getLoop n).faults = satInc (s.getLoop n).faults ∧ (t.getLoop n).told = true ∧
      ((s.getLoop n).state = .alarm → 21000000 ≤ (s.getLoop n).ma6 → (t.getLoop n).state = .fallback ∧ (t.getLoop n).ma6 = 3600000) ∧
      ((s.getLoop n).state ≠ .alarm ∨ (s.getLoop n).ma6 < 21000000 → (t.getLoop n).state = (s.getLoop n).state ∧
        (t.getLoop n).ma6 = (s.getLoop n).ma6) ∧
      t.told s (.turret (s.nat .loopTurret n) true) "loop" (toString n) [.word "headroom"]) ∧
  (∀ (n : Nat) (s : State), s.judges n = true → (s.getLoop n).headroom = false →
    (s.getLoop n).lostAt + 100 * msTicks ≤ s.sys.tick → ∃ t, exec (.loopHeadroomOk n) s = .next t ∧
      t = { s with loops := t.loops, sess := t.sess } ∧
      t.getLoop n = { s.getLoop n with headroom := true, told := false } ∧
      t.told s (.turret (s.nat .loopTurret n) true) "loop" (toString n) [.word "headroom-ok"]) ∧
  (∀ (n : Nat) (s : State), s.judges n = false → exec (.loopSaturation n) s = .next s ∧ exec (.loopHeadroomFault n) s = .next s ∧
    exec (.loopHeadroomOk n) s = .next s) ∧
  (∀ (n : Nat) (i v : Int) (s : State), s.feRuns = true → s.loopEnabled n = true → n = 1 ∨ n = 2 → (s.getLoop n).readAt ≤ s.sys.tick →
    exec (.loopReadbackDue n i v) s = .next ((s.modLoop n fun c => { c with readAt := s.sys.tick + 100 * msTicks }).onFe
      fun f => { f with reads := f.reads ++ [⟨n, false, i, s.sys.tick⟩, ⟨n, true, v, s.sys.tick⟩] }).startNext) ∧
  (∀ (n : Nat) (i v : Int) (s : State), s.feRuns = false ∨ s.loopEnabled n = false ∨ s.sys.tick < (s.getLoop n).readAt →
    exec (.loopReadbackDue n i v) s = .next s) ∧
  (∀ (x : Sample) (p : Pass) (r : ReadJob) (s : State), s.fe.pass = some p → p.kind = .readback r → p.settled = true → s.feRuns = true →
    p.due ≤ s.sys.tick → x.codes.length = 64 → exec (.seqResult x) s = .next (s.readTaken r).passEnds) ∧
  (∀ (n : Nat) (i : Int) (a : Tick) (s : State), ∃ t : State, s.readTaken ⟨n, false, i, a⟩ = t ∧
    t = { s with loops := t.loops, sess := t.sess } ∧
    (t.getLoop n).actual6 = i ∧ (t.getLoop n).ma6 = (s.getLoop n).ma6 ∧ (t.getLoop n).state = (s.getLoop n).state ∧
    ((i - loopMa6 (s.getLoop n).code).natAbs ≤ 100000 → (t.getLoop n).drift = 0 ∧ t.sess = s.sess) ∧
    ((s.getLoop n).headroom = true → 100000 < (i - loopMa6 (s.getLoop n).code).natAbs →
      (t.getLoop n).drift = (s.getLoop n).drift + 1 ∧ ((s.getLoop n).drift = 2 →
        t.told s (.turret (s.nat .loopTurret n) true) "loop" (toString n) [.word "drift"]))) ∧
  (∀ (n : Nat) (v : Int) (a : Tick) (s : State), s.readTaken ⟨n, true, v, a⟩ = s.modLoop n fun c => { c with volts6 := v })

/-! ## The memory cipher -/

/-- The memory cipher (R474–R476, R478, R479, R481, R484–R487, R490, R492): an accepted read is numbered and waits for its check, or needs
none on a fresh page; an accepted write changes exactly its own bytes, and a PROT write takes the next generation; a request outside its
owner's quota is refused and counted; a sector passes its check where its ciphertext gives its tag under the keys and the generation of
its read (R474) and the ECC can correct it (R475), which moves the verified count and keeps the longest wait of an output that was held,
and one that does not halts with cause 01 and is recorded. A rekey pass is asked for once, and at its end the generations are 1; a scrub
pass counts and gives its grant back. What the model chose for it: log entries 4, 9, 41, 55, 69, 83, 84. -/
def Obligations.MemoryCipherChecksAccess : Prop :=
  (∀ (q : MemBy) (o n : Nat) (r : Region) (s : State), s.memLive o r = true →
    (s.memAccepts q o r n = true → (s.getReqr q.island).pend = [] → ∃ t, exec (.memRead q o r n) s = .next t ∧
      t = { s with mem := t.mem } ∧ (∀ x, x ≠ q.island → t.getReqr x = s.getReqr x) ∧
      (t.getReqr q.island).delivered = (s.getReqr q.island).delivered + 1 ∧
      (s.freshPage o r n = true → (t.getReqr q.island).pend = [] ∧
        (t.getReqr q.island).verified = (s.getReqr q.island).delivered + 1) ∧
      (s.freshPage o r n = false → (t.getReqr q.island).verified = (s.getReqr q.island).delivered ∧
        (t.getReqr q.island).pend = [{ num := (s.getReqr q.island).delivered + 1, owner := o, region := r, sector := n, free := false,
                                       gen := s.genOf o r n, keys := s.keysNow o r }])) ∧
    (s.memAccepts q o r n = false → ∀ u : State, u = { s with mem := { s.mem with refused := satInc s.mem.refused } } → ∀ off d,
      (q.cmd = none → exec (.memRead q o r n) s = .next u ∧ exec (.memWrite q o r n off d) s = .next u) ∧
      (∀ c a v, q.cmd = some c → u.cmdInFlight c.1 c.2 = some a → u.abortable a = some v →
        exec (.memRead q o r n) s = .next (v.er a 50) ∧ exec (.memWrite q o r n off d) s = .next (v.er a 50)))) ∧
  (∀ (q : MemBy) (o n off : Nat) (d : List Byte) (r : Region) (s : State), s.memLive o r = false →
    exec (.memRead q o r n) s = .next s ∧ exec (.memWrite q o r n off d) s = .next s) ∧
  (∀ (q : MemBy) (o n : Nat) (d : List Byte) (r : Region) (s : State), s.memLive o r = true → s.memAccepts q o r n = true →
    d.length = r.bytes → (r = .prot → SMap.look 0 s.mem.gens (secCode o r n) < 2 ^ 31 - 1) →
    ∃ t, exec (.memWrite q o r n 0 d) s = .next t ∧ t = { s with ram := t.ram, mem := t.mem } ∧ t.mem.reqs = s.mem.reqs ∧
    (∀ i, i < d.length → t.ram.byte (secAddr o r n 0 + i) = (d[i]?).getD 0) ∧
    (∀ a, (a < secAddr o r n 0 ∨ secAddr o r n 0 + d.length ≤ a) → t.ram.byte a = s.ram.byte a) ∧
    (r = .prot → SMap.look 0 t.mem.gens (secCode o r n) = SMap.look 0 s.mem.gens (secCode o r n) + 1) ∧
    (r ≠ .prot → t.mem.gens = s.mem.gens) ∧ (r.dram = true → SMap.look false t.mem.written (secCode o r n) = true) ∧
    (∀ w, r = .nvrec → s.nv.running = some w → SMap.look 0 t.mem.flashGens (secCode o r n) = w.seq)) ∧
  (∀ (q : MemBy) (o n : Nat) (d : List Byte) (s : State), s.memLive o .prot = true → s.memAccepts q o .prot n = true →
    d.length = 512 → 0xFFFFFFFF ≤ SMap.look 0 s.mem.gens (secCode o .prot n) → exec (.memWrite q o .prot n 0 d) s = .next
      { s with mem := { s.mem with stalled := s.mem.stalled ++ [⟨q.island, o, n, 0, d⟩] } }) ∧
  tagPrefix 2 .prot 0x25 5 = [2, 2, 0, 0, 0x25, 0, 0, 0, 0, 0, 0, 0, 5, 0, 0, 0] ∧
  (∀ (p : PendRead) (s : State), p.gen = s.genOf p.owner p.region p.sector → p.keys = s.keysNow p.owner p.region →
    s.tagPasses p (s.stored p.owner p.region p.sector) = true) ∧
  (∀ (q : Nat) (x : Stored) (s : State), (s.getReqr q).pend = [] → exec (.tagCheckComplete q x) s = .next s) ∧
  (∀ (q : Nat) (x : Stored) (p : PendRead) (ps : List PendRead) (s : State), (s.getReqr q).pend = p :: ps →
    (s.tagPasses p x = true → (∀ y, y ∈ ps → y.free = false) → q ≠ 18 → ∃ t, exec (.tagCheckComplete q x) s = .next t ∧
      t = { s with mem := t.mem } ∧
      (∀ k, ps = [] → (s.getReqr q).heldAt = some k →
        min 65535 (10 * (s.sys.tick - k)) ≤ t.mem.fenceMax ∧ (t.getReqr q).heldAt = none) ∧
      (t.getReqr q).pend = ps ∧ (t.getReqr q).delivered = (s.getReqr q).delivered ∧
      (ps = [] → (t.getReqr q).verified = (s.getReqr q).delivered) ∧
      (∀ y xs, ps = y :: xs → (t.getReqr q).verified = y.num - 1) ∧ ∀ i, i ≠ q → t.getReqr i = s.getReqr i) ∧
    (s.tagPasses p x = true → (∀ y, y ∈ ps → y.free = false) → q = 18 → ∃ t u : State, exec (.tagCheckComplete q x) s = .next t ∧
      t = u.startNext ∧ u = { s with mem := u.mem } ∧ (u.getReqr q).pend = ps ∧
      ∀ i, i ≠ q → u.getReqr i = s.getReqr i) ∧
    (s.tagPasses p x = false → s.sys.state ≠ .off → s.sys.state ≠ .halted → ∃ t, exec (.tagCheckComplete q x) s = .next t ∧
      t.haltedFrom s 1 ∧ t.mem.lastFault = some ⟨p.region, p.owner, p.sector, s.sys.tick, q⟩)) ∧
  (∀ (hd : Hdr) (n : Nat) (r : Region) (s : State), s.begins hd (.memRekey n r) = true →
    ((s.getSess hd.sess).login ≠ some 0 → (s.getSess hd.sess).login ≠ some n → ∃ t, exec (.doMemRekey hd n r) s = .next t ∧
      t.refused s hd 30) ∧
    ((s.getSess hd.sess).login = some 0 → (63 < n ∨ r = .firm ∨ r = .nvrec ∨ r = .nvfw) →
      ∃ t, exec (.doMemRekey hd n r) s = .next t ∧ t.refused s hd 21) ∧
    ((s.getSess hd.sess).login = some n → n ≤ 63 → r = .prot ∨ r = .capt ∨ r = .work →
      (s.hasRekey n r = true → ∃ t, exec (.doMemRekey hd n r) s = .next t ∧ t.refused s hd 40) ∧
      (s.hasRekey n r = false → s.mem.rekey.length < maxRekeys → ∃ t, exec (.doMemRekey hd n r) s = .next t ∧
        t = { s with sess := t.sess, jobs := t.jobs, mem := t.mem, ledger := t.ledger } ∧
        (t.getSess hd.sess).out = (s.getSess hd.sess).out ∧ t.hasRekey n r = true ∧
        ∃ x, (x ∈ t.ledger.reqs ∨ x ∈ t.ledger.grants) ∧ x.what = .rekey n r.code ∧ x.cls = .mem ∧
          x.deadline = s.sys.tick + 10 * secTicks))) ∧
  (∀ s : State, (∀ j, j ∈ s.mem.rekey → j.granted = false) → exec .rekeyPass s = .next s) ∧
  (∀ (j : RekeyJob) (s : State), s.mem.rekey = [j] → j.granted = true → s.rekeyDone j = false ∨ s.dome.rngFault = true →
    exec .rekeyPass s = .next s) ∧
  (∀ (j : RekeyJob) (s : State), s.mem.rekey = [j] → j.granted = true → j.region = .prot → j.reply = none → s.rekeyDone j = true →
    s.dome.rngFault = false → s.mem.stalled = [] → ∃ u : State, exec .rekeyPass s = .next u.grantNext ∧
      u = { s with sys := { s.sys with draws := s.sys.draws + 1 }, dome := { s.dome with rngReqs := s.dome.rngReqs + 1 },
                   ledger := u.ledger, mem := u.mem } ∧
      u.mem.rekey = [] ∧ u.mem.rekeys = satInc s.mem.rekeys ∧ u.keysNow j.owner .prot = s.sys.draws + 1 ∧
      (∀ q, q ∈ u.ledger.grants ↔ q ∈ s.ledger.grants ∧ q.what ≠ .rekey j.owner j.region.code) ∧
      ∀ n, n < 2 ^ 32 → SMap.look 0 s.mem.gens (secCode j.owner .prot n) ≠ 0 → SMap.look 0 u.mem.gens (secCode j.owner .prot n) = 1) ∧
  (∀ (bad : List BadSlot) (k : Nat) (s : State), s.serving = false ∨ s.nat .memScrubH = 0 ∨
    s.mem.scrubRuns = false ∧ (s.mem.scrubWaits = true ∨ s.scrubDue = false) → exec (.scrubPass bad k) s = .next s) ∧
  (∀ s : State, s.serving = true → s.nat .memScrubH ≠ 0 → s.mem.scrubRuns = true → exec (.scrubPass [] 0) s = .next
    { s with ledger := { s.ledger with grants := s.ledger.grants.filter fun q => decide (q.what ≠ .scrub) },
             mem := { s.mem with scrubs := satInc s.mem.scrubs, scrubRuns := false, scrubWaits := false, scrubAt := s.sys.tick } })

/-! ## Turrets -/

/-- The life of a turret (R497, R499, R521–R525, R590): each step is refused out of its state or its range, and otherwise files a
`keystore` write, which takes effect at its commit; a revoke takes effect at once: the turret's logins end, its actions are withdrawn and
its digest jobs go; a destroy leaves nothing of it; a seal is refused unless its record is right; an unseal makes the mode Open. What the
model chose for it: log entries 4, 33, 55, 56, 64. -/
def Obligations.TurretLives : Prop :=
  (∀ (hd : Hdr) (n : Nat) (s : State), s.begins hd (.turretCreate n) = true → s.sys.state = .ready → 1 ≤ n → n ≤ 63 →
    (s.getTurret n).state = .absent → s.dome.rngFault = false → ∃ t, exec (.doTurretCreate hd n) s = .next t ∧
    t = { s with sys := { s.sys with draws := s.sys.draws + 1 }, dome := { s.dome with rngReqs := s.dome.rngReqs + 1 },
                 sess := t.sess, jobs := t.jobs, nv := t.nv } ∧ (t.getSess hd.sess).out = (s.getSess hd.sess).out ∧
    t.nv = { s.nv with writes := s.nv.writes ++ [{ record := .keystore, body := .none, reply := some (.traop (s.replyTo hd)),
                                                   onCommit := .ks (.create n (s.draw 32)) }] }) ∧
  (∀ (hd : Hdr) (n : Int) (s : State), s.begins hd (.turretCreate n) = true →
    n < 1 ∨ 63 < n → ∃ t, exec (.doTurretCreate hd n) s = .next t ∧ t.refused s hd 21) ∧
  (∀ (hd : Hdr) (n : Int) (code : Nat) (s : State), s.barred hd (.turretCreate n) code = true →
    ∃ t, exec (.doTurretCreate hd n) s = .next t ∧ t.refused s hd code) ∧
  (∀ (hd : Hdr) (n : Nat) (key : List Byte) (s : State), s.begins hd (.turretClaim n key) = true →
    ((s.getTurret n).state ≠ .created ∨ s.claimStands (s.replyTo hd) n = true → ∃ t, exec (.doTurretClaim hd n key) s = .next t ∧
      t.refused s hd 23) ∧
    ((s.getTurret n).state = .created → s.isSealed = false → s.claimStands (s.replyTo hd) n = false →
      key.length ≠ 49 ∨ pointOk .p384 key = false →
      ∃ t, exec (.doTurretClaim hd n key) s = .next t ∧ t.refused s hd 50) ∧
    (∀ j : PkeJob, j = { id := s.dome.nextId, turret := 0, op := .claim n key (s.draw 16), src := .traop (s.replyTo hd),
                         filed := s.sys.tick } →
      (s.getTurret n).state = .created → s.isSealed = false → key.length = 49 → pointOk .p384 key = true → s.dome.rngFault = false →
      (s.claimOf n = none → s.dome.queue.length < 8 → ∃ t, exec (.doTurretClaim hd n key) s = .next t ∧
        t = { s with sys := { s.sys with draws := s.sys.draws + 1 }, dome := t.dome, sess := t.sess, jobs := t.jobs } ∧
        (t.getSess hd.sess).out = (s.getSess hd.sess).out ∧ t.dome.queue = joinPke j s.dome.queue) ∧
      (∀ x q, s.claimOf n = some x → s.claimStands (s.replyTo hd) n = false → s.dome.queue.length ≤ 8 → x.src = .traop q →
        q.sess ≠ hd.sess → ∃ t, exec (.doTurretClaim hd n key) s = .next t ∧
        t.dome.queue = joinPke j (s.dome.queue.filter fun y => decide (y.id ≠ x.id)) ∧ t.turrets = s.turrets ∧
        (t.getSess hd.sess).out = (s.getSess hd.sess).out))) ∧
  (∀ (r : ReplyTo) (n : Nat) (j : PkeJob) (s : State), s.claimOf n = some j →
    (s.claimStands r n = false ↔ j.filed = s.sys.tick ∧ j.started = none ∧ r.sess < j.src.rank)) ∧
  (∀ (hd : Hdr) (n : Nat) (s : State), s.begins hd (.turretRevoke n) = true → 1 ≤ n → n ≤ 63 →
    ((s.getTurret n).state = .absent → ∃ t, exec (.doTurretRevoke hd n) s = .next t ∧ t.refused s hd 23) ∧
    ((s.getTurret n).state = .revoked → ∃ t, exec (.doTurretRevoke hd n) s = .next t ∧ t = { s with sess := t.sess, jobs := t.jobs } ∧
      t.answered s hd [] (.ok [])) ∧
    ((s.getTurret n).state = .created ∨ (s.getTurret n).state = .claimed → ∃ t, exec (.doTurretRevoke hd n) s = .next t ∧
      t.getTurret n = { s.getTurret n with state := .revoked } ∧ (∀ m, m ≠ n → t.getTurret m = s.getTurret m) ∧
      (∀ k, k < 4 → (t.getSess k).login ≠ some n) ∧ (∀ a, a ∈ t.eject.queue → a.turret ≠ n) ∧
      (∀ j, j ∈ t.dome.jobs → j.turret ≠ n) ∧ (∀ o, o ∈ t.track.opened → o.turret ≠ n) ∧
      (∀ o, o ∈ t.track.waiting → o.turret ≠ n) ∧ t.sys.mode = s.sys.mode ∧
      t.nv.writes.getLast? = some { record := .keystore, body := .none, reply := some (.traop (s.replyTo hd)),
                                    onCommit := .ks .none, stubborn := true })) ∧
  (∀ (hd : Hdr) (n : Nat) (s : State), s.begins hd (.turretRestore n) = true → s.sys.state = .ready → 1 ≤ n → n ≤ 63 →
    ((s.getTurret n).state ≠ .revoked → ∃ t, exec (.doTurretRestore hd n) s = .next t ∧ t.refused s hd 23) ∧
    ((s.getTurret n).state = .revoked → exec (.doTurretRestore hd n) s = .next ((s.begun hd (.turretRestore n)).fileWrite
      { record := .keystore, body := .none, reply := some (.traop (s.replyTo hd)), onCommit := .ks (.restore n) }))) ∧
  (∀ (hd : Hdr) (n : Nat) (s : State), s.begins hd (.turretDestroy n) = true → s.sys.state = .ready → 1 ≤ n → n ≤ 63 →
    ((s.getTurret n).state = .absent → ∃ t, exec (.doTurretDestroy hd n) s = .next t ∧ t.refused s hd 23) ∧
    ((s.getTurret n).state ≠ .absent → ∃ t, exec (.doTurretDestroy hd n) s = .next t ∧ (t.getTurret n).state = .absent ∧
      (∀ m, m ≠ n → t.getTurret m = s.getTurret m) ∧ (∀ k, k < 4 → (t.getSess k).login ≠ some n) ∧
      (∀ b off, b < 32 → off < 4096 → t.ram.byte (blobAddr n b off) = 0) ∧ t.getStat n = TurStat.init ∧
      (∀ r, r ∈ t.capture.recs → r.turret ≠ n) ∧
      t.nv.writes.getLast? = some { record := .keystore, body := .none, reply := some (.traop (s.replyTo hd)),
                                    onCommit := .ks (.destroy n), stubborn := true })) ∧
  (∀ (hd : Hdr) (b : Nat) (s : State), s.begins hd (.sysSeal b) = true → s.sys.state = .ready → b ≤ 31 →
    s.sealSlotMissing = false → ∃ t, exec (.doSysSeal hd b) s = .next t ∧
    (if s.sealRecordOk hd.sess (s.readBlob 0 b 0 168) = false then t.refused s hd 50
     else if sliceAt (s.readBlob 0 b 0 168) 24 48 = s.assignDigest then t = (s.begun hd (.sysSeal b)).fileWrite
       { record := .keystore, body := .none, reply := some (.traop (s.replyTo hd)), onCommit := .ks .seal }
     else t = { s with sess := t.sess, jobs := t.jobs } ∧ t.answered s hd [] (.er 23 [.word "assign"]))) ∧
  (∀ (hd : Hdr) (s : State), s.begins hd .sysUnseal = true → ∃ t, exec (.doSysUnseal hd) s = .next t ∧ t.sys.mode = .opn ∧
    t.dome.part = false ∧ t.getTurret 0 = s.getTurret 0 ∧ (∀ n, n ∈ s.presentTurrets → n ≠ 0 → t.getTurret n = { state := .created }) ∧
    t.nv.writes.getLast? = some { record := .keystore, body := .none, reply := some (.traop (s.replyTo hd)),
                                  onCommit := .ks .unseal, stubborn := true })

/-- Keys and blobs (R502, R507, R516, R370): an import nonce is drawn and answered; an import uses it up and files the new slot, or is
answered `ER 50 CRYPTO` or `ER 21 RANGE` with its blob gone; a blob write changes exactly its bytes, a read answers them and a clear makes
them 0, each within the blob; over MGMT the same is answered by records, and table bytes are staged for the slot's own turret. What the
model chose for it: log entries 2, 4, 31, 38, 56. -/
def Obligations.KeysAndBlobs : Prop :=
  (∀ (hd : Hdr) (n : Nat) (s : State), s.begins hd .getKeyNonce = true → (s.getSess hd.sess).login = some n → s.dome.rngFault = false →
    ∃ t, exec (.getKeyNonce hd) s = .next t ∧
    t = { s with sys := { s.sys with draws := s.sys.draws + 1 }, dome := { s.dome with rngReqs := s.dome.rngReqs + 1 },
                 sess := t.sess, jobs := t.jobs } ∧
    t.answered s hd [] (.ok [.bytes (s.draw 16)]) ∧ (t.getSess hd.sess).nonce = some (s.draw 16, s.sys.tick)) ∧
  (∀ (hd : Hdr) (n slot b : Nat) (s : State), s.begins hd (.keyImport slot b) = true → (s.getSess hd.sess).login = some n →
    (s.getTurret n).state = .claimed → b ≤ 31 → s.unwrapFails = false →
    ∃ t, exec (.doKeyImport hd slot b) s = .next t ∧ (t.getSess hd.sess).nonce = none ∧
      (match s.importRecord n slot (s.nonceNow hd.sess) (s.readBlob n b 0 4096) with
       | .ok k => t = { s with sess := t.sess, jobs := t.jobs, nv := t.nv,
                               isl := { s.isl with auto05 := false, busy05 := s.sys.tick } } ∧
         (t.getSess hd.sess).out = (s.getSess hd.sess).out ∧
         t.nv = { s.nv with writes := s.nv.writes ++ [{ record := .keystore, body := .none, reply := some (.traop (s.replyTo hd)),
                                                        turret := n, onCommit := .ks (.slot n slot k), wipe := some (n, b) }] }
       | .error c => t = { s with sess := t.sess, jobs := t.jobs, ram := t.ram,
                                  isl := if c.2 then { s.isl with auto05 := false, busy05 := s.sys.tick } else s.isl } ∧
         t.answered s hd [] (.er c.1 []) ∧
         (∀ off, off < 4096 → t.ram.byte (blobAddr n b off) = 0) ∧
         (∀ a, (a < blobAddr n b 0 ∨ blobAddr n b 4096 ≤ a) → t.ram.byte a = s.ram.byte a))) ∧
  (∀ (hd : Hdr) (slot : Int) (n : Nat) (s : State), s.begins hd (.keyErase slot) = true → (s.getSess hd.sess).login = some n →
    ((s.getTurret n).state ≠ .claimed → ∃ t, exec (.doKeyErase hd slot) s = .next t ∧ t.refused s hd 23) ∧
    ((s.getTurret n).state = .claimed → slot < 3 ∨ 7 < slot → ∃ t, exec (.doKeyErase hd slot) s = .next t ∧ t.refused s hd 21) ∧
    ((s.getTurret n).state = .claimed → 3 ≤ slot → slot ≤ 7 → exec (.doKeyErase hd slot) s = .next
      ((s.begun hd (.keyErase slot)).fileWrite { record := .keystore, body := .none, reply := some (.traop (s.replyTo hd)),
                                                 onCommit := .ks (.slot n slot.toNat KeySlot.init) }))) ∧
  (∀ (hd : Hdr) (n b off : Nat) (d : List Byte) (s : State), s.begins hd (.blobWrite b off d) = true →
    (s.getSess hd.sess).login = some n → b ≤ 31 → off + d.length ≤ 4096 → 1 ≤ d.length → d.length ≤ 64 →
    (s.blobRoom n b = true → ∃ t, exec (.doBlobWrite hd b off d) s = .next t ∧
      t = { s with sess := t.sess, jobs := t.jobs, ram := t.ram, mem := { s.mem with blobs := t.mem.blobs } } ∧
      t.answered s hd [] (.ok []) ∧ (∀ i, i < d.length → t.ram.byte (blobAddr n b off + i) = (d[i]?).getD 0) ∧
      (∀ a, (a < blobAddr n b off ∨ blobAddr n b off + d.length ≤ a) → t.ram.byte a = s.ram.byte a)) ∧
    (s.blobRoom n b = false → ∃ t, exec (.doBlobWrite hd b off d) s = .next t ∧ t = { s with sess := t.sess, jobs := t.jobs } ∧
      t.answered s hd [] (.er 21 [.word "quota"]))) ∧
  (∀ (hd : Hdr) (b off : Int) (d : List Byte) (s : State), s.begins hd (.blobWrite b off d) = true →
    (b < 0 ∨ 31 < b ∨ off < 0 ∨ 4096 < off + d.length ∨ d = [] ∨ 64 < d.length) →
    ∃ t, exec (.doBlobWrite hd b off d) s = .next t ∧ t.refused s hd 21) ∧
  (∀ (hd : Hdr) (n b off len : Nat) (s : State), s.begins hd (.blobRead b off len) = true → (s.getSess hd.sess).login = some n →
    b ≤ 31 → off + len ≤ 4096 → 1 ≤ len → len ≤ 64 → ∃ t, exec (.doBlobRead hd b off len) s = .next t ∧
    t = { s with sess := t.sess, jobs := t.jobs } ∧ t.answered s hd [] (.ok [.bytes (s.ram.read (blobAddr n b off) len)])) ∧
  (∀ (hd : Hdr) (n b : Nat) (s : State), s.begins hd (.blobClear b) = true → (s.getSess hd.sess).login = some n → b ≤ 31 →
    ∃ t, exec (.doBlobClear hd b) s = .next t ∧ t = { s with sess := t.sess, jobs := t.jobs, ram := t.ram } ∧ t.answered s hd [] (.ok []) ∧
      (∀ off, off < 4096 → t.ram.byte (blobAddr n b off) = 0) ∧
      (∀ a, (a < blobAddr n b 0 ∨ blobAddr n b 4096 ≤ a) → t.ram.byte a = s.ram.byte a)) ∧
  (∀ (k tag b off len x y n : Nat) (d f : List Byte) (s : State), s.mgmtOpen k = false → exec (.blobWrite k tag b off d) s = .next s ∧
    exec (.blobRead k tag b off len) s = .next s ∧ exec (.tableWrite k tag x y off d) s = .next s ∧
    exec (.mgmtDomeOperation k n f) s = .next s) ∧
  (∀ (k tag b off n : Nat) (d : List Byte) (s : State), s.mgmtOpen k = true → s.nat .streamTurret k = n → b ≤ 31 → off + d.length ≤ 4096 →
    s.blobRoom n b = true → ∃ t, exec (.blobWrite k tag b off d) s = .next t ∧
    t = { s with ram := t.ram, mem := { s.mem with blobs := t.mem.blobs }, streams := t.streams } ∧
    (t.getStream k).recs = (s.getStream k).recs ++ [(true, mgmtRecord 0x04FF tag 0 0 0 [0])] ∧
    (∀ i, i < d.length → t.ram.byte (blobAddr n b off + i) = (d[i]?).getD 0) ∧
    (∀ a, (a < blobAddr n b off ∨ blobAddr n b off + d.length ≤ a) → t.ram.byte a = s.ram.byte a)) ∧
  (∀ (k tag b off len n : Nat) (s : State), s.mgmtOpen k = true → s.nat .streamTurret k = n →
    (b ≤ 31 → off + len ≤ 4096 → ∃ t, exec (.blobRead k tag b off len) s = .next t ∧ t = { s with streams := t.streams } ∧
      (t.getStream k).recs = (s.getStream k).recs ++ [(true, mgmtRecord 0x0402 tag b 0 off (s.ram.read (blobAddr n b off) len)),
                                                      (true, mgmtRecord 0x04FF tag 0 0 0 [0])]) ∧
    (31 < b ∨ 4096 < off + len → ∃ t, exec (.blobRead k tag b off len) s = .next t ∧ t = { s with streams := t.streams } ∧
      (t.getStream k).recs = (s.getStream k).recs ++ [(true, mgmtRecord 0x04FF tag 0 0 0 [21])])) ∧
  (∀ (k tag x y off : Nat) (d : List Byte) (s : State), s.mgmtOpen k = true → x ≤ 1 → y ≤ 3 →
    (s.nat .classTurret x y = s.nat .streamTurret k → off + d.length ≤ tableBytes → ∃ t, exec (.tableWrite k tag x y off d) s = .next t ∧
      t = { s with ram := t.ram, track := t.track, streams := t.streams,
                   isl := { s.isl with auto05 := false, busy05 := s.sys.tick } } ∧ (t.getClassSlot (4 * x + y)).state = .staged ∧
      (t.getStream k).recs = (s.getStream k).recs ++ [(true, mgmtRecord 0x04FF tag 0 0 0 [0])] ∧
      (∀ i, i < d.length → t.ram.byte (stagedAddr (4 * x + y) off + i) = (d[i]?).getD 0) ∧
      (∀ a, (a < stagedAddr (4 * x + y) off ∨ stagedAddr (4 * x + y) off + d.length ≤ a) → t.ram.byte a = s.ram.byte a)) ∧
    (s.nat .classTurret x y ≠ s.nat .streamTurret k → ∃ t, exec (.tableWrite k tag x y off d) s = .next t ∧
      t = { s with streams := t.streams } ∧
      (t.getStream k).recs = (s.getStream k).recs ++ [(true, mgmtRecord 0x04FF tag 0 0 0 [30])]))

/-! ## The Dome -/

/-- Digests and random bytes (R535, R540–R542, R555–R557, R560): a digest job joins its engine, and its end answers the digest and writes
it where asked; a handle is opened, fed, finished and dropped, and one that is not open gives `ER 50 CRYPTO`; a fill writes as many drawn
bytes as it names, at once in Open mode; a reseed starts the count again; a failed health test is FAULT, told to the Keep, until a retest
passes. What the model chose for it: log entries 2, 4, 57, 111. -/
def Obligations.DigestsAndRandom : Prop :=
  (∀ (hd : Hdr) (n b off len : Nat) (s : State), s.begins hd (.digHash .sha256 none b off len none) = true →
    (s.getSess hd.sess).login = some n → b ≤ 31 → off + len ≤ 4096 → 1 ≤ len → s.isSealed = false → ∃ u : State,
    exec (.doDomeDigHash hd .sha256 none b off len none) s = .next u ∧
    u = { s with sess := u.sess, jobs := u.jobs, dome := u.dome } ∧ (u.getSess hd.sess).out = (s.getSess hd.sess).out ∧
    ∀ j : DigJob, j = { id := s.dome.nextId, turret := n, op := .hash .sha256 none b off len none, src := .traop (s.replyTo hd),
                        filed := s.sys.tick } →
      u.dome = { s.dome with nextId := s.dome.nextId + 1, jobs := joinDig j s.dome.jobs }) ∧
  (∀ (j : DigJob) (q : List DigJob), (∀ x, x ∈ q → x.filed = j.filed → x.started = none → x.src.rank ≤ j.src.rank) →
    joinDig j q = q ++ [j]) ∧
  (∀ (j x : DigJob) (q : List DigJob), x.filed = j.filed → x.started = none → j.src.rank < x.src.rank →
    joinDig j (x :: q) = j :: x :: q) ∧
  (∀ (hd : Hdr) (a : DigAlg) (k : Option Nat) (b off len : Int) (o : Option (Int × Int)) (s : State),
    s.begins hd (.digHash a k b off len o) = true → (b < 0 ∨ 31 < b ∨ off < 0 ∨ len < 1 ∨ 4096 < off + len) →
    ∃ t, exec (.doDomeDigHash hd a k b off len o) s = .next t ∧ t.refused s hd 21) ∧
  (∀ (hd : Hdr) (n h : Nat) (s : State), s.begins hd (.digStart .sha256 none) = true → (s.getSess hd.sess).login = some n →
    ((List.range 4).find? (fun h => !(s.getHandle n h).isOpen) = some h → ∃ t, exec (.doDomeDigStart hd .sha256 none) s = .next t ∧
      t = { s with sess := t.sess, jobs := t.jobs, dome := t.dome } ∧ t.answered s hd [] (.ok [.int h]) ∧
      t.getHandle n h = { isOpen := true, alg := .sha256, key := none, fed := [] } ∧
      (∀ q, q ≠ h → t.getHandle n q = s.getHandle n q) ∧ ∀ m, m ≠ n → t.getDomeTur m = s.getDomeTur m) ∧
    ((∀ h, h < 4 → (s.getHandle n h).isOpen = true) → ∃ t, exec (.doDomeDigStart hd .sha256 none) s = .next t ∧ t.refused s hd 40)) ∧
  (∀ (hd : Hdr) (n h b off len : Nat) (s : State), s.begins hd (.digUpdate h b off len) = true → (s.getSess hd.sess).login = some n →
    b ≤ 31 → off + len ≤ 4096 → 1 ≤ len → s.isSealed = false → s.handleOpen n h = true → ∃ u : State,
    exec (.doDomeDigUpdate hd h b off len) s = .next u ∧ u = { s with sess := u.sess, jobs := u.jobs, dome := u.dome } ∧
    ∀ j : DigJob, j = { id := s.dome.nextId, turret := n, op := .update h b off len, src := .traop (s.replyTo hd), filed := s.sys.tick } →
      u.dome = { s.dome with nextId := s.dome.nextId + 1, jobs := joinDig j s.dome.jobs }) ∧
  (∀ (hd : Hdr) (n h : Nat) (s : State), s.begins hd (.digFinal h none) = true → (s.getSess hd.sess).login = some n → s.isSealed = false →
    s.handleOpen n h = true → ∃ u : State,
    exec (.doDomeDigFinal hd h none) s = .next u ∧ u = { s with sess := u.sess, jobs := u.jobs, dome := u.dome } ∧
    ∀ j : DigJob, j = { id := s.dome.nextId, turret := n, op := .final h none, src := .traop (s.replyTo hd), filed := s.sys.tick } →
      u.dome = { s.dome with nextId := s.dome.nextId + 1, jobs := joinDig j s.dome.jobs }) ∧
  (∀ (hd : Hdr) (n : Nat) (h : Int) (s : State), s.begins hd (.digDrop h) = true → (s.getSess hd.sess).login = some n →
    (s.handleOpen n h = true → ∃ t, exec (.doDomeDigDrop hd h) s = .next t ∧ t = { s with sess := t.sess, jobs := t.jobs, dome := t.dome } ∧
      t.answered s hd [] (.ok []) ∧ t.getHandle n h.toNat = Handle.init) ∧
    (s.handleOpen n h = false → ∃ t, exec (.doDomeDigDrop hd h) s = .next t ∧
      t = { s with sess := t.sess, jobs := t.jobs, dome := t.dome } ∧ t.answered s hd [] (.er 50 []) ∧
      (t.getDomeTur n).crypto = satInc (s.getDomeTur n).crypto)) ∧
  (∀ (hd : Hdr) (n x y : Nat) (s : State), s.begins hd (.digTable x y) = true → (s.getSess hd.sess).login = some n →
    (s.nat .classTurret x y ≠ n → ∃ t, exec (.doDomeDigTable hd x y) s = .next t ∧ t.refused s hd 30) ∧
    (s.nat .classTurret x y = n → (s.getClassSlot (4 * x + y)).arrival = some tableBytes → ∃ t, exec (.doDomeDigTable hd x y) s = .next t ∧
      t = { s with sess := t.sess, jobs := t.jobs } ∧
      t.answered s hd [] (.ok [.bytes (sha256 (s.ram.read (stagedAddr (4 * x + y) 0) tableBytes))]))) ∧
  (∀ (i : Nat) (s : State), (∀ j, j ∈ s.dome.jobs → j.id = i → j.started = none) → exec (.digestJobComplete i) s = .next s) ∧
  (∀ (j : DigJob) (x : Tick) (s : State), s.dome.jobs = [j] → j.started = some x →
    s.sys.tick < x + (s.jobTicks j.turret j.op - if s.isSealed then 0 else 2 * usTicks) →
    exec (.digestJobComplete j.id) s = .next s) ∧
  (∀ (j : DigJob) (r : ReplyTo) (x : Tick) (s : State), s.dome.jobs = [j] → j.started = some x → j.src = .traop r →
    x + (s.jobTicks j.turret j.op - if s.isSealed then 0 else 2 * usTicks) ≤ s.sys.tick →
    ∀ i : Isl, i = { s.isl with auto05 := false, busy05 := s.sys.tick } →
    (∀ b off len o, j.op = .hash .sha256 none b off len (some o) → ∃ u : State, exec (.digestJobComplete j.id) s = .next u ∧
      u = (State.writeBlob { s with dome := { s.dome with jobs := [] }, isl := i } j.turret o.1 o.2 (sha256 j.msg)).ok r
        [.bytes (sha256 j.msg)]) ∧
    (∀ h b off len, j.op = .update h b off len → (s.getHandle j.turret h).isOpen = true → ∃ u : State,
      exec (.digestJobComplete j.id) s = .next (u.ok r []) ∧ u = { s with dome := u.dome, isl := i } ∧ u.dome.jobs = [] ∧
      u.getHandle j.turret h = { s.getHandle j.turret h with fed := (s.getHandle j.turret h).fed ++ j.msg }) ∧
    (∀ h, j.op = .final h none → (s.getHandle j.turret h).isOpen = true → (s.getHandle j.turret h).alg = .sha384 → ∃ u : State,
      exec (.digestJobComplete j.id) s = .next (u.ok r [.bytes (sha384 (s.getHandle j.turret h).fed)]) ∧
      u = { s with dome := u.dome, isl := i } ∧ u.dome.jobs = [] ∧ u.getHandle j.turret h = Handle.init) ∧
    (∀ h o, j.op = .final h o → (s.getHandle j.turret h).isOpen = false → ∃ u : State,
      exec (.digestJobComplete j.id) s = .next (u.er r 50) ∧ u = { s with dome := u.dome, isl := i } ∧
      (u.getDomeTur j.turret).crypto = satInc (s.getDomeTur j.turret).crypto)) ∧
  (∀ (hd : Hdr) (n b off len : Nat) (s : State), s.begins hd (.rngFill b off len) = true → (s.getSess hd.sess).login = some n → b ≤ 31 →
    off + len ≤ 4096 → 1 ≤ len → s.blobRoom n b = true → s.isSealed = false →
    (s.dome.rngFault = false → ∃ t, exec (.doDomeRngFill hd b off len) s = .next t ∧
      t = { s with sys := { s.sys with draws := s.sys.draws + 1 }, dome := { s.dome with rngReqs := s.dome.rngReqs + 1 },
                   ram := t.ram, mem := { s.mem with blobs := t.mem.blobs }, sess := t.sess, jobs := t.jobs } ∧
      t.answered s hd [] (.ok []) ∧ (∀ i, i < len → t.ram.byte (blobAddr n b off + i) = ((s.draw len)[i]?).getD 0) ∧
      (∀ a, (a < blobAddr n b off ∨ blobAddr n b off + len ≤ a) → t.ram.byte a = s.ram.byte a)) ∧
    (s.dome.rngFault = true → ∃ t, exec (.doDomeRngFill hd b off len) s = .next t ∧
      t = { s with dome := t.dome, sess := t.sess, jobs := t.jobs } ∧ t.answered s hd [] (.er 50 []))) ∧
  (∀ s : State, s.rngRuns = true → s.dome.rngFault = false →
    (65536 ≤ s.dome.rngReqs ∨ s.dome.reseedAt + 60 * secTicks ≤ s.sys.tick → exec .rngReseed s = .next { s with dome := { s.dome with
      rngReqs := 0, reseedAt := s.sys.tick, reseeds := satInc s.dome.reseeds } }) ∧
    (s.dome.rngReqs < 65536 → s.sys.tick < s.dome.reseedAt + 60 * secTicks → exec .rngReseed s = .next s) ∧
    ∃ t, exec .rngHealthFail s = .next t ∧ t = { s with sess := t.sess, dome := { s.dome with
      rngFault := true, testAt := some s.sys.tick, faults := satInc s.dome.faults } } ∧ t.told s .keep "dome" "rng-fault" []) ∧
  (∀ (a : Tick) (s : State), s.rngRuns = true → s.dome.rngFault = true → s.dome.testAt = some a →
    (a + secTicks ≤ s.sys.tick → exec (.rngRetest false) s = .next { s with dome := { s.dome with
        testAt := some s.sys.tick, faults := satInc s.dome.faults } } ∧
      ∃ t, exec (.rngRetest true) s = .next t ∧ t = { s with sess := t.sess, dome := { s.dome with
        rngFault := false, rngReqs := 0, reseedAt := s.sys.tick, testAt := none } } ∧ t.told s .keep "dome" "rng-ok" []) ∧
    (s.sys.tick < a + secTicks → ∀ b, exec (.rngRetest b) s = .next s)) ∧
  (∀ (s : State) (b : Bool), s.rngRuns = false → exec .rngReseed s = .next s ∧ exec .rngHealthFail s = .next s ∧
    exec (.rngRetest b) s = .next s)

/-- The public-key engine (R529, R535, R543–R549, R553, R554): an operation in range joins the queue, whose eight entries give `ER 40
BUSY` when full; the engine runs one at a time, which fetches its operands and files its request as it starts; its end gives the grant
back and answers, writes the blob at offset 512 or files the new key; a signature that fails its own check halts with cause 04; a bad
operand or key, and a claim whose ECDH fails (R529), is `ER 50 CRYPTO`; a claim that succeeds files the turret's claim; a microcode image
that fails its check after a diagnostic halts with cause 03 (R553), and a key that does not unwrap with 08. The self-test of the engine is
refused in Sealed, and where the rights or the state bar it. A frame start takes the Dome settings as they stand. What the model chose for
it: log entries 2, 4, 5, 12, 30, 57, 111. -/
def Obligations.PublicKeyEngineRuns : Prop :=
  (∀ (hd : Hdr) (c : Cmd) (i : Instr) (op : PkeOp) (n k b q : Nat) (cv : Curve) (s : State), s.begins hd c = true →
    (s.getSess hd.sess).login = some n → s.isSealed = false → s.dome.queue.length < 8 → k ≤ 7 → b ≤ 31 → 3 ≤ q → q ≤ 7 →
    s.blobRoom n b = true → (s.keySlot n q).kind = .empty →
    (i = .doDomePkeSign hd k b ∧ c = .pkeSign k b ∧ op = .sign k b ∨
     i = .doDomePkeVerify hd cv b ∧ c = .pkeVerify cv b ∧ op = .verify cv b ∨
     i = .doDomePkeKeygen hd cv q ∧ c = .pkeKeygen cv q ∧ op = .keygen cv q 0 ∨
     i = .doDomePkeEcdh hd k b none ∧ c = .pkeEcdh k b none ∧ op = .ecdh k b none ∨
     i = .doDomePkeEcdh hd k b (some q) ∧ c = .pkeEcdh k b (some q) ∧ op = .ecdh k b (some q) ∨
     i = .doDomePkePublic hd k ∧ c = .pkePublic k ∧ op = .pub k 0 ∨
     i = .doDomePkeDiag hd b ∧ c = .pkeDiag b ∧ op = .diag b ∧ n = 0 ∧ s.sys.state = .ready) →
    ∃ u : State, exec i s = .next u ∧ u = { s with sess := u.sess, jobs := u.jobs, dome := u.dome } ∧
      (u.getSess hd.sess).out = (s.getSess hd.sess).out ∧
      ∀ j : PkeJob, j = { id := s.dome.nextId, turret := n, op := op, src := .traop (s.replyTo hd), filed := s.sys.tick } →
        u.dome = { s.dome with nextId := s.dome.nextId + 1, queue := joinPke j s.dome.queue }) ∧
  (∀ (j : PkeJob) (q : List PkeJob), (∀ x, x ∈ q → x.filed = j.filed → x.started = none → x.src.rank ≤ j.src.rank) →
    joinPke j q = q ++ [j]) ∧
  (∀ (j x : PkeJob) (q : List PkeJob), x.filed = j.filed → x.started = none → j.src.rank < x.src.rank →
    joinPke j (x :: q) = j :: x :: q) ∧
  (∀ (hd : Hdr) (k b : Int) (n : Nat) (s : State), s.begins hd (.pkeSign k b) = true → (s.getSess hd.sess).login = some n →
    (k < 0 ∨ 7 < k ∨ b < 0 ∨ 31 < b → ∃ t, exec (.doDomePkeSign hd k b) s = .next t ∧ t.refused s hd 21) ∧
    (0 ≤ k → k ≤ 7 → 0 ≤ b → b ≤ 31 → s.blobRoom n b.toNat = true → s.isSealed = false → 8 ≤ s.dome.queue.length →
      ∃ t, exec (.doDomePkeSign hd k b) s = .next t ∧ t.refused s hd 40)) ∧
  (∀ (hd : Hdr) (b : Int) (s : State), s.begins hd (.pkeDiag b) = true → s.isSealed = true →
    ∃ t, exec (.doDomePkeDiag hd b) s = .next t ∧ t.refused s hd 23) ∧
  (∀ (hd : Hdr) (b : Int) (code : Nat) (s : State), s.barred hd (.pkeDiag b) code = true →
    ∃ t, exec (.doDomePkeDiag hd b) s = .next t ∧ t.refused s hd code) ∧
  (∀ (st tag k b n : Nat) (fs : List Byte) (s : State), s.mgmtOpen st = true → s.nat .streamTurret st = n → byteAt fs 0 = 5 →
    byteAt fs 2 = k → byteAt fs 3 = b → k ≤ 7 → b ≤ 31 → s.isSealed = false → s.dome.queue.length < 8 → ∀ j : PkeJob,
    j = { id := s.dome.nextId, turret := n, op := .pub k b, src := .mgmt st tag, filed := s.sys.tick } →
    exec (.mgmtDomeOperation st tag fs) s = .next
      { s with dome := { s.dome with nextId := s.dome.nextId + 1, queue := joinPke j s.dome.queue } }) ∧
  (∀ (j : PkeJob) (s : State), s.serving = true → s.dome.queue = [j] → s.dome.jobs = [] → j.started = none →
    s.domeMay j.turret (s.padTicks j.turret j.op) = true → ∃ j' q, s.domeNext.dome.queue = [j'] ∧ j'.id = j.id ∧ j'.op = j.op ∧
    j'.started = some s.sys.tick ∧ j'.msg = s.operands j.turret j.op ∧
    (q ∈ s.domeNext.ledger.reqs ∨ q ∈ s.domeNext.ledger.grants) ∧ q.what = .pkeOp j.id ∧ q.cls = .pke) ∧
  (∀ (j : PkeJob) (s : State), s.dome.queue = [j] → j.started.isSome = true → s.domeNext.dome.queue = [j]) ∧
  (∀ (len : Nat) (s : State), s.serving = true → len = s.nat .domeFrameMs * msTicks →
    (s.isSealed = false → s.dome.frame + s.dome.frameMs * msTicks ≤ s.sys.tick / len * len →
      exec .domeFrameStart s = .next
      (s.onDome fun d => { d with
        part := false, frame := s.sys.tick / len * len, frameMs := s.nat .domeFrameMs,
        sched := (List.range 8).map fun k => DomeSlot.mk (s.nat .domeSlotTurret k) (s.nat .domeSlotMs k) (s.nat .domeSlotQueue k) })) ∧
    (s.sys.tick / len * len < s.dome.frame + s.dome.frameMs * msTicks →
      exec .domeFrameStart s = .next s)) ∧
  (∀ s : State, s.serving = false → exec .domeFrameStart s = .next s) ∧
  (∀ (x : PkeIn) (s : State), (∀ j, j ∈ s.dome.queue → j.started = none ∨ j.granted = false) →
    exec (.pkeOperationComplete x) s = .next s) ∧
  (∀ (x : PkeIn) (j : PkeJob) (a : Tick) (s : State), s.dome.queue = [j] → j.started = some a → s.isSealed = true →
    s.sys.tick < a + s.padTicks j.turret j.op → exec (.pkeOperationComplete x) s = .next s) ∧
  (∀ (x : PkeIn) (j : PkeJob) (s : State), s.dome.queue = [j] → j.started.isSome = true → j.granted = true → j.writing = false →
    s.isSealed = false → s.sys.state = .ready →
    (j.recheck = true → x.imageOk = false → ∃ t, exec (.pkeOperationComplete x) s = .next t ∧ t.sys.state = .halted ∧
      t.sys.halt = some { cause := causeMicrocode, tick := s.sys.tick }) ∧
    (∀ k, j.recheck = false → unwraps j.turret x.wrap = false → (∃ b, j.op = .sign k b ∨ j.op = .pub k b) →
      ∃ t, exec (.pkeOperationComplete x) s = .next t ∧ t.sys.state = .halted ∧
      t.sys.halt = some { cause := causeKeyStore, tick := s.sys.tick })) ∧
  (∀ (j : PkeJob) (r : ReplyTo) (s : State), s.dome.queue = [j] → j.started.isSome = true → j.granted = true → j.writing = false →
    s.isSealed = false → j.src = .traop r → ∃ u : State,
    u = { s with ledger := { s.ledger with grants := s.ledger.grants.filter fun q => decide (q.what ≠ .pkeOp j.id) }, dome := u.dome,
                 isl := { s.isl with auto06 := false, busy06 := s.sys.tick }, nv := { s.nv with unwrapBad := false } } ∧
    u.dome.queue = [] ∧ (u.getDomeTur j.turret).ops = satInc (s.getDomeTur j.turret).ops ∧
    (∀ k b, j.op = .sign k b → (s.keySlot j.turret k).ecOk = true → s.dome.rngFault = false →
      (exec (.pkeOperationComplete ⟨true, none, true⟩) s = .next (((u.useDraw.writeBlob j.turret b 512 (ecdsaSign
        (s.keySlot j.turret k).curve (s.keySlot j.turret k).key (j.msg.take (curveBytes (s.keySlot j.turret k).curve))
        (s.draw 32))).ok r []))) ∧
      (s.sys.state = .ready → ∃ t, exec (.pkeOperationComplete ⟨false, none, true⟩) s = .next t ∧ t.sys.state = .halted ∧
        t.sys.halt = some { cause := 4, tick := s.sys.tick })) ∧
    ((∃ k b, j.op = .sign k b ∧ (s.keySlot j.turret k).ecOk = false) ∨
     (∃ n key w, j.op = .claim n key w ∧ (s.getTurret n).state = .created) → ∃ v : State,
      exec (.pkeOperationComplete ⟨false, none, true⟩) s = .next (v.er r 50) ∧ v = { u with dome := v.dome } ∧
      (v.getDomeTur j.turret).crypto = satInc (s.getDomeTur j.turret).crypto) ∧
    (∀ cv k b, j.op = .keygen cv k b → s.dome.rngFault = false → s.slotFree j.turret k = true → ∃ v : State,
      exec (.pkeOperationComplete ⟨true, none, true⟩) s = .next v ∧ v.nv = { s.nv with
        unwrapBad := false, writes := s.nv.writes ++
        [{ record := .keystore, body := .none, reply := some (.traop r), turret := r.turret.getD 0,
           done := .bytes (publicKey cv (keygen cv (s.draw 64))),
           onCommit := .ks (.slot j.turret k ⟨ecKind cv, keygen cv (s.draw 64)⟩) }] } ∧
      v.dome.queue = [{ j with writing := true }]) ∧
    (∀ n key w, j.op = .claim n key w → (s.getTurret n).state = .created → ∃ v : State,
      exec (.pkeOperationComplete ⟨true, none, true⟩) s = .next v ∧ v.nv = { s.nv with
        unwrapBad := false, writes := s.nv.writes ++
        [{ record := .keystore, body := .none, reply := some (.traop r), turret := n, done := .nonce w,
           onCommit := .ks (.claim n key (kdf (ecdhX .p384 deviceKey key) "KZ-CLAIM" (BitVec.ofNat 8 n :: w) 32)) }] } ∧
      v.dome.queue = [{ j with writing := true }]) ∧
    (∀ k b, j.op = .pub k b → (s.keySlot j.turret k).ecOk = true →
      exec (.pkeOperationComplete ⟨true, none, true⟩) s = .next
        (u.ok r [.bytes (publicKey (s.keySlot j.turret k).curve (s.keySlot j.turret k).key)])))
end

