-- ==== Sys2Proof/Laws/Map.lean ====
section
/-! SUPPORT. Laws of sparse maps and of byte memory: what a key reads as after a write, and that every operation keeps the canonical
form. The laws of reading hold for every map, canonical or not. -/

namespace Sys2Proof

variable {α : Type}

/-! ## Reading after a write -/

theorem SMap.find_del_self (m : SMap α) (k : Nat) : SMap.find (SMap.del m k) k = none := by
  induction m with
  | nil => rfl
  | cons p m ih => obtain ⟨a, x⟩ := p; by_cases h : a = k <;> simp [SMap.del, SMap.find, h, ih]

theorem SMap.find_del_other (m : SMap α) {k q : Nat} (h : q ≠ k) : SMap.find (SMap.del m k) q = SMap.find m q := by
  induction m with
  | nil => rfl
  | cons p m ih =>
    obtain ⟨a, x⟩ := p
    by_cases hk : a = k
    · subst hk; simp [SMap.del, SMap.find, ih, Ne.symm h]
    · simp [SMap.del, SMap.find, hk, ih]

theorem SMap.find_ins_self (m : SMap α) (k : Nat) (x : α) : SMap.find (SMap.ins m k x) k = some x := by
  induction m with
  | nil => simp [SMap.ins, SMap.find]
  | cons p m ih =>
    obtain ⟨a, y⟩ := p
    by_cases h : k < a
    · simp [SMap.ins, SMap.find, h]
    · by_cases e : k = a
      · simp [SMap.ins, SMap.find, e]
      · simp [SMap.ins, SMap.find, h, e, Ne.symm e, ih]

theorem SMap.find_ins_other (m : SMap α) {k q : Nat} (x : α) (h : q ≠ k) :
    SMap.find (SMap.ins m k x) q = SMap.find m q := by
  induction m with
  | nil => simp [SMap.ins, SMap.find, Ne.symm h]
  | cons p m ih =>
    obtain ⟨a, y⟩ := p
    by_cases h1 : k < a
    · simp [SMap.ins, SMap.find, h1, Ne.symm h]
    · by_cases e : k = a
      · subst e; simp [SMap.ins, SMap.find, Ne.symm h]
      · simp [SMap.ins, SMap.find, h1, e, ih]

@[simp] theorem SMap.look_put_self [DecidableEq α] (d : α) (m : SMap α) (k : Nat) (x : α) :
    SMap.look d (SMap.put d m k x) k = x := by
  by_cases h : x = d
  · simp [SMap.look, SMap.put, h, SMap.find_del_self]
  · simp [SMap.look, SMap.put, h, SMap.find_ins_self]

theorem SMap.look_put_other [DecidableEq α] (d : α) (m : SMap α) {k q : Nat} (x : α) (h : q ≠ k) :
    SMap.look d (SMap.put d m k x) q = SMap.look d m q := by
  by_cases hx : x = d
  · simp [SMap.look, SMap.put, hx, SMap.find_del_other m h]
  · simp [SMap.look, SMap.put, hx, SMap.find_ins_other m x h]

theorem SMap.look_put [DecidableEq α] (d : α) (m : SMap α) (k q : Nat) (x : α) :
    SMap.look d (SMap.put d m k x) q = if q = k then x else SMap.look d m q := by
  by_cases h : q = k
  · subst h; simp
  · simp [h, SMap.look_put_other d m x h]

/-! ## The canonical form -/

/-- Every key of a map lies above a bound. -/
def SMap.above : Option Nat → SMap α → Prop
  | none, _ => True
  | some l, m => ∀ p ∈ m, l < p.1

theorem SMap.sorted_weaken {m : SMap α} {a b : Nat} (h : a ≤ b) (hs : SMap.sortedFrom (some b) m = true) :
    SMap.sortedFrom (some a) m = true := by
  cases m with
  | nil => rfl
  | cons p m => simp [SMap.sortedFrom] at hs ⊢; exact ⟨by omega, hs.2⟩

theorem SMap.sorted_none {m : SMap α} {b : Nat} (hs : SMap.sortedFrom (some b) m = true) : SMap.sortedFrom none m = true := by
  cases m with
  | nil => rfl
  | cons p m => simp [SMap.sortedFrom] at hs ⊢; exact hs.2

theorem SMap.sorted_filter (p : Nat × α → Bool) (m : SMap α) :
    ∀ l : Nat, SMap.sortedFrom (some l) m = true → SMap.sortedFrom (some l) (m.filter p) = true := by
  induction m with
  | nil => intro l _; rfl
  | cons e m ih =>
    intro l h
    simp [SMap.sortedFrom] at h
    by_cases hp : p e = true
    · simp [hp, SMap.sortedFrom, h.1, ih _ h.2]
    · simp [hp]; exact ih l (SMap.sorted_weaken (by omega) h.2)

theorem SMap.sorted_filter_none (p : Nat × α → Bool) (m : SMap α) (h : SMap.sortedFrom none m = true) :
    SMap.sortedFrom none (m.filter p) = true := by
  cases m with
  | nil => rfl
  | cons e m =>
    simp [SMap.sortedFrom] at h
    have hf := SMap.sorted_filter p m _ h
    by_cases hp : p e = true
    · simp [hp, SMap.sortedFrom, hf]
    · simp [hp]; exact SMap.sorted_none hf

theorem SMap.sorted_ins (m : SMap α) (k : Nat) (x : α) :
    ∀ l : Nat, l < k → SMap.sortedFrom (some l) m = true → SMap.sortedFrom (some l) (SMap.ins m k x) = true := by
  induction m with
  | nil => intro l hl _; simp [SMap.ins, SMap.sortedFrom, hl]
  | cons e m ih =>
    obtain ⟨a, y⟩ := e
    intro l hl h
    simp [SMap.sortedFrom] at h
    by_cases h1 : k < a
    · simp [SMap.ins, h1, SMap.sortedFrom, hl, h.2]
    · by_cases h2 : k = a
      · subst h2; simp [SMap.ins, SMap.sortedFrom, h.1, h.2]
      · simp [SMap.ins, h1, h2, SMap.sortedFrom, h.1]; exact ih a (by omega) h.2

theorem SMap.sorted_ins_none (m : SMap α) (k : Nat) (x : α) (h : SMap.sortedFrom none m = true) :
    SMap.sortedFrom none (SMap.ins m k x) = true := by
  cases m with
  | nil => rfl
  | cons e m =>
    obtain ⟨a, y⟩ := e
    simp [SMap.sortedFrom] at h
    by_cases h1 : k < a
    · simp [SMap.ins, h1, SMap.sortedFrom, h]
    · by_cases h2 : k = a
      · subst h2; simp [SMap.ins, SMap.sortedFrom, h]
      · simp [SMap.ins, h1, h2, SMap.sortedFrom]; exact SMap.sorted_ins m k x a (by omega) h

theorem SMap.del_eq_filter (m : SMap α) (k : Nat) : SMap.del m k = m.filter fun p => decide (p.1 ≠ k) := by
  induction m with
  | nil => rfl
  | cons e m ih => obtain ⟨a, y⟩ := e; by_cases h : a = k <;> simp [SMap.del, h, ih]

theorem SMap.mem_ins {m : SMap α} {k : Nat} {x : α} {p : Nat × α} (h : p ∈ SMap.ins m k x) : p = (k, x) ∨ p ∈ m := by
  induction m with
  | nil => simpa [SMap.ins] using h
  | cons e m ih =>
    obtain ⟨a, y⟩ := e
    by_cases h1 : k < a
    · simpa [SMap.ins, h1] using h
    · by_cases h2 : k = a
      · subst h2; simp [SMap.ins] at h; rcases h with h | h
        · exact .inl h
        · exact .inr (by simp [h])
      · simp [SMap.ins, h1, h2] at h; rcases h with h | h
        · exact .inr (by simp [h])
        · rcases ih h with h | h
          · exact .inl h
          · exact .inr (by simp [h])

/-- A filtered canonical map is canonical. -/
theorem SMap.wf_filter [DecidableEq α] {d : α} {m : SMap α} (p : Nat × α → Bool) (h : SMap.wf d m = true) :
    SMap.wf d (m.filter p) = true := by
  simp only [SMap.wf, Bool.and_eq_true, List.all_eq_true] at h ⊢
  exact ⟨SMap.sorted_filter_none p m h.1, fun x hx => h.2 x (List.mem_filter.1 hx).1⟩

/-- Writing a key keeps the canonical form. -/
theorem SMap.wf_put [DecidableEq α] {d : α} {m : SMap α} (k : Nat) (x : α) (h : SMap.wf d m = true) :
    SMap.wf d (SMap.put d m k x) = true := by
  by_cases hx : x = d
  · simp only [SMap.put, hx, if_true]; rw [SMap.del_eq_filter]; exact SMap.wf_filter _ h
  · simp only [SMap.put, hx, if_false]
    simp only [SMap.wf, Bool.and_eq_true, List.all_eq_true] at h ⊢
    refine ⟨SMap.sorted_ins_none m k x h.1, fun p hp => ?_⟩
    rcases SMap.mem_ins hp with e | e
    · simp [e, hx]
    · exact h.2 p e

/-! ## Memory -/

@[simp] theorem Ram.byte_setByte_self (m : Ram) (a : Nat) (b : Byte) : Ram.byte (Ram.setByte m a b) a = b := by
  simp [Ram.byte, Ram.setByte]

theorem Ram.byte_setByte_other (m : Ram) {a q : Nat} (b : Byte) (h : q ≠ a) :
    Ram.byte (Ram.setByte m a b) q = Ram.byte m q := SMap.look_put_other 0 m b h

theorem Ram.setByte_wf {m : Ram} (a : Nat) (b : Byte) (h : SMap.wf 0 m = true) : SMap.wf 0 (Ram.setByte m a b) = true :=
  SMap.wf_put a b h

/-- A write keeps the canonical form. -/
theorem Ram.write_wf (bs : List Byte) : ∀ {m : Ram} (a : Nat), SMap.wf 0 m = true → SMap.wf 0 (Ram.write m a bs) = true := by
  induction bs with
  | nil => intro m a h; exact h
  | cons b bs ih => intro m a h; exact ih (a + 1) (Ram.setByte_wf a b h)

/-- What flash holds of canonical memory is canonical. -/
theorem Ram.flash_wf (m : Ram) (h : SMap.wf 0 m = true) : SMap.wf 0 (Ram.flash m) = true := SMap.wf_filter _ h

/-- Zeroising keeps the canonical form. -/
theorem Ram.clear_wf {m : Ram} (a n : Nat) (h : SMap.wf 0 m = true) : SMap.wf 0 (Ram.clear m a n) = true :=
  SMap.wf_filter _ h

/-- A write leaves every byte outside it alone. -/
theorem Ram.byte_write_outside (bs : List Byte) :
    ∀ (m : Ram) (a q : Nat), q < a ∨ a + bs.length ≤ q → Ram.byte (Ram.write m a bs) q = Ram.byte m q := by
  induction bs with
  | nil => intro m a q _; rfl
  | cons b bs ih =>
    intro m a q h
    simp only [List.length_cons] at h
    rw [Ram.write, ih _ _ _ (by omega), Ram.byte_setByte_other m b (by omega)]

/-- A byte within a write reads as written. -/
theorem Ram.byte_write_inside (bs : List Byte) :
    ∀ (m : Ram) (a i : Nat) (h : i < bs.length), Ram.byte (Ram.write m a bs) (a + i) = bs[i] := by
  induction bs with
  | nil => intro m a i h; exact absurd h (by simp)
  | cons b bs ih =>
    intro m a i h
    cases i with
    | zero =>
      rw [Ram.write, Ram.byte_write_outside bs _ _ _ (by omega)]; simp
    | succ i =>
      have := ih (Ram.setByte m a b) (a + 1) i (by simpa using h)
      rw [Ram.write, show a + (i + 1) = a + 1 + i by omega, this]; rfl

end Sys2Proof
end

