-- ==== Sys2Proof/Laws/State.lean ====
section
/-! SUPPORT. What each update of the state does to each of its parts: one law for each part, true by unfolding, so that no proof
unfolds a record update; and what a numbered thing reads as after one of its kind has been changed. -/

namespace Sys2Proof.Machine

variable (s : State)

/-! ## `onPwr` -/

@[simp] theorem State.onPwr_pwr (f : Pwr → Pwr) : (s.onPwr f).pwr = f s.pwr := rfl
@[simp] theorem State.onPwr_sys (f : Pwr → Pwr) : (s.onPwr f).sys = s.sys := rfl
@[simp] theorem State.onPwr_isl (f : Pwr → Pwr) : (s.onPwr f).isl = s.isl := rfl
@[simp] theorem State.onPwr_ledger (f : Pwr → Pwr) : (s.onPwr f).ledger = s.ledger := rfl
@[simp] theorem State.onPwr_nv (f : Pwr → Pwr) : (s.onPwr f).nv = s.nv := rfl
@[simp] theorem State.onPwr_sess (f : Pwr → Pwr) : (s.onPwr f).sess = s.sess := rfl
@[simp] theorem State.onPwr_jobs (f : Pwr → Pwr) : (s.onPwr f).jobs = s.jobs := rfl
@[simp] theorem State.onPwr_serial (f : Pwr → Pwr) : (s.onPwr f).serial = s.serial := rfl
@[simp] theorem State.onPwr_tower (f : Pwr → Pwr) : (s.onPwr f).tower = s.tower := rfl
@[simp] theorem State.onPwr_ports (f : Pwr → Pwr) : (s.onPwr f).ports = s.ports := rfl
@[simp] theorem State.onPwr_streams (f : Pwr → Pwr) : (s.onPwr f).streams = s.streams := rfl
@[simp] theorem State.onPwr_feed (f : Pwr → Pwr) : (s.onPwr f).feed = s.feed := rfl
@[simp] theorem State.onPwr_seam (f : Pwr → Pwr) : (s.onPwr f).seam = s.seam := rfl
@[simp] theorem State.onPwr_capture (f : Pwr → Pwr) : (s.onPwr f).capture = s.capture := rfl
@[simp] theorem State.onPwr_heads (f : Pwr → Pwr) : (s.onPwr f).heads = s.heads := rfl
@[simp] theorem State.onPwr_lantern (f : Pwr → Pwr) : (s.onPwr f).lantern = s.lantern := rfl
@[simp] theorem State.onPwr_shadeTab (f : Pwr → Pwr) : (s.onPwr f).shadeTab = s.shadeTab := rfl
@[simp] theorem State.onPwr_track (f : Pwr → Pwr) : (s.onPwr f).track = s.track := rfl
@[simp] theorem State.onPwr_eject (f : Pwr → Pwr) : (s.onPwr f).eject = s.eject := rfl
@[simp] theorem State.onPwr_fe (f : Pwr → Pwr) : (s.onPwr f).fe = s.fe := rfl
@[simp] theorem State.onPwr_loops (f : Pwr → Pwr) : (s.onPwr f).loops = s.loops := rfl
@[simp] theorem State.onPwr_mem (f : Pwr → Pwr) : (s.onPwr f).mem = s.mem := rfl
@[simp] theorem State.onPwr_turrets (f : Pwr → Pwr) : (s.onPwr f).turrets = s.turrets := rfl
@[simp] theorem State.onPwr_dome (f : Pwr → Pwr) : (s.onPwr f).dome = s.dome := rfl
@[simp] theorem State.onPwr_cfg (f : Pwr → Pwr) : (s.onPwr f).cfg = s.cfg := rfl
@[simp] theorem State.onPwr_staged (f : Pwr → Pwr) : (s.onPwr f).staged = s.staged := rfl
@[simp] theorem State.onPwr_ram (f : Pwr → Pwr) : (s.onPwr f).ram = s.ram := rfl
@[simp] theorem State.onPwr_pending (f : Pwr → Pwr) : (s.onPwr f).pending = s.pending := rfl

/-! ## `onSys` -/

@[simp] theorem State.onSys_pwr (f : Sys → Sys) : (s.onSys f).pwr = s.pwr := rfl
@[simp] theorem State.onSys_sys (f : Sys → Sys) : (s.onSys f).sys = f s.sys := rfl
@[simp] theorem State.onSys_isl (f : Sys → Sys) : (s.onSys f).isl = s.isl := rfl
@[simp] theorem State.onSys_ledger (f : Sys → Sys) : (s.onSys f).ledger = s.ledger := rfl
@[simp] theorem State.onSys_nv (f : Sys → Sys) : (s.onSys f).nv = s.nv := rfl
@[simp] theorem State.onSys_sess (f : Sys → Sys) : (s.onSys f).sess = s.sess := rfl
@[simp] theorem State.onSys_jobs (f : Sys → Sys) : (s.onSys f).jobs = s.jobs := rfl
@[simp] theorem State.onSys_serial (f : Sys → Sys) : (s.onSys f).serial = s.serial := rfl
@[simp] theorem State.onSys_tower (f : Sys → Sys) : (s.onSys f).tower = s.tower := rfl
@[simp] theorem State.onSys_ports (f : Sys → Sys) : (s.onSys f).ports = s.ports := rfl
@[simp] theorem State.onSys_streams (f : Sys → Sys) : (s.onSys f).streams = s.streams := rfl
@[simp] theorem State.onSys_feed (f : Sys → Sys) : (s.onSys f).feed = s.feed := rfl
@[simp] theorem State.onSys_seam (f : Sys → Sys) : (s.onSys f).seam = s.seam := rfl
@[simp] theorem State.onSys_capture (f : Sys → Sys) : (s.onSys f).capture = s.capture := rfl
@[simp] theorem State.onSys_heads (f : Sys → Sys) : (s.onSys f).heads = s.heads := rfl
@[simp] theorem State.onSys_lantern (f : Sys → Sys) : (s.onSys f).lantern = s.lantern := rfl
@[simp] theorem State.onSys_shadeTab (f : Sys → Sys) : (s.onSys f).shadeTab = s.shadeTab := rfl
@[simp] theorem State.onSys_track (f : Sys → Sys) : (s.onSys f).track = s.track := rfl
@[simp] theorem State.onSys_eject (f : Sys → Sys) : (s.onSys f).eject = s.eject := rfl
@[simp] theorem State.onSys_fe (f : Sys → Sys) : (s.onSys f).fe = s.fe := rfl
@[simp] theorem State.onSys_loops (f : Sys → Sys) : (s.onSys f).loops = s.loops := rfl
@[simp] theorem State.onSys_mem (f : Sys → Sys) : (s.onSys f).mem = s.mem := rfl
@[simp] theorem State.onSys_turrets (f : Sys → Sys) : (s.onSys f).turrets = s.turrets := rfl
@[simp] theorem State.onSys_dome (f : Sys → Sys) : (s.onSys f).dome = s.dome := rfl
@[simp] theorem State.onSys_cfg (f : Sys → Sys) : (s.onSys f).cfg = s.cfg := rfl
@[simp] theorem State.onSys_staged (f : Sys → Sys) : (s.onSys f).staged = s.staged := rfl
@[simp] theorem State.onSys_ram (f : Sys → Sys) : (s.onSys f).ram = s.ram := rfl
@[simp] theorem State.onSys_pending (f : Sys → Sys) : (s.onSys f).pending = s.pending := rfl

/-! ## `onIsl` -/

@[simp] theorem State.onIsl_pwr (f : Isl → Isl) : (s.onIsl f).pwr = s.pwr := rfl
@[simp] theorem State.onIsl_sys (f : Isl → Isl) : (s.onIsl f).sys = s.sys := rfl
@[simp] theorem State.onIsl_isl (f : Isl → Isl) : (s.onIsl f).isl = f s.isl := rfl
@[simp] theorem State.onIsl_ledger (f : Isl → Isl) : (s.onIsl f).ledger = s.ledger := rfl
@[simp] theorem State.onIsl_nv (f : Isl → Isl) : (s.onIsl f).nv = s.nv := rfl
@[simp] theorem State.onIsl_sess (f : Isl → Isl) : (s.onIsl f).sess = s.sess := rfl
@[simp] theorem State.onIsl_jobs (f : Isl → Isl) : (s.onIsl f).jobs = s.jobs := rfl
@[simp] theorem State.onIsl_serial (f : Isl → Isl) : (s.onIsl f).serial = s.serial := rfl
@[simp] theorem State.onIsl_tower (f : Isl → Isl) : (s.onIsl f).tower = s.tower := rfl
@[simp] theorem State.onIsl_ports (f : Isl → Isl) : (s.onIsl f).ports = s.ports := rfl
@[simp] theorem State.onIsl_streams (f : Isl → Isl) : (s.onIsl f).streams = s.streams := rfl
@[simp] theorem State.onIsl_feed (f : Isl → Isl) : (s.onIsl f).feed = s.feed := rfl
@[simp] theorem State.onIsl_seam (f : Isl → Isl) : (s.onIsl f).seam = s.seam := rfl
@[simp] theorem State.onIsl_capture (f : Isl → Isl) : (s.onIsl f).capture = s.capture := rfl
@[simp] theorem State.onIsl_heads (f : Isl → Isl) : (s.onIsl f).heads = s.heads := rfl
@[simp] theorem State.onIsl_lantern (f : Isl → Isl) : (s.onIsl f).lantern = s.lantern := rfl
@[simp] theorem State.onIsl_shadeTab (f : Isl → Isl) : (s.onIsl f).shadeTab = s.shadeTab := rfl
@[simp] theorem State.onIsl_track (f : Isl → Isl) : (s.onIsl f).track = s.track := rfl
@[simp] theorem State.onIsl_eject (f : Isl → Isl) : (s.onIsl f).eject = s.eject := rfl
@[simp] theorem State.onIsl_fe (f : Isl → Isl) : (s.onIsl f).fe = s.fe := rfl
@[simp] theorem State.onIsl_loops (f : Isl → Isl) : (s.onIsl f).loops = s.loops := rfl
@[simp] theorem State.onIsl_mem (f : Isl → Isl) : (s.onIsl f).mem = s.mem := rfl
@[simp] theorem State.onIsl_turrets (f : Isl → Isl) : (s.onIsl f).turrets = s.turrets := rfl
@[simp] theorem State.onIsl_dome (f : Isl → Isl) : (s.onIsl f).dome = s.dome := rfl
@[simp] theorem State.onIsl_cfg (f : Isl → Isl) : (s.onIsl f).cfg = s.cfg := rfl
@[simp] theorem State.onIsl_staged (f : Isl → Isl) : (s.onIsl f).staged = s.staged := rfl
@[simp] theorem State.onIsl_ram (f : Isl → Isl) : (s.onIsl f).ram = s.ram := rfl
@[simp] theorem State.onIsl_pending (f : Isl → Isl) : (s.onIsl f).pending = s.pending := rfl

/-! ## `onLedger` -/

@[simp] theorem State.onLedger_pwr (f : Ledger → Ledger) : (s.onLedger f).pwr = s.pwr := rfl
@[simp] theorem State.onLedger_sys (f : Ledger → Ledger) : (s.onLedger f).sys = s.sys := rfl
@[simp] theorem State.onLedger_isl (f : Ledger → Ledger) : (s.onLedger f).isl = s.isl := rfl
@[simp] theorem State.onLedger_ledger (f : Ledger → Ledger) : (s.onLedger f).ledger = f s.ledger := rfl
@[simp] theorem State.onLedger_nv (f : Ledger → Ledger) : (s.onLedger f).nv = s.nv := rfl
@[simp] theorem State.onLedger_sess (f : Ledger → Ledger) : (s.onLedger f).sess = s.sess := rfl
@[simp] theorem State.onLedger_jobs (f : Ledger → Ledger) : (s.onLedger f).jobs = s.jobs := rfl
@[simp] theorem State.onLedger_serial (f : Ledger → Ledger) : (s.onLedger f).serial = s.serial := rfl
@[simp] theorem State.onLedger_tower (f : Ledger → Ledger) : (s.onLedger f).tower = s.tower := rfl
@[simp] theorem State.onLedger_ports (f : Ledger → Ledger) : (s.onLedger f).ports = s.ports := rfl
@[simp] theorem State.onLedger_streams (f : Ledger → Ledger) : (s.onLedger f).streams = s.streams := rfl
@[simp] theorem State.onLedger_feed (f : Ledger → Ledger) : (s.onLedger f).feed = s.feed := rfl
@[simp] theorem State.onLedger_seam (f : Ledger → Ledger) : (s.onLedger f).seam = s.seam := rfl
@[simp] theorem State.onLedger_capture (f : Ledger → Ledger) : (s.onLedger f).capture = s.capture := rfl
@[simp] theorem State.onLedger_heads (f : Ledger → Ledger) : (s.onLedger f).heads = s.heads := rfl
@[simp] theorem State.onLedger_lantern (f : Ledger → Ledger) : (s.onLedger f).lantern = s.lantern := rfl
@[simp] theorem State.onLedger_shadeTab (f : Ledger → Ledger) : (s.onLedger f).shadeTab = s.shadeTab := rfl
@[simp] theorem State.onLedger_track (f : Ledger → Ledger) : (s.onLedger f).track = s.track := rfl
@[simp] theorem State.onLedger_eject (f : Ledger → Ledger) : (s.onLedger f).eject = s.eject := rfl
@[simp] theorem State.onLedger_fe (f : Ledger → Ledger) : (s.onLedger f).fe = s.fe := rfl
@[simp] theorem State.onLedger_loops (f : Ledger → Ledger) : (s.onLedger f).loops = s.loops := rfl
@[simp] theorem State.onLedger_mem (f : Ledger → Ledger) : (s.onLedger f).mem = s.mem := rfl
@[simp] theorem State.onLedger_turrets (f : Ledger → Ledger) : (s.onLedger f).turrets = s.turrets := rfl
@[simp] theorem State.onLedger_dome (f : Ledger → Ledger) : (s.onLedger f).dome = s.dome := rfl
@[simp] theorem State.onLedger_cfg (f : Ledger → Ledger) : (s.onLedger f).cfg = s.cfg := rfl
@[simp] theorem State.onLedger_staged (f : Ledger → Ledger) : (s.onLedger f).staged = s.staged := rfl
@[simp] theorem State.onLedger_ram (f : Ledger → Ledger) : (s.onLedger f).ram = s.ram := rfl
@[simp] theorem State.onLedger_pending (f : Ledger → Ledger) : (s.onLedger f).pending = s.pending := rfl

/-! ## `onNv` -/

@[simp] theorem State.onNv_pwr (f : Nv → Nv) : (s.onNv f).pwr = s.pwr := rfl
@[simp] theorem State.onNv_sys (f : Nv → Nv) : (s.onNv f).sys = s.sys := rfl
@[simp] theorem State.onNv_isl (f : Nv → Nv) : (s.onNv f).isl = s.isl := rfl
@[simp] theorem State.onNv_ledger (f : Nv → Nv) : (s.onNv f).ledger = s.ledger := rfl
@[simp] theorem State.onNv_nv (f : Nv → Nv) : (s.onNv f).nv = f s.nv := rfl
@[simp] theorem State.onNv_sess (f : Nv → Nv) : (s.onNv f).sess = s.sess := rfl
@[simp] theorem State.onNv_jobs (f : Nv → Nv) : (s.onNv f).jobs = s.jobs := rfl
@[simp] theorem State.onNv_serial (f : Nv → Nv) : (s.onNv f).serial = s.serial := rfl
@[simp] theorem State.onNv_tower (f : Nv → Nv) : (s.onNv f).tower = s.tower := rfl
@[simp] theorem State.onNv_ports (f : Nv → Nv) : (s.onNv f).ports = s.ports := rfl
@[simp] theorem State.onNv_streams (f : Nv → Nv) : (s.onNv f).streams = s.streams := rfl
@[simp] theorem State.onNv_feed (f : Nv → Nv) : (s.onNv f).feed = s.feed := rfl
@[simp] theorem State.onNv_seam (f : Nv → Nv) : (s.onNv f).seam = s.seam := rfl
@[simp] theorem State.onNv_capture (f : Nv → Nv) : (s.onNv f).capture = s.capture := rfl
@[simp] theorem State.onNv_heads (f : Nv → Nv) : (s.onNv f).heads = s.heads := rfl
@[simp] theorem State.onNv_lantern (f : Nv → Nv) : (s.onNv f).lantern = s.lantern := rfl
@[simp] theorem State.onNv_shadeTab (f : Nv → Nv) : (s.onNv f).shadeTab = s.shadeTab := rfl
@[simp] theorem State.onNv_track (f : Nv → Nv) : (s.onNv f).track = s.track := rfl
@[simp] theorem State.onNv_eject (f : Nv → Nv) : (s.onNv f).eject = s.eject := rfl
@[simp] theorem State.onNv_fe (f : Nv → Nv) : (s.onNv f).fe = s.fe := rfl
@[simp] theorem State.onNv_loops (f : Nv → Nv) : (s.onNv f).loops = s.loops := rfl
@[simp] theorem State.onNv_mem (f : Nv → Nv) : (s.onNv f).mem = s.mem := rfl
@[simp] theorem State.onNv_turrets (f : Nv → Nv) : (s.onNv f).turrets = s.turrets := rfl
@[simp] theorem State.onNv_dome (f : Nv → Nv) : (s.onNv f).dome = s.dome := rfl
@[simp] theorem State.onNv_cfg (f : Nv → Nv) : (s.onNv f).cfg = s.cfg := rfl
@[simp] theorem State.onNv_staged (f : Nv → Nv) : (s.onNv f).staged = s.staged := rfl
@[simp] theorem State.onNv_ram (f : Nv → Nv) : (s.onNv f).ram = s.ram := rfl
@[simp] theorem State.onNv_pending (f : Nv → Nv) : (s.onNv f).pending = s.pending := rfl

/-! ## `onSerial` -/

@[simp] theorem State.onSerial_pwr (f : Serial → Serial) : (s.onSerial f).pwr = s.pwr := rfl
@[simp] theorem State.onSerial_sys (f : Serial → Serial) : (s.onSerial f).sys = s.sys := rfl
@[simp] theorem State.onSerial_isl (f : Serial → Serial) : (s.onSerial f).isl = s.isl := rfl
@[simp] theorem State.onSerial_ledger (f : Serial → Serial) : (s.onSerial f).ledger = s.ledger := rfl
@[simp] theorem State.onSerial_nv (f : Serial → Serial) : (s.onSerial f).nv = s.nv := rfl
@[simp] theorem State.onSerial_sess (f : Serial → Serial) : (s.onSerial f).sess = s.sess := rfl
@[simp] theorem State.onSerial_jobs (f : Serial → Serial) : (s.onSerial f).jobs = s.jobs := rfl
@[simp] theorem State.onSerial_serial (f : Serial → Serial) : (s.onSerial f).serial = f s.serial := rfl
@[simp] theorem State.onSerial_tower (f : Serial → Serial) : (s.onSerial f).tower = s.tower := rfl
@[simp] theorem State.onSerial_ports (f : Serial → Serial) : (s.onSerial f).ports = s.ports := rfl
@[simp] theorem State.onSerial_streams (f : Serial → Serial) : (s.onSerial f).streams = s.streams := rfl
@[simp] theorem State.onSerial_feed (f : Serial → Serial) : (s.onSerial f).feed = s.feed := rfl
@[simp] theorem State.onSerial_seam (f : Serial → Serial) : (s.onSerial f).seam = s.seam := rfl
@[simp] theorem State.onSerial_capture (f : Serial → Serial) : (s.onSerial f).capture = s.capture := rfl
@[simp] theorem State.onSerial_heads (f : Serial → Serial) : (s.onSerial f).heads = s.heads := rfl
@[simp] theorem State.onSerial_lantern (f : Serial → Serial) : (s.onSerial f).lantern = s.lantern := rfl
@[simp] theorem State.onSerial_shadeTab (f : Serial → Serial) : (s.onSerial f).shadeTab = s.shadeTab := rfl
@[simp] theorem State.onSerial_track (f : Serial → Serial) : (s.onSerial f).track = s.track := rfl
@[simp] theorem State.onSerial_eject (f : Serial → Serial) : (s.onSerial f).eject = s.eject := rfl
@[simp] theorem State.onSerial_fe (f : Serial → Serial) : (s.onSerial f).fe = s.fe := rfl
@[simp] theorem State.onSerial_loops (f : Serial → Serial) : (s.onSerial f).loops = s.loops := rfl
@[simp] theorem State.onSerial_mem (f : Serial → Serial) : (s.onSerial f).mem = s.mem := rfl
@[simp] theorem State.onSerial_turrets (f : Serial → Serial) : (s.onSerial f).turrets = s.turrets := rfl
@[simp] theorem State.onSerial_dome (f : Serial → Serial) : (s.onSerial f).dome = s.dome := rfl
@[simp] theorem State.onSerial_cfg (f : Serial → Serial) : (s.onSerial f).cfg = s.cfg := rfl
@[simp] theorem State.onSerial_staged (f : Serial → Serial) : (s.onSerial f).staged = s.staged := rfl
@[simp] theorem State.onSerial_ram (f : Serial → Serial) : (s.onSerial f).ram = s.ram := rfl
@[simp] theorem State.onSerial_pending (f : Serial → Serial) : (s.onSerial f).pending = s.pending := rfl

/-! ## `onTower` -/

@[simp] theorem State.onTower_pwr (f : Tower → Tower) : (s.onTower f).pwr = s.pwr := rfl
@[simp] theorem State.onTower_sys (f : Tower → Tower) : (s.onTower f).sys = s.sys := rfl
@[simp] theorem State.onTower_isl (f : Tower → Tower) : (s.onTower f).isl = s.isl := rfl
@[simp] theorem State.onTower_ledger (f : Tower → Tower) : (s.onTower f).ledger = s.ledger := rfl
@[simp] theorem State.onTower_nv (f : Tower → Tower) : (s.onTower f).nv = s.nv := rfl
@[simp] theorem State.onTower_sess (f : Tower → Tower) : (s.onTower f).sess = s.sess := rfl
@[simp] theorem State.onTower_jobs (f : Tower → Tower) : (s.onTower f).jobs = s.jobs := rfl
@[simp] theorem State.onTower_serial (f : Tower → Tower) : (s.onTower f).serial = s.serial := rfl
@[simp] theorem State.onTower_tower (f : Tower → Tower) : (s.onTower f).tower = f s.tower := rfl
@[simp] theorem State.onTower_ports (f : Tower → Tower) : (s.onTower f).ports = s.ports := rfl
@[simp] theorem State.onTower_streams (f : Tower → Tower) : (s.onTower f).streams = s.streams := rfl
@[simp] theorem State.onTower_feed (f : Tower → Tower) : (s.onTower f).feed = s.feed := rfl
@[simp] theorem State.onTower_seam (f : Tower → Tower) : (s.onTower f).seam = s.seam := rfl
@[simp] theorem State.onTower_capture (f : Tower → Tower) : (s.onTower f).capture = s.capture := rfl
@[simp] theorem State.onTower_heads (f : Tower → Tower) : (s.onTower f).heads = s.heads := rfl
@[simp] theorem State.onTower_lantern (f : Tower → Tower) : (s.onTower f).lantern = s.lantern := rfl
@[simp] theorem State.onTower_shadeTab (f : Tower → Tower) : (s.onTower f).shadeTab = s.shadeTab := rfl
@[simp] theorem State.onTower_track (f : Tower → Tower) : (s.onTower f).track = s.track := rfl
@[simp] theorem State.onTower_eject (f : Tower → Tower) : (s.onTower f).eject = s.eject := rfl
@[simp] theorem State.onTower_fe (f : Tower → Tower) : (s.onTower f).fe = s.fe := rfl
@[simp] theorem State.onTower_loops (f : Tower → Tower) : (s.onTower f).loops = s.loops := rfl
@[simp] theorem State.onTower_mem (f : Tower → Tower) : (s.onTower f).mem = s.mem := rfl
@[simp] theorem State.onTower_turrets (f : Tower → Tower) : (s.onTower f).turrets = s.turrets := rfl
@[simp] theorem State.onTower_dome (f : Tower → Tower) : (s.onTower f).dome = s.dome := rfl
@[simp] theorem State.onTower_cfg (f : Tower → Tower) : (s.onTower f).cfg = s.cfg := rfl
@[simp] theorem State.onTower_staged (f : Tower → Tower) : (s.onTower f).staged = s.staged := rfl
@[simp] theorem State.onTower_ram (f : Tower → Tower) : (s.onTower f).ram = s.ram := rfl
@[simp] theorem State.onTower_pending (f : Tower → Tower) : (s.onTower f).pending = s.pending := rfl

/-! ## `onFeed` -/

@[simp] theorem State.onFeed_pwr (f : Feed → Feed) : (s.onFeed f).pwr = s.pwr := rfl
@[simp] theorem State.onFeed_sys (f : Feed → Feed) : (s.onFeed f).sys = s.sys := rfl
@[simp] theorem State.onFeed_isl (f : Feed → Feed) : (s.onFeed f).isl = s.isl := rfl
@[simp] theorem State.onFeed_ledger (f : Feed → Feed) : (s.onFeed f).ledger = s.ledger := rfl
@[simp] theorem State.onFeed_nv (f : Feed → Feed) : (s.onFeed f).nv = s.nv := rfl
@[simp] theorem State.onFeed_sess (f : Feed → Feed) : (s.onFeed f).sess = s.sess := rfl
@[simp] theorem State.onFeed_jobs (f : Feed → Feed) : (s.onFeed f).jobs = s.jobs := rfl
@[simp] theorem State.onFeed_serial (f : Feed → Feed) : (s.onFeed f).serial = s.serial := rfl
@[simp] theorem State.onFeed_tower (f : Feed → Feed) : (s.onFeed f).tower = s.tower := rfl
@[simp] theorem State.onFeed_ports (f : Feed → Feed) : (s.onFeed f).ports = s.ports := rfl
@[simp] theorem State.onFeed_streams (f : Feed → Feed) : (s.onFeed f).streams = s.streams := rfl
@[simp] theorem State.onFeed_feed (f : Feed → Feed) : (s.onFeed f).feed = f s.feed := rfl
@[simp] theorem State.onFeed_seam (f : Feed → Feed) : (s.onFeed f).seam = s.seam := rfl
@[simp] theorem State.onFeed_capture (f : Feed → Feed) : (s.onFeed f).capture = s.capture := rfl
@[simp] theorem State.onFeed_heads (f : Feed → Feed) : (s.onFeed f).heads = s.heads := rfl
@[simp] theorem State.onFeed_lantern (f : Feed → Feed) : (s.onFeed f).lantern = s.lantern := rfl
@[simp] theorem State.onFeed_shadeTab (f : Feed → Feed) : (s.onFeed f).shadeTab = s.shadeTab := rfl
@[simp] theorem State.onFeed_track (f : Feed → Feed) : (s.onFeed f).track = s.track := rfl
@[simp] theorem State.onFeed_eject (f : Feed → Feed) : (s.onFeed f).eject = s.eject := rfl
@[simp] theorem State.onFeed_fe (f : Feed → Feed) : (s.onFeed f).fe = s.fe := rfl
@[simp] theorem State.onFeed_loops (f : Feed → Feed) : (s.onFeed f).loops = s.loops := rfl
@[simp] theorem State.onFeed_mem (f : Feed → Feed) : (s.onFeed f).mem = s.mem := rfl
@[simp] theorem State.onFeed_turrets (f : Feed → Feed) : (s.onFeed f).turrets = s.turrets := rfl
@[simp] theorem State.onFeed_dome (f : Feed → Feed) : (s.onFeed f).dome = s.dome := rfl
@[simp] theorem State.onFeed_cfg (f : Feed → Feed) : (s.onFeed f).cfg = s.cfg := rfl
@[simp] theorem State.onFeed_staged (f : Feed → Feed) : (s.onFeed f).staged = s.staged := rfl
@[simp] theorem State.onFeed_ram (f : Feed → Feed) : (s.onFeed f).ram = s.ram := rfl
@[simp] theorem State.onFeed_pending (f : Feed → Feed) : (s.onFeed f).pending = s.pending := rfl

/-! ## `onSeam` -/

@[simp] theorem State.onSeam_pwr (f : Seam → Seam) : (s.onSeam f).pwr = s.pwr := rfl
@[simp] theorem State.onSeam_sys (f : Seam → Seam) : (s.onSeam f).sys = s.sys := rfl
@[simp] theorem State.onSeam_isl (f : Seam → Seam) : (s.onSeam f).isl = s.isl := rfl
@[simp] theorem State.onSeam_ledger (f : Seam → Seam) : (s.onSeam f).ledger = s.ledger := rfl
@[simp] theorem State.onSeam_nv (f : Seam → Seam) : (s.onSeam f).nv = s.nv := rfl
@[simp] theorem State.onSeam_sess (f : Seam → Seam) : (s.onSeam f).sess = s.sess := rfl
@[simp] theorem State.onSeam_jobs (f : Seam → Seam) : (s.onSeam f).jobs = s.jobs := rfl
@[simp] theorem State.onSeam_serial (f : Seam → Seam) : (s.onSeam f).serial = s.serial := rfl
@[simp] theorem State.onSeam_tower (f : Seam → Seam) : (s.onSeam f).tower = s.tower := rfl
@[simp] theorem State.onSeam_ports (f : Seam → Seam) : (s.onSeam f).ports = s.ports := rfl
@[simp] theorem State.onSeam_streams (f : Seam → Seam) : (s.onSeam f).streams = s.streams := rfl
@[simp] theorem State.onSeam_feed (f : Seam → Seam) : (s.onSeam f).feed = s.feed := rfl
@[simp] theorem State.onSeam_seam (f : Seam → Seam) : (s.onSeam f).seam = f s.seam := rfl
@[simp] theorem State.onSeam_capture (f : Seam → Seam) : (s.onSeam f).capture = s.capture := rfl
@[simp] theorem State.onSeam_heads (f : Seam → Seam) : (s.onSeam f).heads = s.heads := rfl
@[simp] theorem State.onSeam_lantern (f : Seam → Seam) : (s.onSeam f).lantern = s.lantern := rfl
@[simp] theorem State.onSeam_shadeTab (f : Seam → Seam) : (s.onSeam f).shadeTab = s.shadeTab := rfl
@[simp] theorem State.onSeam_track (f : Seam → Seam) : (s.onSeam f).track = s.track := rfl
@[simp] theorem State.onSeam_eject (f : Seam → Seam) : (s.onSeam f).eject = s.eject := rfl
@[simp] theorem State.onSeam_fe (f : Seam → Seam) : (s.onSeam f).fe = s.fe := rfl
@[simp] theorem State.onSeam_loops (f : Seam → Seam) : (s.onSeam f).loops = s.loops := rfl
@[simp] theorem State.onSeam_mem (f : Seam → Seam) : (s.onSeam f).mem = s.mem := rfl
@[simp] theorem State.onSeam_turrets (f : Seam → Seam) : (s.onSeam f).turrets = s.turrets := rfl
@[simp] theorem State.onSeam_dome (f : Seam → Seam) : (s.onSeam f).dome = s.dome := rfl
@[simp] theorem State.onSeam_cfg (f : Seam → Seam) : (s.onSeam f).cfg = s.cfg := rfl
@[simp] theorem State.onSeam_staged (f : Seam → Seam) : (s.onSeam f).staged = s.staged := rfl
@[simp] theorem State.onSeam_ram (f : Seam → Seam) : (s.onSeam f).ram = s.ram := rfl
@[simp] theorem State.onSeam_pending (f : Seam → Seam) : (s.onSeam f).pending = s.pending := rfl

/-! ## `onCapture` -/

@[simp] theorem State.onCapture_pwr (f : Capture → Capture) : (s.onCapture f).pwr = s.pwr := rfl
@[simp] theorem State.onCapture_sys (f : Capture → Capture) : (s.onCapture f).sys = s.sys := rfl
@[simp] theorem State.onCapture_isl (f : Capture → Capture) : (s.onCapture f).isl = s.isl := rfl
@[simp] theorem State.onCapture_ledger (f : Capture → Capture) : (s.onCapture f).ledger = s.ledger := rfl
@[simp] theorem State.onCapture_nv (f : Capture → Capture) : (s.onCapture f).nv = s.nv := rfl
@[simp] theorem State.onCapture_sess (f : Capture → Capture) : (s.onCapture f).sess = s.sess := rfl
@[simp] theorem State.onCapture_jobs (f : Capture → Capture) : (s.onCapture f).jobs = s.jobs := rfl
@[simp] theorem State.onCapture_serial (f : Capture → Capture) : (s.onCapture f).serial = s.serial := rfl
@[simp] theorem State.onCapture_tower (f : Capture → Capture) : (s.onCapture f).tower = s.tower := rfl
@[simp] theorem State.onCapture_ports (f : Capture → Capture) : (s.onCapture f).ports = s.ports := rfl
@[simp] theorem State.onCapture_streams (f : Capture → Capture) : (s.onCapture f).streams = s.streams := rfl
@[simp] theorem State.onCapture_feed (f : Capture → Capture) : (s.onCapture f).feed = s.feed := rfl
@[simp] theorem State.onCapture_seam (f : Capture → Capture) : (s.onCapture f).seam = s.seam := rfl
@[simp] theorem State.onCapture_capture (f : Capture → Capture) : (s.onCapture f).capture = f s.capture := rfl
@[simp] theorem State.onCapture_heads (f : Capture → Capture) : (s.onCapture f).heads = s.heads := rfl
@[simp] theorem State.onCapture_lantern (f : Capture → Capture) : (s.onCapture f).lantern = s.lantern := rfl
@[simp] theorem State.onCapture_shadeTab (f : Capture → Capture) : (s.onCapture f).shadeTab = s.shadeTab := rfl
@[simp] theorem State.onCapture_track (f : Capture → Capture) : (s.onCapture f).track = s.track := rfl
@[simp] theorem State.onCapture_eject (f : Capture → Capture) : (s.onCapture f).eject = s.eject := rfl
@[simp] theorem State.onCapture_fe (f : Capture → Capture) : (s.onCapture f).fe = s.fe := rfl
@[simp] theorem State.onCapture_loops (f : Capture → Capture) : (s.onCapture f).loops = s.loops := rfl
@[simp] theorem State.onCapture_mem (f : Capture → Capture) : (s.onCapture f).mem = s.mem := rfl
@[simp] theorem State.onCapture_turrets (f : Capture → Capture) : (s.onCapture f).turrets = s.turrets := rfl
@[simp] theorem State.onCapture_dome (f : Capture → Capture) : (s.onCapture f).dome = s.dome := rfl
@[simp] theorem State.onCapture_cfg (f : Capture → Capture) : (s.onCapture f).cfg = s.cfg := rfl
@[simp] theorem State.onCapture_staged (f : Capture → Capture) : (s.onCapture f).staged = s.staged := rfl
@[simp] theorem State.onCapture_ram (f : Capture → Capture) : (s.onCapture f).ram = s.ram := rfl
@[simp] theorem State.onCapture_pending (f : Capture → Capture) : (s.onCapture f).pending = s.pending := rfl

/-! ## `onLantern` -/

@[simp] theorem State.onLantern_pwr (f : Lantern → Lantern) : (s.onLantern f).pwr = s.pwr := rfl
@[simp] theorem State.onLantern_sys (f : Lantern → Lantern) : (s.onLantern f).sys = s.sys := rfl
@[simp] theorem State.onLantern_isl (f : Lantern → Lantern) : (s.onLantern f).isl = s.isl := rfl
@[simp] theorem State.onLantern_ledger (f : Lantern → Lantern) : (s.onLantern f).ledger = s.ledger := rfl
@[simp] theorem State.onLantern_nv (f : Lantern → Lantern) : (s.onLantern f).nv = s.nv := rfl
@[simp] theorem State.onLantern_sess (f : Lantern → Lantern) : (s.onLantern f).sess = s.sess := rfl
@[simp] theorem State.onLantern_jobs (f : Lantern → Lantern) : (s.onLantern f).jobs = s.jobs := rfl
@[simp] theorem State.onLantern_serial (f : Lantern → Lantern) : (s.onLantern f).serial = s.serial := rfl
@[simp] theorem State.onLantern_tower (f : Lantern → Lantern) : (s.onLantern f).tower = s.tower := rfl
@[simp] theorem State.onLantern_ports (f : Lantern → Lantern) : (s.onLantern f).ports = s.ports := rfl
@[simp] theorem State.onLantern_streams (f : Lantern → Lantern) : (s.onLantern f).streams = s.streams := rfl
@[simp] theorem State.onLantern_feed (f : Lantern → Lantern) : (s.onLantern f).feed = s.feed := rfl
@[simp] theorem State.onLantern_seam (f : Lantern → Lantern) : (s.onLantern f).seam = s.seam := rfl
@[simp] theorem State.onLantern_capture (f : Lantern → Lantern) : (s.onLantern f).capture = s.capture := rfl
@[simp] theorem State.onLantern_heads (f : Lantern → Lantern) : (s.onLantern f).heads = s.heads := rfl
@[simp] theorem State.onLantern_lantern (f : Lantern → Lantern) : (s.onLantern f).lantern = f s.lantern := rfl
@[simp] theorem State.onLantern_shadeTab (f : Lantern → Lantern) : (s.onLantern f).shadeTab = s.shadeTab := rfl
@[simp] theorem State.onLantern_track (f : Lantern → Lantern) : (s.onLantern f).track = s.track := rfl
@[simp] theorem State.onLantern_eject (f : Lantern → Lantern) : (s.onLantern f).eject = s.eject := rfl
@[simp] theorem State.onLantern_fe (f : Lantern → Lantern) : (s.onLantern f).fe = s.fe := rfl
@[simp] theorem State.onLantern_loops (f : Lantern → Lantern) : (s.onLantern f).loops = s.loops := rfl
@[simp] theorem State.onLantern_mem (f : Lantern → Lantern) : (s.onLantern f).mem = s.mem := rfl
@[simp] theorem State.onLantern_turrets (f : Lantern → Lantern) : (s.onLantern f).turrets = s.turrets := rfl
@[simp] theorem State.onLantern_dome (f : Lantern → Lantern) : (s.onLantern f).dome = s.dome := rfl
@[simp] theorem State.onLantern_cfg (f : Lantern → Lantern) : (s.onLantern f).cfg = s.cfg := rfl
@[simp] theorem State.onLantern_staged (f : Lantern → Lantern) : (s.onLantern f).staged = s.staged := rfl
@[simp] theorem State.onLantern_ram (f : Lantern → Lantern) : (s.onLantern f).ram = s.ram := rfl
@[simp] theorem State.onLantern_pending (f : Lantern → Lantern) : (s.onLantern f).pending = s.pending := rfl

/-! ## `onTrack` -/

@[simp] theorem State.onTrack_pwr (f : Track → Track) : (s.onTrack f).pwr = s.pwr := rfl
@[simp] theorem State.onTrack_sys (f : Track → Track) : (s.onTrack f).sys = s.sys := rfl
@[simp] theorem State.onTrack_isl (f : Track → Track) : (s.onTrack f).isl = s.isl := rfl
@[simp] theorem State.onTrack_ledger (f : Track → Track) : (s.onTrack f).ledger = s.ledger := rfl
@[simp] theorem State.onTrack_nv (f : Track → Track) : (s.onTrack f).nv = s.nv := rfl
@[simp] theorem State.onTrack_sess (f : Track → Track) : (s.onTrack f).sess = s.sess := rfl
@[simp] theorem State.onTrack_jobs (f : Track → Track) : (s.onTrack f).jobs = s.jobs := rfl
@[simp] theorem State.onTrack_serial (f : Track → Track) : (s.onTrack f).serial = s.serial := rfl
@[simp] theorem State.onTrack_tower (f : Track → Track) : (s.onTrack f).tower = s.tower := rfl
@[simp] theorem State.onTrack_ports (f : Track → Track) : (s.onTrack f).ports = s.ports := rfl
@[simp] theorem State.onTrack_streams (f : Track → Track) : (s.onTrack f).streams = s.streams := rfl
@[simp] theorem State.onTrack_feed (f : Track → Track) : (s.onTrack f).feed = s.feed := rfl
@[simp] theorem State.onTrack_seam (f : Track → Track) : (s.onTrack f).seam = s.seam := rfl
@[simp] theorem State.onTrack_capture (f : Track → Track) : (s.onTrack f).capture = s.capture := rfl
@[simp] theorem State.onTrack_heads (f : Track → Track) : (s.onTrack f).heads = s.heads := rfl
@[simp] theorem State.onTrack_lantern (f : Track → Track) : (s.onTrack f).lantern = s.lantern := rfl
@[simp] theorem State.onTrack_shadeTab (f : Track → Track) : (s.onTrack f).shadeTab = s.shadeTab := rfl
@[simp] theorem State.onTrack_track (f : Track → Track) : (s.onTrack f).track = f s.track := rfl
@[simp] theorem State.onTrack_eject (f : Track → Track) : (s.onTrack f).eject = s.eject := rfl
@[simp] theorem State.onTrack_fe (f : Track → Track) : (s.onTrack f).fe = s.fe := rfl
@[simp] theorem State.onTrack_loops (f : Track → Track) : (s.onTrack f).loops = s.loops := rfl
@[simp] theorem State.onTrack_mem (f : Track → Track) : (s.onTrack f).mem = s.mem := rfl
@[simp] theorem State.onTrack_turrets (f : Track → Track) : (s.onTrack f).turrets = s.turrets := rfl
@[simp] theorem State.onTrack_dome (f : Track → Track) : (s.onTrack f).dome = s.dome := rfl
@[simp] theorem State.onTrack_cfg (f : Track → Track) : (s.onTrack f).cfg = s.cfg := rfl
@[simp] theorem State.onTrack_staged (f : Track → Track) : (s.onTrack f).staged = s.staged := rfl
@[simp] theorem State.onTrack_ram (f : Track → Track) : (s.onTrack f).ram = s.ram := rfl
@[simp] theorem State.onTrack_pending (f : Track → Track) : (s.onTrack f).pending = s.pending := rfl

/-! ## `onEject` -/

@[simp] theorem State.onEject_pwr (f : Eject → Eject) : (s.onEject f).pwr = s.pwr := rfl
@[simp] theorem State.onEject_sys (f : Eject → Eject) : (s.onEject f).sys = s.sys := rfl
@[simp] theorem State.onEject_isl (f : Eject → Eject) : (s.onEject f).isl = s.isl := rfl
@[simp] theorem State.onEject_ledger (f : Eject → Eject) : (s.onEject f).ledger = s.ledger := rfl
@[simp] theorem State.onEject_nv (f : Eject → Eject) : (s.onEject f).nv = s.nv := rfl
@[simp] theorem State.onEject_sess (f : Eject → Eject) : (s.onEject f).sess = s.sess := rfl
@[simp] theorem State.onEject_jobs (f : Eject → Eject) : (s.onEject f).jobs = s.jobs := rfl
@[simp] theorem State.onEject_serial (f : Eject → Eject) : (s.onEject f).serial = s.serial := rfl
@[simp] theorem State.onEject_tower (f : Eject → Eject) : (s.onEject f).tower = s.tower := rfl
@[simp] theorem State.onEject_ports (f : Eject → Eject) : (s.onEject f).ports = s.ports := rfl
@[simp] theorem State.onEject_streams (f : Eject → Eject) : (s.onEject f).streams = s.streams := rfl
@[simp] theorem State.onEject_feed (f : Eject → Eject) : (s.onEject f).feed = s.feed := rfl
@[simp] theorem State.onEject_seam (f : Eject → Eject) : (s.onEject f).seam = s.seam := rfl
@[simp] theorem State.onEject_capture (f : Eject → Eject) : (s.onEject f).capture = s.capture := rfl
@[simp] theorem State.onEject_heads (f : Eject → Eject) : (s.onEject f).heads = s.heads := rfl
@[simp] theorem State.onEject_lantern (f : Eject → Eject) : (s.onEject f).lantern = s.lantern := rfl
@[simp] theorem State.onEject_shadeTab (f : Eject → Eject) : (s.onEject f).shadeTab = s.shadeTab := rfl
@[simp] theorem State.onEject_track (f : Eject → Eject) : (s.onEject f).track = s.track := rfl
@[simp] theorem State.onEject_eject (f : Eject → Eject) : (s.onEject f).eject = f s.eject := rfl
@[simp] theorem State.onEject_fe (f : Eject → Eject) : (s.onEject f).fe = s.fe := rfl
@[simp] theorem State.onEject_loops (f : Eject → Eject) : (s.onEject f).loops = s.loops := rfl
@[simp] theorem State.onEject_mem (f : Eject → Eject) : (s.onEject f).mem = s.mem := rfl
@[simp] theorem State.onEject_turrets (f : Eject → Eject) : (s.onEject f).turrets = s.turrets := rfl
@[simp] theorem State.onEject_dome (f : Eject → Eject) : (s.onEject f).dome = s.dome := rfl
@[simp] theorem State.onEject_cfg (f : Eject → Eject) : (s.onEject f).cfg = s.cfg := rfl
@[simp] theorem State.onEject_staged (f : Eject → Eject) : (s.onEject f).staged = s.staged := rfl
@[simp] theorem State.onEject_ram (f : Eject → Eject) : (s.onEject f).ram = s.ram := rfl
@[simp] theorem State.onEject_pending (f : Eject → Eject) : (s.onEject f).pending = s.pending := rfl

/-! ## `onFe` -/

@[simp] theorem State.onFe_pwr (f : Fe → Fe) : (s.onFe f).pwr = s.pwr := rfl
@[simp] theorem State.onFe_sys (f : Fe → Fe) : (s.onFe f).sys = s.sys := rfl
@[simp] theorem State.onFe_isl (f : Fe → Fe) : (s.onFe f).isl = s.isl := rfl
@[simp] theorem State.onFe_ledger (f : Fe → Fe) : (s.onFe f).ledger = s.ledger := rfl
@[simp] theorem State.onFe_nv (f : Fe → Fe) : (s.onFe f).nv = s.nv := rfl
@[simp] theorem State.onFe_sess (f : Fe → Fe) : (s.onFe f).sess = s.sess := rfl
@[simp] theorem State.onFe_jobs (f : Fe → Fe) : (s.onFe f).jobs = s.jobs := rfl
@[simp] theorem State.onFe_serial (f : Fe → Fe) : (s.onFe f).serial = s.serial := rfl
@[simp] theorem State.onFe_tower (f : Fe → Fe) : (s.onFe f).tower = s.tower := rfl
@[simp] theorem State.onFe_ports (f : Fe → Fe) : (s.onFe f).ports = s.ports := rfl
@[simp] theorem State.onFe_streams (f : Fe → Fe) : (s.onFe f).streams = s.streams := rfl
@[simp] theorem State.onFe_feed (f : Fe → Fe) : (s.onFe f).feed = s.feed := rfl
@[simp] theorem State.onFe_seam (f : Fe → Fe) : (s.onFe f).seam = s.seam := rfl
@[simp] theorem State.onFe_capture (f : Fe → Fe) : (s.onFe f).capture = s.capture := rfl
@[simp] theorem State.onFe_heads (f : Fe → Fe) : (s.onFe f).heads = s.heads := rfl
@[simp] theorem State.onFe_lantern (f : Fe → Fe) : (s.onFe f).lantern = s.lantern := rfl
@[simp] theorem State.onFe_shadeTab (f : Fe → Fe) : (s.onFe f).shadeTab = s.shadeTab := rfl
@[simp] theorem State.onFe_track (f : Fe → Fe) : (s.onFe f).track = s.track := rfl
@[simp] theorem State.onFe_eject (f : Fe → Fe) : (s.onFe f).eject = s.eject := rfl
@[simp] theorem State.onFe_fe (f : Fe → Fe) : (s.onFe f).fe = f s.fe := rfl
@[simp] theorem State.onFe_loops (f : Fe → Fe) : (s.onFe f).loops = s.loops := rfl
@[simp] theorem State.onFe_mem (f : Fe → Fe) : (s.onFe f).mem = s.mem := rfl
@[simp] theorem State.onFe_turrets (f : Fe → Fe) : (s.onFe f).turrets = s.turrets := rfl
@[simp] theorem State.onFe_dome (f : Fe → Fe) : (s.onFe f).dome = s.dome := rfl
@[simp] theorem State.onFe_cfg (f : Fe → Fe) : (s.onFe f).cfg = s.cfg := rfl
@[simp] theorem State.onFe_staged (f : Fe → Fe) : (s.onFe f).staged = s.staged := rfl
@[simp] theorem State.onFe_ram (f : Fe → Fe) : (s.onFe f).ram = s.ram := rfl
@[simp] theorem State.onFe_pending (f : Fe → Fe) : (s.onFe f).pending = s.pending := rfl

/-! ## `onMem` -/

@[simp] theorem State.onMem_pwr (f : Mem → Mem) : (s.onMem f).pwr = s.pwr := rfl
@[simp] theorem State.onMem_sys (f : Mem → Mem) : (s.onMem f).sys = s.sys := rfl
@[simp] theorem State.onMem_isl (f : Mem → Mem) : (s.onMem f).isl = s.isl := rfl
@[simp] theorem State.onMem_ledger (f : Mem → Mem) : (s.onMem f).ledger = s.ledger := rfl
@[simp] theorem State.onMem_nv (f : Mem → Mem) : (s.onMem f).nv = s.nv := rfl
@[simp] theorem State.onMem_sess (f : Mem → Mem) : (s.onMem f).sess = s.sess := rfl
@[simp] theorem State.onMem_jobs (f : Mem → Mem) : (s.onMem f).jobs = s.jobs := rfl
@[simp] theorem State.onMem_serial (f : Mem → Mem) : (s.onMem f).serial = s.serial := rfl
@[simp] theorem State.onMem_tower (f : Mem → Mem) : (s.onMem f).tower = s.tower := rfl
@[simp] theorem State.onMem_ports (f : Mem → Mem) : (s.onMem f).ports = s.ports := rfl
@[simp] theorem State.onMem_streams (f : Mem → Mem) : (s.onMem f).streams = s.streams := rfl
@[simp] theorem State.onMem_feed (f : Mem → Mem) : (s.onMem f).feed = s.feed := rfl
@[simp] theorem State.onMem_seam (f : Mem → Mem) : (s.onMem f).seam = s.seam := rfl
@[simp] theorem State.onMem_capture (f : Mem → Mem) : (s.onMem f).capture = s.capture := rfl
@[simp] theorem State.onMem_heads (f : Mem → Mem) : (s.onMem f).heads = s.heads := rfl
@[simp] theorem State.onMem_lantern (f : Mem → Mem) : (s.onMem f).lantern = s.lantern := rfl
@[simp] theorem State.onMem_shadeTab (f : Mem → Mem) : (s.onMem f).shadeTab = s.shadeTab := rfl
@[simp] theorem State.onMem_track (f : Mem → Mem) : (s.onMem f).track = s.track := rfl
@[simp] theorem State.onMem_eject (f : Mem → Mem) : (s.onMem f).eject = s.eject := rfl
@[simp] theorem State.onMem_fe (f : Mem → Mem) : (s.onMem f).fe = s.fe := rfl
@[simp] theorem State.onMem_loops (f : Mem → Mem) : (s.onMem f).loops = s.loops := rfl
@[simp] theorem State.onMem_mem (f : Mem → Mem) : (s.onMem f).mem = f s.mem := rfl
@[simp] theorem State.onMem_turrets (f : Mem → Mem) : (s.onMem f).turrets = s.turrets := rfl
@[simp] theorem State.onMem_dome (f : Mem → Mem) : (s.onMem f).dome = s.dome := rfl
@[simp] theorem State.onMem_cfg (f : Mem → Mem) : (s.onMem f).cfg = s.cfg := rfl
@[simp] theorem State.onMem_staged (f : Mem → Mem) : (s.onMem f).staged = s.staged := rfl
@[simp] theorem State.onMem_ram (f : Mem → Mem) : (s.onMem f).ram = s.ram := rfl
@[simp] theorem State.onMem_pending (f : Mem → Mem) : (s.onMem f).pending = s.pending := rfl

/-! ## `onDome` -/

@[simp] theorem State.onDome_pwr (f : Dome → Dome) : (s.onDome f).pwr = s.pwr := rfl
@[simp] theorem State.onDome_sys (f : Dome → Dome) : (s.onDome f).sys = s.sys := rfl
@[simp] theorem State.onDome_isl (f : Dome → Dome) : (s.onDome f).isl = s.isl := rfl
@[simp] theorem State.onDome_ledger (f : Dome → Dome) : (s.onDome f).ledger = s.ledger := rfl
@[simp] theorem State.onDome_nv (f : Dome → Dome) : (s.onDome f).nv = s.nv := rfl
@[simp] theorem State.onDome_sess (f : Dome → Dome) : (s.onDome f).sess = s.sess := rfl
@[simp] theorem State.onDome_jobs (f : Dome → Dome) : (s.onDome f).jobs = s.jobs := rfl
@[simp] theorem State.onDome_serial (f : Dome → Dome) : (s.onDome f).serial = s.serial := rfl
@[simp] theorem State.onDome_tower (f : Dome → Dome) : (s.onDome f).tower = s.tower := rfl
@[simp] theorem State.onDome_ports (f : Dome → Dome) : (s.onDome f).ports = s.ports := rfl
@[simp] theorem State.onDome_streams (f : Dome → Dome) : (s.onDome f).streams = s.streams := rfl
@[simp] theorem State.onDome_feed (f : Dome → Dome) : (s.onDome f).feed = s.feed := rfl
@[simp] theorem State.onDome_seam (f : Dome → Dome) : (s.onDome f).seam = s.seam := rfl
@[simp] theorem State.onDome_capture (f : Dome → Dome) : (s.onDome f).capture = s.capture := rfl
@[simp] theorem State.onDome_heads (f : Dome → Dome) : (s.onDome f).heads = s.heads := rfl
@[simp] theorem State.onDome_lantern (f : Dome → Dome) : (s.onDome f).lantern = s.lantern := rfl
@[simp] theorem State.onDome_shadeTab (f : Dome → Dome) : (s.onDome f).shadeTab = s.shadeTab := rfl
@[simp] theorem State.onDome_track (f : Dome → Dome) : (s.onDome f).track = s.track := rfl
@[simp] theorem State.onDome_eject (f : Dome → Dome) : (s.onDome f).eject = s.eject := rfl
@[simp] theorem State.onDome_fe (f : Dome → Dome) : (s.onDome f).fe = s.fe := rfl
@[simp] theorem State.onDome_loops (f : Dome → Dome) : (s.onDome f).loops = s.loops := rfl
@[simp] theorem State.onDome_mem (f : Dome → Dome) : (s.onDome f).mem = s.mem := rfl
@[simp] theorem State.onDome_turrets (f : Dome → Dome) : (s.onDome f).turrets = s.turrets := rfl
@[simp] theorem State.onDome_dome (f : Dome → Dome) : (s.onDome f).dome = f s.dome := rfl
@[simp] theorem State.onDome_cfg (f : Dome → Dome) : (s.onDome f).cfg = s.cfg := rfl
@[simp] theorem State.onDome_staged (f : Dome → Dome) : (s.onDome f).staged = s.staged := rfl
@[simp] theorem State.onDome_ram (f : Dome → Dome) : (s.onDome f).ram = s.ram := rfl
@[simp] theorem State.onDome_pending (f : Dome → Dome) : (s.onDome f).pending = s.pending := rfl

/-! ## `modSess` -/

@[simp] theorem State.modSess_pwr (k : Nat) (f : Sess → Sess) : (s.modSess k f).pwr = s.pwr := rfl
@[simp] theorem State.modSess_sys (k : Nat) (f : Sess → Sess) : (s.modSess k f).sys = s.sys := rfl
@[simp] theorem State.modSess_isl (k : Nat) (f : Sess → Sess) : (s.modSess k f).isl = s.isl := rfl
@[simp] theorem State.modSess_ledger (k : Nat) (f : Sess → Sess) : (s.modSess k f).ledger = s.ledger := rfl
@[simp] theorem State.modSess_nv (k : Nat) (f : Sess → Sess) : (s.modSess k f).nv = s.nv := rfl
@[simp] theorem State.modSess_jobs (k : Nat) (f : Sess → Sess) : (s.modSess k f).jobs = s.jobs := rfl
@[simp] theorem State.modSess_serial (k : Nat) (f : Sess → Sess) : (s.modSess k f).serial = s.serial := rfl
@[simp] theorem State.modSess_tower (k : Nat) (f : Sess → Sess) : (s.modSess k f).tower = s.tower := rfl
@[simp] theorem State.modSess_ports (k : Nat) (f : Sess → Sess) : (s.modSess k f).ports = s.ports := rfl
@[simp] theorem State.modSess_streams (k : Nat) (f : Sess → Sess) : (s.modSess k f).streams = s.streams := rfl
@[simp] theorem State.modSess_feed (k : Nat) (f : Sess → Sess) : (s.modSess k f).feed = s.feed := rfl
@[simp] theorem State.modSess_seam (k : Nat) (f : Sess → Sess) : (s.modSess k f).seam = s.seam := rfl
@[simp] theorem State.modSess_capture (k : Nat) (f : Sess → Sess) : (s.modSess k f).capture = s.capture := rfl
@[simp] theorem State.modSess_heads (k : Nat) (f : Sess → Sess) : (s.modSess k f).heads = s.heads := rfl
@[simp] theorem State.modSess_lantern (k : Nat) (f : Sess → Sess) : (s.modSess k f).lantern = s.lantern := rfl
@[simp] theorem State.modSess_shadeTab (k : Nat) (f : Sess → Sess) : (s.modSess k f).shadeTab = s.shadeTab := rfl
@[simp] theorem State.modSess_track (k : Nat) (f : Sess → Sess) : (s.modSess k f).track = s.track := rfl
@[simp] theorem State.modSess_eject (k : Nat) (f : Sess → Sess) : (s.modSess k f).eject = s.eject := rfl
@[simp] theorem State.modSess_fe (k : Nat) (f : Sess → Sess) : (s.modSess k f).fe = s.fe := rfl
@[simp] theorem State.modSess_loops (k : Nat) (f : Sess → Sess) : (s.modSess k f).loops = s.loops := rfl
@[simp] theorem State.modSess_mem (k : Nat) (f : Sess → Sess) : (s.modSess k f).mem = s.mem := rfl
@[simp] theorem State.modSess_turrets (k : Nat) (f : Sess → Sess) : (s.modSess k f).turrets = s.turrets := rfl
@[simp] theorem State.modSess_dome (k : Nat) (f : Sess → Sess) : (s.modSess k f).dome = s.dome := rfl
@[simp] theorem State.modSess_cfg (k : Nat) (f : Sess → Sess) : (s.modSess k f).cfg = s.cfg := rfl
@[simp] theorem State.modSess_staged (k : Nat) (f : Sess → Sess) : (s.modSess k f).staged = s.staged := rfl
@[simp] theorem State.modSess_ram (k : Nat) (f : Sess → Sess) : (s.modSess k f).ram = s.ram := rfl
@[simp] theorem State.modSess_pending (k : Nat) (f : Sess → Sess) : (s.modSess k f).pending = s.pending := rfl
@[simp] theorem State.getSess_modSess_self (k : Nat) (f : Sess → Sess) : (s.modSess k f).getSess k = f (s.getSess k) :=
  SMap.look_put_self _ _ _ _
theorem State.getSess_modSess_other (f : Sess → Sess) {k q : Nat} (h : q ≠ k) : (s.modSess k f).getSess q = s.getSess q :=
  SMap.look_put_other _ _ _ h

/-! ## `modPort` -/

@[simp] theorem State.modPort_pwr (k : Nat) (f : Port → Port) : (s.modPort k f).pwr = s.pwr := rfl
@[simp] theorem State.modPort_sys (k : Nat) (f : Port → Port) : (s.modPort k f).sys = s.sys := rfl
@[simp] theorem State.modPort_isl (k : Nat) (f : Port → Port) : (s.modPort k f).isl = s.isl := rfl
@[simp] theorem State.modPort_ledger (k : Nat) (f : Port → Port) : (s.modPort k f).ledger = s.ledger := rfl
@[simp] theorem State.modPort_nv (k : Nat) (f : Port → Port) : (s.modPort k f).nv = s.nv := rfl
@[simp] theorem State.modPort_sess (k : Nat) (f : Port → Port) : (s.modPort k f).sess = s.sess := rfl
@[simp] theorem State.modPort_jobs (k : Nat) (f : Port → Port) : (s.modPort k f).jobs = s.jobs := rfl
@[simp] theorem State.modPort_serial (k : Nat) (f : Port → Port) : (s.modPort k f).serial = s.serial := rfl
@[simp] theorem State.modPort_tower (k : Nat) (f : Port → Port) : (s.modPort k f).tower = s.tower := rfl
@[simp] theorem State.modPort_streams (k : Nat) (f : Port → Port) : (s.modPort k f).streams = s.streams := rfl
@[simp] theorem State.modPort_feed (k : Nat) (f : Port → Port) : (s.modPort k f).feed = s.feed := rfl
@[simp] theorem State.modPort_seam (k : Nat) (f : Port → Port) : (s.modPort k f).seam = s.seam := rfl
@[simp] theorem State.modPort_capture (k : Nat) (f : Port → Port) : (s.modPort k f).capture = s.capture := rfl
@[simp] theorem State.modPort_heads (k : Nat) (f : Port → Port) : (s.modPort k f).heads = s.heads := rfl
@[simp] theorem State.modPort_lantern (k : Nat) (f : Port → Port) : (s.modPort k f).lantern = s.lantern := rfl
@[simp] theorem State.modPort_shadeTab (k : Nat) (f : Port → Port) : (s.modPort k f).shadeTab = s.shadeTab := rfl
@[simp] theorem State.modPort_track (k : Nat) (f : Port → Port) : (s.modPort k f).track = s.track := rfl
@[simp] theorem State.modPort_eject (k : Nat) (f : Port → Port) : (s.modPort k f).eject = s.eject := rfl
@[simp] theorem State.modPort_fe (k : Nat) (f : Port → Port) : (s.modPort k f).fe = s.fe := rfl
@[simp] theorem State.modPort_loops (k : Nat) (f : Port → Port) : (s.modPort k f).loops = s.loops := rfl
@[simp] theorem State.modPort_mem (k : Nat) (f : Port → Port) : (s.modPort k f).mem = s.mem := rfl
@[simp] theorem State.modPort_turrets (k : Nat) (f : Port → Port) : (s.modPort k f).turrets = s.turrets := rfl
@[simp] theorem State.modPort_dome (k : Nat) (f : Port → Port) : (s.modPort k f).dome = s.dome := rfl
@[simp] theorem State.modPort_cfg (k : Nat) (f : Port → Port) : (s.modPort k f).cfg = s.cfg := rfl
@[simp] theorem State.modPort_staged (k : Nat) (f : Port → Port) : (s.modPort k f).staged = s.staged := rfl
@[simp] theorem State.modPort_ram (k : Nat) (f : Port → Port) : (s.modPort k f).ram = s.ram := rfl
@[simp] theorem State.modPort_pending (k : Nat) (f : Port → Port) : (s.modPort k f).pending = s.pending := rfl
@[simp] theorem State.getPort_modPort_self (k : Nat) (f : Port → Port) : (s.modPort k f).getPort k = f (s.getPort k) :=
  SMap.look_put_self _ _ _ _
theorem State.getPort_modPort_other (f : Port → Port) {k q : Nat} (h : q ≠ k) : (s.modPort k f).getPort q = s.getPort q :=
  SMap.look_put_other _ _ _ h

/-! ## `modStream` -/

@[simp] theorem State.modStream_pwr (k : Nat) (f : Stream → Stream) : (s.modStream k f).pwr = s.pwr := rfl
@[simp] theorem State.modStream_sys (k : Nat) (f : Stream → Stream) : (s.modStream k f).sys = s.sys := rfl
@[simp] theorem State.modStream_isl (k : Nat) (f : Stream → Stream) : (s.modStream k f).isl = s.isl := rfl
@[simp] theorem State.modStream_ledger (k : Nat) (f : Stream → Stream) : (s.modStream k f).ledger = s.ledger := rfl
@[simp] theorem State.modStream_nv (k : Nat) (f : Stream → Stream) : (s.modStream k f).nv = s.nv := rfl
@[simp] theorem State.modStream_sess (k : Nat) (f : Stream → Stream) : (s.modStream k f).sess = s.sess := rfl
@[simp] theorem State.modStream_jobs (k : Nat) (f : Stream → Stream) : (s.modStream k f).jobs = s.jobs := rfl
@[simp] theorem State.modStream_serial (k : Nat) (f : Stream → Stream) : (s.modStream k f).serial = s.serial := rfl
@[simp] theorem State.modStream_tower (k : Nat) (f : Stream → Stream) : (s.modStream k f).tower = s.tower := rfl
@[simp] theorem State.modStream_ports (k : Nat) (f : Stream → Stream) : (s.modStream k f).ports = s.ports := rfl
@[simp] theorem State.modStream_feed (k : Nat) (f : Stream → Stream) : (s.modStream k f).feed = s.feed := rfl
@[simp] theorem State.modStream_seam (k : Nat) (f : Stream → Stream) : (s.modStream k f).seam = s.seam := rfl
@[simp] theorem State.modStream_capture (k : Nat) (f : Stream → Stream) : (s.modStream k f).capture = s.capture := rfl
@[simp] theorem State.modStream_heads (k : Nat) (f : Stream → Stream) : (s.modStream k f).heads = s.heads := rfl
@[simp] theorem State.modStream_lantern (k : Nat) (f : Stream → Stream) : (s.modStream k f).lantern = s.lantern := rfl
@[simp] theorem State.modStream_shadeTab (k : Nat) (f : Stream → Stream) : (s.modStream k f).shadeTab = s.shadeTab := rfl
@[simp] theorem State.modStream_track (k : Nat) (f : Stream → Stream) : (s.modStream k f).track = s.track := rfl
@[simp] theorem State.modStream_eject (k : Nat) (f : Stream → Stream) : (s.modStream k f).eject = s.eject := rfl
@[simp] theorem State.modStream_fe (k : Nat) (f : Stream → Stream) : (s.modStream k f).fe = s.fe := rfl
@[simp] theorem State.modStream_loops (k : Nat) (f : Stream → Stream) : (s.modStream k f).loops = s.loops := rfl
@[simp] theorem State.modStream_mem (k : Nat) (f : Stream → Stream) : (s.modStream k f).mem = s.mem := rfl
@[simp] theorem State.modStream_turrets (k : Nat) (f : Stream → Stream) : (s.modStream k f).turrets = s.turrets := rfl
@[simp] theorem State.modStream_dome (k : Nat) (f : Stream → Stream) : (s.modStream k f).dome = s.dome := rfl
@[simp] theorem State.modStream_cfg (k : Nat) (f : Stream → Stream) : (s.modStream k f).cfg = s.cfg := rfl
@[simp] theorem State.modStream_staged (k : Nat) (f : Stream → Stream) : (s.modStream k f).staged = s.staged := rfl
@[simp] theorem State.modStream_ram (k : Nat) (f : Stream → Stream) : (s.modStream k f).ram = s.ram := rfl
@[simp] theorem State.modStream_pending (k : Nat) (f : Stream → Stream) : (s.modStream k f).pending = s.pending := rfl
@[simp] theorem State.getStream_modStream_self (k : Nat) (f : Stream → Stream) : (s.modStream k f).getStream k = f (s.getStream k) :=
  SMap.look_put_self _ _ _ _
theorem State.getStream_modStream_other (f : Stream → Stream) {k q : Nat} (h : q ≠ k) : (s.modStream k f).getStream q = s.getStream q :=
  SMap.look_put_other _ _ _ h

/-! ## `modHead` -/

@[simp] theorem State.modHead_pwr (k : Nat) (f : Head → Head) : (s.modHead k f).pwr = s.pwr := rfl
@[simp] theorem State.modHead_sys (k : Nat) (f : Head → Head) : (s.modHead k f).sys = s.sys := rfl
@[simp] theorem State.modHead_isl (k : Nat) (f : Head → Head) : (s.modHead k f).isl = s.isl := rfl
@[simp] theorem State.modHead_ledger (k : Nat) (f : Head → Head) : (s.modHead k f).ledger = s.ledger := rfl
@[simp] theorem State.modHead_nv (k : Nat) (f : Head → Head) : (s.modHead k f).nv = s.nv := rfl
@[simp] theorem State.modHead_sess (k : Nat) (f : Head → Head) : (s.modHead k f).sess = s.sess := rfl
@[simp] theorem State.modHead_jobs (k : Nat) (f : Head → Head) : (s.modHead k f).jobs = s.jobs := rfl
@[simp] theorem State.modHead_serial (k : Nat) (f : Head → Head) : (s.modHead k f).serial = s.serial := rfl
@[simp] theorem State.modHead_tower (k : Nat) (f : Head → Head) : (s.modHead k f).tower = s.tower := rfl
@[simp] theorem State.modHead_ports (k : Nat) (f : Head → Head) : (s.modHead k f).ports = s.ports := rfl
@[simp] theorem State.modHead_streams (k : Nat) (f : Head → Head) : (s.modHead k f).streams = s.streams := rfl
@[simp] theorem State.modHead_feed (k : Nat) (f : Head → Head) : (s.modHead k f).feed = s.feed := rfl
@[simp] theorem State.modHead_seam (k : Nat) (f : Head → Head) : (s.modHead k f).seam = s.seam := rfl
@[simp] theorem State.modHead_capture (k : Nat) (f : Head → Head) : (s.modHead k f).capture = s.capture := rfl
@[simp] theorem State.modHead_lantern (k : Nat) (f : Head → Head) : (s.modHead k f).lantern = s.lantern := rfl
@[simp] theorem State.modHead_shadeTab (k : Nat) (f : Head → Head) : (s.modHead k f).shadeTab = s.shadeTab := rfl
@[simp] theorem State.modHead_track (k : Nat) (f : Head → Head) : (s.modHead k f).track = s.track := rfl
@[simp] theorem State.modHead_eject (k : Nat) (f : Head → Head) : (s.modHead k f).eject = s.eject := rfl
@[simp] theorem State.modHead_fe (k : Nat) (f : Head → Head) : (s.modHead k f).fe = s.fe := rfl
@[simp] theorem State.modHead_loops (k : Nat) (f : Head → Head) : (s.modHead k f).loops = s.loops := rfl
@[simp] theorem State.modHead_mem (k : Nat) (f : Head → Head) : (s.modHead k f).mem = s.mem := rfl
@[simp] theorem State.modHead_turrets (k : Nat) (f : Head → Head) : (s.modHead k f).turrets = s.turrets := rfl
@[simp] theorem State.modHead_dome (k : Nat) (f : Head → Head) : (s.modHead k f).dome = s.dome := rfl
@[simp] theorem State.modHead_cfg (k : Nat) (f : Head → Head) : (s.modHead k f).cfg = s.cfg := rfl
@[simp] theorem State.modHead_staged (k : Nat) (f : Head → Head) : (s.modHead k f).staged = s.staged := rfl
@[simp] theorem State.modHead_ram (k : Nat) (f : Head → Head) : (s.modHead k f).ram = s.ram := rfl
@[simp] theorem State.modHead_pending (k : Nat) (f : Head → Head) : (s.modHead k f).pending = s.pending := rfl
@[simp] theorem State.getHead_modHead_self (k : Nat) (f : Head → Head) : (s.modHead k f).getHead k = f (s.getHead k) :=
  SMap.look_put_self _ _ _ _
theorem State.getHead_modHead_other (f : Head → Head) {k q : Nat} (h : q ≠ k) : (s.modHead k f).getHead q = s.getHead q :=
  SMap.look_put_other _ _ _ h

/-! ## `modLoop` -/

@[simp] theorem State.modLoop_pwr (k : Nat) (f : CLoop → CLoop) : (s.modLoop k f).pwr = s.pwr := rfl
@[simp] theorem State.modLoop_sys (k : Nat) (f : CLoop → CLoop) : (s.modLoop k f).sys = s.sys := rfl
@[simp] theorem State.modLoop_isl (k : Nat) (f : CLoop → CLoop) : (s.modLoop k f).isl = s.isl := rfl
@[simp] theorem State.modLoop_ledger (k : Nat) (f : CLoop → CLoop) : (s.modLoop k f).ledger = s.ledger := rfl
@[simp] theorem State.modLoop_nv (k : Nat) (f : CLoop → CLoop) : (s.modLoop k f).nv = s.nv := rfl
@[simp] theorem State.modLoop_sess (k : Nat) (f : CLoop → CLoop) : (s.modLoop k f).sess = s.sess := rfl
@[simp] theorem State.modLoop_jobs (k : Nat) (f : CLoop → CLoop) : (s.modLoop k f).jobs = s.jobs := rfl
@[simp] theorem State.modLoop_serial (k : Nat) (f : CLoop → CLoop) : (s.modLoop k f).serial = s.serial := rfl
@[simp] theorem State.modLoop_tower (k : Nat) (f : CLoop → CLoop) : (s.modLoop k f).tower = s.tower := rfl
@[simp] theorem State.modLoop_ports (k : Nat) (f : CLoop → CLoop) : (s.modLoop k f).ports = s.ports := rfl
@[simp] theorem State.modLoop_streams (k : Nat) (f : CLoop → CLoop) : (s.modLoop k f).streams = s.streams := rfl
@[simp] theorem State.modLoop_feed (k : Nat) (f : CLoop → CLoop) : (s.modLoop k f).feed = s.feed := rfl
@[simp] theorem State.modLoop_seam (k : Nat) (f : CLoop → CLoop) : (s.modLoop k f).seam = s.seam := rfl
@[simp] theorem State.modLoop_capture (k : Nat) (f : CLoop → CLoop) : (s.modLoop k f).capture = s.capture := rfl
@[simp] theorem State.modLoop_heads (k : Nat) (f : CLoop → CLoop) : (s.modLoop k f).heads = s.heads := rfl
@[simp] theorem State.modLoop_lantern (k : Nat) (f : CLoop → CLoop) : (s.modLoop k f).lantern = s.lantern := rfl
@[simp] theorem State.modLoop_shadeTab (k : Nat) (f : CLoop → CLoop) : (s.modLoop k f).shadeTab = s.shadeTab := rfl
@[simp] theorem State.modLoop_track (k : Nat) (f : CLoop → CLoop) : (s.modLoop k f).track = s.track := rfl
@[simp] theorem State.modLoop_eject (k : Nat) (f : CLoop → CLoop) : (s.modLoop k f).eject = s.eject := rfl
@[simp] theorem State.modLoop_fe (k : Nat) (f : CLoop → CLoop) : (s.modLoop k f).fe = s.fe := rfl
@[simp] theorem State.modLoop_mem (k : Nat) (f : CLoop → CLoop) : (s.modLoop k f).mem = s.mem := rfl
@[simp] theorem State.modLoop_turrets (k : Nat) (f : CLoop → CLoop) : (s.modLoop k f).turrets = s.turrets := rfl
@[simp] theorem State.modLoop_dome (k : Nat) (f : CLoop → CLoop) : (s.modLoop k f).dome = s.dome := rfl
@[simp] theorem State.modLoop_cfg (k : Nat) (f : CLoop → CLoop) : (s.modLoop k f).cfg = s.cfg := rfl
@[simp] theorem State.modLoop_staged (k : Nat) (f : CLoop → CLoop) : (s.modLoop k f).staged = s.staged := rfl
@[simp] theorem State.modLoop_ram (k : Nat) (f : CLoop → CLoop) : (s.modLoop k f).ram = s.ram := rfl
@[simp] theorem State.modLoop_pending (k : Nat) (f : CLoop → CLoop) : (s.modLoop k f).pending = s.pending := rfl
@[simp] theorem State.getLoop_modLoop_self (k : Nat) (f : CLoop → CLoop) : (s.modLoop k f).getLoop k = f (s.getLoop k) :=
  SMap.look_put_self _ _ _ _
theorem State.getLoop_modLoop_other (f : CLoop → CLoop) {k q : Nat} (h : q ≠ k) : (s.modLoop k f).getLoop q = s.getLoop q :=
  SMap.look_put_other _ _ _ h

/-! ## `modTurret` -/

@[simp] theorem State.modTurret_pwr (k : Nat) (f : Turret → Turret) : (s.modTurret k f).pwr = s.pwr := rfl
@[simp] theorem State.modTurret_sys (k : Nat) (f : Turret → Turret) : (s.modTurret k f).sys = s.sys := rfl
@[simp] theorem State.modTurret_isl (k : Nat) (f : Turret → Turret) : (s.modTurret k f).isl = s.isl := rfl
@[simp] theorem State.modTurret_ledger (k : Nat) (f : Turret → Turret) : (s.modTurret k f).ledger = s.ledger := rfl
@[simp] theorem State.modTurret_nv (k : Nat) (f : Turret → Turret) : (s.modTurret k f).nv = s.nv := rfl
@[simp] theorem State.modTurret_sess (k : Nat) (f : Turret → Turret) : (s.modTurret k f).sess = s.sess := rfl
@[simp] theorem State.modTurret_jobs (k : Nat) (f : Turret → Turret) : (s.modTurret k f).jobs = s.jobs := rfl
@[simp] theorem State.modTurret_serial (k : Nat) (f : Turret → Turret) : (s.modTurret k f).serial = s.serial := rfl
@[simp] theorem State.modTurret_tower (k : Nat) (f : Turret → Turret) : (s.modTurret k f).tower = s.tower := rfl
@[simp] theorem State.modTurret_ports (k : Nat) (f : Turret → Turret) : (s.modTurret k f).ports = s.ports := rfl
@[simp] theorem State.modTurret_streams (k : Nat) (f : Turret → Turret) : (s.modTurret k f).streams = s.streams := rfl
@[simp] theorem State.modTurret_feed (k : Nat) (f : Turret → Turret) : (s.modTurret k f).feed = s.feed := rfl
@[simp] theorem State.modTurret_seam (k : Nat) (f : Turret → Turret) : (s.modTurret k f).seam = s.seam := rfl
@[simp] theorem State.modTurret_capture (k : Nat) (f : Turret → Turret) : (s.modTurret k f).capture = s.capture := rfl
@[simp] theorem State.modTurret_heads (k : Nat) (f : Turret → Turret) : (s.modTurret k f).heads = s.heads := rfl
@[simp] theorem State.modTurret_lantern (k : Nat) (f : Turret → Turret) : (s.modTurret k f).lantern = s.lantern := rfl
@[simp] theorem State.modTurret_shadeTab (k : Nat) (f : Turret → Turret) : (s.modTurret k f).shadeTab = s.shadeTab := rfl
@[simp] theorem State.modTurret_track (k : Nat) (f : Turret → Turret) : (s.modTurret k f).track = s.track := rfl
@[simp] theorem State.modTurret_eject (k : Nat) (f : Turret → Turret) : (s.modTurret k f).eject = s.eject := rfl
@[simp] theorem State.modTurret_fe (k : Nat) (f : Turret → Turret) : (s.modTurret k f).fe = s.fe := rfl
@[simp] theorem State.modTurret_loops (k : Nat) (f : Turret → Turret) : (s.modTurret k f).loops = s.loops := rfl
@[simp] theorem State.modTurret_mem (k : Nat) (f : Turret → Turret) : (s.modTurret k f).mem = s.mem := rfl
@[simp] theorem State.modTurret_dome (k : Nat) (f : Turret → Turret) : (s.modTurret k f).dome = s.dome := rfl
@[simp] theorem State.modTurret_cfg (k : Nat) (f : Turret → Turret) : (s.modTurret k f).cfg = s.cfg := rfl
@[simp] theorem State.modTurret_staged (k : Nat) (f : Turret → Turret) : (s.modTurret k f).staged = s.staged := rfl
@[simp] theorem State.modTurret_ram (k : Nat) (f : Turret → Turret) : (s.modTurret k f).ram = s.ram := rfl
@[simp] theorem State.modTurret_pending (k : Nat) (f : Turret → Turret) : (s.modTurret k f).pending = s.pending := rfl
@[simp] theorem State.getTurret_modTurret_self (k : Nat) (f : Turret → Turret) : (s.modTurret k f).getTurret k = f (s.getTurret k) :=
  SMap.look_put_self _ _ _ _
theorem State.getTurret_modTurret_other (f : Turret → Turret) {k q : Nat} (h : q ≠ k) : (s.modTurret k f).getTurret q = s.getTurret q :=
  SMap.look_put_other _ _ _ h

/-! ## `modChan` -/

@[simp] theorem State.modChan_pwr (k : Nat) (f : Chan → Chan) : (s.modChan k f).pwr = s.pwr := rfl
@[simp] theorem State.modChan_sys (k : Nat) (f : Chan → Chan) : (s.modChan k f).sys = s.sys := rfl
@[simp] theorem State.modChan_isl (k : Nat) (f : Chan → Chan) : (s.modChan k f).isl = s.isl := rfl
@[simp] theorem State.modChan_ledger (k : Nat) (f : Chan → Chan) : (s.modChan k f).ledger = s.ledger := rfl
@[simp] theorem State.modChan_nv (k : Nat) (f : Chan → Chan) : (s.modChan k f).nv = s.nv := rfl
@[simp] theorem State.modChan_sess (k : Nat) (f : Chan → Chan) : (s.modChan k f).sess = s.sess := rfl
@[simp] theorem State.modChan_jobs (k : Nat) (f : Chan → Chan) : (s.modChan k f).jobs = s.jobs := rfl
@[simp] theorem State.modChan_serial (k : Nat) (f : Chan → Chan) : (s.modChan k f).serial = s.serial := rfl
@[simp] theorem State.modChan_tower (k : Nat) (f : Chan → Chan) : (s.modChan k f).tower = s.tower := rfl
@[simp] theorem State.modChan_ports (k : Nat) (f : Chan → Chan) : (s.modChan k f).ports = s.ports := rfl
@[simp] theorem State.modChan_streams (k : Nat) (f : Chan → Chan) : (s.modChan k f).streams = s.streams := rfl
@[simp] theorem State.modChan_feed (k : Nat) (f : Chan → Chan) : (s.modChan k f).feed = s.feed := rfl
@[simp] theorem State.modChan_seam (k : Nat) (f : Chan → Chan) : (s.modChan k f).seam = s.seam := rfl
@[simp] theorem State.modChan_capture (k : Nat) (f : Chan → Chan) : (s.modChan k f).capture = s.capture := rfl
@[simp] theorem State.modChan_heads (k : Nat) (f : Chan → Chan) : (s.modChan k f).heads = s.heads := rfl
@[simp] theorem State.modChan_shadeTab (k : Nat) (f : Chan → Chan) : (s.modChan k f).shadeTab = s.shadeTab := rfl
@[simp] theorem State.modChan_track (k : Nat) (f : Chan → Chan) : (s.modChan k f).track = s.track := rfl
@[simp] theorem State.modChan_eject (k : Nat) (f : Chan → Chan) : (s.modChan k f).eject = s.eject := rfl
@[simp] theorem State.modChan_fe (k : Nat) (f : Chan → Chan) : (s.modChan k f).fe = s.fe := rfl
@[simp] theorem State.modChan_loops (k : Nat) (f : Chan → Chan) : (s.modChan k f).loops = s.loops := rfl
@[simp] theorem State.modChan_mem (k : Nat) (f : Chan → Chan) : (s.modChan k f).mem = s.mem := rfl
@[simp] theorem State.modChan_turrets (k : Nat) (f : Chan → Chan) : (s.modChan k f).turrets = s.turrets := rfl
@[simp] theorem State.modChan_dome (k : Nat) (f : Chan → Chan) : (s.modChan k f).dome = s.dome := rfl
@[simp] theorem State.modChan_cfg (k : Nat) (f : Chan → Chan) : (s.modChan k f).cfg = s.cfg := rfl
@[simp] theorem State.modChan_staged (k : Nat) (f : Chan → Chan) : (s.modChan k f).staged = s.staged := rfl
@[simp] theorem State.modChan_ram (k : Nat) (f : Chan → Chan) : (s.modChan k f).ram = s.ram := rfl
@[simp] theorem State.modChan_pending (k : Nat) (f : Chan → Chan) : (s.modChan k f).pending = s.pending := rfl
@[simp] theorem State.getChan_modChan_self (k : Nat) (f : Chan → Chan) : (s.modChan k f).getChan k = f (s.getChan k) :=
  SMap.look_put_self _ _ _ _
theorem State.getChan_modChan_other (f : Chan → Chan) {k q : Nat} (h : q ≠ k) : (s.modChan k f).getChan q = s.getChan q :=
  SMap.look_put_other _ _ _ h

/-! ## `modValve` -/

@[simp] theorem State.modValve_pwr (k : Nat) (f : Valve → Valve) : (s.modValve k f).pwr = s.pwr := rfl
@[simp] theorem State.modValve_sys (k : Nat) (f : Valve → Valve) : (s.modValve k f).sys = s.sys := rfl
@[simp] theorem State.modValve_isl (k : Nat) (f : Valve → Valve) : (s.modValve k f).isl = s.isl := rfl
@[simp] theorem State.modValve_ledger (k : Nat) (f : Valve → Valve) : (s.modValve k f).ledger = s.ledger := rfl
@[simp] theorem State.modValve_nv (k : Nat) (f : Valve → Valve) : (s.modValve k f).nv = s.nv := rfl
@[simp] theorem State.modValve_sess (k : Nat) (f : Valve → Valve) : (s.modValve k f).sess = s.sess := rfl
@[simp] theorem State.modValve_jobs (k : Nat) (f : Valve → Valve) : (s.modValve k f).jobs = s.jobs := rfl
@[simp] theorem State.modValve_serial (k : Nat) (f : Valve → Valve) : (s.modValve k f).serial = s.serial := rfl
@[simp] theorem State.modValve_tower (k : Nat) (f : Valve → Valve) : (s.modValve k f).tower = s.tower := rfl
@[simp] theorem State.modValve_ports (k : Nat) (f : Valve → Valve) : (s.modValve k f).ports = s.ports := rfl
@[simp] theorem State.modValve_streams (k : Nat) (f : Valve → Valve) : (s.modValve k f).streams = s.streams := rfl
@[simp] theorem State.modValve_feed (k : Nat) (f : Valve → Valve) : (s.modValve k f).feed = s.feed := rfl
@[simp] theorem State.modValve_seam (k : Nat) (f : Valve → Valve) : (s.modValve k f).seam = s.seam := rfl
@[simp] theorem State.modValve_capture (k : Nat) (f : Valve → Valve) : (s.modValve k f).capture = s.capture := rfl
@[simp] theorem State.modValve_heads (k : Nat) (f : Valve → Valve) : (s.modValve k f).heads = s.heads := rfl
@[simp] theorem State.modValve_lantern (k : Nat) (f : Valve → Valve) : (s.modValve k f).lantern = s.lantern := rfl
@[simp] theorem State.modValve_shadeTab (k : Nat) (f : Valve → Valve) : (s.modValve k f).shadeTab = s.shadeTab := rfl
@[simp] theorem State.modValve_track (k : Nat) (f : Valve → Valve) : (s.modValve k f).track = s.track := rfl
@[simp] theorem State.modValve_fe (k : Nat) (f : Valve → Valve) : (s.modValve k f).fe = s.fe := rfl
@[simp] theorem State.modValve_loops (k : Nat) (f : Valve → Valve) : (s.modValve k f).loops = s.loops := rfl
@[simp] theorem State.modValve_mem (k : Nat) (f : Valve → Valve) : (s.modValve k f).mem = s.mem := rfl
@[simp] theorem State.modValve_turrets (k : Nat) (f : Valve → Valve) : (s.modValve k f).turrets = s.turrets := rfl
@[simp] theorem State.modValve_dome (k : Nat) (f : Valve → Valve) : (s.modValve k f).dome = s.dome := rfl
@[simp] theorem State.modValve_cfg (k : Nat) (f : Valve → Valve) : (s.modValve k f).cfg = s.cfg := rfl
@[simp] theorem State.modValve_staged (k : Nat) (f : Valve → Valve) : (s.modValve k f).staged = s.staged := rfl
@[simp] theorem State.modValve_ram (k : Nat) (f : Valve → Valve) : (s.modValve k f).ram = s.ram := rfl
@[simp] theorem State.modValve_pending (k : Nat) (f : Valve → Valve) : (s.modValve k f).pending = s.pending := rfl
@[simp] theorem State.getValve_modValve_self (k : Nat) (f : Valve → Valve) : (s.modValve k f).getValve k = f (s.getValve k) :=
  SMap.look_put_self _ _ _ _
theorem State.getValve_modValve_other (f : Valve → Valve) {k q : Nat} (h : q ≠ k) : (s.modValve k f).getValve q = s.getValve q :=
  SMap.look_put_other _ _ _ h

/-! ## `modPin` -/

@[simp] theorem State.modPin_pwr (k : Nat) (f : Pin → Pin) : (s.modPin k f).pwr = s.pwr := rfl
@[simp] theorem State.modPin_sys (k : Nat) (f : Pin → Pin) : (s.modPin k f).sys = s.sys := rfl
@[simp] theorem State.modPin_isl (k : Nat) (f : Pin → Pin) : (s.modPin k f).isl = s.isl := rfl
@[simp] theorem State.modPin_ledger (k : Nat) (f : Pin → Pin) : (s.modPin k f).ledger = s.ledger := rfl
@[simp] theorem State.modPin_nv (k : Nat) (f : Pin → Pin) : (s.modPin k f).nv = s.nv := rfl
@[simp] theorem State.modPin_sess (k : Nat) (f : Pin → Pin) : (s.modPin k f).sess = s.sess := rfl
@[simp] theorem State.modPin_jobs (k : Nat) (f : Pin → Pin) : (s.modPin k f).jobs = s.jobs := rfl
@[simp] theorem State.modPin_serial (k : Nat) (f : Pin → Pin) : (s.modPin k f).serial = s.serial := rfl
@[simp] theorem State.modPin_tower (k : Nat) (f : Pin → Pin) : (s.modPin k f).tower = s.tower := rfl
@[simp] theorem State.modPin_ports (k : Nat) (f : Pin → Pin) : (s.modPin k f).ports = s.ports := rfl
@[simp] theorem State.modPin_streams (k : Nat) (f : Pin → Pin) : (s.modPin k f).streams = s.streams := rfl
@[simp] theorem State.modPin_feed (k : Nat) (f : Pin → Pin) : (s.modPin k f).feed = s.feed := rfl
@[simp] theorem State.modPin_seam (k : Nat) (f : Pin → Pin) : (s.modPin k f).seam = s.seam := rfl
@[simp] theorem State.modPin_capture (k : Nat) (f : Pin → Pin) : (s.modPin k f).capture = s.capture := rfl
@[simp] theorem State.modPin_heads (k : Nat) (f : Pin → Pin) : (s.modPin k f).heads = s.heads := rfl
@[simp] theorem State.modPin_lantern (k : Nat) (f : Pin → Pin) : (s.modPin k f).lantern = s.lantern := rfl
@[simp] theorem State.modPin_shadeTab (k : Nat) (f : Pin → Pin) : (s.modPin k f).shadeTab = s.shadeTab := rfl
@[simp] theorem State.modPin_track (k : Nat) (f : Pin → Pin) : (s.modPin k f).track = s.track := rfl
@[simp] theorem State.modPin_eject (k : Nat) (f : Pin → Pin) : (s.modPin k f).eject = s.eject := rfl
@[simp] theorem State.modPin_loops (k : Nat) (f : Pin → Pin) : (s.modPin k f).loops = s.loops := rfl
@[simp] theorem State.modPin_mem (k : Nat) (f : Pin → Pin) : (s.modPin k f).mem = s.mem := rfl
@[simp] theorem State.modPin_turrets (k : Nat) (f : Pin → Pin) : (s.modPin k f).turrets = s.turrets := rfl
@[simp] theorem State.modPin_dome (k : Nat) (f : Pin → Pin) : (s.modPin k f).dome = s.dome := rfl
@[simp] theorem State.modPin_cfg (k : Nat) (f : Pin → Pin) : (s.modPin k f).cfg = s.cfg := rfl
@[simp] theorem State.modPin_staged (k : Nat) (f : Pin → Pin) : (s.modPin k f).staged = s.staged := rfl
@[simp] theorem State.modPin_ram (k : Nat) (f : Pin → Pin) : (s.modPin k f).ram = s.ram := rfl
@[simp] theorem State.modPin_pending (k : Nat) (f : Pin → Pin) : (s.modPin k f).pending = s.pending := rfl
@[simp] theorem State.getPin_modPin_self (k : Nat) (f : Pin → Pin) : (s.modPin k f).getPin k = f (s.getPin k) :=
  SMap.look_put_self _ _ _ _
theorem State.getPin_modPin_other (f : Pin → Pin) {k q : Nat} (h : q ≠ k) : (s.modPin k f).getPin q = s.getPin q :=
  SMap.look_put_other _ _ _ h

/-! ## `modEntry` -/

@[simp] theorem State.modEntry_pwr (k : Nat) (f : Entry → Entry) : (s.modEntry k f).pwr = s.pwr := rfl
@[simp] theorem State.modEntry_sys (k : Nat) (f : Entry → Entry) : (s.modEntry k f).sys = s.sys := rfl
@[simp] theorem State.modEntry_isl (k : Nat) (f : Entry → Entry) : (s.modEntry k f).isl = s.isl := rfl
@[simp] theorem State.modEntry_ledger (k : Nat) (f : Entry → Entry) : (s.modEntry k f).ledger = s.ledger := rfl
@[simp] theorem State.modEntry_nv (k : Nat) (f : Entry → Entry) : (s.modEntry k f).nv = s.nv := rfl
@[simp] theorem State.modEntry_sess (k : Nat) (f : Entry → Entry) : (s.modEntry k f).sess = s.sess := rfl
@[simp] theorem State.modEntry_jobs (k : Nat) (f : Entry → Entry) : (s.modEntry k f).jobs = s.jobs := rfl
@[simp] theorem State.modEntry_serial (k : Nat) (f : Entry → Entry) : (s.modEntry k f).serial = s.serial := rfl
@[simp] theorem State.modEntry_tower (k : Nat) (f : Entry → Entry) : (s.modEntry k f).tower = s.tower := rfl
@[simp] theorem State.modEntry_ports (k : Nat) (f : Entry → Entry) : (s.modEntry k f).ports = s.ports := rfl
@[simp] theorem State.modEntry_streams (k : Nat) (f : Entry → Entry) : (s.modEntry k f).streams = s.streams := rfl
@[simp] theorem State.modEntry_feed (k : Nat) (f : Entry → Entry) : (s.modEntry k f).feed = s.feed := rfl
@[simp] theorem State.modEntry_seam (k : Nat) (f : Entry → Entry) : (s.modEntry k f).seam = s.seam := rfl
@[simp] theorem State.modEntry_capture (k : Nat) (f : Entry → Entry) : (s.modEntry k f).capture = s.capture := rfl
@[simp] theorem State.modEntry_heads (k : Nat) (f : Entry → Entry) : (s.modEntry k f).heads = s.heads := rfl
@[simp] theorem State.modEntry_lantern (k : Nat) (f : Entry → Entry) : (s.modEntry k f).lantern = s.lantern := rfl
@[simp] theorem State.modEntry_shadeTab (k : Nat) (f : Entry → Entry) : (s.modEntry k f).shadeTab = s.shadeTab := rfl
@[simp] theorem State.modEntry_track (k : Nat) (f : Entry → Entry) : (s.modEntry k f).track = s.track := rfl
@[simp] theorem State.modEntry_eject (k : Nat) (f : Entry → Entry) : (s.modEntry k f).eject = s.eject := rfl
@[simp] theorem State.modEntry_loops (k : Nat) (f : Entry → Entry) : (s.modEntry k f).loops = s.loops := rfl
@[simp] theorem State.modEntry_mem (k : Nat) (f : Entry → Entry) : (s.modEntry k f).mem = s.mem := rfl
@[simp] theorem State.modEntry_turrets (k : Nat) (f : Entry → Entry) : (s.modEntry k f).turrets = s.turrets := rfl
@[simp] theorem State.modEntry_dome (k : Nat) (f : Entry → Entry) : (s.modEntry k f).dome = s.dome := rfl
@[simp] theorem State.modEntry_cfg (k : Nat) (f : Entry → Entry) : (s.modEntry k f).cfg = s.cfg := rfl
@[simp] theorem State.modEntry_staged (k : Nat) (f : Entry → Entry) : (s.modEntry k f).staged = s.staged := rfl
@[simp] theorem State.modEntry_ram (k : Nat) (f : Entry → Entry) : (s.modEntry k f).ram = s.ram := rfl
@[simp] theorem State.modEntry_pending (k : Nat) (f : Entry → Entry) : (s.modEntry k f).pending = s.pending := rfl
@[simp] theorem State.getEntry_modEntry_self (k : Nat) (f : Entry → Entry) : (s.modEntry k f).getEntry k = f (s.getEntry k) :=
  SMap.look_put_self _ _ _ _
theorem State.getEntry_modEntry_other (f : Entry → Entry) {k q : Nat} (h : q ≠ k) : (s.modEntry k f).getEntry q = s.getEntry q :=
  SMap.look_put_other _ _ _ h

/-! ## `modTurLoop` -/

@[simp] theorem State.modTurLoop_pwr (k : Nat) (f : TurLoop → TurLoop) : (s.modTurLoop k f).pwr = s.pwr := rfl
@[simp] theorem State.modTurLoop_sys (k : Nat) (f : TurLoop → TurLoop) : (s.modTurLoop k f).sys = s.sys := rfl
@[simp] theorem State.modTurLoop_isl (k : Nat) (f : TurLoop → TurLoop) : (s.modTurLoop k f).isl = s.isl := rfl
@[simp] theorem State.modTurLoop_ledger (k : Nat) (f : TurLoop → TurLoop) : (s.modTurLoop k f).ledger = s.ledger := rfl
@[simp] theorem State.modTurLoop_nv (k : Nat) (f : TurLoop → TurLoop) : (s.modTurLoop k f).nv = s.nv := rfl
@[simp] theorem State.modTurLoop_sess (k : Nat) (f : TurLoop → TurLoop) : (s.modTurLoop k f).sess = s.sess := rfl
@[simp] theorem State.modTurLoop_jobs (k : Nat) (f : TurLoop → TurLoop) : (s.modTurLoop k f).jobs = s.jobs := rfl
@[simp] theorem State.modTurLoop_serial (k : Nat) (f : TurLoop → TurLoop) : (s.modTurLoop k f).serial = s.serial := rfl
@[simp] theorem State.modTurLoop_tower (k : Nat) (f : TurLoop → TurLoop) : (s.modTurLoop k f).tower = s.tower := rfl
@[simp] theorem State.modTurLoop_ports (k : Nat) (f : TurLoop → TurLoop) : (s.modTurLoop k f).ports = s.ports := rfl
@[simp] theorem State.modTurLoop_streams (k : Nat) (f : TurLoop → TurLoop) : (s.modTurLoop k f).streams = s.streams := rfl
@[simp] theorem State.modTurLoop_feed (k : Nat) (f : TurLoop → TurLoop) : (s.modTurLoop k f).feed = s.feed := rfl
@[simp] theorem State.modTurLoop_seam (k : Nat) (f : TurLoop → TurLoop) : (s.modTurLoop k f).seam = s.seam := rfl
@[simp] theorem State.modTurLoop_capture (k : Nat) (f : TurLoop → TurLoop) : (s.modTurLoop k f).capture = s.capture := rfl
@[simp] theorem State.modTurLoop_heads (k : Nat) (f : TurLoop → TurLoop) : (s.modTurLoop k f).heads = s.heads := rfl
@[simp] theorem State.modTurLoop_lantern (k : Nat) (f : TurLoop → TurLoop) : (s.modTurLoop k f).lantern = s.lantern := rfl
@[simp] theorem State.modTurLoop_shadeTab (k : Nat) (f : TurLoop → TurLoop) : (s.modTurLoop k f).shadeTab = s.shadeTab := rfl
@[simp] theorem State.modTurLoop_track (k : Nat) (f : TurLoop → TurLoop) : (s.modTurLoop k f).track = s.track := rfl
@[simp] theorem State.modTurLoop_eject (k : Nat) (f : TurLoop → TurLoop) : (s.modTurLoop k f).eject = s.eject := rfl
@[simp] theorem State.modTurLoop_loops (k : Nat) (f : TurLoop → TurLoop) : (s.modTurLoop k f).loops = s.loops := rfl
@[simp] theorem State.modTurLoop_mem (k : Nat) (f : TurLoop → TurLoop) : (s.modTurLoop k f).mem = s.mem := rfl
@[simp] theorem State.modTurLoop_turrets (k : Nat) (f : TurLoop → TurLoop) : (s.modTurLoop k f).turrets = s.turrets := rfl
@[simp] theorem State.modTurLoop_dome (k : Nat) (f : TurLoop → TurLoop) : (s.modTurLoop k f).dome = s.dome := rfl
@[simp] theorem State.modTurLoop_cfg (k : Nat) (f : TurLoop → TurLoop) : (s.modTurLoop k f).cfg = s.cfg := rfl
@[simp] theorem State.modTurLoop_staged (k : Nat) (f : TurLoop → TurLoop) : (s.modTurLoop k f).staged = s.staged := rfl
@[simp] theorem State.modTurLoop_ram (k : Nat) (f : TurLoop → TurLoop) : (s.modTurLoop k f).ram = s.ram := rfl
@[simp] theorem State.modTurLoop_pending (k : Nat) (f : TurLoop → TurLoop) : (s.modTurLoop k f).pending = s.pending := rfl
@[simp] theorem State.getTurLoop_modTurLoop_self (k : Nat) (f : TurLoop → TurLoop) : (s.modTurLoop k f).getTurLoop k = f (s.getTurLoop k) :=
  SMap.look_put_self _ _ _ _
theorem State.getTurLoop_modTurLoop_other (f : TurLoop → TurLoop) {k q : Nat} (h : q ≠ k) : (s.modTurLoop k f).getTurLoop q = s.getTurLoop q :=
  SMap.look_put_other _ _ _ h

/-! ## `modClassSlot` -/

@[simp] theorem State.modClassSlot_pwr (k : Nat) (f : ClassSlot → ClassSlot) : (s.modClassSlot k f).pwr = s.pwr := rfl
@[simp] theorem State.modClassSlot_sys (k : Nat) (f : ClassSlot → ClassSlot) : (s.modClassSlot k f).sys = s.sys := rfl
@[simp] theorem State.modClassSlot_isl (k : Nat) (f : ClassSlot → ClassSlot) : (s.modClassSlot k f).isl = s.isl := rfl
@[simp] theorem State.modClassSlot_ledger (k : Nat) (f : ClassSlot → ClassSlot) : (s.modClassSlot k f).ledger = s.ledger := rfl
@[simp] theorem State.modClassSlot_nv (k : Nat) (f : ClassSlot → ClassSlot) : (s.modClassSlot k f).nv = s.nv := rfl
@[simp] theorem State.modClassSlot_sess (k : Nat) (f : ClassSlot → ClassSlot) : (s.modClassSlot k f).sess = s.sess := rfl
@[simp] theorem State.modClassSlot_jobs (k : Nat) (f : ClassSlot → ClassSlot) : (s.modClassSlot k f).jobs = s.jobs := rfl
@[simp] theorem State.modClassSlot_serial (k : Nat) (f : ClassSlot → ClassSlot) : (s.modClassSlot k f).serial = s.serial := rfl
@[simp] theorem State.modClassSlot_tower (k : Nat) (f : ClassSlot → ClassSlot) : (s.modClassSlot k f).tower = s.tower := rfl
@[simp] theorem State.modClassSlot_ports (k : Nat) (f : ClassSlot → ClassSlot) : (s.modClassSlot k f).ports = s.ports := rfl
@[simp] theorem State.modClassSlot_streams (k : Nat) (f : ClassSlot → ClassSlot) : (s.modClassSlot k f).streams = s.streams := rfl
@[simp] theorem State.modClassSlot_feed (k : Nat) (f : ClassSlot → ClassSlot) : (s.modClassSlot k f).feed = s.feed := rfl
@[simp] theorem State.modClassSlot_seam (k : Nat) (f : ClassSlot → ClassSlot) : (s.modClassSlot k f).seam = s.seam := rfl
@[simp] theorem State.modClassSlot_capture (k : Nat) (f : ClassSlot → ClassSlot) : (s.modClassSlot k f).capture = s.capture := rfl
@[simp] theorem State.modClassSlot_heads (k : Nat) (f : ClassSlot → ClassSlot) : (s.modClassSlot k f).heads = s.heads := rfl
@[simp] theorem State.modClassSlot_lantern (k : Nat) (f : ClassSlot → ClassSlot) : (s.modClassSlot k f).lantern = s.lantern := rfl
@[simp] theorem State.modClassSlot_shadeTab (k : Nat) (f : ClassSlot → ClassSlot) : (s.modClassSlot k f).shadeTab = s.shadeTab := rfl
@[simp] theorem State.modClassSlot_eject (k : Nat) (f : ClassSlot → ClassSlot) : (s.modClassSlot k f).eject = s.eject := rfl
@[simp] theorem State.modClassSlot_fe (k : Nat) (f : ClassSlot → ClassSlot) : (s.modClassSlot k f).fe = s.fe := rfl
@[simp] theorem State.modClassSlot_loops (k : Nat) (f : ClassSlot → ClassSlot) : (s.modClassSlot k f).loops = s.loops := rfl
@[simp] theorem State.modClassSlot_mem (k : Nat) (f : ClassSlot → ClassSlot) : (s.modClassSlot k f).mem = s.mem := rfl
@[simp] theorem State.modClassSlot_turrets (k : Nat) (f : ClassSlot → ClassSlot) : (s.modClassSlot k f).turrets = s.turrets := rfl
@[simp] theorem State.modClassSlot_dome (k : Nat) (f : ClassSlot → ClassSlot) : (s.modClassSlot k f).dome = s.dome := rfl
@[simp] theorem State.modClassSlot_cfg (k : Nat) (f : ClassSlot → ClassSlot) : (s.modClassSlot k f).cfg = s.cfg := rfl
@[simp] theorem State.modClassSlot_staged (k : Nat) (f : ClassSlot → ClassSlot) : (s.modClassSlot k f).staged = s.staged := rfl
@[simp] theorem State.modClassSlot_ram (k : Nat) (f : ClassSlot → ClassSlot) : (s.modClassSlot k f).ram = s.ram := rfl
@[simp] theorem State.modClassSlot_pending (k : Nat) (f : ClassSlot → ClassSlot) : (s.modClassSlot k f).pending = s.pending := rfl
@[simp] theorem State.getClassSlot_modClassSlot_self (k : Nat) (f : ClassSlot → ClassSlot) : (s.modClassSlot k f).getClassSlot k = f (s.getClassSlot k) :=
  SMap.look_put_self _ _ _ _
theorem State.getClassSlot_modClassSlot_other (f : ClassSlot → ClassSlot) {k q : Nat} (h : q ≠ k) : (s.modClassSlot k f).getClassSlot q = s.getClassSlot q :=
  SMap.look_put_other _ _ _ h

/-! ## `modStat` -/

@[simp] theorem State.modStat_pwr (k : Nat) (f : TurStat → TurStat) : (s.modStat k f).pwr = s.pwr := rfl
@[simp] theorem State.modStat_sys (k : Nat) (f : TurStat → TurStat) : (s.modStat k f).sys = s.sys := rfl
@[simp] theorem State.modStat_isl (k : Nat) (f : TurStat → TurStat) : (s.modStat k f).isl = s.isl := rfl
@[simp] theorem State.modStat_ledger (k : Nat) (f : TurStat → TurStat) : (s.modStat k f).ledger = s.ledger := rfl
@[simp] theorem State.modStat_nv (k : Nat) (f : TurStat → TurStat) : (s.modStat k f).nv = s.nv := rfl
@[simp] theorem State.modStat_sess (k : Nat) (f : TurStat → TurStat) : (s.modStat k f).sess = s.sess := rfl
@[simp] theorem State.modStat_jobs (k : Nat) (f : TurStat → TurStat) : (s.modStat k f).jobs = s.jobs := rfl
@[simp] theorem State.modStat_serial (k : Nat) (f : TurStat → TurStat) : (s.modStat k f).serial = s.serial := rfl
@[simp] theorem State.modStat_tower (k : Nat) (f : TurStat → TurStat) : (s.modStat k f).tower = s.tower := rfl
@[simp] theorem State.modStat_ports (k : Nat) (f : TurStat → TurStat) : (s.modStat k f).ports = s.ports := rfl
@[simp] theorem State.modStat_streams (k : Nat) (f : TurStat → TurStat) : (s.modStat k f).streams = s.streams := rfl
@[simp] theorem State.modStat_feed (k : Nat) (f : TurStat → TurStat) : (s.modStat k f).feed = s.feed := rfl
@[simp] theorem State.modStat_seam (k : Nat) (f : TurStat → TurStat) : (s.modStat k f).seam = s.seam := rfl
@[simp] theorem State.modStat_capture (k : Nat) (f : TurStat → TurStat) : (s.modStat k f).capture = s.capture := rfl
@[simp] theorem State.modStat_heads (k : Nat) (f : TurStat → TurStat) : (s.modStat k f).heads = s.heads := rfl
@[simp] theorem State.modStat_lantern (k : Nat) (f : TurStat → TurStat) : (s.modStat k f).lantern = s.lantern := rfl
@[simp] theorem State.modStat_shadeTab (k : Nat) (f : TurStat → TurStat) : (s.modStat k f).shadeTab = s.shadeTab := rfl
@[simp] theorem State.modStat_eject (k : Nat) (f : TurStat → TurStat) : (s.modStat k f).eject = s.eject := rfl
@[simp] theorem State.modStat_fe (k : Nat) (f : TurStat → TurStat) : (s.modStat k f).fe = s.fe := rfl
@[simp] theorem State.modStat_loops (k : Nat) (f : TurStat → TurStat) : (s.modStat k f).loops = s.loops := rfl
@[simp] theorem State.modStat_mem (k : Nat) (f : TurStat → TurStat) : (s.modStat k f).mem = s.mem := rfl
@[simp] theorem State.modStat_turrets (k : Nat) (f : TurStat → TurStat) : (s.modStat k f).turrets = s.turrets := rfl
@[simp] theorem State.modStat_dome (k : Nat) (f : TurStat → TurStat) : (s.modStat k f).dome = s.dome := rfl
@[simp] theorem State.modStat_cfg (k : Nat) (f : TurStat → TurStat) : (s.modStat k f).cfg = s.cfg := rfl
@[simp] theorem State.modStat_staged (k : Nat) (f : TurStat → TurStat) : (s.modStat k f).staged = s.staged := rfl
@[simp] theorem State.modStat_ram (k : Nat) (f : TurStat → TurStat) : (s.modStat k f).ram = s.ram := rfl
@[simp] theorem State.modStat_pending (k : Nat) (f : TurStat → TurStat) : (s.modStat k f).pending = s.pending := rfl
@[simp] theorem State.getStat_modStat_self (k : Nat) (f : TurStat → TurStat) : (s.modStat k f).getStat k = f (s.getStat k) :=
  SMap.look_put_self _ _ _ _
theorem State.getStat_modStat_other (f : TurStat → TurStat) {k q : Nat} (h : q ≠ k) : (s.modStat k f).getStat q = s.getStat q :=
  SMap.look_put_other _ _ _ h

/-! ## `modPeriod` -/

@[simp] theorem State.modPeriod_pwr (k : Nat) (f : Period → Period) : (s.modPeriod k f).pwr = s.pwr := rfl
@[simp] theorem State.modPeriod_sys (k : Nat) (f : Period → Period) : (s.modPeriod k f).sys = s.sys := rfl
@[simp] theorem State.modPeriod_isl (k : Nat) (f : Period → Period) : (s.modPeriod k f).isl = s.isl := rfl
@[simp] theorem State.modPeriod_ledger (k : Nat) (f : Period → Period) : (s.modPeriod k f).ledger = s.ledger := rfl
@[simp] theorem State.modPeriod_nv (k : Nat) (f : Period → Period) : (s.modPeriod k f).nv = s.nv := rfl
@[simp] theorem State.modPeriod_sess (k : Nat) (f : Period → Period) : (s.modPeriod k f).sess = s.sess := rfl
@[simp] theorem State.modPeriod_jobs (k : Nat) (f : Period → Period) : (s.modPeriod k f).jobs = s.jobs := rfl
@[simp] theorem State.modPeriod_serial (k : Nat) (f : Period → Period) : (s.modPeriod k f).serial = s.serial := rfl
@[simp] theorem State.modPeriod_tower (k : Nat) (f : Period → Period) : (s.modPeriod k f).tower = s.tower := rfl
@[simp] theorem State.modPeriod_ports (k : Nat) (f : Period → Period) : (s.modPeriod k f).ports = s.ports := rfl
@[simp] theorem State.modPeriod_streams (k : Nat) (f : Period → Period) : (s.modPeriod k f).streams = s.streams := rfl
@[simp] theorem State.modPeriod_feed (k : Nat) (f : Period → Period) : (s.modPeriod k f).feed = s.feed := rfl
@[simp] theorem State.modPeriod_seam (k : Nat) (f : Period → Period) : (s.modPeriod k f).seam = s.seam := rfl
@[simp] theorem State.modPeriod_capture (k : Nat) (f : Period → Period) : (s.modPeriod k f).capture = s.capture := rfl
@[simp] theorem State.modPeriod_heads (k : Nat) (f : Period → Period) : (s.modPeriod k f).heads = s.heads := rfl
@[simp] theorem State.modPeriod_lantern (k : Nat) (f : Period → Period) : (s.modPeriod k f).lantern = s.lantern := rfl
@[simp] theorem State.modPeriod_shadeTab (k : Nat) (f : Period → Period) : (s.modPeriod k f).shadeTab = s.shadeTab := rfl
@[simp] theorem State.modPeriod_eject (k : Nat) (f : Period → Period) : (s.modPeriod k f).eject = s.eject := rfl
@[simp] theorem State.modPeriod_fe (k : Nat) (f : Period → Period) : (s.modPeriod k f).fe = s.fe := rfl
@[simp] theorem State.modPeriod_loops (k : Nat) (f : Period → Period) : (s.modPeriod k f).loops = s.loops := rfl
@[simp] theorem State.modPeriod_mem (k : Nat) (f : Period → Period) : (s.modPeriod k f).mem = s.mem := rfl
@[simp] theorem State.modPeriod_turrets (k : Nat) (f : Period → Period) : (s.modPeriod k f).turrets = s.turrets := rfl
@[simp] theorem State.modPeriod_dome (k : Nat) (f : Period → Period) : (s.modPeriod k f).dome = s.dome := rfl
@[simp] theorem State.modPeriod_cfg (k : Nat) (f : Period → Period) : (s.modPeriod k f).cfg = s.cfg := rfl
@[simp] theorem State.modPeriod_staged (k : Nat) (f : Period → Period) : (s.modPeriod k f).staged = s.staged := rfl
@[simp] theorem State.modPeriod_ram (k : Nat) (f : Period → Period) : (s.modPeriod k f).ram = s.ram := rfl
@[simp] theorem State.modPeriod_pending (k : Nat) (f : Period → Period) : (s.modPeriod k f).pending = s.pending := rfl
@[simp] theorem State.getPeriod_modPeriod_self (k : Nat) (f : Period → Period) : (s.modPeriod k f).getPeriod k = f (s.getPeriod k) :=
  SMap.look_put_self _ _ _ _
theorem State.getPeriod_modPeriod_other (f : Period → Period) {k q : Nat} (h : q ≠ k) : (s.modPeriod k f).getPeriod q = s.getPeriod q :=
  SMap.look_put_other _ _ _ h

/-! ## `modReqr` -/

@[simp] theorem State.modReqr_pwr (k : Nat) (f : Requester → Requester) : (s.modReqr k f).pwr = s.pwr := rfl
@[simp] theorem State.modReqr_sys (k : Nat) (f : Requester → Requester) : (s.modReqr k f).sys = s.sys := rfl
@[simp] theorem State.modReqr_isl (k : Nat) (f : Requester → Requester) : (s.modReqr k f).isl = s.isl := rfl
@[simp] theorem State.modReqr_ledger (k : Nat) (f : Requester → Requester) : (s.modReqr k f).ledger = s.ledger := rfl
@[simp] theorem State.modReqr_nv (k : Nat) (f : Requester → Requester) : (s.modReqr k f).nv = s.nv := rfl
@[simp] theorem State.modReqr_sess (k : Nat) (f : Requester → Requester) : (s.modReqr k f).sess = s.sess := rfl
@[simp] theorem State.modReqr_jobs (k : Nat) (f : Requester → Requester) : (s.modReqr k f).jobs = s.jobs := rfl
@[simp] theorem State.modReqr_serial (k : Nat) (f : Requester → Requester) : (s.modReqr k f).serial = s.serial := rfl
@[simp] theorem State.modReqr_tower (k : Nat) (f : Requester → Requester) : (s.modReqr k f).tower = s.tower := rfl
@[simp] theorem State.modReqr_ports (k : Nat) (f : Requester → Requester) : (s.modReqr k f).ports = s.ports := rfl
@[simp] theorem State.modReqr_streams (k : Nat) (f : Requester → Requester) : (s.modReqr k f).streams = s.streams := rfl
@[simp] theorem State.modReqr_feed (k : Nat) (f : Requester → Requester) : (s.modReqr k f).feed = s.feed := rfl
@[simp] theorem State.modReqr_seam (k : Nat) (f : Requester → Requester) : (s.modReqr k f).seam = s.seam := rfl
@[simp] theorem State.modReqr_capture (k : Nat) (f : Requester → Requester) : (s.modReqr k f).capture = s.capture := rfl
@[simp] theorem State.modReqr_heads (k : Nat) (f : Requester → Requester) : (s.modReqr k f).heads = s.heads := rfl
@[simp] theorem State.modReqr_lantern (k : Nat) (f : Requester → Requester) : (s.modReqr k f).lantern = s.lantern := rfl
@[simp] theorem State.modReqr_shadeTab (k : Nat) (f : Requester → Requester) : (s.modReqr k f).shadeTab = s.shadeTab := rfl
@[simp] theorem State.modReqr_track (k : Nat) (f : Requester → Requester) : (s.modReqr k f).track = s.track := rfl
@[simp] theorem State.modReqr_eject (k : Nat) (f : Requester → Requester) : (s.modReqr k f).eject = s.eject := rfl
@[simp] theorem State.modReqr_fe (k : Nat) (f : Requester → Requester) : (s.modReqr k f).fe = s.fe := rfl
@[simp] theorem State.modReqr_loops (k : Nat) (f : Requester → Requester) : (s.modReqr k f).loops = s.loops := rfl
@[simp] theorem State.modReqr_turrets (k : Nat) (f : Requester → Requester) : (s.modReqr k f).turrets = s.turrets := rfl
@[simp] theorem State.modReqr_dome (k : Nat) (f : Requester → Requester) : (s.modReqr k f).dome = s.dome := rfl
@[simp] theorem State.modReqr_cfg (k : Nat) (f : Requester → Requester) : (s.modReqr k f).cfg = s.cfg := rfl
@[simp] theorem State.modReqr_staged (k : Nat) (f : Requester → Requester) : (s.modReqr k f).staged = s.staged := rfl
@[simp] theorem State.modReqr_ram (k : Nat) (f : Requester → Requester) : (s.modReqr k f).ram = s.ram := rfl
@[simp] theorem State.modReqr_pending (k : Nat) (f : Requester → Requester) : (s.modReqr k f).pending = s.pending := rfl
@[simp] theorem State.getReqr_modReqr_self (k : Nat) (f : Requester → Requester) : (s.modReqr k f).getReqr k = f (s.getReqr k) :=
  SMap.look_put_self _ _ _ _
theorem State.getReqr_modReqr_other (f : Requester → Requester) {k q : Nat} (h : q ≠ k) : (s.modReqr k f).getReqr q = s.getReqr q :=
  SMap.look_put_other _ _ _ h

/-! ## `modDomeTur` -/

@[simp] theorem State.modDomeTur_pwr (k : Nat) (f : DomeTur → DomeTur) : (s.modDomeTur k f).pwr = s.pwr := rfl
@[simp] theorem State.modDomeTur_sys (k : Nat) (f : DomeTur → DomeTur) : (s.modDomeTur k f).sys = s.sys := rfl
@[simp] theorem State.modDomeTur_isl (k : Nat) (f : DomeTur → DomeTur) : (s.modDomeTur k f).isl = s.isl := rfl
@[simp] theorem State.modDomeTur_ledger (k : Nat) (f : DomeTur → DomeTur) : (s.modDomeTur k f).ledger = s.ledger := rfl
@[simp] theorem State.modDomeTur_nv (k : Nat) (f : DomeTur → DomeTur) : (s.modDomeTur k f).nv = s.nv := rfl
@[simp] theorem State.modDomeTur_sess (k : Nat) (f : DomeTur → DomeTur) : (s.modDomeTur k f).sess = s.sess := rfl
@[simp] theorem State.modDomeTur_jobs (k : Nat) (f : DomeTur → DomeTur) : (s.modDomeTur k f).jobs = s.jobs := rfl
@[simp] theorem State.modDomeTur_serial (k : Nat) (f : DomeTur → DomeTur) : (s.modDomeTur k f).serial = s.serial := rfl
@[simp] theorem State.modDomeTur_tower (k : Nat) (f : DomeTur → DomeTur) : (s.modDomeTur k f).tower = s.tower := rfl
@[simp] theorem State.modDomeTur_ports (k : Nat) (f : DomeTur → DomeTur) : (s.modDomeTur k f).ports = s.ports := rfl
@[simp] theorem State.modDomeTur_streams (k : Nat) (f : DomeTur → DomeTur) : (s.modDomeTur k f).streams = s.streams := rfl
@[simp] theorem State.modDomeTur_feed (k : Nat) (f : DomeTur → DomeTur) : (s.modDomeTur k f).feed = s.feed := rfl
@[simp] theorem State.modDomeTur_seam (k : Nat) (f : DomeTur → DomeTur) : (s.modDomeTur k f).seam = s.seam := rfl
@[simp] theorem State.modDomeTur_capture (k : Nat) (f : DomeTur → DomeTur) : (s.modDomeTur k f).capture = s.capture := rfl
@[simp] theorem State.modDomeTur_heads (k : Nat) (f : DomeTur → DomeTur) : (s.modDomeTur k f).heads = s.heads := rfl
@[simp] theorem State.modDomeTur_lantern (k : Nat) (f : DomeTur → DomeTur) : (s.modDomeTur k f).lantern = s.lantern := rfl
@[simp] theorem State.modDomeTur_shadeTab (k : Nat) (f : DomeTur → DomeTur) : (s.modDomeTur k f).shadeTab = s.shadeTab := rfl
@[simp] theorem State.modDomeTur_track (k : Nat) (f : DomeTur → DomeTur) : (s.modDomeTur k f).track = s.track := rfl
@[simp] theorem State.modDomeTur_eject (k : Nat) (f : DomeTur → DomeTur) : (s.modDomeTur k f).eject = s.eject := rfl
@[simp] theorem State.modDomeTur_fe (k : Nat) (f : DomeTur → DomeTur) : (s.modDomeTur k f).fe = s.fe := rfl
@[simp] theorem State.modDomeTur_loops (k : Nat) (f : DomeTur → DomeTur) : (s.modDomeTur k f).loops = s.loops := rfl
@[simp] theorem State.modDomeTur_mem (k : Nat) (f : DomeTur → DomeTur) : (s.modDomeTur k f).mem = s.mem := rfl
@[simp] theorem State.modDomeTur_turrets (k : Nat) (f : DomeTur → DomeTur) : (s.modDomeTur k f).turrets = s.turrets := rfl
@[simp] theorem State.modDomeTur_cfg (k : Nat) (f : DomeTur → DomeTur) : (s.modDomeTur k f).cfg = s.cfg := rfl
@[simp] theorem State.modDomeTur_staged (k : Nat) (f : DomeTur → DomeTur) : (s.modDomeTur k f).staged = s.staged := rfl
@[simp] theorem State.modDomeTur_ram (k : Nat) (f : DomeTur → DomeTur) : (s.modDomeTur k f).ram = s.ram := rfl
@[simp] theorem State.modDomeTur_pending (k : Nat) (f : DomeTur → DomeTur) : (s.modDomeTur k f).pending = s.pending := rfl
@[simp] theorem State.getDomeTur_modDomeTur_self (k : Nat) (f : DomeTur → DomeTur) : (s.modDomeTur k f).getDomeTur k = f (s.getDomeTur k) :=
  SMap.look_put_self _ _ _ _
theorem State.getDomeTur_modDomeTur_other (f : DomeTur → DomeTur) {k q : Nat} (h : q ≠ k) : (s.modDomeTur k f).getDomeTur q = s.getDomeTur q :=
  SMap.look_put_other _ _ _ h

/-! ## `modRec` -/

@[simp] theorem State.modRec_pwr (r : RecName) (f : Rec → Rec) : (s.modRec r f).pwr = s.pwr := rfl
@[simp] theorem State.modRec_sys (r : RecName) (f : Rec → Rec) : (s.modRec r f).sys = s.sys := rfl
@[simp] theorem State.modRec_isl (r : RecName) (f : Rec → Rec) : (s.modRec r f).isl = s.isl := rfl
@[simp] theorem State.modRec_ledger (r : RecName) (f : Rec → Rec) : (s.modRec r f).ledger = s.ledger := rfl
@[simp] theorem State.modRec_sess (r : RecName) (f : Rec → Rec) : (s.modRec r f).sess = s.sess := rfl
@[simp] theorem State.modRec_jobs (r : RecName) (f : Rec → Rec) : (s.modRec r f).jobs = s.jobs := rfl
@[simp] theorem State.modRec_serial (r : RecName) (f : Rec → Rec) : (s.modRec r f).serial = s.serial := rfl
@[simp] theorem State.modRec_tower (r : RecName) (f : Rec → Rec) : (s.modRec r f).tower = s.tower := rfl
@[simp] theorem State.modRec_ports (r : RecName) (f : Rec → Rec) : (s.modRec r f).ports = s.ports := rfl
@[simp] theorem State.modRec_streams (r : RecName) (f : Rec → Rec) : (s.modRec r f).streams = s.streams := rfl
@[simp] theorem State.modRec_feed (r : RecName) (f : Rec → Rec) : (s.modRec r f).feed = s.feed := rfl
@[simp] theorem State.modRec_seam (r : RecName) (f : Rec → Rec) : (s.modRec r f).seam = s.seam := rfl
@[simp] theorem State.modRec_capture (r : RecName) (f : Rec → Rec) : (s.modRec r f).capture = s.capture := rfl
@[simp] theorem State.modRec_heads (r : RecName) (f : Rec → Rec) : (s.modRec r f).heads = s.heads := rfl
@[simp] theorem State.modRec_lantern (r : RecName) (f : Rec → Rec) : (s.modRec r f).lantern = s.lantern := rfl
@[simp] theorem State.modRec_shadeTab (r : RecName) (f : Rec → Rec) : (s.modRec r f).shadeTab = s.shadeTab := rfl
@[simp] theorem State.modRec_track (r : RecName) (f : Rec → Rec) : (s.modRec r f).track = s.track := rfl
@[simp] theorem State.modRec_eject (r : RecName) (f : Rec → Rec) : (s.modRec r f).eject = s.eject := rfl
@[simp] theorem State.modRec_fe (r : RecName) (f : Rec → Rec) : (s.modRec r f).fe = s.fe := rfl
@[simp] theorem State.modRec_loops (r : RecName) (f : Rec → Rec) : (s.modRec r f).loops = s.loops := rfl
@[simp] theorem State.modRec_mem (r : RecName) (f : Rec → Rec) : (s.modRec r f).mem = s.mem := rfl
@[simp] theorem State.modRec_turrets (r : RecName) (f : Rec → Rec) : (s.modRec r f).turrets = s.turrets := rfl
@[simp] theorem State.modRec_dome (r : RecName) (f : Rec → Rec) : (s.modRec r f).dome = s.dome := rfl
@[simp] theorem State.modRec_cfg (r : RecName) (f : Rec → Rec) : (s.modRec r f).cfg = s.cfg := rfl
@[simp] theorem State.modRec_staged (r : RecName) (f : Rec → Rec) : (s.modRec r f).staged = s.staged := rfl
@[simp] theorem State.modRec_ram (r : RecName) (f : Rec → Rec) : (s.modRec r f).ram = s.ram := rfl
@[simp] theorem State.modRec_pending (r : RecName) (f : Rec → Rec) : (s.modRec r f).pending = s.pending := rfl
@[simp] theorem State.getRec_modRec_self (r : RecName) (f : Rec → Rec) : (s.modRec r f).getRec r = f (s.getRec r) :=
  SMap.look_put_self _ _ _ _

/-! ## Settings -/

@[simp] theorem State.setVal_pwr (k : Key) (v : Val) : (s.setVal k v).pwr = s.pwr := rfl
@[simp] theorem State.setVal_sys (k : Key) (v : Val) : (s.setVal k v).sys = s.sys := rfl
@[simp] theorem State.setVal_isl (k : Key) (v : Val) : (s.setVal k v).isl = s.isl := rfl
@[simp] theorem State.setVal_ledger (k : Key) (v : Val) : (s.setVal k v).ledger = s.ledger := rfl
@[simp] theorem State.setVal_nv (k : Key) (v : Val) : (s.setVal k v).nv = s.nv := rfl
@[simp] theorem State.setVal_sess (k : Key) (v : Val) : (s.setVal k v).sess = s.sess := rfl
@[simp] theorem State.setVal_jobs (k : Key) (v : Val) : (s.setVal k v).jobs = s.jobs := rfl
@[simp] theorem State.setVal_serial (k : Key) (v : Val) : (s.setVal k v).serial = s.serial := rfl
@[simp] theorem State.setVal_tower (k : Key) (v : Val) : (s.setVal k v).tower = s.tower := rfl
@[simp] theorem State.setVal_ports (k : Key) (v : Val) : (s.setVal k v).ports = s.ports := rfl
@[simp] theorem State.setVal_streams (k : Key) (v : Val) : (s.setVal k v).streams = s.streams := rfl
@[simp] theorem State.setVal_feed (k : Key) (v : Val) : (s.setVal k v).feed = s.feed := rfl
@[simp] theorem State.setVal_seam (k : Key) (v : Val) : (s.setVal k v).seam = s.seam := rfl
@[simp] theorem State.setVal_capture (k : Key) (v : Val) : (s.setVal k v).capture = s.capture := rfl
@[simp] theorem State.setVal_heads (k : Key) (v : Val) : (s.setVal k v).heads = s.heads := rfl
@[simp] theorem State.setVal_lantern (k : Key) (v : Val) : (s.setVal k v).lantern = s.lantern := rfl
@[simp] theorem State.setVal_shadeTab (k : Key) (v : Val) : (s.setVal k v).shadeTab = s.shadeTab := rfl
@[simp] theorem State.setVal_track (k : Key) (v : Val) : (s.setVal k v).track = s.track := rfl
@[simp] theorem State.setVal_eject (k : Key) (v : Val) : (s.setVal k v).eject = s.eject := rfl
@[simp] theorem State.setVal_fe (k : Key) (v : Val) : (s.setVal k v).fe = s.fe := rfl
@[simp] theorem State.setVal_loops (k : Key) (v : Val) : (s.setVal k v).loops = s.loops := rfl
@[simp] theorem State.setVal_mem (k : Key) (v : Val) : (s.setVal k v).mem = s.mem := rfl
@[simp] theorem State.setVal_turrets (k : Key) (v : Val) : (s.setVal k v).turrets = s.turrets := rfl
@[simp] theorem State.setVal_dome (k : Key) (v : Val) : (s.setVal k v).dome = s.dome := rfl
@[simp] theorem State.setVal_staged (k : Key) (v : Val) : (s.setVal k v).staged = s.staged := rfl
@[simp] theorem State.setVal_ram (k : Key) (v : Val) : (s.setVal k v).ram = s.ram := rfl
@[simp] theorem State.setVal_pending (k : Key) (v : Val) : (s.setVal k v).pending = s.pending := rfl

/-- Settings read alike in states that hold the same ones. -/
theorem State.val_congr {s t : State} (h : t.cfg = s.cfg) (k : Key) : t.val k = s.val k := by simp only [State.val, h]

theorem State.int_congr {s t : State} (h : t.cfg = s.cfg) (x : Setting) (i j : Nat) : t.int x i j = s.int x i j := by
  simp only [State.int, State.val_congr h]

theorem State.nat_congr {s t : State} (h : t.cfg = s.cfg) (x : Setting) (i j : Nat) : t.nat x i j = s.nat x i j := by
  simp only [State.nat, State.int_congr h]

theorem State.on_congr {s t : State} (h : t.cfg = s.cfg) (x : Setting) (i j : Nat) : t.on x i j = s.on x i j := by
  simp only [State.on, State.int_congr h]

end Sys2Proof.Machine
end

