-- ==== Sys2Proof/Laws/Lines.lean ====
section
/-! SUPPORT. What becomes of a line whose command starts as it arrives: the command's own effect, on the state in which it starts. -/

namespace Sys2Proof.Machine

/-- What bars a command sees neither the session's times nor its running command. -/
theorem gate_begun (s : State) (h : Hdr) (c : Cmd) (r : ReplyTo) : (s.begun h c).gate r c = s.gate r c := by
  unfold State.begun
  cases h.tag <;> rfl

/-- With no line waiting, none starts. -/
theorem startWaiting_none (s : State) (k : Nat) (h : (s.getSess k).waiting = none) : s.startWaiting k = s := by
  unfold State.startWaiting
  rw [h]
  cases (s.getSess k).running <;> rfl

/-- In READY, RUN and PAUSED a command that starts is performed. -/
theorem run_serving (s : State) (r : ReplyTo) (c : Cmd) (h : s.serving = true) : s.run r c = s.perform r c := by
  unfold State.run
  unfold State.serving State.sorting at h
  cases e : s.sys.state <;> simp [e] at h ⊢

/-- A command that nothing bars has its own effect. -/
theorem perform_ungated (s : State) (r : ReplyTo) (c : Cmd) (h : s.gate r c = none) : s.perform r c = s.act r c := by
  unfold State.perform; rw [h]

/-- A line with nothing before it starts at once. -/
theorem takeCmd_starts (s : State) (h : Hdr) (c : Cmd) (ha : ∀ a, c ≠ .abort a) (hi : s.islandDown = false)
    (hw : (s.getSess h.sess).waiting = none) (hr : h.tag = none → (s.getSess h.sess).running = none) :
    s.takeCmd h c = match h.tag with | some t => s.startTagged h t c | none => s.startUntagged h c := by
  have h1 : s.startWaiting h.sess = s := startWaiting_none s _ hw
  unfold State.takeCmd
  cases ht : h.tag with
  | none =>
    have h2 := hr ht
    cases c <;> simp_all [State.beginLine]
  | some t =>
    cases c <;> simp_all [State.beginLine]

/-- A line whose command begins has that command's own effect, on the state in which it starts. -/
theorem arrive_begins (s : State) (h : Hdr) (c : Cmd) (ha : ∀ a, c ≠ .abort a) (he : ∀ n, c ≠ .enumerate n) (hb : s.begins h c = true) :
    s.arrive h c = (s.begun h c).act (s.replyTo h) c := by
  unfold State.begins State.starts State.heard at hb
  simp only [Bool.and_eq_true, Bool.not_eq_true', Option.isNone_iff_eq_none] at hb
  obtain ⟨⟨hserv, ⟨⟨⟨⟨⟨⟨htake, hfor⟩, hisl⟩, hchk⟩, hbar⟩, hwait⟩, htag⟩⟩, hgate⟩ := hb
  have hsys : s.sys.state ≠ .halted := by
    intro e
    simp [State.serving, State.sorting, e] at hserv
  have e1 : s.arrive h c = (s.received h).takeCmd h c := by
    unfold State.arrive
    have hrep : s.repeats h c = false := by
      unfold State.repeats
      cases c <;> first | exact absurd rfl (he _) | simp
    rw [if_neg (by simp [hrep]), if_neg (by simp [htake, hfor])]
    have hh : ¬ (h.check = .bad ∨ (h.check = .absent ∧ s.on .sessRequireCheck h.sess = true)) := by
      simpa using hchk
    cases c <;> simp [hsys, hh, State.received] <;> simp_all
  rw [e1]
  have hw' : ((s.received h).getSess h.sess).waiting = none := by simp [State.received, hwait]
  rw [takeCmd_starts (s.received h) h c ha hisl hw' (by intro e; rw [e] at htag; simpa [State.received] using htag)]
  have hlb : (s.received h).lineBar h c = none := hbar
  have hl : ((s.received h).getSess h.sess).login = (s.getSess h.sess).login := by simp [State.received]
  have hr : Hdr.reply h ((s.received h).getSess h.sess) = s.replyTo h := by simp [State.received, Hdr.reply, State.replyTo]
  have hg := gate_begun s h c (s.replyTo h)
  cases ht : h.tag with
  | none =>
    simp only [State.startUntagged, hlb, hr]
    have hbg : s.begun h c = (s.received h).modSess h.sess (fun y => { y with running := some (c, s.replyTo h) }) := by
      unfold State.begun; rw [ht]; rfl
    rw [← hbg]
    have hserv' : (s.begun h c).serving = true := by rw [hbg]; exact hserv
    exact (run_serving (s.begun h c) (s.replyTo h) c hserv').trans (perform_ungated _ _ _ (hg.trans hgate))
  | some n =>
    rw [ht] at htag
    simp only [Bool.not_eq_true'] at htag
    simp only [State.startTagged, hlb, hl, hr]
    have hj : (s.received h).jobBars h.sess n (s.getSess h.sess).login = false := htag
    rw [hj]
    have hbg : s.begun h c = { s.received h with jobs := (s.received h).liveJobs ++ [{ sess := h.sess, tag := n, turret := (s.getSess h.sess).login, cmd := c, reply := s.replyTo h }] } := by
      unfold State.begun; rw [ht]; rfl
    rw [if_neg (by simp), ← hbg]
    have hserv' : (s.begun h c).serving = true := by rw [hbg]; exact hserv
    exact (run_serving (s.begun h c) (s.replyTo h) c hserv').trans (perform_ungated _ _ _ (hg.trans hgate))
end Sys2Proof.Machine
end

