-- ==== Sys2Proof/Laws/Answer.lean ====
section
/-! SUPPORT. What an answer, an event and the start of a line leave alone, and what the session of a line reads as when its command has been
answered. -/

namespace Sys2Proof.Machine

@[simp] theorem State.queueEvent_frame (s : State) (k : Nat) (l : OutLine) :
    (s.queueEvent k l).pwr = s.pwr ∧ (s.queueEvent k l).sys = s.sys ∧ (s.queueEvent k l).isl = s.isl ∧
    (s.queueEvent k l).ledger = s.ledger ∧ (s.queueEvent k l).nv = s.nv ∧ (s.queueEvent k l).jobs = s.jobs ∧
    (s.queueEvent k l).serial = s.serial ∧ (s.queueEvent k l).tower = s.tower ∧ (s.queueEvent k l).ports = s.ports ∧
    (s.queueEvent k l).streams = s.streams ∧ (s.queueEvent k l).feed = s.feed ∧ (s.queueEvent k l).seam = s.seam ∧
    (s.queueEvent k l).capture = s.capture ∧ (s.queueEvent k l).heads = s.heads ∧ (s.queueEvent k l).lantern = s.lantern ∧
    (s.queueEvent k l).shadeTab = s.shadeTab ∧ (s.queueEvent k l).track = s.track ∧ (s.queueEvent k l).eject = s.eject ∧
    (s.queueEvent k l).fe = s.fe ∧ (s.queueEvent k l).loops = s.loops ∧ (s.queueEvent k l).mem = s.mem ∧
    (s.queueEvent k l).turrets = s.turrets ∧ (s.queueEvent k l).dome = s.dome ∧ (s.queueEvent k l).cfg = s.cfg ∧
    (s.queueEvent k l).staged = s.staged ∧ (s.queueEvent k l).ram = s.ram ∧ (s.queueEvent k l).pending = s.pending := by simp [State.queueEvent]

@[simp] theorem State.emit_frame (s : State) (a : Aud) (src word : String) (fs : List Fld) :
    (s.emit a src word fs).pwr = s.pwr ∧ (s.emit a src word fs).sys = s.sys ∧ (s.emit a src word fs).isl = s.isl ∧
    (s.emit a src word fs).ledger = s.ledger ∧ (s.emit a src word fs).nv = s.nv ∧ (s.emit a src word fs).jobs = s.jobs ∧
    (s.emit a src word fs).serial = s.serial ∧ (s.emit a src word fs).tower = s.tower ∧ (s.emit a src word fs).ports = s.ports ∧
    (s.emit a src word fs).streams = s.streams ∧ (s.emit a src word fs).feed = s.feed ∧ (s.emit a src word fs).seam = s.seam ∧
    (s.emit a src word fs).capture = s.capture ∧ (s.emit a src word fs).heads = s.heads ∧
    (s.emit a src word fs).lantern = s.lantern ∧ (s.emit a src word fs).shadeTab = s.shadeTab ∧
    (s.emit a src word fs).track = s.track ∧ (s.emit a src word fs).eject = s.eject ∧ (s.emit a src word fs).fe = s.fe ∧
    (s.emit a src word fs).loops = s.loops ∧ (s.emit a src word fs).mem = s.mem ∧ (s.emit a src word fs).turrets = s.turrets ∧
    (s.emit a src word fs).dome = s.dome ∧ (s.emit a src word fs).cfg = s.cfg ∧ (s.emit a src word fs).staged = s.staged ∧
    (s.emit a src word fs).ram = s.ram ∧ (s.emit a src word fs).pending = s.pending := by
  simp only [State.emit, List.foldl]
  (repeat' split) <;> simp

@[simp] theorem State.enter_frame (s : State) (m : MState) :
    (s.enter m).pwr = s.pwr ∧ (s.enter m).isl = s.isl ∧ (s.enter m).ledger = s.ledger ∧ (s.enter m).nv = s.nv ∧
    (s.enter m).jobs = s.jobs ∧ (s.enter m).serial = s.serial ∧ (s.enter m).tower = s.tower ∧ (s.enter m).ports = s.ports ∧
    (s.enter m).streams = s.streams ∧ (s.enter m).feed = s.feed ∧ (s.enter m).seam = s.seam ∧ (s.enter m).capture = s.capture ∧
    (s.enter m).heads = s.heads ∧ (s.enter m).lantern = s.lantern ∧ (s.enter m).shadeTab = s.shadeTab ∧
    (s.enter m).track = s.track ∧ (s.enter m).eject = s.eject ∧ (s.enter m).fe = s.fe ∧ (s.enter m).loops = s.loops ∧
    (s.enter m).mem = s.mem ∧ (s.enter m).turrets = s.turrets ∧ (s.enter m).dome = s.dome ∧ (s.enter m).cfg = s.cfg ∧
    (s.enter m).staged = s.staged ∧ (s.enter m).ram = s.ram ∧ (s.enter m).pending = s.pending := by simp [State.enter]

@[simp] theorem State.say_frame (s : State) (r : ReplyTo) (dat : List LineBody) (b : LineBody) :
    (s.say r dat b).pwr = s.pwr ∧ (s.say r dat b).sys = s.sys ∧ (s.say r dat b).isl = s.isl ∧ (s.say r dat b).ledger = s.ledger ∧
    (s.say r dat b).nv = s.nv ∧ (s.say r dat b).jobs = s.jobs ∧ (s.say r dat b).serial = s.serial ∧
    (s.say r dat b).tower = s.tower ∧ (s.say r dat b).ports = s.ports ∧ (s.say r dat b).streams = s.streams ∧
    (s.say r dat b).feed = s.feed ∧ (s.say r dat b).seam = s.seam ∧ (s.say r dat b).capture = s.capture ∧
    (s.say r dat b).heads = s.heads ∧ (s.say r dat b).lantern = s.lantern ∧ (s.say r dat b).shadeTab = s.shadeTab ∧
    (s.say r dat b).track = s.track ∧ (s.say r dat b).eject = s.eject ∧ (s.say r dat b).fe = s.fe ∧
    (s.say r dat b).loops = s.loops ∧ (s.say r dat b).mem = s.mem ∧ (s.say r dat b).turrets = s.turrets ∧
    (s.say r dat b).dome = s.dome ∧ (s.say r dat b).cfg = s.cfg ∧ (s.say r dat b).staged = s.staged ∧
    (s.say r dat b).ram = s.ram ∧ (s.say r dat b).pending = s.pending := by simp [State.say]

@[simp] theorem State.release_frame (s : State) (r : ReplyTo) :
    (s.release r).pwr = s.pwr ∧ (s.release r).sys = s.sys ∧ (s.release r).isl = s.isl ∧ (s.release r).ledger = s.ledger ∧
    (s.release r).nv = s.nv ∧ (s.release r).serial = s.serial ∧ (s.release r).tower = s.tower ∧ (s.release r).ports = s.ports ∧
    (s.release r).streams = s.streams ∧ (s.release r).feed = s.feed ∧ (s.release r).seam = s.seam ∧
    (s.release r).capture = s.capture ∧ (s.release r).heads = s.heads ∧ (s.release r).lantern = s.lantern ∧
    (s.release r).shadeTab = s.shadeTab ∧ (s.release r).track = s.track ∧ (s.release r).eject = s.eject ∧
    (s.release r).fe = s.fe ∧ (s.release r).loops = s.loops ∧ (s.release r).mem = s.mem ∧ (s.release r).turrets = s.turrets ∧
    (s.release r).dome = s.dome ∧ (s.release r).cfg = s.cfg ∧ (s.release r).staged = s.staged ∧ (s.release r).ram = s.ram ∧
    (s.release r).pending = s.pending := by
  unfold State.release
  split <;> simp

@[simp] theorem State.finish_frame (s : State) (r : ReplyTo) (dat : List LineBody) (b : LineBody) :
    (s.finish r dat b).pwr = s.pwr ∧ (s.finish r dat b).sys = s.sys ∧ (s.finish r dat b).isl = s.isl ∧
    (s.finish r dat b).ledger = s.ledger ∧ (s.finish r dat b).nv = s.nv ∧ (s.finish r dat b).serial = s.serial ∧
    (s.finish r dat b).tower = s.tower ∧ (s.finish r dat b).ports = s.ports ∧ (s.finish r dat b).streams = s.streams ∧
    (s.finish r dat b).feed = s.feed ∧ (s.finish r dat b).seam = s.seam ∧ (s.finish r dat b).capture = s.capture ∧
    (s.finish r dat b).heads = s.heads ∧ (s.finish r dat b).lantern = s.lantern ∧ (s.finish r dat b).shadeTab = s.shadeTab ∧
    (s.finish r dat b).track = s.track ∧ (s.finish r dat b).eject = s.eject ∧ (s.finish r dat b).fe = s.fe ∧
    (s.finish r dat b).loops = s.loops ∧ (s.finish r dat b).mem = s.mem ∧ (s.finish r dat b).turrets = s.turrets ∧
    (s.finish r dat b).dome = s.dome ∧ (s.finish r dat b).cfg = s.cfg ∧ (s.finish r dat b).staged = s.staged ∧
    (s.finish r dat b).ram = s.ram ∧ (s.finish r dat b).pending = s.pending := by simp [State.finish]

@[simp] theorem State.ok_frame (s : State) (r : ReplyTo) (fs : List Fld) :
    (s.ok r fs).pwr = s.pwr ∧ (s.ok r fs).sys = s.sys ∧ (s.ok r fs).isl = s.isl ∧ (s.ok r fs).ledger = s.ledger ∧
    (s.ok r fs).nv = s.nv ∧ (s.ok r fs).serial = s.serial ∧ (s.ok r fs).tower = s.tower ∧ (s.ok r fs).ports = s.ports ∧
    (s.ok r fs).streams = s.streams ∧ (s.ok r fs).feed = s.feed ∧ (s.ok r fs).seam = s.seam ∧ (s.ok r fs).capture = s.capture ∧
    (s.ok r fs).heads = s.heads ∧ (s.ok r fs).lantern = s.lantern ∧ (s.ok r fs).shadeTab = s.shadeTab ∧
    (s.ok r fs).track = s.track ∧ (s.ok r fs).eject = s.eject ∧ (s.ok r fs).fe = s.fe ∧ (s.ok r fs).loops = s.loops ∧
    (s.ok r fs).mem = s.mem ∧ (s.ok r fs).turrets = s.turrets ∧ (s.ok r fs).dome = s.dome ∧ (s.ok r fs).cfg = s.cfg ∧
    (s.ok r fs).staged = s.staged ∧ (s.ok r fs).ram = s.ram ∧ (s.ok r fs).pending = s.pending := by simp [State.ok]

@[simp] theorem State.okLines_frame (s : State) (r : ReplyTo) (ls : List (List Fld)) :
    (s.okLines r ls).pwr = s.pwr ∧ (s.okLines r ls).sys = s.sys ∧ (s.okLines r ls).isl = s.isl ∧
    (s.okLines r ls).ledger = s.ledger ∧ (s.okLines r ls).nv = s.nv ∧ (s.okLines r ls).serial = s.serial ∧
    (s.okLines r ls).tower = s.tower ∧ (s.okLines r ls).ports = s.ports ∧ (s.okLines r ls).streams = s.streams ∧
    (s.okLines r ls).feed = s.feed ∧ (s.okLines r ls).seam = s.seam ∧ (s.okLines r ls).capture = s.capture ∧
    (s.okLines r ls).heads = s.heads ∧ (s.okLines r ls).lantern = s.lantern ∧ (s.okLines r ls).shadeTab = s.shadeTab ∧
    (s.okLines r ls).track = s.track ∧ (s.okLines r ls).eject = s.eject ∧ (s.okLines r ls).fe = s.fe ∧
    (s.okLines r ls).loops = s.loops ∧ (s.okLines r ls).mem = s.mem ∧ (s.okLines r ls).turrets = s.turrets ∧
    (s.okLines r ls).dome = s.dome ∧ (s.okLines r ls).cfg = s.cfg ∧ (s.okLines r ls).staged = s.staged ∧
    (s.okLines r ls).ram = s.ram ∧ (s.okLines r ls).pending = s.pending := by simp [State.okLines]

@[simp] theorem State.er_frame (s : State) (r : ReplyTo) (c : Nat) (d : List Fld) :
    (s.er r c d).pwr = s.pwr ∧ (s.er r c d).sys = s.sys ∧ (s.er r c d).isl = s.isl ∧ (s.er r c d).ledger = s.ledger ∧
    (s.er r c d).nv = s.nv ∧ (s.er r c d).serial = s.serial ∧ (s.er r c d).tower = s.tower ∧ (s.er r c d).ports = s.ports ∧
    (s.er r c d).streams = s.streams ∧ (s.er r c d).feed = s.feed ∧ (s.er r c d).seam = s.seam ∧
    (s.er r c d).capture = s.capture ∧ (s.er r c d).heads = s.heads ∧ (s.er r c d).lantern = s.lantern ∧
    (s.er r c d).shadeTab = s.shadeTab ∧ (s.er r c d).track = s.track ∧ (s.er r c d).eject = s.eject ∧ (s.er r c d).fe = s.fe ∧
    (s.er r c d).loops = s.loops ∧ (s.er r c d).mem = s.mem ∧ (s.er r c d).turrets = s.turrets ∧ (s.er r c d).dome = s.dome ∧
    (s.er r c d).cfg = s.cfg ∧ (s.er r c d).staged = s.staged ∧ (s.er r c d).ram = s.ram ∧ (s.er r c d).pending = s.pending := by simp [State.er]

@[simp] theorem State.turnAway_frame (s : State) (h : Hdr) (c : Nat) (d : List Fld) :
    (s.turnAway h c d).pwr = s.pwr ∧ (s.turnAway h c d).sys = s.sys ∧ (s.turnAway h c d).isl = s.isl ∧
    (s.turnAway h c d).ledger = s.ledger ∧ (s.turnAway h c d).nv = s.nv ∧ (s.turnAway h c d).jobs = s.jobs ∧
    (s.turnAway h c d).serial = s.serial ∧ (s.turnAway h c d).tower = s.tower ∧ (s.turnAway h c d).ports = s.ports ∧
    (s.turnAway h c d).streams = s.streams ∧ (s.turnAway h c d).feed = s.feed ∧ (s.turnAway h c d).seam = s.seam ∧
    (s.turnAway h c d).capture = s.capture ∧ (s.turnAway h c d).heads = s.heads ∧ (s.turnAway h c d).lantern = s.lantern ∧
    (s.turnAway h c d).shadeTab = s.shadeTab ∧ (s.turnAway h c d).track = s.track ∧ (s.turnAway h c d).eject = s.eject ∧
    (s.turnAway h c d).fe = s.fe ∧ (s.turnAway h c d).loops = s.loops ∧ (s.turnAway h c d).mem = s.mem ∧
    (s.turnAway h c d).turrets = s.turrets ∧ (s.turnAway h c d).dome = s.dome ∧ (s.turnAway h c d).cfg = s.cfg ∧
    (s.turnAway h c d).staged = s.staged ∧ (s.turnAway h c d).ram = s.ram ∧ (s.turnAway h c d).pending = s.pending := by simp [State.turnAway]

@[simp] theorem State.begun_frame (s : State) (h : Hdr) (c : Cmd) :
    (s.begun h c).pwr = s.pwr ∧ (s.begun h c).sys = s.sys ∧ (s.begun h c).isl = s.isl ∧ (s.begun h c).ledger = s.ledger ∧
    (s.begun h c).nv = s.nv ∧ (s.begun h c).serial = s.serial ∧ (s.begun h c).tower = s.tower ∧ (s.begun h c).ports = s.ports ∧
    (s.begun h c).streams = s.streams ∧ (s.begun h c).feed = s.feed ∧ (s.begun h c).seam = s.seam ∧
    (s.begun h c).capture = s.capture ∧ (s.begun h c).heads = s.heads ∧ (s.begun h c).lantern = s.lantern ∧
    (s.begun h c).shadeTab = s.shadeTab ∧ (s.begun h c).track = s.track ∧ (s.begun h c).eject = s.eject ∧
    (s.begun h c).fe = s.fe ∧ (s.begun h c).loops = s.loops ∧ (s.begun h c).mem = s.mem ∧ (s.begun h c).turrets = s.turrets ∧
    (s.begun h c).dome = s.dome ∧ (s.begun h c).cfg = s.cfg ∧ (s.begun h c).staged = s.staged ∧ (s.begun h c).ram = s.ram ∧
    (s.begun h c).pending = s.pending := by
  unfold State.begun
  cases h.tag <;> simp

@[simp] theorem State.useFree_frame (s : State)  :
    s.useFree.pwr = s.pwr ∧ s.useFree.isl = s.isl ∧ s.useFree.ledger = s.ledger ∧ s.useFree.nv = s.nv ∧ s.useFree.sess = s.sess ∧
    s.useFree.jobs = s.jobs ∧ s.useFree.serial = s.serial ∧ s.useFree.tower = s.tower ∧ s.useFree.ports = s.ports ∧
    s.useFree.streams = s.streams ∧ s.useFree.feed = s.feed ∧ s.useFree.seam = s.seam ∧ s.useFree.capture = s.capture ∧
    s.useFree.heads = s.heads ∧ s.useFree.lantern = s.lantern ∧ s.useFree.shadeTab = s.shadeTab ∧ s.useFree.track = s.track ∧
    s.useFree.eject = s.eject ∧ s.useFree.fe = s.fe ∧ s.useFree.loops = s.loops ∧ s.useFree.mem = s.mem ∧
    s.useFree.turrets = s.turrets ∧ s.useFree.dome = s.dome ∧ s.useFree.cfg = s.cfg ∧ s.useFree.staged = s.staged ∧
    s.useFree.ram = s.ram ∧ s.useFree.pending = s.pending := by simp [State.useFree]

@[simp] theorem State.useDraw_frame (s : State)  :
    s.useDraw.pwr = s.pwr ∧ s.useDraw.isl = s.isl ∧ s.useDraw.ledger = s.ledger ∧ s.useDraw.nv = s.nv ∧ s.useDraw.sess = s.sess ∧
    s.useDraw.jobs = s.jobs ∧ s.useDraw.serial = s.serial ∧ s.useDraw.tower = s.tower ∧ s.useDraw.ports = s.ports ∧
    s.useDraw.streams = s.streams ∧ s.useDraw.feed = s.feed ∧ s.useDraw.seam = s.seam ∧ s.useDraw.capture = s.capture ∧
    s.useDraw.heads = s.heads ∧ s.useDraw.lantern = s.lantern ∧ s.useDraw.shadeTab = s.shadeTab ∧ s.useDraw.track = s.track ∧
    s.useDraw.eject = s.eject ∧ s.useDraw.fe = s.fe ∧ s.useDraw.loops = s.loops ∧ s.useDraw.mem = s.mem ∧
    s.useDraw.turrets = s.turrets ∧ s.useDraw.cfg = s.cfg ∧ s.useDraw.staged = s.staged ∧ s.useDraw.ram = s.ram ∧
    s.useDraw.pending = s.pending := by simp [State.useDraw]

/-! ## Events -/

theorem hears_congr {t s : State} (hs : t.sess = s.sess) (hc : t.cfg = s.cfg) (a : Aud) (src : String) (k : Nat) :
    t.hears a src k = s.hears a src k := by
  unfold State.hears State.getSess State.int State.val
  rw [hs, hc]

theorem queueEvent_congr {t s : State} (hs : t.sess = s.sess) (k : Nat) (l : OutLine) :
    (t.queueEvent k l).sess = (s.queueEvent k l).sess := by
  cases t; cases s; cases hs; rfl

/-- An event is the same whatever the parts that no event looks at. -/
theorem emit_congr {t s : State} (hs : t.sess = s.sess) (hc : t.cfg = s.cfg) (ha : t.tower.addr = s.tower.addr)
    (hn : t.now = s.now) (a : Aud) (src word : String) (fs : List Fld) : (t.emit a src word fs).sess = (s.emit a src word fs).sess := by
  have hl : t.eventLine src word fs = s.eventLine src word fs := by simp [State.eventLine, State.addr?, ha, hn]
  unfold State.emit
  rw [hl]
  have : ∀ (l : List Nat) (u v : State), u.sess = v.sess → u.cfg = v.cfg →
      (l.foldl (fun t k => if t.hears a src k then t.queueEvent k (s.eventLine src word fs) else t) u).sess =
        (l.foldl (fun t k => if t.hears a src k then t.queueEvent k (s.eventLine src word fs) else t) v).sess := by
    intro l
    induction l with
    | nil => intro u v h _; exact h
    | cons k l ih =>
      intro u v h h'
      simp only [List.foldl]
      rw [hears_congr h h' a src k]
      split
      · exact ih _ _ (queueEvent_congr h _ _) (by simp [h'])
      · exact ih _ _ h h'
  exact this _ _ _ hs hc

/-- A state that has raised an event since another, with the sessions, settings, address and count of the other until then, has told it. -/
theorem emit_told {t s : State} (hs : t.sess = s.sess) (hc : t.cfg = s.cfg) (ha : t.tower.addr = s.tower.addr)
    (hn : t.now = s.now) (a : Aud) (src word : String) (fs : List Fld) : (t.emit a src word fs).told s a src word fs :=
  emit_congr hs hc ha hn a src word fs

/-! ## Sessions -/

theorem getSess_modSess (s : State) (k q : Nat) (f : Sess → Sess) :
    (s.modSess k f).getSess q = if q = k then f (s.getSess q) else s.getSess q := by
  by_cases h : q = k
  · subst h; simp
  · simp [h, State.getSess_modSess_other]

@[simp] theorem State.getSess_jobs (s : State) (l : List Job) (q : Nat) : { s with jobs := l }.getSess q = s.getSess q := rfl

@[simp] theorem State.queueEvent_sess (s : State) (k q : Nat) (l : OutLine) :
    ((s.queueEvent k l).getSess q).isOpen = (s.getSess q).isOpen ∧ ((s.queueEvent k l).getSess q).stream = (s.getSess q).stream ∧
    ((s.queueEvent k l).getSess q).login = (s.getSess q).login ∧
    ((s.queueEvent k l).getSess q).challenge = (s.getSess q).challenge ∧
    ((s.queueEvent k l).getSess q).fails = (s.getSess q).fails ∧ ((s.queueEvent k l).getSess q).lockEnd = (s.getSess q).lockEnd ∧
    ((s.queueEvent k l).getSess q).running = (s.getSess q).running ∧
    ((s.queueEvent k l).getSess q).waiting = (s.getSess q).waiting ∧
    ((s.queueEvent k l).getSess q).watches = (s.getSess q).watches ∧ ((s.queueEvent k l).getSess q).out = (s.getSess q).out ∧
    ((s.queueEvent k l).getSess q).lastCheck = (s.getSess q).lastCheck ∧
    ((s.queueEvent k l).getSess q).lastActive = (s.getSess q).lastActive ∧
    ((s.queueEvent k l).getSess q).nonce = (s.getSess q).nonce ∧ ((s.queueEvent k l).getSess q).gen = (s.getSess q).gen := by
  unfold State.queueEvent
  simp only [getSess_modSess]
  (repeat' split) <;> simp

@[simp] theorem State.emit_sess (s : State) (q : Nat) (a : Aud) (src word : String) (fs : List Fld) :
    ((s.emit a src word fs).getSess q).isOpen = (s.getSess q).isOpen ∧
    ((s.emit a src word fs).getSess q).stream = (s.getSess q).stream ∧
    ((s.emit a src word fs).getSess q).login = (s.getSess q).login ∧
    ((s.emit a src word fs).getSess q).challenge = (s.getSess q).challenge ∧
    ((s.emit a src word fs).getSess q).fails = (s.getSess q).fails ∧
    ((s.emit a src word fs).getSess q).lockEnd = (s.getSess q).lockEnd ∧
    ((s.emit a src word fs).getSess q).running = (s.getSess q).running ∧
    ((s.emit a src word fs).getSess q).waiting = (s.getSess q).waiting ∧
    ((s.emit a src word fs).getSess q).watches = (s.getSess q).watches ∧
    ((s.emit a src word fs).getSess q).out = (s.getSess q).out ∧
    ((s.emit a src word fs).getSess q).lastCheck = (s.getSess q).lastCheck ∧
    ((s.emit a src word fs).getSess q).lastActive = (s.getSess q).lastActive ∧
    ((s.emit a src word fs).getSess q).nonce = (s.getSess q).nonce ∧ ((s.emit a src word fs).getSess q).gen = (s.getSess q).gen := by
  simp only [State.emit, List.foldl]
  (repeat' split) <;> simp

@[simp] theorem State.begun_sess (s : State) (h : Hdr) (c : Cmd) (q : Nat) :
    ((s.begun h c).getSess q).isOpen = (s.getSess q).isOpen ∧ ((s.begun h c).getSess q).stream = (s.getSess q).stream ∧
    ((s.begun h c).getSess q).login = (s.getSess q).login ∧ ((s.begun h c).getSess q).challenge = (s.getSess q).challenge ∧
    ((s.begun h c).getSess q).fails = (s.getSess q).fails ∧ ((s.begun h c).getSess q).lockEnd = (s.getSess q).lockEnd ∧
    ((s.begun h c).getSess q).waiting = (s.getSess q).waiting ∧ ((s.begun h c).getSess q).watches = (s.getSess q).watches ∧
    ((s.begun h c).getSess q).out = (s.getSess q).out ∧ ((s.begun h c).getSess q).events = (s.getSess q).events ∧
    ((s.begun h c).getSess q).ready = (s.getSess q).ready ∧ ((s.begun h c).getSess q).dropped = (s.getSess q).dropped ∧
    ((s.begun h c).getSess q).eventsLost = (s.getSess q).eventsLost ∧ ((s.begun h c).getSess q).nonce = (s.getSess q).nonce ∧
    ((s.begun h c).getSess q).gen = (s.getSess q).gen := by
  unfold State.begun
  cases h.tag <;> simp only [getSess_modSess, State.getSess_jobs] <;> (repeat' split) <;> simp

/-- A session that no line has come on is as it was when the line starts. -/
theorem State.begun_other (s : State) (h : Hdr) (c : Cmd) {q : Nat} (hq : q ≠ h.sess) : (s.begun h c).getSess q = s.getSess q := by
  unfold State.begun
  cases h.tag <;> simp only [getSess_modSess, State.getSess_jobs, if_neg hq]

/-- An answer reaches no session but the command's. -/
theorem State.finish_other (s : State) (r : ReplyTo) (dat : List LineBody) (b : LineBody) {q : Nat} (hq : q ≠ r.sess) :
    (s.finish r dat b).getSess q = s.getSess q := by
  unfold State.finish State.release State.say
  split <;> simp only [getSess_modSess, State.getSess_jobs, if_neg hq]

theorem State.release_out (s : State) (r : ReplyTo) (q : Nat) : ((s.release r).getSess q).out = (s.getSess q).out := by
  unfold State.release
  split
  · simp only [getSess_modSess]; split <;> rfl
  · rfl

/-- A command whose session is open, with nothing else said on it since its line came, is answered. -/
theorem finish_answered (t s : State) (h : Hdr) (dat : List LineBody) (b : LineBody) (ho : (t.getSess h.sess).isOpen = true)
    (hg : (t.getSess h.sess).gen = (s.getSess h.sess).gen) (hout : (t.getSess h.sess).out = (s.getSess h.sess).out)
    (ha : t.addr? = s.addr?) :
    (t.finish (s.replyTo h) dat b).answered s h dat b := by
  refine ⟨(t.getSess h.sess).ready, ?_⟩
  have hr : (s.replyTo h).sess = h.sess := rfl
  unfold State.finish
  rw [State.release_out]
  unfold State.say
  rw [hr, State.getSess_modSess_self, if_pos ⟨ho, by rw [hg]; rfl⟩]
  simp [State.answerLine, hout, ha, hr]

end Sys2Proof.Machine
end

