-- ==== Sys2Proof/Laws/Halt.lean ====
section
/-! SUPPORT. What a halt does to a module that runs. -/

namespace Sys2Proof.Machine

/-- A map whose every value is changed alike reads as the changed value. -/
theorem look_map {α : Type} (d : α) (f : α → α) (hd : f d = d) (m : SMap α) (k : Nat) : SMap.look d (m.map fun v => (v.1, f v.2)) k = f (SMap.look d m k) := by
  induction m with
  | nil => simp [SMap.look, SMap.find, hd]
  | cons p m ih =>
    obtain ⟨a, x⟩ := p
    by_cases h : a = k <;> simp [SMap.look, SMap.find, h] at ih ⊢
    exact ih

/-- Everything that a halt does to a module that runs (R123, Table 3-5). -/
theorem halt_from (s : State) (c : Nat) (h1 : s.sys.state ≠ .off) (h2 : s.sys.state ≠ .halted) : (s.halt c).haltedFrom s c := by
  have hp : s.halt c = (((((((s.haltPorts ⟨s.tower.addr, c, s.now⟩).valvesOff).loopsAlarm).zeroise).haltSessions).haltOutputs).latchHalt c).enter .halted := by
    unfold State.halt; cases e : s.sys.state <;> simp_all
  rw [hp]
  unfold State.haltedFrom
  have q1 : ∀ i, (s.haltPorts i).sys = s.sys ∧ (s.haltPorts i).isl = s.isl ∧ (s.haltPorts i).tower = s.tower ∧ (s.haltPorts i).cfg = s.cfg ∧ (s.haltPorts i).shadeTab = s.shadeTab ∧ (s.haltPorts i).track = s.track ∧ (s.haltPorts i).pending = s.pending ∧ (s.haltPorts i).nv = s.nv ∧ (s.haltPorts i).loops = s.loops ∧ (s.haltPorts i).eject = s.eject ∧ (s.haltPorts i).sess = s.sess ∧ (s.haltPorts i).heads = s.heads := by
    intro i; simp [State.haltPorts]
  have q2 : ∀ t : State, (t.loopsAlarm).sys = t.sys ∧ (t.loopsAlarm).isl = t.isl ∧ (t.loopsAlarm).tower = t.tower ∧ (t.loopsAlarm).cfg = t.cfg ∧ (t.loopsAlarm).shadeTab = t.shadeTab ∧ (t.loopsAlarm).track = t.track ∧ (t.loopsAlarm).pending = t.pending ∧ (t.loopsAlarm).nv = t.nv ∧ (t.loopsAlarm).ports = t.ports ∧ (t.loopsAlarm).eject = t.eject ∧ (t.loopsAlarm).sess = t.sess ∧ t.loopsAlarm.heads = t.heads := by
    intro t; simp [State.loopsAlarm]
  refine ⟨?_, ?_, ?_, ?_, ?_, ?_, ?_, ?_, ?_, ?_, ?_, ?_, ?_, ?_, ?_, ?_, ?_, ?_, ?_, ?_, ?_, ?_, ?_, ?_, ?_, ?_, ?_, ?_, ?_, ?_, ?_, ?_, ?_, ?_, ?_⟩
  · simp [State.enter]
  · simp [State.enter, State.latchHalt, State.haltOutputs, State.haltSessions, State.zeroise, q2, State.valvesOff, State.countWaits, q1]; rfl
  · simp [State.enter, State.latchHalt, State.haltOutputs, State.haltSessions, State.zeroise, q2, State.valvesOff, State.countWaits, q1]
  · simp [State.enter, State.latchHalt, State.haltOutputs, State.haltSessions, State.zeroise, q2, State.valvesOff, State.countWaits, q1]
  · intro b; simp [State.vcomClosed, State.latchHalt, State.haltOutputs, SMap.look, SMap.find]
  · simp [State.latchHalt, State.haltOutputs, State.haltSessions, State.zeroise, q2, State.valvesOff]
  · intro mm
    have : ((((((((s.haltPorts ⟨s.tower.addr, c, s.now⟩).valvesOff).loopsAlarm).zeroise).haltSessions).haltOutputs).latchHalt c).enter .halted).getValve mm = (fun v : Valve => if v.state = .peak ∨ v.state = .hold then { v with state := v.latch.rest } else v) (s.getValve mm) := by
      simp [State.getValve, State.latchHalt, State.haltOutputs, State.haltSessions, State.zeroise, q2, State.valvesOff, State.countWaits, q1]
      exact look_map Valve.init (fun v : Valve => if v.state = .peak ∨ v.state = .hold then { v with state := v.latch.rest } else v) (by simp [Valve.init]) s.eject.valves mm
    rw [this]; dsimp only; split
    · cases (s.getValve mm).latch <;> simp [Latch.rest]
    · simp_all
  · simp [State.latchHalt, State.haltOutputs]
  · simp [State.latchHalt, State.haltOutputs]
  · simp [State.latchHalt, State.haltOutputs]
  · simp [State.latchHalt, State.haltOutputs]
  · simp [State.latchHalt, State.haltOutputs]
  · intro n hn
    simp only [State.getLoop, State.enter_frame, State.latchHalt, State.onSys_loops, State.haltOutputs, State.haltSessions,
      State.zeroise, State.loopsAlarm, List.foldl, State.valvesOff, State.countWaits]
    rcases hn with rfl | rfl <;> simp [State.modLoop, State.getLoop, q1, State.onLedger_cfg, SMap.look_put, State.int, State.val]
  · intro p hp
    have hp' : p = 0 ∨ p = 1 := by omega
    simp only [State.getPort, State.enter_frame, State.latchHalt, State.onSys_ports, State.haltOutputs, State.haltSessions, State.zeroise, q2, State.valvesOff, State.countWaits, State.onEject_ports, State.onLedger_ports, State.haltPorts, List.foldl]
    rcases hp' with rfl | rfl <;> simp [State.modPort, State.getPort, SMap.look_put, Port.quiet] <;> exact ⟨rfl, rfl⟩
  · simp [State.latchHalt, State.haltOutputs, State.haltSessions, State.zeroise, State.loopsAlarm, State.valvesOff, State.countWaits, State.haltPorts]
  · simp [State.latchHalt, State.haltOutputs, State.haltSessions, State.zeroise]
  · simp [State.latchHalt, State.haltOutputs, State.haltSessions, State.zeroise]
  · simp [State.latchHalt, State.haltOutputs, State.haltSessions, State.zeroise]
  · simp [State.latchHalt, State.haltOutputs, State.haltSessions, State.zeroise]
  · simp [State.latchHalt, State.haltOutputs, State.haltSessions, State.zeroise]
  · simp [State.latchHalt, State.haltOutputs, State.haltSessions, State.zeroise]
  · intro x
    have : ((((((((s.haltPorts ⟨s.tower.addr, c, s.now⟩).valvesOff).loopsAlarm).zeroise).haltSessions).haltOutputs).latchHalt c).enter .halted).getHead x = (fun h : Head => { h with state := .absent, v5 := 0, v12 := false }) (s.getHead x) := by
      simp [State.getHead, State.latchHalt, State.haltOutputs, State.haltSessions, State.zeroise, q2, State.valvesOff, State.countWaits, q1]
      exact look_map Head.init (fun h : Head => { h with state := .absent, v5 := 0, v12 := false }) (by rfl) s.heads x
    rw [this]; simp
  · simp [State.latchHalt, State.haltOutputs, Ledger.clear, Ledger.withdraw]
  · simp [State.latchHalt, State.haltOutputs, Ledger.clear, Ledger.withdraw]
  · simp [State.latchHalt, State.haltOutputs, Nv.stopped]
  · simp [State.latchHalt, State.haltOutputs, Nv.stopped, State.haltSessions, State.zeroise, q2, State.valvesOff, State.countWaits, q1]
  · intro k hk
    simp only [State.enter, State.emit_sess]
    simp [State.latchHalt, State.getSess, State.haltOutputs, State.haltSessions, SMap.look, SMap.find, Sess.init, SMap.put, SMap.ins, Ne.symm hk]
  · simp only [State.enter, State.emit_sess]
    simp [State.latchHalt, State.getSess, State.haltOutputs, State.haltSessions, SMap.look, SMap.find, Sess.init, SMap.put, SMap.ins]
  · simp [State.latchHalt, State.haltOutputs]
  · simp [State.latchHalt, State.haltOutputs, State.haltSessions, State.zeroise, q2, State.valvesOff, State.countWaits, q1]
  · simp [State.latchHalt, State.haltOutputs, State.haltSessions, State.zeroise, q2, State.valvesOff, State.countWaits, q1]
  · simp [State.latchHalt, State.haltOutputs, State.haltSessions, State.zeroise, q2, State.valvesOff, State.countWaits, q1]
  · simp [State.latchHalt, State.haltOutputs, State.haltSessions, State.zeroise, q2, State.valvesOff, State.countWaits, q1]
  · simp [State.latchHalt, State.haltOutputs, State.haltSessions, State.zeroise, q2, State.valvesOff, State.countWaits, q1]
  · simp [State.latchHalt, State.haltOutputs, State.haltSessions, State.zeroise, q2, State.valvesOff, State.countWaits, q1]

end Sys2Proof.Machine
end

