-- ==== Sys2Proof/Laws/Memory.lean ====
section
/-! SUPPORT. Every operation of the block and every command keeps the memory in its canonical form: one law for each. -/

set_option linter.unusedSimpArgs false
set_option linter.unusedVariables false

namespace Sys2Proof.Machine
theorem memoryOk_of_ram {s t : State} (e : t.ram = s.ram) (h : s.memoryOk) : t.memoryOk := by
  unfold State.memoryOk at h ⊢
  rw [e]
  exact h

theorem memoryOk_of_wf {t : State} {m : Ram} (e : t.ram = m) (h : SMap.wf 0 m = true) : t.memoryOk := by
  unfold State.memoryOk
  rw [e]
  exact h


theorem foldl_memoryOk {α : Type} (f : State → α → State) (h : ∀ t x, t.memoryOk → (f t x).memoryOk) (l : List α) (s : State)
    (hs : s.memoryOk) : (l.foldl f s).memoryOk := by
  induction l generalizing s with
  | nil => exact hs
  | cons x xs ih => exact ih _ (h _ _ hs)

@[simp] theorem State.onPwr_memoryOk (s : State) (f : Pwr → Pwr) : (s.onPwr f).memoryOk ↔ s.memoryOk := Iff.rfl
@[simp] theorem State.onSys_memoryOk (s : State) (f : Sys → Sys) : (s.onSys f).memoryOk ↔ s.memoryOk := Iff.rfl
@[simp] theorem State.onIsl_memoryOk (s : State) (f : Isl → Isl) : (s.onIsl f).memoryOk ↔ s.memoryOk := Iff.rfl
@[simp] theorem State.onLedger_memoryOk (s : State) (f : Ledger → Ledger) : (s.onLedger f).memoryOk ↔ s.memoryOk := Iff.rfl
@[simp] theorem State.onNv_memoryOk (s : State) (f : Nv → Nv) : (s.onNv f).memoryOk ↔ s.memoryOk := Iff.rfl
@[simp] theorem State.onSerial_memoryOk (s : State) (f : Serial → Serial) : (s.onSerial f).memoryOk ↔ s.memoryOk := Iff.rfl
@[simp] theorem State.onTower_memoryOk (s : State) (f : Tower → Tower) : (s.onTower f).memoryOk ↔ s.memoryOk := Iff.rfl
@[simp] theorem State.onFeed_memoryOk (s : State) (f : Feed → Feed) : (s.onFeed f).memoryOk ↔ s.memoryOk := Iff.rfl
@[simp] theorem State.onSeam_memoryOk (s : State) (f : Seam → Seam) : (s.onSeam f).memoryOk ↔ s.memoryOk := Iff.rfl
@[simp] theorem State.onCapture_memoryOk (s : State) (f : Capture → Capture) : (s.onCapture f).memoryOk ↔ s.memoryOk := Iff.rfl
@[simp] theorem State.onLantern_memoryOk (s : State) (f : Lantern → Lantern) : (s.onLantern f).memoryOk ↔ s.memoryOk := Iff.rfl
@[simp] theorem State.onTrack_memoryOk (s : State) (f : Track → Track) : (s.onTrack f).memoryOk ↔ s.memoryOk := Iff.rfl
@[simp] theorem State.onEject_memoryOk (s : State) (f : Eject → Eject) : (s.onEject f).memoryOk ↔ s.memoryOk := Iff.rfl
@[simp] theorem State.onFe_memoryOk (s : State) (f : Fe → Fe) : (s.onFe f).memoryOk ↔ s.memoryOk := Iff.rfl
@[simp] theorem State.onMem_memoryOk (s : State) (f : Mem → Mem) : (s.onMem f).memoryOk ↔ s.memoryOk := Iff.rfl
@[simp] theorem State.onDome_memoryOk (s : State) (f : Dome → Dome) : (s.onDome f).memoryOk ↔ s.memoryOk := Iff.rfl
@[simp] theorem State.modSess_memoryOk (s : State) (k : Nat) (f : Sess → Sess) : (s.modSess k f).memoryOk ↔ s.memoryOk := Iff.rfl
@[simp] theorem State.modPort_memoryOk (s : State) (k : Nat) (f : Port → Port) : (s.modPort k f).memoryOk ↔ s.memoryOk := Iff.rfl
@[simp] theorem State.modStream_memoryOk (s : State) (k : Nat) (f : Stream → Stream) : (s.modStream k f).memoryOk ↔ s.memoryOk := Iff.rfl
@[simp] theorem State.modHead_memoryOk (s : State) (k : Nat) (f : Head → Head) : (s.modHead k f).memoryOk ↔ s.memoryOk := Iff.rfl
@[simp] theorem State.modLoop_memoryOk (s : State) (k : Nat) (f : CLoop → CLoop) : (s.modLoop k f).memoryOk ↔ s.memoryOk := Iff.rfl
@[simp] theorem State.modTurret_memoryOk (s : State) (k : Nat) (f : Turret → Turret) : (s.modTurret k f).memoryOk ↔ s.memoryOk := Iff.rfl
@[simp] theorem State.modChan_memoryOk (s : State) (k : Nat) (f : Chan → Chan) : (s.modChan k f).memoryOk ↔ s.memoryOk := Iff.rfl
@[simp] theorem State.modValve_memoryOk (s : State) (k : Nat) (f : Valve → Valve) : (s.modValve k f).memoryOk ↔ s.memoryOk := Iff.rfl
@[simp] theorem State.modPin_memoryOk (s : State) (k : Nat) (f : Pin → Pin) : (s.modPin k f).memoryOk ↔ s.memoryOk := Iff.rfl
@[simp] theorem State.modEntry_memoryOk (s : State) (k : Nat) (f : Entry → Entry) : (s.modEntry k f).memoryOk ↔ s.memoryOk := Iff.rfl
@[simp] theorem State.modTurLoop_memoryOk (s : State) (k : Nat) (f : TurLoop → TurLoop) : (s.modTurLoop k f).memoryOk ↔ s.memoryOk := Iff.rfl
@[simp] theorem State.modClassSlot_memoryOk (s : State) (k : Nat) (f : ClassSlot → ClassSlot) : (s.modClassSlot k f).memoryOk ↔ s.memoryOk := Iff.rfl
@[simp] theorem State.modStat_memoryOk (s : State) (k : Nat) (f : TurStat → TurStat) : (s.modStat k f).memoryOk ↔ s.memoryOk := Iff.rfl
@[simp] theorem State.modPeriod_memoryOk (s : State) (k : Nat) (f : Period → Period) : (s.modPeriod k f).memoryOk ↔ s.memoryOk := Iff.rfl
@[simp] theorem State.modReqr_memoryOk (s : State) (k : Nat) (f : Requester → Requester) : (s.modReqr k f).memoryOk ↔ s.memoryOk := Iff.rfl
@[simp] theorem State.modDomeTur_memoryOk (s : State) (k : Nat) (f : DomeTur → DomeTur) : (s.modDomeTur k f).memoryOk ↔ s.memoryOk := Iff.rfl
@[simp] theorem State.modRec_memoryOk (s : State) (r : RecName) (f : Rec → Rec) : (s.modRec r f).memoryOk ↔ s.memoryOk := Iff.rfl
@[simp] theorem State.setVal_memoryOk (s : State) (k : Key) (v : Val) : (s.setVal k v).memoryOk ↔ s.memoryOk := Iff.rfl

@[simp] theorem State.holdFor_memoryOk (s : State) (k : Nat) (h : s.memoryOk) :
    (State.holdFor s k).memoryOk :=
  h

@[simp] theorem State.setVals_memoryOk (s : State) (vs : List (Key × Val)) (h : s.memoryOk) :
    (State.setVals s vs).memoryOk :=
  foldl_memoryOk _ (fun _ _ h => by simp [h]) _ _ h

@[simp] theorem State.stageVal_memoryOk (s : State) (k : Key) (v : Val) (h : s.memoryOk) :
    (State.stageVal s k v).memoryOk :=
  h

@[simp] theorem State.dropStaged_memoryOk (s : State) (p : Nat → Bool) (h : s.memoryOk) :
    (State.dropStaged s p).memoryOk :=
  h

@[simp] theorem State.useFree_memoryOk (s : State) (h : s.memoryOk) :
    (State.useFree s).memoryOk :=
  h

@[simp] theorem State.useDraw_memoryOk (s : State) (h : s.memoryOk) :
    (State.useDraw s).memoryOk :=
  h

@[simp] theorem State.useDigest_memoryOk (s : State) (h : s.memoryOk) :
    (State.useDigest s).memoryOk :=
  h

@[simp] theorem State.usePke_memoryOk (s : State) (h : s.memoryOk) :
    (State.usePke s).memoryOk :=
  h

@[simp] theorem State.queueEvent_memoryOk (s : State) (k : Nat) (l : OutLine) (h : s.memoryOk) :
    (State.queueEvent s k l).memoryOk :=
  h

@[simp] theorem State.emit_memoryOk (s : State) (a : Aud) (src word : String) (fs : List Fld) (h : s.memoryOk) :
    (State.emit s a src word fs).memoryOk := by
  unfold State.emit
  repeat' (first | (simp (maxDischargeDepth := 60) [h]; done) | split | (with_reducible refine foldl_memoryOk _ (fun t x h => ?_) _ _ ?_ <;> try dsimp only))

@[simp] theorem State.enter_memoryOk (s : State) (m : MState) (h : s.memoryOk) :
    (State.enter s m).memoryOk :=
  by simp [State.enter, h]

@[simp] theorem State.say_memoryOk (s : State) (r : ReplyTo) (dat : List LineBody) (b : LineBody) (h : s.memoryOk) :
    (State.say s r dat b).memoryOk :=
  h

@[simp] theorem State.release_memoryOk (s : State) (r : ReplyTo) (h : s.memoryOk) :
    (State.release s r).memoryOk :=
  by unfold State.release; (repeat' split) <;> exact h

@[simp] theorem State.finish_memoryOk (s : State) (r : ReplyTo) (dat : List LineBody) (b : LineBody) (h : s.memoryOk) :
    (State.finish s r dat b).memoryOk :=
  by simp [State.finish, h]

@[simp] theorem State.ok_memoryOk (s : State) (r : ReplyTo) (fs : List Fld) (h : s.memoryOk) :
    (State.ok s r fs).memoryOk :=
  by simp [State.ok, h]

@[simp] theorem State.okLines_memoryOk (s : State) (r : ReplyTo) (ls : List (List Fld)) (h : s.memoryOk) :
    (State.okLines s r ls).memoryOk :=
  by simp [State.okLines, h]

@[simp] theorem State.er_memoryOk (s : State) (r : ReplyTo) (code : Nat) (detail : List Fld) (h : s.memoryOk) :
    (State.er s r code detail).memoryOk :=
  by simp [State.er, h]

@[simp] theorem State.okTo_memoryOk (s : State) (r : Option ReplyTo) (fs : List Fld) (h : s.memoryOk) :
    (State.okTo s r fs).memoryOk :=
  by unfold State.okTo; (repeat' split) <;> simp [h]

@[simp] theorem State.erTo_memoryOk (s : State) (r : Option ReplyTo) (code : Nat) (detail : List Fld) (h : s.memoryOk) :
    (State.erTo s r code detail).memoryOk :=
  by unfold State.erTo; (repeat' split) <;> simp [h]

@[simp] theorem State.holdIr_memoryOk (s : State) (r : ReplyTo) (h : s.memoryOk) :
    (State.holdIr s r).memoryOk :=
  h

@[simp] theorem State.loopsAlarm_memoryOk (s : State) (h : s.memoryOk) :
    (State.loopsAlarm s).memoryOk :=
  h

@[simp] theorem State.countWaits_memoryOk (s : State) (as : List Action) (h : s.memoryOk) :
    (State.countWaits s as).memoryOk :=
  h

@[simp] theorem State.valvesOff_memoryOk (s : State) (h : s.memoryOk) :
    (State.valvesOff s).memoryOk :=
  h

@[simp] theorem State.haltPorts_memoryOk (s : State) (i : HaltInfo) (h : s.memoryOk) :
    (State.haltPorts s i).memoryOk :=
  h

@[simp] theorem State.haltSessions_memoryOk (s : State) (h : s.memoryOk) :
    (State.haltSessions s).memoryOk :=
  h

@[simp] theorem State.zeroise_memoryOk (s : State) (h : s.memoryOk) :
    (State.zeroise s).memoryOk := memoryOk_of_wf rfl (Ram.flash_wf _ h)

@[simp] theorem State.haltOutputs_memoryOk (s : State) (h : s.memoryOk) :
    (State.haltOutputs s).memoryOk :=
  h

@[simp] theorem State.latchHalt_memoryOk (s : State) (cause : Nat) (h : s.memoryOk) :
    (State.latchHalt s cause).memoryOk :=
  h

@[simp] theorem State.halt_memoryOk (s : State) (cause : Nat) (h : s.memoryOk) :
    (State.halt s cause).memoryOk :=
  by unfold State.halt; (repeat' split) <;> simp (maxDischargeDepth := 60) [h]

@[simp] theorem State.started_memoryOk (s : State) (w : ReqFor) (h : s.memoryOk) :
    (State.started s w).memoryOk :=
  by unfold State.started; (repeat' split) <;> simp [h]

@[simp] theorem State.grant_memoryOk (s : State) (r : Req) (h : s.memoryOk) :
    (State.grant s r).memoryOk :=
  by simp [State.grant, h]

@[simp] theorem State.grantNext_memoryOk (s : State) (h : s.memoryOk) :
    (State.grantNext s).memoryOk :=
  by unfold State.grantNext; (repeat' split) <;> simp [h]

@[simp] theorem State.grantAll_memoryOk (n : Nat) (s : State) (h : s.memoryOk) : (State.grantAll n s).memoryOk := by
  induction n generalizing s with
  | zero => exact h
  | succ n ih =>
    unfold State.grantAll
    split
    · exact ih _ (State.grant_memoryOk _ _ h)
    · exact h

@[simp] theorem State.ledgerTick_memoryOk (s : State) (h : s.memoryOk) :
    (State.ledgerTick s).memoryOk := State.grantAll_memoryOk _ _ h

@[simp] theorem State.file_memoryOk (s : State) (cls : Cls) (turret peak prio wait : Nat) (what : ReqFor) (h : s.memoryOk) :
    (State.file s cls turret peak prio wait what).memoryOk :=
  by simp only [State.file]; (repeat' split) <;> simp [h]

@[simp] theorem State.releaseGrant_memoryOk (s : State) (what : ReqFor) (h : s.memoryOk) :
    (State.releaseGrant s what).memoryOk :=
  h

@[simp] theorem State.withdrawReq_memoryOk (s : State) (what : ReqFor) (h : s.memoryOk) :
    (State.withdrawReq s what).memoryOk :=
  h

@[simp] theorem State.withdrawAccel_memoryOk (s : State) (h : s.memoryOk) :
    (State.withdrawAccel s).memoryOk :=
  h

@[simp] theorem State.dropAccel_memoryOk (s : State) (h : s.memoryOk) :
    (State.dropAccel s).memoryOk :=
  h

@[simp] theorem State.countRefused_memoryOk (s : State) (c : Cls) (h : s.memoryOk) :
    (State.countRefused s c).memoryOk :=
  h

@[simp] theorem State.dropRefused_memoryOk (s : State) (r : Req) (h : s.memoryOk) :
    (State.dropRefused s r).memoryOk :=
  h

theorem execLedgerGrant_memoryOk (s : State) (h : s.memoryOk) :
    ∃ t, execLedgerGrant s = .next t ∧ t.memoryOk :=
  ⟨_, rfl, by simp [h]⟩

theorem execLedgerP24Check_memoryOk (measured : Nat) (s : State) (h : s.memoryOk) :
    ∃ t, execLedgerP24Check measured s = .next t ∧ t.memoryOk :=
  ⟨_, rfl, by dsimp only; (repeat' split) <;> simp [h]⟩

@[simp] theorem State.fileWrite_memoryOk (s : State) (w : Write) (h : s.memoryOk) :
    (State.fileWrite s w).memoryOk :=
  h

@[simp] theorem State.fileFlash_memoryOk (s : State) (h : s.memoryOk) :
    (State.fileFlash s).memoryOk :=
  by unfold State.fileFlash; (repeat' split) <;> simp [h]

@[simp] theorem State.fileErase_memoryOk (s : State) (rec : RecName) (slot : Bool) (h : s.memoryOk) :
    (State.fileErase s rec slot).memoryOk :=
  by simp [State.fileErase, h]

@[simp] theorem State.startWrite_memoryOk (s : State) (w : Write) (rest : List Write) (h : s.memoryOk) :
    (State.startWrite s w rest).memoryOk :=
  by simp [State.startWrite, h]

@[simp] theorem State.shelveErase_memoryOk (s : State) (h : s.memoryOk) :
    (State.shelveErase s).memoryOk :=
  by unfold State.shelveErase; (repeat' split) <;> simp [h]

theorem execRecordWriteStart_memoryOk (s : State) (h : s.memoryOk) :
    ∃ t, execRecordWriteStart s = .next t ∧ t.memoryOk :=
  ⟨_, rfl, by (repeat' split) <;> simp [h]⟩

@[simp] theorem State.flashCollapse_memoryOk (s : State) (h : s.memoryOk) :
    (State.flashCollapse s).memoryOk :=
  by unfold State.flashCollapse; (repeat' split) <;> simp [h]

theorem execSupersededSlotErase_memoryOk (rec : RecName) (s : State) (h : s.memoryOk) :
    ∃ t, execSupersededSlotErase rec s = .next t ∧ t.memoryOk :=
  ⟨_, rfl, by dsimp only; (repeat' split) <;> simp [h]⟩

theorem execRecordRepair_memoryOk (rec : RecName) (s : State) (h : s.memoryOk) :
    ∃ t, execRecordRepair rec s = .next t ∧ t.memoryOk :=
  ⟨_, rfl, by dsimp only; (repeat' split) <;> simp [h]⟩

@[simp] theorem State.fileCheckpoints_memoryOk (s : State) (h : s.memoryOk) :
    (State.fileCheckpoints s).memoryOk :=
  by unfold State.fileCheckpoints; (repeat' split) <;> first | (simp [h]; done) | exact foldl_memoryOk _ (fun _ _ h => by simp [h]) _ _ (by simp [h])

@[simp] theorem State.markBad_memoryOk (s : State) (bs : List BadSlot) (h : s.memoryOk) :
    (State.markBad s bs).memoryOk :=
  foldl_memoryOk _ (fun _ _ h => by simp [h]) _ _ h

@[simp] theorem State.countProbes_memoryOk (s : State) (n : Nat) (h : s.memoryOk) :
    (State.countProbes s n).memoryOk :=
  h

@[simp] theorem State.probed_memoryOk (s : State) (rs : List RecName) (h : s.memoryOk) :
    (State.probed s rs).memoryOk :=
  h

theorem execCheckpointDue_memoryOk (s : State) (h : s.memoryOk) :
    ∃ t, execCheckpointDue s = .next t ∧ t.memoryOk :=
  ⟨_, rfl, by (repeat' split) <;> simp [h]⟩

@[simp] theorem doNvCheckpoint_memoryOk (r : ReplyTo) (s : State) (h : s.memoryOk) :
    (doNvCheckpoint r s).memoryOk :=
  h

@[simp] theorem doNvVerify_memoryOk (r : ReplyTo) (bad : List BadSlot) (s0 : State) (h : s0.memoryOk) :
    (doNvVerify r bad s0).memoryOk := by
  unfold doNvVerify
  dsimp only
  refine State.ok_memoryOk _ _ _ (foldl_memoryOk _ (fun t x h => ?_) _ _ (by simp [h]))
  exact State.emit_memoryOk _ _ _ _ _ (State.emit_memoryOk _ _ _ _ _ h)

@[simp] theorem State.setPause_memoryOk (s : State) (bit : Nat) (h : s.memoryOk) :
    (State.setPause s bit).memoryOk :=
  h

@[simp] theorem State.energise_memoryOk (s : State) (h : s.memoryOk) :
    (State.energise s).memoryOk :=
  by unfold State.energise; (repeat' split) <;> simp [h]

@[simp] theorem State.holdCoils_memoryOk (s : State) (h : s.memoryOk) :
    (State.holdCoils s).memoryOk :=
  by unfold State.holdCoils; (repeat' split) <;> simp [h]

@[simp] theorem State.deEnergise_memoryOk (s : State) (h : s.memoryOk) :
    (State.deEnergise s).memoryOk :=
  h

@[simp] theorem State.restCoils_memoryOk (s : State) (h : s.memoryOk) :
    (State.restCoils s).memoryOk :=
  by unfold State.restCoils; (repeat' split) <;> simp [h]

@[simp] theorem State.clearPause_memoryOk (s : State) (bits : Nat) (h : s.memoryOk) :
    (State.clearPause s bits).memoryOk :=
  by simp only [State.clearPause]; (repeat' split) <;> simp [h]

@[simp] theorem State.fillCross_memoryOk (s : State) (h : s.memoryOk) :
    (State.fillCross s).memoryOk :=
  by unfold State.fillCross; (repeat' split) <;> simp [h]

@[simp] theorem State.putRecs_memoryOk (s : State) (stream : Nat) (rs : List (List Byte)) (h : s.memoryOk) :
    (State.putRecs s stream rs).memoryOk :=
  h

@[simp] theorem State.dropRec_memoryOk (s : State) (obj : Option Nat) (line : LineMark) (h : s.memoryOk) :
    (State.dropRec s obj line).memoryOk :=
  h

@[simp] theorem State.spreadGap_memoryOk (s : State) (stream : Nat) (gs : List (List Byte)) (h : s.memoryOk) :
    (State.spreadGap s stream gs).memoryOk := by
  unfold State.spreadGap
  repeat' (first | (simp (maxDischargeDepth := 60) [h]; done) | split | (with_reducible refine foldl_memoryOk _ (fun t x h => ?_) _ _ ?_ <;> try dsimp only))

@[simp] theorem State.captureWrite_memoryOk (s : State) (stream : Nat) (obj : Option Nat) (line : LineMark) (data : List Byte) (h : s.memoryOk) :
    (State.captureWrite s stream obj line data).memoryOk :=
  by simp only [State.captureWrite]; (repeat' split) <;> simp (maxDischargeDepth := 60) [h]

@[simp] theorem State.writeMarker_memoryOk (s : State) (line : LineMark) (m : List Byte) (h : s.memoryOk) :
    (State.writeMarker s line m).memoryOk :=
  foldl_memoryOk _ (fun _ _ h => by simp [h]) _ _ h

@[simp] theorem State.turnRoll_memoryOk (s : State) (h : s.memoryOk) :
    (State.turnRoll s).memoryOk :=
  h

@[simp] theorem State.rested_memoryOk (s : State) (h : s.memoryOk) :
    (State.rested s).memoryOk :=
  by unfold State.rested; (repeat' split) <;> simp [h]

@[simp] theorem State.endAccel_memoryOk (s : State) (h : s.memoryOk) :
    (State.endAccel s).memoryOk :=
  foldl_memoryOk _ (fun _ _ h => by simp [h]) _ _ h

theorem execStepperSpeedStep_memoryOk (s : State) (h : s.memoryOk) :
    ∃ t, execStepperSpeedStep s = .next t ∧ t.memoryOk :=
  ⟨_, rfl, by dsimp only; (repeat' split) <;> simp (maxDischargeDepth := 60) [h]⟩

@[simp] theorem State.measureRate_memoryOk (s : State) (h : s.memoryOk) :
    (State.measureRate s).memoryOk :=
  h

@[simp] theorem State.startRamp_memoryOk (s : State) (h : s.memoryOk) :
    (State.startRamp s).memoryOk :=
  by unfold State.startRamp; (repeat' split) <;> simp [h]

theorem execRateLoopStep_memoryOk (s : State) (h : s.memoryOk) :
    ∃ t, execRateLoopStep s = .next t ∧ t.memoryOk :=
  ⟨_, rfl, by dsimp only; (repeat' split) <;> simp (maxDischargeDepth := 60) [h]⟩

theorem execRampReachesTarget_memoryOk (s : State) (h : s.memoryOk) :
    ∃ t, execRampReachesTarget s = .next t ∧ t.memoryOk :=
  ⟨_, rfl, by (repeat' split) <;> simp [h]⟩

theorem execRollStandstill_memoryOk (s : State) (h : s.memoryOk) :
    ∃ t, execRollStandstill s = .next t ∧ t.memoryOk :=
  ⟨_, rfl, by (repeat' split) <;> simp [h]⟩

theorem execEjectCapacityUpdate_memoryOk (s : State) (h : s.memoryOk) :
    ∃ t, execEjectCapacityUpdate s = .next t ∧ t.memoryOk :=
  ⟨_, rfl, by (repeat' split) <;> simp [h]⟩

theorem execFeedStall_memoryOk (s : State) (h : s.memoryOk) :
    ∃ t, execFeedStall s = .next t ∧ t.memoryOk :=
  ⟨_, rfl, by (repeat' split) <;> simp (maxDischargeDepth := 60) [h]⟩

theorem execFeedCoilFault_memoryOk (f : CoilFault) (s : State) (h : s.memoryOk) :
    ∃ t, execFeedCoilFault f s = .next t ∧ t.memoryOk :=
  ⟨_, rfl, by (repeat' split) <;> simp (maxDischargeDepth := 60) [h]⟩

@[simp] theorem doFeedPause_memoryOk (r : ReplyTo) (s : State) (h : s.memoryOk) :
    (doFeedPause r s).memoryOk := by
  unfold doFeedPause; split <;> simp [h]

@[simp] theorem doFeedResume_memoryOk (r : ReplyTo) (s : State) (h : s.memoryOk) :
    (doFeedResume r s).memoryOk :=
  by simp only [doFeedResume]; (repeat' split) <;> simp (maxDischargeDepth := 60) [h]

theorem execSegmentOpen_memoryOk (s : State) (h : s.memoryOk) :
    ∃ t, execSegmentOpen s = .next t ∧ t.memoryOk :=
  ⟨_, rfl, by (repeat' split) <;> simp [h]⟩

@[simp] theorem State.closeSegment_memoryOk (s : State) (forced : Bool) (h : s.memoryOk) :
    (State.closeSegment s forced).memoryOk :=
  by simp [State.closeSegment, h]

theorem execClearTimeout_memoryOk (s : State) (h : s.memoryOk) :
    ∃ t, execClearTimeout s = .next t ∧ t.memoryOk :=
  ⟨_, rfl, by (repeat' split) <;> simp [h]⟩

@[simp] theorem State.applyEntries_memoryOk (s : State) (h : s.memoryOk) :
    (State.applyEntries s).memoryOk :=
  foldl_memoryOk _ (fun _ _ h => by simp [h]) _ _ h

@[simp] theorem State.openPass_memoryOk (s : State) (p : Pass) (h : s.memoryOk) :
    (State.openPass s p).memoryOk :=
  h

@[simp] theorem State.startPass_memoryOk (s0 : State) (h : s0.memoryOk) :
    (State.startPass s0).memoryOk :=
  by simp only [State.startPass]; (repeat' split) <;> simp [h]

@[simp] theorem State.startNext_memoryOk (s : State) (h : s.memoryOk) :
    (State.startNext s).memoryOk :=
  by unfold State.startNext; dsimp only; split <;> simp [h]

@[simp] theorem State.suspend_memoryOk (s : State) (e reps : Nat) (h : s.memoryOk) :
    (State.suspend s e reps).memoryOk :=
  h

@[simp] theorem State.preempt_memoryOk (s : State) (h : s.memoryOk) :
    (State.preempt s).memoryOk :=
  by unfold State.preempt; (repeat' split) <;> simp [h]

@[simp] theorem State.fileUrgent_memoryOk (s : State) (e : Nat) (trig : Bool) (rs : List ReplyTo) (h : s.memoryOk) :
    (State.fileUrgent s e trig rs).memoryOk :=
  by unfold State.fileUrgent; (repeat' split) <;> simp [h]

theorem execSeqSlotStart_memoryOk (slot : Nat) (s : State) (h : s.memoryOk) :
    ∃ t, execSeqSlotStart slot s = .next t ∧ t.memoryOk :=
  ⟨_, rfl, by (repeat' split) <;> simp [h]⟩

theorem execSeqSettleEnd_memoryOk (s : State) (h : s.memoryOk) :
    ∃ t, execSeqSettleEnd s = .next t ∧ t.memoryOk :=
  ⟨_, rfl, h⟩

theorem execSeqDelayEnd_memoryOk (turret : Nat) (s : State) (h : s.memoryOk) :
    ∃ t, execSeqDelayEnd turret s = .next t ∧ t.memoryOk :=
  ⟨_, rfl, by (repeat' split) <;> simp [h]⟩

theorem execSeqFrameStart_memoryOk (s : State) (h : s.memoryOk) :
    ∃ t, execSeqFrameStart s = .next t ∧ t.memoryOk :=
  ⟨_, rfl, by (repeat' split) <;> simp [h]⟩

@[simp] theorem State.stopFe_memoryOk (s : State) (n : Nat) (h : s.memoryOk) :
    (State.stopFe s n).1.memoryOk :=
  by simp [State.stopFe, h]

@[simp] theorem State.settleExcite_memoryOk (s : State) (h : s.memoryOk) :
    (State.settleExcite s).memoryOk :=
  by simp only [State.settleExcite]; (repeat' split) <;> simp [h]

@[simp] theorem State.dropFe_memoryOk (s : State) (r : ReplyTo) (h : s.memoryOk) :
    (State.dropFe s r).memoryOk :=
  by simp [State.dropFe, h]

@[simp] theorem State.pkeNext_memoryOk (s : State) (h : s.memoryOk) :
    (State.pkeNext s).memoryOk :=
  by unfold State.pkeNext; (repeat' split) <;> simp [h]

@[simp] theorem State.digNext1_memoryOk (s : State) (h : s.memoryOk) :
    (State.digNext1 s).memoryOk :=
  by unfold State.digNext1; (repeat' split) <;> simp [h]

@[simp] theorem State.domeNext_memoryOk (s : State) (h : s.memoryOk) :
    (State.domeNext s).memoryOk :=
  by unfold State.domeNext; (repeat' split) <;> simp (maxDischargeDepth := 60) [h]

@[simp] theorem State.wipe_memoryOk (s : State) (b : Option (Nat × Nat)) (h : s.memoryOk) : (s.wipe b).memoryOk := by
  cases b with
  | none => exact h
  | some p => exact memoryOk_of_wf rfl (Ram.clear_wf _ _ h)

theorem State.dropWrites_memoryOk (s : State) (f : DomeFrom) (h : s.memoryOk) :
    ∀ t, State.dropWrites s f = some t → t.memoryOk := by
  intro t ht
  simp only [State.dropWrites] at ht
  split at ht
  · cases ht
  · simp only [Option.some.injEq] at ht
    subst ht
    exact foldl_memoryOk _ (fun t x h => State.wipe_memoryOk _ _ h) _ _ h

theorem State.stopWrite_memoryOk (s : State) (f : DomeFrom) (h : s.memoryOk) :
    ∀ t, State.stopWrite s f = some t → t.memoryOk := by
  intro t ht
  unfold State.stopWrite at ht
  (repeat' split at ht) <;> first | (cases ht; done) | exact State.dropWrites_memoryOk _ _ h _ ht | (simp only [Option.some.injEq] at ht; subst ht; simp (maxDischargeDepth := 60) [h]; done)

@[simp] theorem State.stopDome_memoryOk (s : State) (f : DomeFrom) (h : s.memoryOk) :
    (State.stopDome s f).memoryOk := by
  unfold State.stopDome
  dsimp only
  exact foldl_memoryOk _ (fun t x h => (State.modDomeTur_memoryOk _ _ _).2 h) _ _
    ((State.onDome_memoryOk _ _).2 (foldl_memoryOk _ (fun t x h => State.withdrawReq_memoryOk _ _ h) _ _ h))

theorem State.abortable_memoryOk (s : State) (r : ReplyTo) (h : s.memoryOk) :
    ∀ t, State.abortable s r = some t → t.memoryOk := by
  intro t ht
  unfold State.abortable at ht
  split at ht
  · cases ht
  split at ht
  · cases ht
  split at ht
  · cases ht
  split at ht
  · cases ht
  rename_i t' h'
  extract_lets d u v w at ht
  have hd : d.memoryOk := State.dropFe_memoryOk _ r (State.stopDome_memoryOk t' (.traop r) (State.stopWrite_memoryOk _ _ h _ h'))
  have hu : u.memoryOk := (State.onEject_memoryOk _ _).2 (State.countWaits_memoryOk _ _ hd)
  have hv : v.memoryOk := by
    change (if _ then _ else _ : State).memoryOk
    split
    · exact (State.onMem_memoryOk _ _).2 (foldl_memoryOk _ (fun _ _ h => State.withdrawReq_memoryOk _ _ h) _ _ hu)
    · exact hu
  cases ht
  exact State.settleExcite_memoryOk _ ((State.onLantern_memoryOk _ _).2 hv)

@[simp] theorem State.abortCmd_memoryOk (s : State) (r : ReplyTo) (h : s.memoryOk) :
    (State.abortCmd s r).1.memoryOk := by
  unfold State.abortCmd
  split
  · rename_i t ht
    exact State.er_memoryOk _ _ _ _ (State.abortable_memoryOk _ _ h _ ht)
  · exact h

@[simp] theorem State.dropWaiting_memoryOk (s : State) (k : Nat) (h : s.memoryOk) :
    (State.dropWaiting s k).1.memoryOk :=
  by unfold State.dropWaiting; (repeat' split) <;> simp [h]

@[simp] theorem State.abortAll_memoryOk (s : State) (l : List ReplyTo) (h : s.memoryOk) : (s.abortAll l).1.memoryOk := by
  induction l generalizing s with
  | nil => exact h
  | cons r rs ih => exact ih _ (State.abortCmd_memoryOk _ _ h)

@[simp] theorem State.abortNow_memoryOk (s : State) (r : ReplyTo) (a : AbortArg) (h : s.memoryOk) :
    (State.abortNow s r a).memoryOk := by
  unfold State.abortNow
  dsimp only
  split
  · exact State.dropWaiting_memoryOk _ _ (State.abortAll_memoryOk _ _ h)
  · exact State.abortAll_memoryOk _ _ h
  · exact State.dropWaiting_memoryOk _ _ (State.abortAll_memoryOk _ _ h)

@[simp] theorem doAbort_memoryOk (r : ReplyTo) (a : AbortArg) (s : State) (h : s.memoryOk) :
    (doAbort r a s).memoryOk := by
  exact h

@[simp] theorem State.abortTick_memoryOk (s : State) (h : s.memoryOk) :
    (State.abortTick s).memoryOk :=
  by unfold State.abortTick; (repeat' split) <;> first | (simp [h]; done) | exact foldl_memoryOk _ (fun _ _ h => by simp [h]) _ _ (by simp [h])

@[simp] theorem State.endLogin_memoryOk (s : State) (k : Nat) (keep : Option ReplyTo) (h : s.memoryOk) :
    (State.endLogin s k keep).memoryOk := by
  unfold State.endLogin
  dsimp only
  rw [State.modSess_memoryOk]
  exact State.dropWaiting_memoryOk _ _ (State.abortAll_memoryOk _ _ h)

@[simp] theorem State.closeSession_memoryOk (s : State) (k : Nat) (h : s.memoryOk) :
    (State.closeSession s k).memoryOk := by
  refine memoryOk_of_ram (s := ((s.modSess k fun y => { y with isOpen := false }).endLogin k none).modSess k Sess.closed) rfl ?_
  exact (State.modSess_memoryOk _ _ _).2 (State.endLogin_memoryOk _ _ _ ((State.modSess_memoryOk _ _ _).2 h))

@[simp] theorem State.leaveLogin_memoryOk (s : State) (r : ReplyTo) (h : s.memoryOk) :
    (State.leaveLogin s r).memoryOk :=
  by unfold State.leaveLogin; (repeat' split) <;> simp [h]

@[simp] theorem State.logIn_memoryOk (s : State) (r : ReplyTo) (n : Nat) (h : s.memoryOk) :
    (State.logIn s r n).memoryOk :=
  by simp (maxDischargeDepth := 60) [State.logIn, h]

@[simp] theorem State.loginFails_memoryOk (s : State) (r : ReplyTo) (n : Nat) (h : s.memoryOk) :
    (State.loginFails s r n).memoryOk :=
  by simp only [State.loginFails]; (repeat' split) <;> simp [h]

@[simp] theorem doLoginChallenge_memoryOk (r : ReplyTo) (n : Int) (s : State) (h : s.memoryOk) :
    (doLoginChallenge r n s).memoryOk :=
  by unfold doLoginChallenge; (repeat' split) <;> simp [h]

@[simp] theorem State.findWrap_memoryOk (s : State) (n : Nat) (w : Option (List Byte)) (h : s.memoryOk) :
    (State.findWrap s n w).memoryOk :=
  h

@[simp] theorem doLoginResponse_memoryOk (r : ReplyTo) (n : Int) (x : LoginIn) (s : State) (h : s.memoryOk) :
    (doLoginResponse r n x s).memoryOk :=
  by simp only [doLoginResponse]; (repeat' split) <;> simp [h]

@[simp] theorem doLoginPin_memoryOk (r : ReplyTo) (n : Int) (digits : List Char) (s : State) (h : s.memoryOk) :
    (doLoginPin r n digits s).memoryOk :=
  by simp only [doLoginPin]; (repeat' split) <;> simp (maxDischargeDepth := 60) [h]

@[simp] theorem doLogout_memoryOk (r : ReplyTo) (s : State) (h : s.memoryOk) :
    (doLogout r s).memoryOk :=
  by unfold doLogout; (repeat' split) <;> simp [h]

theorem execChallengeExpiry_memoryOk (sess : Nat) (s : State) (h : s.memoryOk) :
    ∃ t, execChallengeExpiry sess s = .next t ∧ t.memoryOk :=
  ⟨_, rfl, h⟩

theorem execSessionIdleTimeout_memoryOk (sess : Nat) (s : State) (h : s.memoryOk) :
    ∃ t, execSessionIdleTimeout sess s = .next t ∧ t.memoryOk :=
  ⟨_, rfl, by (repeat' split) <;> simp [h]⟩

theorem execLockoutExpiry_memoryOk (who : Option (Nat × Nat)) (s : State) (h : s.memoryOk) :
    ∃ t, execLockoutExpiry who s = .next t ∧ t.memoryOk :=
  ⟨_, rfl, by (repeat' split) <;> simp [h]⟩

theorem execPinLockoutExpiry_memoryOk (n : Nat) (s : State) (h : s.memoryOk) :
    ∃ t, execPinLockoutExpiry n s = .next t ∧ t.memoryOk :=
  ⟨_, rfl, by (repeat' split) <;> simp [h]⟩

@[simp] theorem State.endLogins_memoryOk (s : State) (h : s.memoryOk) :
    (State.endLogins s).memoryOk := by
  unfold State.endLogins
  exact foldl_memoryOk _ (fun _ _ h => State.endLogin_memoryOk _ _ _ h) _ _ (foldl_memoryOk _ (fun t k h => (State.modSess_memoryOk t k _).2 h) _ _ h)

@[simp] theorem State.dropCommands_memoryOk (s : State) (was : SMap Sess) (h : s.memoryOk) :
    (State.dropCommands s was).memoryOk :=
  h

@[simp] theorem State.resetCommandIsland_memoryOk (s : State) (h : s.memoryOk) :
    (State.resetCommandIsland s).memoryOk := by
  have h1 : (s.endLogins.dropCommands s.sess).memoryOk := State.dropCommands_memoryOk _ _ (State.endLogins_memoryOk _ h)
  unfold State.resetCommandIsland
  generalize s.endLogins.dropCommands s.sess = u at h1
  extract_lets log w v
  have hv : v.memoryOk := h1
  split
  · exact State.halt_memoryOk _ _ hv
  · exact hv

theorem execI25Reset_memoryOk (s : State) (h : s.memoryOk) :
    ∃ t, execI25Reset s = .next t ∧ t.memoryOk :=
  ⟨_, rfl, by (repeat' split) <;> simp [h]⟩

@[simp] theorem State.lineLeaves_memoryOk (s : State) (k : Nat) (l : OutLine) (at_ : Tick) (h : s.memoryOk) :
    (State.lineLeaves s k l at_).memoryOk :=
  by unfold State.lineLeaves; (repeat' split) <;> exact h

@[simp] theorem State.takeEvent_memoryOk (s : State) (k : Nat) (rest : List OutLine) (h : s.memoryOk) :
    (State.takeEvent s k rest).memoryOk :=
  h

@[simp] theorem State.pump_memoryOk (s : State) (p : Nat) (h : s.memoryOk) :
    (State.pump s p).memoryOk :=
  by unfold State.pump; split <;> simp [h]

@[simp] theorem State.put_memoryOk (s : State) (p : Nat) (xs : List LinkOut) (h : s.memoryOk) :
    (State.put s p xs).memoryOk :=
  h

@[simp] theorem State.sendBypass_memoryOk (s : State) (p : Nat) (m : BMsg) (h : s.memoryOk) :
    (State.sendBypass s p m).memoryOk :=
  by unfold State.sendBypass; (repeat' split) <;> simp [h]

@[simp] theorem State.ackBypass_memoryOk (s : State) (p : Nat) (byp : Option Nat) (h : s.memoryOk) :
    (State.ackBypass s p byp).memoryOk :=
  by unfold State.ackBypass; (repeat' split) <;> simp [h]

@[simp] theorem State.freeFrames_memoryOk (s : State) (fs : List TxFrame) (h : s.memoryOk) :
    (State.freeFrames s fs).memoryOk := by
  unfold State.freeFrames
  repeat' (first | (simp (maxDischargeDepth := 60) [h]; done) | split | (with_reducible refine foldl_memoryOk _ (fun t x h => ?_) _ _ ?_ <;> try dsimp only))

@[simp] theorem State.ackFrames_memoryOk (s : State) (p n : Nat) (h : s.memoryOk) :
    (State.ackFrames s p n).memoryOk :=
  by simp only [State.ackFrames]; (repeat' split) <;> simp [h]

@[simp] theorem State.linkEvent_memoryOk (s : State) (p : Nat) (word : String) (fs : List Fld) (h : s.memoryOk) :
    (State.linkEvent s p word fs).memoryOk :=
  by simp [State.linkEvent, h]

@[simp] theorem State.shutStream_memoryOk (s : State) (n : Nat) (all : Bool) (h : s.memoryOk) :
    (State.shutStream s n all).memoryOk :=
  by simp only [State.shutStream]; (repeat' split) <;> simp [h]

@[simp] theorem State.closeStream_memoryOk (s : State) (n : Nat) (why : CloseReason) (h : s.memoryOk) :
    (State.closeStream s n why).memoryOk :=
  by unfold State.closeStream; (repeat' split) <;> simp [h]

@[simp] theorem State.linkDown_memoryOk (s : State) (p : Nat) (reason : String) (h : s.memoryOk) :
    (State.linkDown s p reason).memoryOk := by
  unfold State.linkDown
  split
  · exact h
  · rw [State.modPort_memoryOk]; exact State.releaseGrant_memoryOk _ _ h
  all_goals
    refine State.linkEvent_memoryOk _ _ _ _ ?_
    rw [State.modPort_memoryOk]
    split
    · exact foldl_memoryOk _ (fun t n h => State.shutStream_memoryOk _ _ _ h) _ _ h
    · exact h

@[simp] theorem State.replay_memoryOk (s : State) (p : Nat) (byp : Bool) (h : s.memoryOk) :
    (State.replay s p byp).memoryOk :=
  by simp only [State.replay]; (repeat' split) <;> simp [h]

@[simp] theorem State.hear_memoryOk (s : State) (p : Nat) (h : s.memoryOk) :
    (State.hear s p).memoryOk :=
  h

theorem execAck_memoryOk (port : Nat) (sets : List LaneSet) (s : State) (h : s.memoryOk) :
    ∃ t, execAck port sets s = .next t ∧ t.memoryOk :=
  ⟨_, rfl, by (repeat' split) <;> simp (maxDischargeDepth := 60) [h]⟩

theorem execNak_memoryOk (port : Nat) (sets : List LaneSet) (s : State) (h : s.memoryOk) :
    ∃ t, execNak port sets s = .next t ∧ t.memoryOk :=
  ⟨_, rfl, by (repeat' split) <;> simp (maxDischargeDepth := 60) [h]⟩

theorem execReplayTimer_memoryOk (port : Nat) (s : State) (h : s.memoryOk) :
    ∃ t, execReplayTimer port s = .next t ∧ t.memoryOk :=
  ⟨_, rfl, by dsimp only; (repeat' split) <;> simp [h]⟩

@[simp] theorem State.frameIn_memoryOk (s : State) (p : Nat) (x : RxFrame) (h : s.memoryOk) :
    (State.frameIn s p x).1.memoryOk :=
  by simp only [State.frameIn]; (repeat' split) <;> simp [h]

theorem execLinkBeacon_memoryOk (port : Nat) (s : State) (h : s.memoryOk) :
    ∃ t, execLinkBeacon port s = .next t ∧ t.memoryOk :=
  ⟨_, rfl, by (repeat' split) <;> simp [h]⟩

@[simp] theorem State.ts1In_memoryOk (s : State) (port : Nat) (sets : List LaneSet) (d : List Byte) (h : s.memoryOk) :
    (State.ts1In s port sets d).memoryOk :=
  by unfold State.ts1In; (repeat' split) <;> simp [h]

theorem execTs1_memoryOk (port : Nat) (sets : List LaneSet) (s : State) (h : s.memoryOk) :
    ∃ t, execTs1 port sets s = .next t ∧ t.memoryOk :=
  ⟨_, rfl, by (repeat' split) <;> simp [h]⟩

@[simp] theorem State.trainFails_memoryOk (s : State) (p : Nat) (h : s.memoryOk) :
    (State.trainFails s p).memoryOk :=
  h

theorem execTraining_memoryOk (port : Nat) (found : TrainIn) (s : State) (h : s.memoryOk) :
    ∃ t, execTraining port found s = .next t ∧ t.memoryOk :=
  ⟨_, rfl, by dsimp only; (repeat' split) <;> simp [h]⟩

theorem execTrainingTimeout_memoryOk (port : Nat) (s : State) (h : s.memoryOk) :
    ∃ t, execTrainingTimeout port s = .next t ∧ t.memoryOk :=
  ⟨_, rfl, by (repeat' split) <;> simp [h]⟩

@[simp] theorem State.sendTmgmt_memoryOk (s : State) (h : s.memoryOk) :
    (State.sendTmgmt s).memoryOk :=
  by simp [State.sendTmgmt, h]

@[simp] theorem State.tmgmtTick_memoryOk (s : State) (h : s.memoryOk) :
    (State.tmgmtTick s).memoryOk :=
  by simp only [State.tmgmtTick]; (repeat' split) <;> simp [h]

theorem execTrainingComplete_memoryOk (port : Nat) (times : List Exchange) (s : State) (h : s.memoryOk) :
    ∃ t, execTrainingComplete port times s = .next t ∧ t.memoryOk :=
  ⟨_, rfl, by dsimp only; (repeat' split) <;> simp (maxDischargeDepth := 60) [h]⟩

@[simp] theorem State.flow_memoryOk (s : State) (p : Nat) (h : s.memoryOk) :
    (State.flow s p).memoryOk :=
  by simp only [State.flow]; (repeat' split) <;> simp [h]

theorem execReceiveBufferThreshold_memoryOk (port free : Nat) (s : State) (h : s.memoryOk) :
    ∃ t, execReceiveBufferThreshold port free s = .next t ∧ t.memoryOk := by
  exact ⟨_, rfl, by simp [h]⟩

@[simp] theorem State.portTick_memoryOk (s : State) (p : Nat) (h : s.memoryOk) :
    (State.portTick s p).memoryOk :=
  by unfold State.portTick; dsimp only; split
     · exact State.flow_memoryOk _ _ (State.pump_memoryOk _ _ (State.holdFor_memoryOk _ 22 h))
     · exact State.flow_memoryOk _ _ (State.pump_memoryOk _ _ h)

@[simp] theorem State.linkTick_memoryOk (s : State) (h : s.memoryOk) :
    (State.linkTick s).memoryOk :=
  by simp [State.linkTick, h]

theorem execXoff_memoryOk (port : Nat) (s : State) (h : s.memoryOk) :
    ∃ t, execXoff port s = .next t ∧ t.memoryOk :=
  ⟨_, rfl, by (repeat' split) <;> simp [h]⟩

theorem execXon_memoryOk (port : Nat) (s : State) (h : s.memoryOk) :
    ∃ t, execXon port s = .next t ∧ t.memoryOk :=
  ⟨_, rfl, by (repeat' split) <;> simp [h]⟩

theorem execLinkStalled_memoryOk (port : Nat) (s : State) (h : s.memoryOk) :
    ∃ t, execLinkStalled port s = .next t ∧ t.memoryOk :=
  ⟨_, rfl, by (repeat' split) <;> simp [h]⟩

@[simp] theorem State.beginChange_memoryOk (s : State) (p w : Nat) (map : List Nat) (spare : Option Nat) (failed : List Nat) (xs : List LinkOut) (h : s.memoryOk) :
    (State.beginChange s p w map spare failed xs).memoryOk :=
  h

@[simp] theorem State.changeLanes_memoryOk (s : State) (p lane : Nat) (h : s.memoryOk) :
    (State.changeLanes s p lane).memoryOk :=
  by simp only [State.changeLanes]; (repeat' split) <;> simp [h]

theorem execLaneErrorLimit_memoryOk (port lane errors : Nat) (s : State) (h : s.memoryOk) :
    ∃ t, execLaneErrorLimit port lane errors s = .next t ∧ t.memoryOk :=
  ⟨_, rfl, by dsimp only; (repeat' split) <;> simp [h]⟩

theorem execRepl_memoryOk (port : Nat) (sets : List LaneSet) (s : State) (h : s.memoryOk) :
    ∃ t, execRepl port sets s = .next t ∧ t.memoryOk :=
  ⟨_, rfl, by dsimp only; (repeat' split) <;> simp (maxDischargeDepth := 60) [h]⟩

theorem execWidth_memoryOk (port : Nat) (sets : List LaneSet) (s : State) (h : s.memoryOk) :
    ∃ t, execWidth port sets s = .next t ∧ t.memoryOk :=
  ⟨_, rfl, by dsimp only; (repeat' split) <;> simp (maxDischargeDepth := 60) [h]⟩

theorem execLaneChangeComplete_memoryOk (port : Nat) (times : List Exchange) (s : State) (h : s.memoryOk) :
    ∃ t, execLaneChangeComplete port times s = .next t ∧ t.memoryOk :=
  ⟨_, rfl, by dsimp only; (repeat' split) <;> simp (maxDischargeDepth := 60) [h]⟩

theorem execLockTimeout_memoryOk (port : Nat) (s : State) (h : s.memoryOk) :
    ∃ t, execLockTimeout port s = .next t ∧ t.memoryOk :=
  ⟨_, rfl, by dsimp only; (repeat' split) <;> simp [h]⟩

theorem execHaltSet_memoryOk (port : Nat) (sets : List LaneSet) (s : State) (h : s.memoryOk) :
    ∃ t, execHaltSet port sets s = .next t ∧ t.memoryOk :=
  ⟨_, rfl, by (repeat' split) <;> simp (maxDischargeDepth := 60) [h]⟩

theorem execHaltNotice_memoryOk (info : HaltInfo) (s : State) (h : s.memoryOk) :
    ∃ t, execHaltNotice info s = .next t ∧ t.memoryOk :=
  ⟨_, rfl, by simp [h]⟩

@[simp] theorem State.sendKeyed_memoryOk (s : State) (n g kind phase : Nat) (wrap : KeyMsg → BMsg) (h : s.memoryOk) :
    (State.sendKeyed s n g kind phase wrap).memoryOk :=
  by simp only [State.sendKeyed]; (repeat' split) <;> simp [h]

@[simp] theorem State.streamEvent_memoryOk (s : State) (n : Nat) (word : String) (h : s.memoryOk) :
    (State.streamEvent s n word).memoryOk :=
  by simp [State.streamEvent, h]

@[simp] theorem State.openHere_memoryOk (s : State) (m : KeyMsg) (h : s.memoryOk) :
    (State.openHere s m).memoryOk :=
  by simp only [State.openHere]; (repeat' split) <;> simp (maxDischargeDepth := 60) [h]

theorem execOpenStream_memoryOk (m : KeyMsg) (s : State) (h : s.memoryOk) :
    ∃ t, execOpenStream m s = .next t ∧ t.memoryOk :=
  ⟨_, rfl, by (repeat' split) <;> simp [h]⟩

theorem execOpenOk_memoryOk (m : KeyMsg) (s : State) (h : s.memoryOk) :
    ∃ t, execOpenOk m s = .next t ∧ t.memoryOk :=
  ⟨_, rfl, by (repeat' split) <;> simp [h]⟩

theorem execCloseStream_memoryOk (stream modAddr : Nat) (reason : CloseReason) (s : State) (h : s.memoryOk) :
    ∃ t, execCloseStream stream modAddr reason s = .next t ∧ t.memoryOk :=
  ⟨_, rfl, by (repeat' split) <;> simp [h]⟩

@[simp] theorem State.installNext_memoryOk (s : State) (n : Nat) (h : s.memoryOk) :
    (State.installNext s n).memoryOk :=
  by simp only [State.installNext]; (repeat' split) <;> simp (maxDischargeDepth := 60) [h]

@[simp] theorem State.assignStream_memoryOk (s : State) (n : Nat) (h : s.memoryOk) :
    (State.assignStream s n).memoryOk :=
  h

@[simp] theorem doStreamNext_memoryOk (r : ReplyTo) (n : Nat) (s : State) (h : s.memoryOk) :
    (doStreamNext r n s).memoryOk :=
  by simp only [doStreamNext]; (repeat' split) <;> simp [h]

@[simp] theorem State.readyHere_memoryOk (s : State) (m : KeyMsg) (h : s.memoryOk) :
    (State.readyHere s m).memoryOk :=
  by simp only [State.readyHere]; (repeat' split) <;> simp [h]

theorem execKeyReady_memoryOk (m : KeyMsg) (s : State) (h : s.memoryOk) :
    ∃ t, execKeyReady m s = .next t ∧ t.memoryOk :=
  ⟨_, rfl, by (repeat' split) <;> simp [h]⟩

@[simp] theorem State.confirmHere_memoryOk (s : State) (m : KeyMsg) (h : s.memoryOk) :
    (State.confirmHere s m).memoryOk :=
  by simp only [State.confirmHere]; (repeat' split) <;> simp [h]

theorem execKeyConfirm_memoryOk (m : KeyMsg) (s : State) (h : s.memoryOk) :
    ∃ t, execKeyConfirm m s = .next t ∧ t.memoryOk :=
  ⟨_, rfl, by (repeat' split) <;> simp [h]⟩

theorem execKeyFail_memoryOk (stream modAddr : Nat) (reason : CloseReason) (s : State) (h : s.memoryOk) :
    ∃ t, execKeyFail stream modAddr reason s = .next t ∧ t.memoryOk :=
  ⟨_, rfl, by (repeat' split) <;> simp [h]⟩

theorem execKeyReadyRetry_memoryOk (stream : Nat) (s : State) (h : s.memoryOk) :
    ∃ t, execKeyReadyRetry stream s = .next t ∧ t.memoryOk :=
  ⟨_, rfl, by dsimp only; (repeat' split) <;> simp [h]⟩

theorem execRekeyWindowEnd_memoryOk (stream : Nat) (s : State) (h : s.memoryOk) :
    ∃ t, execRekeyWindowEnd stream s = .next t ∧ t.memoryOk :=
  ⟨_, rfl, by dsimp only; (repeat' split) <;> simp [h]⟩

@[simp] theorem State.flip_memoryOk (s : State) (n : Nat) (h : s.memoryOk) :
    (State.flip s n).memoryOk :=
  by simp only [State.flip]; (repeat' split) <;> simp [h]

@[simp] theorem State.countBound_memoryOk (s : State) (n : Nat) (h : s.memoryOk) :
    (State.countBound s n).memoryOk :=
  by simp only [State.countBound]; (repeat' split) <;> simp (maxDischargeDepth := 60) [h]

@[simp] theorem State.putFrame_memoryOk (s : State) (p : Nat) (f : Frame) (h : s.memoryOk) :
    (State.putFrame s p f).memoryOk :=
  h

theorem State.takeLine_memoryOk (s : State) (k : Nat) (h : s.memoryOk) (l : OutLine) (t : State) (ht : s.takeLine k = some (l, t)) : t.memoryOk := by
  unfold State.takeLine at ht
  dsimp only at ht
  (repeat' split at ht) <;> first | (cases ht; done) | (simp only [Option.some.injEq, Prod.mk.injEq] at ht; obtain ⟨_, rfl⟩ := ht; simp [h])

theorem State.nextChunk_memoryOk (s : State) (n : Nat) (h : s.memoryOk) (r : List Byte × Bool × Bool × State) (ht : s.nextChunk n = some r) :
    r.2.2.2.memoryOk := by
  unfold State.nextChunk at ht
  dsimp only at ht
  (repeat' split at ht) <;> first
    | (cases ht; done)
    | (simp only [Option.some.injEq] at ht; subst ht; exact h)
    | (simp only [Option.some.injEq] at ht; subst ht; rename_i h'; exact State.lineLeaves_memoryOk _ _ _ _ (State.takeLine_memoryOk _ _ h _ _ h'))

@[simp] theorem State.sendStream_memoryOk (s : State) (n : Nat) (h : s.memoryOk) :
    (State.sendStream s n).memoryOk := by
  unfold State.sendStream
  split
  · exact h
  · rename_i hh
    have h1 := State.nextChunk_memoryOk _ _ (State.flip_memoryOk _ _ h) _ hh
    simp (maxDischargeDepth := 60) [h1]

@[simp] theorem State.sendClass_memoryOk (s : State) (p c : Nat) (h : s.memoryOk) :
    (State.sendClass s p c).memoryOk :=
  by unfold State.sendClass; (repeat' split) <;> simp [h]

theorem execFrameTransmit_memoryOk (port : Nat) (s : State) (h : s.memoryOk) :
    ∃ t, execFrameTransmit port s = .next t ∧ t.memoryOk :=
  ⟨_, rfl, by dsimp only; (repeat' split) <;> simp [h]⟩

@[simp] theorem State.headEvent_memoryOk (s : State) (x : Nat) (word : String) (h : s.memoryOk) :
    (State.headEvent s x word).memoryOk :=
  by simp [State.headEvent, h]

@[simp] theorem State.identifyHeads_memoryOk (s : State) (h : s.memoryOk) :
    (State.identifyHeads s).memoryOk :=
  h

theorem execHpresLow_memoryOk (head : Nat) (s : State) (h : s.memoryOk) :
    ∃ t, execHpresLow head s = .next t ∧ t.memoryOk :=
  ⟨_, rfl, h⟩

theorem execHeadIdentityRead_memoryOk (head : Nat) (first second : List Byte) (s : State) (h : s.memoryOk) :
    ∃ t, execHeadIdentityRead head first second s = .next t ∧ t.memoryOk :=
  ⟨_, rfl, by dsimp only; (repeat' split) <;> simp [h]⟩

@[simp] theorem setHeadExpectType_memoryOk (r : ReplyTo) (k : Key) (v : Val) (s : State) (h : s.memoryOk) :
    (setHeadExpectType r k v s).memoryOk :=
  by simp [setHeadExpectType, h]

@[simp] theorem State.testChannels_memoryOk (s : State) (p : Plan) (h : s.memoryOk) :
    (State.testChannels s p).memoryOk := by
  unfold State.testChannels
  refine State.useFree_memoryOk _ (foldl_memoryOk _ (fun t c h => ?_) _ _ h)
  split
  · exact State.emit_memoryOk _ _ _ _ _ ((State.modChan_memoryOk _ _ _).2 h)
  · exact h

@[simp] theorem State.tryPlan_memoryOk (s : State) (h : s.memoryOk) :
    (State.tryPlan s).1.memoryOk :=
  by simp only [State.tryPlan]; (repeat' split) <;> simp [h]

@[simp] theorem doLanternCommit_memoryOk (r : ReplyTo) (s : State) (h : s.memoryOk) :
    (doLanternCommit r s).memoryOk := by
  unfold doLanternCommit
  split
  · exact State.er_memoryOk _ _ _ _ h
  · have h1 := State.tryPlan_memoryOk _ h
    split
    · rename_i hh; rw [hh] at h1; exact State.ok_memoryOk _ _ _ h1
    · rename_i hh; rw [hh] at h1; exact State.er_memoryOk _ _ _ _ h1

@[simp] theorem State.commitPlanAtStart_memoryOk (s : State) (h : s.memoryOk) :
    (State.commitPlanAtStart s).memoryOk := by
  unfold State.commitPlanAtStart
  have h1 := State.tryPlan_memoryOk _ h
  split
  · rename_i hh; rw [hh] at h1; exact h1
  · rename_i hh; rw [hh] at h1; exact State.emit_memoryOk _ _ _ _ _ h1

@[simp] theorem setLanternStaged_memoryOk (r : ReplyTo) (k : Key) (v : Val) (s : State) (h : s.memoryOk) :
    (setLanternStaged r k v s).memoryOk :=
  by simp [setLanternStaged, h]

@[simp] theorem State.beginCycle_memoryOk (s : State) (line : Nat) (start : Tick) (late : Bool) (h : s.memoryOk) :
    (State.beginCycle s line start late).memoryOk :=
  by unfold State.beginCycle; (repeat' split) <;> simp [h]

@[simp] theorem State.startLine_memoryOk (s : State) (line : Nat) (h : s.memoryOk) :
    (State.startLine s line).memoryOk :=
  by unfold State.startLine; (repeat' split) <;> simp [h]

@[simp] theorem State.lineTurn_memoryOk (s : State) (h : s.memoryOk) :
    (State.lineTurn s).memoryOk :=
  by simp only [State.lineTurn]; (repeat' split) <;> simp [h]

theorem execLineCycleStart_memoryOk (s : State) (h : s.memoryOk) :
    ∃ t, execLineCycleStart s = .next t ∧ t.memoryOk :=
  ⟨_, rfl, by (repeat' split) <;> simp [h]⟩

@[simp] theorem State.failCalib_memoryOk (s : State) (code : Nat) (d : List Fld) (h : s.memoryOk) :
    (State.failCalib s code d).memoryOk :=
  by unfold State.failCalib; (repeat' split) <;> simp [h]

@[simp] theorem State.spoilWhite_memoryOk (s : State) (bad : List Nat) (h : s.memoryOk) :
    (State.spoilWhite s bad).memoryOk :=
  by unfold State.spoilWhite; (repeat' split) <;> simp [h]

@[simp] theorem State.pulseStart_memoryOk (s : State) (h : s.memoryOk) :
    (State.pulseStart s).memoryOk :=
  by unfold State.pulseStart; (repeat' split) <;> simp [h]

@[simp] theorem State.lanternTick_memoryOk (s : State) (h : s.memoryOk) :
    (State.lanternTick s).memoryOk :=
  by unfold State.lanternTick; (repeat' split) <;> simp [h]

theorem execPhaseSlotStart_memoryOk (phase : Nat) (s0 : State) (h : s0.memoryOk) :
    ∃ t, execPhaseSlotStart phase s0 = .next t ∧ t.memoryOk :=
  ⟨_, rfl, by dsimp only; (repeat' split) <;> simp [h]⟩

@[simp] theorem State.compliancePulse_memoryOk (s : State) (c : Nat) (h : s.memoryOk) :
    (State.compliancePulse s c).memoryOk :=
  by simp only [State.compliancePulse]; (repeat' split) <;> simp [h]

theorem execLanternPulseEnd_memoryOk (phase : Nat) (lows : List (Nat × Nat)) (s : State) (h : s.memoryOk) :
    ∃ t, execLanternPulseEnd phase lows s = .next t ∧ t.memoryOk := by
  have h1 : ∀ (l : List Nat) (p : Nat → Bool) (t : State), t.memoryOk →
      (l.foldl (fun t ch => if p ch then t.compliancePulse ch else t.modChan ch fun y => { y with consec := 0 }) t).memoryOk :=
    fun l p t => foldl_memoryOk _ (fun t ch h => by
      split
      · exact State.compliancePulse_memoryOk _ _ h
      · exact (State.modChan_memoryOk _ _ _).2 h) l t
  refine ⟨_, rfl, ?_⟩
  dsimp only
  (repeat' split) <;> first
    | exact State.pulseStart_memoryOk _ h
    | exact State.spoilWhite_memoryOk _ _ ((State.onLantern_memoryOk _ _).2 (h1 _ _ _ (State.pulseStart_memoryOk _ h)))

@[simp] theorem State.writeLines_memoryOk (s : State) (head phase : Nat) (c : Cycle) (pl : Plane) (h : s.memoryOk) :
    (State.writeLines s head phase c pl).memoryOk := by
  unfold State.writeLines
  repeat' (first | (simp (maxDischargeDepth := 60) [h]; done) | split | (with_reducible refine foldl_memoryOk _ (fun t x h => ?_) _ _ ?_ <;> try dsimp only) | dsimp only)

theorem execReadoutComplete_memoryOk (head phase : Nat) (r : Readout) (s : State) (h : s.memoryOk) :
    ∃ t, execReadoutComplete head phase r s = .next t ∧ t.memoryOk :=
  ⟨_, rfl, by dsimp only; (repeat' split) <;> simp [h]⟩

@[simp] theorem doShadeCalibrate_memoryOk (r : ReplyTo) (s : State) (h : s.memoryOk) :
    (doShadeCalibrate r s).memoryOk :=
  by unfold doShadeCalibrate; (repeat' split) <;> simp [h]

theorem execShadeCaptureDone_memoryOk (uu : Unit) (s : State) (h : s.memoryOk) :
    ∃ t, execShadeCaptureDone uu s = .next t ∧ t.memoryOk := by
  refine ⟨_, rfl, ?_⟩
  split
  · exact h
  · extract_lets k planes target mask readOut
    (repeat' split) <;> first
      | exact h
      | exact State.failCalib_memoryOk _ _ _ h
      | exact State.fileWrite_memoryOk _ _ ((State.onLantern_memoryOk _ _).2 h)

@[simp] theorem State.useShade_memoryOk (s : State) (x : ShadeSet) (h : s.memoryOk) :
    (State.useShade s x).memoryOk := by
  unfold State.useShade
  refine foldl_memoryOk _ (fun t p h => ?_) _ _ (memoryOk_of_ram rfl h)
  exact foldl_memoryOk _ (fun _ _ h => State.emit_memoryOk _ _ _ _ _ h) _ _ h

@[simp] theorem State.calibLosesHeads_memoryOk (s : State) (h : s.memoryOk) :
    (State.calibLosesHeads s).memoryOk :=
  by unfold State.calibLosesHeads; (repeat' split) <;> simp [h]

@[simp] theorem State.towerEvent_memoryOk (s : State) (word : String) (fs : List Fld) (h : s.memoryOk) :
    (State.towerEvent s word fs).memoryOk :=
  by simp [State.towerEvent, h]

@[simp] theorem State.readCounts_memoryOk (s : State) (h : s.memoryOk) :
    (State.readCounts s).memoryOk :=
  foldl_memoryOk _ (fun _ _ h => by simp [h]) _ _ h

@[simp] theorem State.takeAddr_memoryOk (s : State) (a : Nat) (h : s.memoryOk) :
    (State.takeAddr s a).memoryOk :=
  by unfold State.takeAddr; (repeat' split) <;> simp [h]

@[simp] theorem State.enumNumber_memoryOk (s : State) (n : Nat) (h : s.memoryOk) :
    (State.enumNumber s n).1.memoryOk :=
  by simp only [State.enumNumber]; (repeat' split) <;> simp [h]

theorem execTowerDuplicateCheck_memoryOk (addrs : List Nat) (s : State) (h : s.memoryOk) :
    ∃ t, execTowerDuplicateCheck addrs s = .next t ∧ t.memoryOk := by
  refine ⟨_, rfl, ?_⟩
  repeat' (first | split | (with_reducible refine foldl_memoryOk _ (fun t x h => ?_) _ _ ?_ <;> try dsimp only) | simp (maxDischargeDepth := 60) [h])

theorem execAddr_memoryOk (port addr : Nat) (s : State) (h : s.memoryOk) :
    ∃ t, execAddr port addr s = .next t ∧ t.memoryOk :=
  ⟨_, rfl, by (repeat' split) <;> simp [h]⟩

theorem execCountReq_memoryOk (port addr : Nat) (count : Option Nat) (s : State) (h : s.memoryOk) :
    ∃ t, execCountReq port addr count s = .next t ∧ t.memoryOk :=
  ⟨_, rfl, by (repeat' split) <;> simp [h]⟩

theorem execTmgmt_memoryOk (port : Nat) (m : Tmgmt) (s : State) (h : s.memoryOk) :
    ∃ t, execTmgmt port m s = .next t ∧ t.memoryOk :=
  ⟨_, rfl, by dsimp only; (repeat' split) <;> simp [h]⟩

theorem execSpireCountStep_memoryOk (counts : List Nat) (s : State) (h : s.memoryOk) :
    ∃ t, execSpireCountStep counts s = .next t ∧ t.memoryOk :=
  ⟨_, rfl, by (repeat' split) <;> simp [h]⟩

theorem execLineMarkSend_memoryOk (s : State) (h : s.memoryOk) :
    ∃ t, execLineMarkSend s = .next t ∧ t.memoryOk :=
  ⟨_, rfl, by (repeat' split) <;> simp [h]⟩

@[simp] theorem State.correctCount_memoryOk (s : State) (e16 : Int) (h : s.memoryOk) :
    (State.correctCount s e16).memoryOk :=
  by simp only [State.correctCount]; (repeat' split) <;> simp [h]

@[simp] theorem State.noteMark_memoryOk (s : State) (m : Mark) (h : s.memoryOk) :
    (State.noteMark s m).memoryOk :=
  by unfold State.noteMark; (repeat' split) <;> simp [h]

theorem execMark_memoryOk (m : Mark) (arrival16 residence16 : Nat) (replayed : Bool) (s : State) (h : s.memoryOk) :
    ∃ t, execMark m arrival16 residence16 replayed s = .next t ∧ t.memoryOk :=
  ⟨_, rfl, by dsimp only; (repeat' split) <;> simp (maxDischargeDepth := 60) [h]⟩

theorem execMarkLineStart_memoryOk (s : State) (h : s.memoryOk) :
    ∃ t, execMarkLineStart s = .next t ∧ t.memoryOk :=
  ⟨_, rfl, by (repeat' split) <;> simp [h]⟩

@[simp] theorem State.loseSpire_memoryOk (s : State) (h : s.memoryOk) :
    (State.loseSpire s).memoryOk :=
  by unfold State.loseSpire; (repeat' split) <;> simp [h]

theorem execMarkMissing_memoryOk (s : State) (h : s.memoryOk) :
    ∃ t, execMarkMissing s = .next t ∧ t.memoryOk :=
  ⟨_, rfl, by (repeat' split) <;> simp [h]⟩

theorem execSpireLoss_memoryOk (s : State) (h : s.memoryOk) :
    ∃ t, execSpireLoss s = .next t ∧ t.memoryOk :=
  ⟨_, rfl, by (repeat' split) <;> simp [h]⟩

theorem execSpireLostTimeout_memoryOk (s : State) (h : s.memoryOk) :
    ∃ t, execSpireLostTimeout s = .next t ∧ t.memoryOk :=
  ⟨_, rfl, by (repeat' split) <;> simp [h]⟩

theorem execNoMarksAfterTraining_memoryOk (s : State) (h : s.memoryOk) :
    ∃ t, execNoMarksAfterTraining s = .next t ∧ t.memoryOk :=
  ⟨_, rfl, by (repeat' split) <;> simp [h]⟩

@[simp] theorem doTowerPromote_memoryOk (r : ReplyTo) (s : State) (h : s.memoryOk) :
    (doTowerPromote r s).memoryOk := by
  unfold doTowerPromote
  split
  · exact State.er_memoryOk _ _ _ _ h
  · refine State.towerEvent_memoryOk _ _ _ (foldl_memoryOk _ (fun t a h => State.sendBypass_memoryOk _ _ _ h) _ _ ?_)
    rw [State.onTower_memoryOk]
    exact State.ok_memoryOk _ _ _ h

@[simp] theorem State.sendTower_memoryOk (s : State) (dest : Nat) (payload : List Byte) (h : s.memoryOk) :
    (State.sendTower s dest payload).memoryOk :=
  by unfold State.sendTower; (repeat' split) <;> simp [h]

@[simp] theorem State.towerIn_memoryOk (s : State) (port : Nat) (f : Frame) (h : s.memoryOk) :
    (State.towerIn s port f).1.memoryOk :=
  by simp only [State.towerIn]; (repeat' split) <;> simp [h]

theorem foldl_wf {α : Type} (f : Ram → α → Ram) (hf : ∀ m x, SMap.wf 0 m = true → SMap.wf 0 (f m x) = true) (l : List α) (m : Ram)
    (h : SMap.wf 0 m = true) : SMap.wf 0 (l.foldl f m) = true := by
  induction l generalizing m with
  | nil => exact h
  | cons x xs ih => exact ih _ (hf _ _ h)

theorem activate_wf (ram table : Ram) (slot : Nat) (h : SMap.wf 0 ram = true) : SMap.wf 0 (activate ram table slot) = true := by
  unfold activate
  exact foldl_wf _ (fun m p h => Ram.setByte_wf _ _ h) _ _ (Ram.clear_wf _ _ h)

@[simp] theorem State.useTables_memoryOk (s : State) (n : Nat) (r : Recipe) (h : s.memoryOk) :
    (State.useTables s n r).memoryOk := by
  unfold State.useTables
  exact foldl_memoryOk _ (fun t k h => memoryOk_of_wf rfl (activate_wf _ _ _ h)) _ _ h

@[simp] theorem State.dueTables_memoryOk (s : State) (start : Tick) (h : s.memoryOk) :
    (State.dueTables s start).memoryOk :=
  foldl_memoryOk _ (fun _ _ h => by simp [h]) _ _ h

@[simp] theorem State.toDecideAt_memoryOk (s : State) (at_ : Tick) (o : Obj) (h : s.memoryOk) :
    (State.toDecideAt s at_ o).memoryOk :=
  h

@[simp] theorem State.toDecideQ_memoryOk (s : State) (o : Obj) (h : s.memoryOk) :
    (State.toDecideQ s o).memoryOk :=
  h

@[simp] theorem State.unmatchedAt_memoryOk (s : State) (at_ : Tick) (o : Obj) (h : s.memoryOk) :
    (State.unmatchedAt s at_ o).memoryOk :=
  h

@[simp] theorem State.unmatched_memoryOk (s : State) (o : Obj) (h : s.memoryOk) :
    (State.unmatched s o).memoryOk :=
  h

@[simp] theorem State.expired_memoryOk (s : State) (o : Obj) (h : s.memoryOk) :
    (State.expired s o).memoryOk :=
  h

@[simp] theorem State.storeRoom_memoryOk (s : State) (n : Nat) (h : s.memoryOk) :
    (State.storeRoom s n).memoryOk :=
  by simp only [State.storeRoom]; (repeat' split) <;> simp [h]

@[simp] theorem State.storeA_memoryOk (s : State) (o : Obj) (h : s.memoryOk) :
    (State.storeA s o).memoryOk :=
  by simp [State.storeA, h]

@[simp] theorem State.route_memoryOk (s : State) (o : Obj) (h : s.memoryOk) :
    (State.route s o).memoryOk :=
  by unfold State.route; (repeat' split) <;> simp [h]

@[simp] theorem State.closeObj_memoryOk (s : State) (o : Obj) (h : s.memoryOk) :
    (State.closeObj s o).memoryOk :=
  by unfold State.closeObj; (repeat' split) <;> simp [h]

@[simp] theorem State.viewRecord_memoryOk (s : State) (r : ViewRec) (h : s.memoryOk) :
    (State.viewRecord s r).memoryOk :=
  by simp only [State.viewRecord]; (repeat' split) <;> simp [h]

@[simp] theorem State.tryViews_memoryOk (s : State) (h : s.memoryOk) :
    (State.tryViews s).memoryOk :=
  foldl_memoryOk _ (fun _ _ h => by simp [h]) _ _ h

@[simp] theorem State.closeObjs_memoryOk (s : State) (os : List Obj) (h : s.memoryOk) :
    (State.closeObjs s os).memoryOk := State.tryViews_memoryOk _ (foldl_memoryOk _ (fun _ _ h => State.closeObj_memoryOk _ _ h) _ _ h)

@[simp] theorem State.classifyHead_memoryOk (s : State) (x : Nat) (c : Cycle) (h : s.memoryOk) :
    (State.classifyHead s x c).1.memoryOk :=
  by simp [State.classifyHead, h]

theorem execLineClassify_memoryOk (s : State) (h : s.memoryOk) :
    ∃ t, execLineClassify s = .next t ∧ t.memoryOk := by
  have hh : ∀ (l : List Nat) (c : Cycle) (p : State × Bool), p.1.memoryOk → (l.foldl (fun (a : State × Bool) x =>
      let b := a.1.classifyHead x c; (b.1, a.2 && b.2)) p).1.memoryOk := by
    intro l c
    induction l with
    | nil => intro p h; exact h
    | cons x xs ih => intro p h; exact ih _ (State.classifyHead_memoryOk _ _ _ h)
  refine ⟨_, rfl, ?_⟩
  dsimp only
  split
  · split
    · exact hh _ _ _ (State.dueTables_memoryOk _ _ h)
    · exact h
  · exact h

@[simp] theorem State.loseHead_memoryOk (s : State) (x : Nat) (h : s.memoryOk) :
    (State.loseHead s x).memoryOk :=
  by unfold State.loseHead; (repeat' split) <;> simp [h]

@[simp] theorem State.headLeavesReady_memoryOk (s : State) (x : Nat) (h : s.memoryOk) :
    (State.headLeavesReady s x).memoryOk :=
  by unfold State.headLeavesReady; (repeat' split) <;> simp [h]

theorem execHpresHigh_memoryOk (head : Nat) (s : State) (h : s.memoryOk) :
    ∃ t, execHpresHigh head s = .next t ∧ t.memoryOk :=
  ⟨_, rfl, by (repeat' split) <;> simp (maxDischargeDepth := 60) [h]⟩

theorem execHeadSupplyOverload_memoryOk (head : Nat) (s : State) (h : s.memoryOk) :
    ∃ t, execHeadSupplyOverload head s = .next t ∧ t.memoryOk :=
  ⟨_, rfl, by (repeat' split) <;> simp (maxDischargeDepth := 60) [h]⟩

theorem execViewFeatureRecord_memoryOk (r : ViewRec) (s : State) (h : s.memoryOk) :
    ∃ t, execViewFeatureRecord r s = .next t ∧ t.memoryOk :=
  ⟨_, rfl, by (repeat' split) <;> simp [h]⟩

@[simp] theorem State.toReady_memoryOk (s : State) (h : s.memoryOk) :
    (State.toReady s).memoryOk :=
  by simp (maxDischargeDepth := 60) [State.toReady, h]

@[simp] theorem State.readyIfStopped_memoryOk (s : State) (h : s.memoryOk) :
    (State.readyIfStopped s).memoryOk :=
  by unfold State.readyIfStopped; (repeat' split) <;> simp [h]

theorem execSegmentClose_memoryOk (s : State) (h : s.memoryOk) :
    ∃ t, execSegmentClose s = .next t ∧ t.memoryOk :=
  ⟨_, rfl, by (repeat' split) <;> simp [h]⟩

theorem execSegmentForcedClose_memoryOk (s : State) (h : s.memoryOk) :
    ∃ t, execSegmentForcedClose s = .next t ∧ t.memoryOk :=
  ⟨_, rfl, by (repeat' split) <;> simp (maxDischargeDepth := 60) [h]⟩

@[simp] theorem State.setVcom_memoryOk (s : State) (h : s.memoryOk) :
    (State.setVcom s).memoryOk :=
  h

@[simp] theorem State.countDenied_memoryOk (s : State) (n mm : Nat) (h : s.memoryOk) :
    (State.countDenied s n mm).memoryOk :=
  h

theorem State.answerTests_memoryOk (s : State) (rs : List ReplyTo) (f : State → ReplyTo → State)
    (hf : ∀ t r, t.memoryOk → (f t r).memoryOk) (h : s.memoryOk) :
    (State.answerTests s rs f).memoryOk := foldl_memoryOk f hf rs s h

@[simp] theorem State.countMerged_memoryOk (s : State) (n : Nat) (h : s.memoryOk) :
    (State.countMerged s n).memoryOk :=
  h

@[simp] theorem State.dropActs_memoryOk (s : State) (as : List Action) (h : s.memoryOk) :
    (State.dropActs s as).memoryOk :=
  h

@[simp] theorem State.joinWaiting_memoryOk (s : State) (x : Action) (waits : List Action) (h : s.memoryOk) :
    (State.joinWaiting s x waits).memoryOk :=
  by unfold State.joinWaiting; (repeat' split) <;> simp (maxDischargeDepth := 60) [h]

theorem State.extendRun_memoryOk (s : State) (a x : Action) (h : s.memoryOk) :
    ∀ t, State.extendRun s a x = some t → t.memoryOk := by
  intro t ht
  unfold State.extendRun at ht
  dsimp only at ht
  split at ht
  · cases ht
    exact State.countMerged_memoryOk _ _ ((State.onEject_memoryOk _ _).2 h)
  · rw [Option.map_eq_some_iff] at ht
    obtain ⟨cs, -, rfl⟩ := ht
    exact State.countMerged_memoryOk _ _
      ((State.onEject_memoryOk _ _).2 ((State.onEject_memoryOk _ _).2 ((State.onLedger_memoryOk _ _).2 h)))

@[simp] theorem State.denyNew_memoryOk (s : State) (x : Action) (h : s.memoryOk) :
    (State.denyNew s x).memoryOk := by
  unfold State.denyNew
  exact State.answerTests_memoryOk _ _ _ (fun _ _ h => State.er_memoryOk _ _ _ _ h) (State.countDenied_memoryOk _ _ _ h)

@[simp] theorem State.place_memoryOk (s : State) (x : Action) (h : s.memoryOk) :
    (State.place s x).memoryOk := by
  unfold State.place
  dsimp only
  split
  · exact State.joinWaiting_memoryOk _ _ _ h
  · split
    · rename_i e
      exact State.dropActs_memoryOk _ _ (State.countWaits_memoryOk _ _ (State.extendRun_memoryOk _ _ _ h _ e))
    · split
      · exact State.denyNew_memoryOk _ _ h
      · exact State.joinWaiting_memoryOk _ _ _ h

@[simp] theorem State.addAction_memoryOk (s : State) (n mm : Nat) (kind : ActKind) (st en : Nat) (h : s.memoryOk) :
    (State.addAction s n mm kind st en).memoryOk :=
  by simp only [State.addAction]; (repeat' split) <;> simp [h]

theorem State.within_memoryOk (s : State) (n : Nat) (t : State) (h : t.memoryOk) : ∀ u, s.within n t = some u → u.memoryOk := by
  intro u e
  unfold State.within at e
  split at e <;> cases e
  exact h

@[simp] theorem State.within_getD_memoryOk (s : State) (n : Nat) (t d : State) (h : t.memoryOk) (hd : d.memoryOk) :
    ((s.within n t).getD d).memoryOk := by
  unfold State.within
  split <;> assumption

@[simp] theorem State.countMissing_memoryOk (s : State) (n : Nat) (h : s.memoryOk) :
    (State.countMissing s n).memoryOk :=
  h

@[simp] theorem State.divertWindow_memoryOk (s : State) (n : Nat) (a lead lag : Nat) (from_ : Nat) (h : s.memoryOk) :
    (State.divertWindow s n a lead lag from_).memoryOk := by
  unfold State.divertWindow
  split
  · simp [h]
  · dsimp only
    split
    · exact h
    · split
      · rename_i e
        rw [State.modStat_memoryOk]
        exact State.within_memoryOk _ _ _ (State.addAction_memoryOk _ _ _ _ _ _ h) _ e
      · simp [h]

@[simp] theorem State.overflowPolicy_memoryOk (s : State) (n a lead lag from_ : Nat) (h : s.memoryOk) :
    (State.overflowPolicy s n a lead lag from_).memoryOk :=
  by unfold State.overflowPolicy; (repeat' split) <;> simp [h]

@[simp] theorem State.runPlan_memoryOk (s : State) (n a lead lag : Nat) (kind : ActKind) (plan : List (Nat × Nat × Nat × Bool)) (h : s.memoryOk) :
    (State.runPlan s n a lead lag kind plan).memoryOk := by
  unfold State.runPlan
  split
  · simp [h]
  · split
    · simp [h]
    · rename_i e
      rw [State.modStat_memoryOk]
      exact State.within_memoryOk _ _ _ (foldl_memoryOk _ (fun _ _ h => State.addAction_memoryOk _ _ _ _ _ _ h) _ _ h) _ e

@[simp] theorem State.scheduleReject_memoryOk (s : State) (o : Obj) (a lead lag : Nat) (h : s.memoryOk) :
    (State.scheduleReject s o a lead lag).memoryOk :=
  by simp only [State.scheduleReject]; (repeat' split) <;> simp [h]

@[simp] theorem State.schedule_memoryOk (s : State) (o : Obj) (action a lead lag : Nat) (h : s.memoryOk) :
    (State.schedule s o action a lead lag).memoryOk :=
  by unfold State.schedule; (repeat' split) <;> simp [h]

@[simp] theorem State.metalEvent_memoryOk (s : State) (n : Nat) (ev : Tick) (h : s.memoryOk) :
    (State.metalEvent s n ev).memoryOk := by
  unfold State.metalEvent
  dsimp only
  split
  · exact h
  · split
    · simp [h]
    · split <;> simp [h]

@[simp] theorem State.dropAct_memoryOk (s : State) (a : Action) (h : s.memoryOk) :
    (State.dropAct s a).memoryOk :=
  h

@[simp] theorem State.modAct_memoryOk (s : State) (a : Action) (h : s.memoryOk) :
    (State.modAct s a).memoryOk :=
  h

@[simp] theorem State.endWait_memoryOk (s : State) (a : Action) (h : s.memoryOk) :
    (State.endWait s a).memoryOk :=
  h

theorem State.denyAct_memoryOk (s : State) (a : Action) (f : State → ReplyTo → State)
    (hf : ∀ t r, t.memoryOk → (f t r).memoryOk) (h : s.memoryOk) :
    (State.denyAct s a f).memoryOk :=
  State.answerTests_memoryOk _ _ f hf (State.countDenied_memoryOk _ _ _ (State.endWait_memoryOk _ _ h))

@[simp] theorem State.valveFails_memoryOk (mm : Nat) (s : State) (r : ReplyTo) (h : s.memoryOk) :
    (State.valveFails mm s r).memoryOk :=
  by simp [State.valveFails, h]

@[simp] theorem State.refuseAct_memoryOk (s : State) (a : Action) (h : s.memoryOk) :
    (State.refuseAct s a).memoryOk :=
  State.countRefused_memoryOk _ _ (State.denyAct_memoryOk _ _ _ (fun _ _ h => State.er_memoryOk _ _ _ _ h) h)

@[simp] theorem State.faultAct_memoryOk (s : State) (a : Action) (h : s.memoryOk) :
    (State.faultAct s a).memoryOk :=
  h

@[simp] theorem State.barAct_memoryOk (s : State) (a : Action) (h : s.memoryOk) :
    (State.barAct s a).memoryOk := State.denyAct_memoryOk _ _ _ (fun _ _ h => State.er_memoryOk _ _ _ _ h) h

theorem execValveRequestFile_memoryOk (mm : Nat) (s : State) (h : s.memoryOk) :
    ∃ t, execValveRequestFile mm s = .next t ∧ t.memoryOk :=
  ⟨_, rfl, by (repeat' split) <;> simp [h]⟩

@[simp] theorem State.startAct_memoryOk (s : State) (a : Action) (t0 : Nat) (parts : List (Nat × Nat)) (cs : List Charge) (h : s.memoryOk) :
    (State.startAct s a t0 parts cs).memoryOk :=
  h

@[simp] theorem State.meetRun_memoryOk (s : State) (a x : Action) (h : s.memoryOk) :
    (State.meetRun s a x).memoryOk := by
  unfold State.meetRun
  split
  · rename_i e
    exact State.endWait_memoryOk _ _ (State.extendRun_memoryOk _ _ _ h _ e)
  · split <;> simp [h]

@[simp] theorem State.reach_memoryOk (s : State) (mm : Nat) (h : s.memoryOk) :
    (State.reach s mm).memoryOk := by
  unfold State.reach
  repeat' (first | (simp (maxDischargeDepth := 60) [h]; done) | split | (with_reducible refine foldl_memoryOk _ (fun t x h => ?_) _ _ ?_ <;> try dsimp only))

theorem execValveActionStart_memoryOk (mm : Nat) (s : State) (h : s.memoryOk) :
    ∃ t, execValveActionStart mm s = .next t ∧ t.memoryOk := by
  have hv := State.denyAct_memoryOk s
  refine ⟨_, rfl, ?_⟩
  dsimp only
  (repeat' split) <;> first
    | with_reducible exact h
    | with_reducible exact State.barAct_memoryOk _ _ h
    | with_reducible exact State.faultAct_memoryOk _ _ h
    | with_reducible exact State.refuseAct_memoryOk _ _ h
    | with_reducible exact hv _ _ (fun _ _ h => State.valveFails_memoryOk _ _ _ h) h
    | with_reducible exact State.meetRun_memoryOk _ _ _ h
    | with_reducible exact State.reach_memoryOk _ _ (State.startAct_memoryOk _ _ _ _ _ h)
    | with_reducible exact State.startAct_memoryOk _ _ _ _ _ h

@[simp] theorem State.stopAct_memoryOk (s : State) (a : Action) (h : s.memoryOk) :
    (State.stopAct s a).memoryOk :=
  h

@[simp] theorem State.latchValve_memoryOk (s : State) (a : Action) (short : Bool) (h : s.memoryOk) :
    (State.latchValve s a short).memoryOk := by
  unfold State.latchValve
  refine State.answerTests_memoryOk _ _ _ (fun _ _ h => State.valveFails_memoryOk _ _ _ h) (State.emit_memoryOk _ _ _ _ _ ?_)
  exact State.stopAct_memoryOk _ _ ((State.modValve_memoryOk _ _ _).2 h)

@[simp] theorem State.peakReading_memoryOk (s : State) (mm mA : Nat) (h : s.memoryOk) :
    (State.peakReading s mm mA).1.memoryOk :=
  h

theorem execValvePeakEnd_memoryOk (mm : Nat) (mA : Nat) (s : State) (h : s.memoryOk) :
    ∃ t, execValvePeakEnd mm mA s = .next t ∧ t.memoryOk :=
  ⟨_, rfl, by dsimp only; (repeat' split) <;> simp [h]⟩

@[simp] theorem State.actEnds_memoryOk (s : State) (a : Action) (h : s.memoryOk) :
    (State.actEnds s a).memoryOk := by
  unfold State.actEnds
  refine State.answerTests_memoryOk _ _ _ (fun _ _ h => State.ok_memoryOk _ _ _ h) (State.stopAct_memoryOk _ _ ?_)
  split
  · exact h
  · exact (State.modValve_memoryOk _ _ _).2 h

theorem execValveActionEnd_memoryOk (mm : Nat) (s : State) (h : s.memoryOk) :
    ∃ t, execValveActionEnd mm s = .next t ∧ t.memoryOk :=
  ⟨_, rfl, by (repeat' split) <;> simp [h]⟩

theorem execValveFaultLatch_memoryOk (mm : Nat) (x : Overcurrent) (s : State) (h : s.memoryOk) :
    ∃ t, execValveFaultLatch mm x s = .next t ∧ t.memoryOk :=
  ⟨_, rfl, by dsimp only; (repeat' split) <;> simp [h]⟩

theorem execValveOpenCommon_memoryOk (bank : Nat) (s : State) (h : s.memoryOk) :
    ∃ t, execValveOpenCommon bank s = .next t ∧ t.memoryOk :=
  ⟨_, rfl, by (repeat' split) <;> simp [h]⟩

theorem execValveShortReturn_memoryOk (bank : Nat) (s : State) (h : s.memoryOk) :
    ∃ t, execValveShortReturn bank s = .next t ∧ t.memoryOk := by
  refine ⟨_, rfl, ?_⟩
  dsimp only
  split
  · refine State.emit_memoryOk _ _ _ _ _ (foldl_memoryOk _ (fun t a h => ?_) _ _ ((State.onPwr_memoryOk _ _).2 h))
    exact State.answerTests_memoryOk _ _ _ (fun _ _ h => State.valveFails_memoryOk _ _ _ h) (State.stopAct_memoryOk _ _ h)
  · exact h

@[simp] theorem doValveTest_memoryOk (r : ReplyTo) (mm : Nat) (ms6 : Int) (s : State) (h : s.memoryOk) :
    (doValveTest r mm ms6 s).memoryOk := by
  unfold doValveTest
  dsimp only
  (repeat' split) <;> simp [h]

@[simp] theorem State.withdrawActs_memoryOk (s : State) (n : Nat) (h : s.memoryOk) :
    (State.withdrawActs s n).memoryOk := by
  unfold State.withdrawActs
  repeat' (first | (simp (maxDischargeDepth := 60) [h]; done) | split | (with_reducible refine foldl_memoryOk _ (fun t x h => ?_) _ _ ?_ <;> try dsimp only))

@[simp] theorem State.flight_memoryOk (s : State) (o : Obj) (h : s.memoryOk) :
    (State.flight s o).1.memoryOk :=
  by unfold State.flight; (repeat' split) <;> simp (maxDischargeDepth := 60) [h]

@[simp] theorem State.writeChips_memoryOk (s : State) (o : Obj) (action rule : Nat) (f : Flight) (h : s.memoryOk) :
    (State.writeChips s o action rule f).memoryOk :=
  by unfold State.writeChips; (repeat' split) <;> first | (simp [h]; done) | exact foldl_memoryOk _ (fun _ _ h => by simp [h]) _ _ (by simp [h])

@[simp] theorem State.countDecision_memoryOk (s : State) (o : Obj) (action : Nat) (rules : List Nat) (h : s.memoryOk) :
    (State.countDecision s o action rules).memoryOk :=
  h

@[simp] theorem State.decideObj_memoryOk (s : State) (o : Obj) (h : s.memoryOk) :
    (State.decideObj s o).memoryOk :=
  by unfold State.decideObj; (repeat' split) <;> simp (maxDischargeDepth := 60) [h]

@[simp] theorem State.decideTaken_memoryOk (s : State) (o : Obj) (h : s.memoryOk) :
    (State.decideTaken s o).memoryOk := by
  unfold State.decideTaken
  dsimp only
  split <;> simp [h]

@[simp] theorem State.decideTick_memoryOk (s : State) (h : s.memoryOk) :
    (State.decideTick s).memoryOk :=
  by unfold State.decideTick; (repeat' split) <;> first | (simp [h]; done) | exact foldl_memoryOk _ (fun _ _ h => by simp [h]) _ _ (by simp [h])

@[simp] theorem State.decideFirst_memoryOk (s : State) (h : s.memoryOk) :
    (State.decideFirst s).memoryOk :=
  by unfold State.decideFirst; (repeat' split) <;> simp [h]

theorem execObjectDecide_memoryOk (s : State) (h : s.memoryOk) :
    ∃ t, execObjectDecide s = .next t ∧ t.memoryOk :=
  ⟨_, rfl, by (repeat' split) <;> simp [h]⟩

theorem execDeciderPosition_memoryOk (s : State) (h : s.memoryOk) :
    ∃ t, execDeciderPosition s = .next t ∧ t.memoryOk :=
  ⟨_, rfl, by dsimp only; (repeat' split) <;> simp [h]⟩

theorem execViewWaitEnd_memoryOk (s : State) (h : s.memoryOk) :
    ∃ t, execViewWaitEnd s = .next t ∧ t.memoryOk :=
  ⟨_, rfl, by (repeat' split) <;> simp [h]⟩

theorem execMatchStoreExpiry_memoryOk (s : State) (h : s.memoryOk) :
    ∃ t, execMatchStoreExpiry s = .next t ∧ t.memoryOk :=
  ⟨_, rfl, by dsimp only; (repeat' split) <;> simp [h]⟩

@[simp] theorem State.putStat_memoryOk (s : State) (k : Nat) (r : List Byte) (h : s.memoryOk) :
    (State.putStat s k r).memoryOk :=
  by simp only [State.putStat]; (repeat' split) <;> simp [h]

theorem execStatPeriod_memoryOk (turret : Nat) (s : State) (h : s.memoryOk) :
    ∃ t, execStatPeriod turret s = .next t ∧ t.memoryOk := by
  refine ⟨_, rfl, ?_⟩
  repeat' (first | split | (with_reducible refine foldl_memoryOk _ (fun t x h => ?_) _ _ ?_ <;> try dsimp only) | simp (maxDischargeDepth := 60) [h])

@[simp] theorem State.markStaged_memoryOk (s : State) (slots : List Nat) (h : s.memoryOk) :
    (State.markStaged s slots).memoryOk :=
  foldl_memoryOk _ (fun _ _ h => by simp [h]) _ _ h

@[simp] theorem setClassStaged_memoryOk (r : ReplyTo) (k : Key) (v : Val) (s : State) (h : s.memoryOk) :
    (setClassStaged r k v s).memoryOk :=
  by unfold setClassStaged; (repeat' split) <;> simp (maxDischargeDepth := 60) [h]

@[simp] theorem State.endTick_memoryOk (s : State) (h : s.memoryOk) :
    (State.endTick s).memoryOk :=
  by simp (maxDischargeDepth := 60) [State.endTick, h]

@[simp] theorem State.unstage_memoryOk (s : State) (vs : List (Key × Val)) (h : s.memoryOk) :
    (State.unstage s vs).memoryOk :=
  h

@[simp] theorem doClassCommit_memoryOk (r : ReplyTo) (s : State) (h : s.memoryOk) :
    (doClassCommit r s).memoryOk :=
  h

@[simp] theorem State.commitClasses_memoryOk (s : State) (n : Nat) (r : Recipe) (h : s.memoryOk) :
    (State.commitClasses s n r).memoryOk :=
  by unfold State.commitClasses; exact foldl_memoryOk _ (fun _ _ h => by simp [h]) _ _ (by simp [h])

@[simp] theorem State.commitEntries_memoryOk (s : State) (n : Nat) (r : Recipe) (frame : List (Key × Val)) (h : s.memoryOk) :
    (State.commitEntries s n r frame).memoryOk :=
  by simp (maxDischargeDepth := 60) [State.commitEntries, h]

@[simp] theorem State.restoreRecipe_memoryOk (s : State) (n : Nat) (h : s.memoryOk) :
    (State.restoreRecipe s n).memoryOk := by
  have h1 : ∀ (l : List Nat) (t : State), t.memoryOk → (l.foldl (fun u k => u.modClassSlot k fun c => { c with state := .active }) t).memoryOk :=
    fun l t => foldl_memoryOk _ (fun t n h => (State.modClassSlot_memoryOk _ _ _).2 h) l t
  unfold State.restoreRecipe
  split
  · exact h
  · exact h1 _ _ (State.useTables_memoryOk _ _ _ (memoryOk_of_wf rfl (foldl_wf _ (fun m p h => Ram.setByte_wf _ _ h) _ _ h)))

@[simp] theorem State.fireEntry_memoryOk (s : State) (e : Nat) (y : Frac) (mid : Tick) (h : s.memoryOk) :
    (State.fireEntry s e y mid).memoryOk := by
  unfold State.fireEntry
  repeat' (first | (simp (maxDischargeDepth := 60) [h]; done) | split | (with_reducible refine foldl_memoryOk _ (fun t x h => ?_) _ _ ?_ <;> try dsimp only))

@[simp] theorem State.storeResult_memoryOk (s : State) (e : Nat) (m : Sample) (pinFault : Bool) (rep : Nat) (ends : Tick) (h : s.memoryOk) :
    (State.storeResult s e m pinFault rep ends).memoryOk := by
  unfold State.storeResult
  extract_lets r den noRatio q free x y bad flags mid f t u
  have ht : t.memoryOk := by
    refine (State.modEntry_memoryOk _ _ _).2 ?_
    split
    · exact State.useFree_memoryOk _ h
    · exact h
  have hu : u.memoryOk := by
    change (if _ then _ else _ : State).memoryOk
    split
    · exact ht
    · exact ht
  split
  · exact State.fireEntry_memoryOk _ _ _ _ hu
  · exact hu

@[simp] theorem State.endCheck_memoryOk (s : State) (c : CheckJob) (h : s.memoryOk) :
    (State.endCheck s c).memoryOk :=
  by unfold State.endCheck; (repeat' split) <;> simp [h]

@[simp] theorem State.checkMeasured_memoryOk (s : State) (c : CheckJob) (m : Sample) (h : s.memoryOk) :
    (State.checkMeasured s c m).memoryOk :=
  by simp only [State.checkMeasured]; (repeat' split) <;> simp [h]

@[simp] theorem State.afterRep_memoryOk (s : State) (e reps : Nat) (ended : Tick) (h : s.memoryOk) :
    (State.afterRep s e reps ended).memoryOk :=
  by simp only [State.afterRep]; (repeat' split) <;> simp [h]

@[simp] theorem State.readTaken_memoryOk (s : State) (r : ReadJob) (h : s.memoryOk) :
    (State.readTaken s r).memoryOk :=
  by simp only [State.readTaken]; (repeat' split) <;> simp [h]

@[simp] theorem State.passEnds_memoryOk (s : State) (h : s.memoryOk) :
    (State.passEnds s).memoryOk :=
  by simp [State.passEnds, h]

theorem execSeqResult_memoryOk (r : Sample) (s : State) (h : s.memoryOk) :
    ∃ t, execSeqResult r s = .next t ∧ t.memoryOk := by
  refine ⟨_, rfl, ?_⟩
  dsimp only
  split
  · exact h
  · split
    · exact h
    · split
      · exact State.afterRep_memoryOk _ _ _ _ (State.storeResult_memoryOk _ _ _ _ _ _ h)
      · exact State.passEnds_memoryOk _ (foldl_memoryOk _ (fun t q h => State.ok_memoryOk _ _ _ h) _ _ (State.storeResult_memoryOk _ _ _ _ _ _ h))
      · exact State.passEnds_memoryOk _ (State.checkMeasured_memoryOk _ _ _ h)
      · exact State.passEnds_memoryOk _ (State.readTaken_memoryOk _ _ h)

@[simp] theorem doSeqNow_memoryOk (r : ReplyTo) (e : Nat) (s : State) (h : s.memoryOk) :
    (doSeqNow r e s).memoryOk :=
  by unfold doSeqNow; (repeat' split) <;> simp [h]

@[simp] theorem State.fileExcite_memoryOk (s : State) (n : Nat) (h : s.memoryOk) :
    (State.fileExcite s n).memoryOk :=
  by unfold State.fileExcite; (repeat' split) <;> simp [h]

@[simp] theorem doSeqCommit_memoryOk (r : ReplyTo) (s : State) (h : s.memoryOk) :
    (doSeqCommit r s).memoryOk :=
  by simp only [doSeqCommit]; (repeat' split) <;> simp [h]

@[simp] theorem setSeqStaged_memoryOk (r : ReplyTo) (k : Key) (v : Val) (s : State) (h : s.memoryOk) :
    (setSeqStaged r k v s).memoryOk :=
  by simp [setSeqStaged, h]

@[simp] theorem doCheckRun_memoryOk (r : ReplyTo) (k : CheckKind) (s : State) (h : s.memoryOk) :
    (doCheckRun r k s).memoryOk :=
  by simp only [doCheckRun]; (repeat' split) <;> simp [h]

theorem execCheckInterval_memoryOk (s : State) (h : s.memoryOk) :
    ∃ t, execCheckInterval s = .next t ∧ t.memoryOk :=
  ⟨_, rfl, by (repeat' split) <;> simp [h]⟩

@[simp] theorem setCheckInterval_memoryOk (r : ReplyTo) (k : Key) (v : Val) (s : State) (h : s.memoryOk) :
    (setCheckInterval r k v s).memoryOk :=
  by unfold setCheckInterval; (repeat' split) <;> simp [h]

@[simp] theorem State.pinEvent_memoryOk (s : State) (pin : Nat) (w : String) (h : s.memoryOk) :
    (State.pinEvent s pin w).memoryOk :=
  by simp [State.pinEvent, h]

theorem execFePinOver_memoryOk (pin : Nat) (s : State) (h : s.memoryOk) :
    ∃ t, execFePinOver pin s = .next t ∧ t.memoryOk :=
  ⟨_, rfl, by (repeat' split) <;> simp [h]⟩

theorem execFePinRecover_memoryOk (pin : Nat) (s : State) (h : s.memoryOk) :
    ∃ t, execFePinRecover pin s = .next t ∧ t.memoryOk :=
  ⟨_, rfl, by (repeat' split) <;> simp [h]⟩

theorem execExcLimit_memoryOk (entry : Nat) (s : State) (h : s.memoryOk) :
    ∃ t, execExcLimit entry s = .next t ∧ t.memoryOk :=
  ⟨_, rfl, by (repeat' split) <;> simp [h]⟩

@[simp] theorem State.readyExcite_memoryOk (s : State) (h : s.memoryOk) :
    (State.readyExcite s).memoryOk :=
  by unfold State.readyExcite; (repeat' split) <;> simp [h]

theorem execExcRequestRefile_memoryOk (s : State) (h : s.memoryOk) :
    ∃ t, execExcRequestRefile s = .next t ∧ t.memoryOk :=
  ⟨_, rfl, by (repeat' split) <;> simp [h]⟩

@[simp] theorem State.exciteRefused_memoryOk (s : State) (h : s.memoryOk) :
    (State.exciteRefused s).memoryOk := by
  have h1 : ∀ (l : List ReplyTo) (t : State), t.memoryOk → (l.foldl (fun t r => t.er r 41) t).memoryOk :=
    fun l t => foldl_memoryOk _ (fun _ _ h => State.er_memoryOk _ _ _ _ h) l t
  have h2 := (State.onFe_memoryOk s (fun f => { f with commits := [] })).2 h
  unfold State.exciteRefused
  split
  · refine State.emit_memoryOk _ _ _ _ _ ?_
    rw [State.onFe_memoryOk]
    exact h1 _ _ h2
  · exact h1 _ _ h2

theorem execLoopReadbackDue_memoryOk (n : Nat) (microMa microV : Int) (s : State) (h : s.memoryOk) :
    ∃ t, execLoopReadbackDue n microMa microV s = .next t ∧ t.memoryOk :=
  ⟨_, rfl, by (repeat' split) <;> simp [h]⟩

@[simp] theorem State.windowStep_memoryOk (s : State) (n : Nat) (h : s.memoryOk) :
    (State.windowStep s n).memoryOk :=
  h

theorem execLoopSample_memoryOk (n : Nat) (s : State) (h : s.memoryOk) :
    ∃ t, execLoopSample n s = .next t ∧ t.memoryOk :=
  ⟨_, rfl, by dsimp only; (repeat' split) <;> simp [h]⟩

@[simp] theorem State.loopEvent_memoryOk (s : State) (n : Nat) (w : String) (h : s.memoryOk) :
    (State.loopEvent s n w).memoryOk :=
  by simp [State.loopEvent, h]

theorem execLoopSaturation_memoryOk (n : Nat) (s : State) (h : s.memoryOk) :
    ∃ t, execLoopSaturation n s = .next t ∧ t.memoryOk :=
  ⟨_, rfl, by (repeat' split) <;> simp [h]⟩

theorem execLoopHeadroomFault_memoryOk (n : Nat) (s : State) (h : s.memoryOk) :
    ∃ t, execLoopHeadroomFault n s = .next t ∧ t.memoryOk :=
  ⟨_, rfl, by (repeat' split) <;> simp [h]⟩

theorem execLoopHeadroomOk_memoryOk (n : Nat) (s : State) (h : s.memoryOk) :
    ∃ t, execLoopHeadroomOk n s = .next t ∧ t.memoryOk :=
  ⟨_, rfl, by (repeat' split) <;> simp [h]⟩

@[simp] theorem setLoopQuantity_memoryOk (r : ReplyTo) (k : Key) (v : Val) (s : State) (h : s.memoryOk) :
    (setLoopQuantity r k v s).memoryOk :=
  by simp only [setLoopQuantity]; (repeat' split) <;> simp [h]

@[simp] theorem State.newAlarm_memoryOk (s : State) (n : Nat) (h : s.memoryOk) :
    (State.newAlarm s n).memoryOk :=
  h

@[simp] theorem State.loopsWatch_memoryOk (s : State) (h : s.memoryOk) :
    (State.loopsWatch s).memoryOk :=
  h

@[simp] theorem State.loopsWake_memoryOk (s : State) (h : s.memoryOk) :
    (State.loopsWake s).memoryOk :=
  h

@[simp] theorem State.loopsOfAlarm_memoryOk (s : State) (n : Nat) (h : s.memoryOk) :
    (State.loopsOfAlarm s n).memoryOk :=
  foldl_memoryOk _ (fun _ _ h => by simp [h]) _ _ h

@[simp] theorem State.deliver_memoryOk (s : State) (requester owner : Nat) (r : Region) (sector : Nat) (h : s.memoryOk) :
    (State.deliver s requester owner r sector).memoryOk :=
  h

@[simp] theorem State.refuseMem_memoryOk (s : State) (by_ : MemBy) (h : s.memoryOk) :
    (State.refuseMem s by_).memoryOk := by
  unfold State.refuseMem
  dsimp only
  split
  · exact h
  · split
    · rename_i hh
      exact State.er_memoryOk _ _ _ _ (State.abortable_memoryOk _ _ (by exact h) _ hh)
    · exact h

theorem execMemRead_memoryOk (requester : MemBy) (owner : Nat) (region : Region) (sector : Nat) (s : State) (h : s.memoryOk) :
    ∃ t, execMemRead requester owner region sector s = .next t ∧ t.memoryOk :=
  ⟨_, rfl, by (repeat' split) <;> simp [h]⟩

theorem execTagCheckComplete_memoryOk (requester : Nat) (x : Stored) (s : State) (h : s.memoryOk) :
    ∃ t, execTagCheckComplete requester x s = .next t ∧ t.memoryOk :=
  ⟨_, rfl, by dsimp only; (repeat' split) <;> simp [h]⟩

@[simp] theorem State.fileRekey_memoryOk (s : State) (owner : Nat) (r : Region) (turret : Nat) (reply : Option ReplyTo) (h : s.memoryOk) :
    (State.fileRekey s owner r turret reply).memoryOk :=
  by simp [State.fileRekey, h]

@[simp] theorem State.writeSector_memoryOk (s : State) (owner : Nat) (r : Region) (sector off : Nat) (data : List Byte) (h : s.memoryOk) :
    (State.writeSector s owner r sector off data).memoryOk := by
  have h1 : ∀ f : Mem → Mem, ({ s with ram := s.ram.write (secAddr owner r sector off) data }.onMem f).memoryOk :=
    fun f => memoryOk_of_wf rfl (Ram.write_wf _ _ h)
  unfold State.writeSector
  extract_lets c g v
  split
  · exact State.fileRekey_memoryOk _ _ _ _ _ (h1 _)
  · exact h1 _

theorem execMemWrite_memoryOk (requester : MemBy) (owner : Nat) (region : Region) (sector off : Nat) (data : List Byte) (s : State) (h : s.memoryOk) :
    ∃ t, execMemWrite requester owner region sector off data s = .next t ∧ t.memoryOk := by
  refine ⟨_, rfl, ?_⟩
  split
  · exact h
  · split
    · exact State.refuseMem_memoryOk _ _ h
    · extract_lets d t
      have ht : t.memoryOk := by
        change (if _ then _ else _ : State).memoryOk
        split
        · exact State.deliver_memoryOk _ _ _ _ _ h
        · exact h
      split
      · exact ht
      · exact State.writeSector_memoryOk _ _ _ _ _ _ ht

@[simp] theorem doMemRekey_memoryOk (r : ReplyTo) (n : Nat) (region : Region) (s : State) (h : s.memoryOk) :
    (doMemRekey r n region s).memoryOk :=
  by unfold doMemRekey; (repeat' split) <;> simp [h]

@[simp] theorem State.unstall_memoryOk (s : State) (owner : Nat) (h : s.memoryOk) :
    (State.unstall s owner).memoryOk :=
  foldl_memoryOk _ (fun _ _ h => by simp [h]) _ _ h

theorem execRekeyPass_memoryOk (s : State) (h : s.memoryOk) :
    ∃ t, execRekeyPass s = .next t ∧ t.memoryOk :=
  ⟨_, rfl, by (repeat' split) <;> simp (maxDischargeDepth := 60) [h]⟩

@[simp] theorem State.stopMem_memoryOk (s : State) (n : Nat) (h : s.memoryOk) :
    (State.stopMem s n).memoryOk := by
  unfold State.stopMem
  refine foldl_memoryOk _ (fun t j h => ?_) _ _ h
  refine State.erTo_memoryOk _ _ _ _ ?_
  have h1 := State.withdrawReq_memoryOk t (.rekey j.owner j.region.code) h
  split
  · exact memoryOk_of_wf rfl (SMap.wf_filter _ h1)
  · exact h1

@[simp] theorem State.scrubNow_memoryOk (s : State) (bad : List BadSlot) (imageFails : Nat) (h : s.memoryOk) :
    (State.scrubNow s bad imageFails).memoryOk := by
  have h1 : ∀ (l : List BadSlot) (t : State), t.memoryOk → (l.foldl (fun t b =>
    let r := b.record
    (((t.emit (recAud r) "nv" "slot" [recFld r]).markBad [b]).fileWrite { record := r, body := (t.getRec r).body, reply := none }).onMem
      fun m => { m with scrubRepairs := satInc m.scrubRepairs, probeFails := satAdd m.probeFails b.sectors }) t).memoryOk :=
    fun l t => foldl_memoryOk _ (fun t b h => (State.onMem_memoryOk _ _).2
      (State.fileWrite_memoryOk _ _ (State.markBad_memoryOk _ _ (State.emit_memoryOk _ _ _ _ _ h)))) l t
  unfold State.scrubNow
  extract_lets t u
  have hu : u.memoryOk := by
    change (if _ then _ else _ : State).memoryOk
    split
    · exact (State.onMem_memoryOk _ _).2 (State.emit_memoryOk _ _ _ _ _ (h1 _ _ h))
    · exact h1 _ _ h
  exact (State.onMem_memoryOk _ _).2 (State.releaseGrant_memoryOk _ _ hu)

theorem execScrubPass_memoryOk (bad : List BadSlot) (imageFails : Nat) (s : State) (h : s.memoryOk) :
    ∃ t, execScrubPass bad imageFails s = .next t ∧ t.memoryOk :=
  ⟨_, rfl, by dsimp only; (repeat' split) <;> simp [h]⟩

@[simp] theorem State.putRecord_memoryOk (s : State) (stream : Nat) (r : List Byte) (h : s.memoryOk) :
    (State.putRecord s stream r).memoryOk :=
  h

@[simp] theorem State.status_memoryOk (s : State) (stream tag code : Nat) (h : s.memoryOk) :
    (State.status s stream tag code).memoryOk :=
  h

@[simp] theorem State.domeNotice_memoryOk (s : State) (n tag code : Nat) (h : s.memoryOk) :
    (State.domeNotice s n tag code).memoryOk :=
  by unfold State.domeNotice; (repeat' split) <;> simp [h]

@[simp] theorem State.domeOk_memoryOk (s : State) (f : DomeFrom) (n : Nat) (fs : List Fld) (h : s.memoryOk) :
    (State.domeOk s f n fs).memoryOk :=
  by unfold State.domeOk; (repeat' split) <;> simp [h]

@[simp] theorem State.domeEr_memoryOk (s : State) (f : DomeFrom) (n code : Nat) (detail : List Fld) (h : s.memoryOk) :
    (State.domeEr s f n code detail).memoryOk :=
  by unfold State.domeEr; (repeat' split) <;> simp [h]

@[simp] theorem State.writeBlob_memoryOk (s : State) (n b off : Nat) (bs : List Byte) (h : s.memoryOk) :
    (State.writeBlob s n b off bs).memoryOk := by
  unfold State.writeBlob
  exact memoryOk_of_wf rfl (Ram.write_wf _ _ h)

@[simp] theorem State.pkeAccept_memoryOk (s : State) (f : DomeFrom) (n : Nat) (op : PkeOp) (h : s.memoryOk) :
    (State.pkeAccept s f n op).memoryOk :=
  by unfold State.pkeAccept; (repeat' split) <;> simp [h]

@[simp] theorem State.pkeSign_memoryOk (s : State) (f : DomeFrom) (n : Nat) (k b : Int) (h : s.memoryOk) :
    (State.pkeSign s f n k b).memoryOk :=
  by unfold State.pkeSign; (repeat' split) <;> simp [h]

@[simp] theorem State.pkeVerify_memoryOk (s : State) (f : DomeFrom) (n : Nat) (c : Curve) (b : Int) (h : s.memoryOk) :
    (State.pkeVerify s f n c b).memoryOk :=
  by unfold State.pkeVerify; (repeat' split) <;> simp [h]

@[simp] theorem State.pkeKeygen_memoryOk (s : State) (f : DomeFrom) (n : Nat) (c : Curve) (k b : Int) (h : s.memoryOk) :
    (State.pkeKeygen s f n c k b).memoryOk :=
  by unfold State.pkeKeygen; (repeat' split) <;> simp [h]

@[simp] theorem State.pkeEcdh_memoryOk (s : State) (f : DomeFrom) (n : Nat) (k b : Int) (k2 : Option Int) (h : s.memoryOk) :
    (State.pkeEcdh s f n k b k2).memoryOk :=
  by unfold State.pkeEcdh; (repeat' split) <;> simp [h]

@[simp] theorem State.pkePublic_memoryOk (s : State) (f : DomeFrom) (n : Nat) (k b : Int) (h : s.memoryOk) :
    (State.pkePublic s f n k b).memoryOk :=
  by unfold State.pkePublic; (repeat' split) <;> simp [h]

@[simp] theorem doDomePkeSign_memoryOk (r : ReplyTo) (k b : Int) (s : State) (h : s.memoryOk) :
    (doDomePkeSign r k b s).memoryOk :=
  by simp [doDomePkeSign, h]

@[simp] theorem doDomePkeVerify_memoryOk (r : ReplyTo) (c : Curve) (b : Int) (s : State) (h : s.memoryOk) :
    (doDomePkeVerify r c b s).memoryOk :=
  by simp [doDomePkeVerify, h]

@[simp] theorem doDomePkeKeygen_memoryOk (r : ReplyTo) (c : Curve) (k : Int) (s : State) (h : s.memoryOk) :
    (doDomePkeKeygen r c k s).memoryOk :=
  by simp [doDomePkeKeygen, h]

@[simp] theorem doDomePkeEcdh_memoryOk (r : ReplyTo) (k b : Int) (k2 : Option Int) (s : State) (h : s.memoryOk) :
    (doDomePkeEcdh r k b k2 s).memoryOk :=
  by simp [doDomePkeEcdh, h]

@[simp] theorem doDomePkePublic_memoryOk (r : ReplyTo) (k : Int) (s : State) (h : s.memoryOk) :
    (doDomePkePublic r k s).memoryOk :=
  by simp [doDomePkePublic, h]

@[simp] theorem doDomePkeDiag_memoryOk (r : ReplyTo) (b : Int) (s : State) (h : s.memoryOk) :
    (doDomePkeDiag r b s).memoryOk :=
  by unfold doDomePkeDiag; (repeat' split) <;> simp [h]

@[simp] theorem State.pkeDrop_memoryOk (s : State) (j : PkeJob) (h : s.memoryOk) :
    (State.pkeDrop s j).memoryOk :=
  h

@[simp] theorem State.pkeFail_memoryOk (s : State) (j : PkeJob) (h : s.memoryOk) :
    (State.pkeFail s j).memoryOk :=
  by simp (maxDischargeDepth := 60) [State.pkeFail, h]

@[simp] theorem State.pkeDone_memoryOk (s : State) (j : PkeJob) (fs : List Fld) (h : s.memoryOk) :
    (State.pkeDone s j fs).memoryOk :=
  by simp (maxDischargeDepth := 60) [State.pkeDone, h]

@[simp] theorem State.pkeStore_memoryOk (s : State) (j : PkeJob) (e : KsEdit) (done : DoneAns) (h : s.memoryOk) :
    (State.pkeStore s j e done).memoryOk :=
  by simp [State.pkeStore, h]

@[simp] theorem State.pkePub_memoryOk (s : State) (j : PkeJob) (b : Nat) (pub : List Byte) (h : s.memoryOk) :
    (State.pkePub s j b pub).memoryOk :=
  by unfold State.pkePub; (repeat' split) <;> simp (maxDischargeDepth := 60) [h]

@[simp] theorem State.pkeResult_memoryOk (s : State) (j : PkeJob) (ok : Bool) (h : s.memoryOk) :
    (State.pkeResult s j ok).memoryOk :=
  by simp only [State.pkeResult]; (repeat' split) <;> simp (maxDischargeDepth := 60) [h]

theorem execPkeOperationComplete_memoryOk (found : PkeIn) (s0 : State) (h : s0.memoryOk) :
    ∃ t, execPkeOperationComplete found s0 = .next t ∧ t.memoryOk :=
  ⟨_, rfl, by (repeat' split) <;> simp (maxDischargeDepth := 60) [h]⟩

@[simp] theorem State.pkeWritten_memoryOk (s : State) (f : DomeFrom) (h : s.memoryOk) :
    (State.pkeWritten s f).memoryOk :=
  by simp [State.pkeWritten, h]

@[simp] theorem State.pkeRefused_memoryOk (s : State) (id : Nat) (h : s.memoryOk) :
    (State.pkeRefused s id).memoryOk :=
  by unfold State.pkeRefused; (repeat' split) <;> simp (maxDischargeDepth := 60) [h]

theorem execDomeFrameStart_memoryOk (s : State) (h : s.memoryOk) :
    ∃ t, execDomeFrameStart s = .next t ∧ t.memoryOk := by
  have h1 : ∀ (l : List PkeJob) (t : State), t.memoryOk → (l.foldl (fun u j => (u.pkeDrop j).domeEr j.src j.turret 23 [.word "slot"]) t).memoryOk :=
    fun l t => foldl_memoryOk _ (fun t n h => State.domeEr_memoryOk _ _ _ _ _ (State.pkeDrop_memoryOk _ _ h)) l t
  have h2 : ∀ (l : List DigJob) (t : State), t.memoryOk → (l.foldl (fun v j => (v.onDome fun d => { d with jobs := d.jobs.filter fun x => decide (x.id ≠ j.id) }).domeEr j.src j.turret 23
          [.word "slot"]) t).memoryOk :=
    fun l t => foldl_memoryOk _ (fun t n h => State.domeEr_memoryOk _ _ _ _ _ ((State.onDome_memoryOk _ _).2 h)) l t
  refine ⟨_, rfl, ?_⟩
  dsimp only
  split
  · exact h
  · split
    · exact h
    · exact h2 _ _ (h1 _ _ ((State.onDome_memoryOk _ _).2 h))

@[simp] theorem State.digAccept_memoryOk (s : State) (f : DomeFrom) (n : Nat) (op : DigOp) (h : s.memoryOk) :
    (State.digAccept s f n op).memoryOk :=
  by unfold State.digAccept; (repeat' split) <;> simp [h]

@[simp] theorem State.digHash_memoryOk (s : State) (f : DomeFrom) (n : Nat) (a : DigAlg) (k : Option Nat) (b off len : Int) (out : Option (Int × Int)) (h : s.memoryOk) :
    (State.digHash s f n a k b off len out).memoryOk :=
  by unfold State.digHash; (repeat' split) <;> simp [h]

@[simp] theorem doDomeDigHash_memoryOk (r : ReplyTo) (a : DigAlg) (k : Option Nat) (b off len : Int) (out : Option (Int × Int)) (s : State) (h : s.memoryOk) :
    (doDomeDigHash r a k b off len out s).memoryOk :=
  by simp [doDomeDigHash, h]

@[simp] theorem State.setHandle_memoryOk (s : State) (n h : Nat) (x : Handle) (hh : s.memoryOk) :
    (State.setHandle s n h x).memoryOk :=
  hh

@[simp] theorem doDomeDigStart_memoryOk (r : ReplyTo) (a : DigAlg) (k : Option Nat) (s : State) (h : s.memoryOk) :
    (doDomeDigStart r a k s).memoryOk :=
  by simp only [doDomeDigStart]; (repeat' split) <;> simp [h]

@[simp] theorem doDomeDigUpdate_memoryOk (r : ReplyTo) (hd b off len : Int) (s : State) (h : s.memoryOk) :
    (doDomeDigUpdate r hd b off len s).memoryOk :=
  by unfold doDomeDigUpdate; (repeat' split) <;> simp [h]

@[simp] theorem doDomeDigFinal_memoryOk (r : ReplyTo) (hd : Int) (out : Option (Int × Int)) (s : State) (h : s.memoryOk) :
    (doDomeDigFinal r hd out s).memoryOk :=
  by simp only [doDomeDigFinal]; (repeat' split) <;> simp [h]

@[simp] theorem doDomeDigDrop_memoryOk (r : ReplyTo) (hd : Int) (s : State) (h : s.memoryOk) :
    (doDomeDigDrop r hd s).memoryOk :=
  by unfold doDomeDigDrop; (repeat' split) <;> simp [h]

@[simp] theorem doDomeDigTable_memoryOk (r : ReplyTo) (head slot : Nat) (s : State) (h : s.memoryOk) :
    (doDomeDigTable r head slot s).memoryOk :=
  by simp only [doDomeDigTable]; (repeat' split) <;> simp [h]

@[simp] theorem State.digAnswer_memoryOk (s : State) (f : DomeFrom) (n : Nat) (out : Option (Nat × Nat)) (d : List Byte) (h : s.memoryOk) :
    (State.digAnswer s f n out d).memoryOk :=
  by unfold State.digAnswer; (repeat' split) <;> simp [h]

theorem execDigestJobComplete_memoryOk (job : Nat) (s : State) (h : s.memoryOk) :
    ∃ t, execDigestJobComplete job s = .next t ∧ t.memoryOk :=
  ⟨_, rfl, by dsimp only; (repeat' split) <;> simp (maxDischargeDepth := 60) [h]⟩

@[simp] theorem State.rngFill_memoryOk (s : State) (f : DomeFrom) (n : Nat) (b off len : Int) (h : s.memoryOk) :
    (State.rngFill s f n b off len).memoryOk :=
  by unfold State.rngFill; (repeat' split) <;> simp (maxDischargeDepth := 60) [h]

@[simp] theorem doDomeRngFill_memoryOk (r : ReplyTo) (b off len : Int) (s : State) (h : s.memoryOk) :
    (doDomeRngFill r b off len s).memoryOk :=
  by simp [doDomeRngFill, h]

theorem execRngReseed_memoryOk (s : State) (h : s.memoryOk) :
    ∃ t, execRngReseed s = .next t ∧ t.memoryOk :=
  ⟨_, rfl, by (repeat' split) <;> simp [h]⟩

theorem execRngHealthFail_memoryOk (s : State) (h : s.memoryOk) :
    ∃ t, execRngHealthFail s = .next t ∧ t.memoryOk :=
  ⟨_, rfl, by (repeat' split) <;> simp [h]⟩

theorem execRngRetest_memoryOk (passed : Bool) (s : State) (h : s.memoryOk) :
    ∃ t, execRngRetest passed s = .next t ∧ t.memoryOk :=
  ⟨_, rfl, by (repeat' split) <;> simp [h]⟩

theorem execBlobWrite_memoryOk (stream tag blob off : Nat) (data : List Byte) (s : State) (h : s.memoryOk) :
    ∃ t, execBlobWrite stream tag blob off data s = .next t ∧ t.memoryOk :=
  ⟨_, rfl, by dsimp only; (repeat' split) <;> simp [h]⟩

theorem execBlobRead_memoryOk (stream tag blob off len : Nat) (s : State) (h : s.memoryOk) :
    ∃ t, execBlobRead stream tag blob off len s = .next t ∧ t.memoryOk :=
  ⟨_, rfl, by (repeat' split) <;> simp [h]⟩

theorem execTableWrite_memoryOk (stream tag head slot off : Nat) (data : List Byte) (s : State) (h : s.memoryOk) :
    ∃ t, execTableWrite stream tag head slot off data s = .next t ∧ t.memoryOk := by
  refine ⟨_, rfl, ?_⟩
  dsimp only
  split
  · exact h
  split
  · exact State.status_memoryOk _ _ _ _ h
  split
  · exact State.status_memoryOk _ _ _ _ h
  · exact State.status_memoryOk _ _ _ _ (memoryOk_of_wf rfl (Ram.write_wf _ _ h))

theorem execMgmtDomeOperation_memoryOk (stream tag : Nat) (fields : List Byte) (s : State) (h : s.memoryOk) :
    ∃ t, execMgmtDomeOperation stream tag fields s = .next t ∧ t.memoryOk :=
  ⟨_, rfl, by dsimp only; (repeat' split) <;> simp [h]⟩

@[simp] theorem State.stopDomeOf_memoryOk (s : State) (n : Nat) (h : s.memoryOk) :
    (State.stopDomeOf s n).1.memoryOk := by
  unfold State.stopDomeOf
  dsimp only
  rw [State.modDomeTur_memoryOk, State.onDome_memoryOk]
  exact foldl_memoryOk _ (fun t x h => State.withdrawReq_memoryOk _ _ h) _ _ h

@[simp] theorem State.assignEvents_memoryOk (s : State) (ns : List Nat) (changed : Bool) (h : s.memoryOk) :
    (State.assignEvents s ns changed).memoryOk :=
  by unfold State.assignEvents; (repeat' split) <;> first | (simp [h]; done) | exact foldl_memoryOk _ (fun _ _ h => by simp [h]) _ _ (by simp [h])

@[simp] theorem State.toDefaults_memoryOk (s : State) (ks : List Key) (h : s.memoryOk) :
    (State.toDefaults s ks).memoryOk := by
  unfold State.toDefaults
  exact State.dropStaged_memoryOk _ _ (foldl_memoryOk _ (fun t k h => State.setVal_memoryOk _ _ _ |>.2 h) _ _ h)

@[simp] theorem State.emptySlot_memoryOk (s : State) (slot : Nat) (h : s.memoryOk) :
    (State.emptySlot s slot).memoryOk := by
  unfold State.emptySlot
  exact memoryOk_of_wf rfl (Ram.clear_wf _ _ (Ram.clear_wf _ _ (State.toDefaults_memoryOk _ _ h)))

@[simp] theorem State.handOver_memoryOk (s : State) (k : Key) (v : Val) (h : s.memoryOk) :
    (State.handOver s k v).memoryOk :=
  by unfold State.handOver; (repeat' split) <;> simp [h]

@[simp] theorem State.assign_memoryOk (s : State) (k : Key) (v : Val) (h : s.memoryOk) :
    (State.assign s k v).memoryOk :=
  by unfold State.assign; (repeat' split) <;> simp [h]

@[simp] theorem State.assignAll_memoryOk (s : State) (ps : List (Key × Val)) (h : s.memoryOk) :
    (State.assignAll s ps).memoryOk :=
  foldl_memoryOk _ (fun _ _ h => by simp [h]) _ _ h

@[simp] theorem setAssignment_memoryOk (r : ReplyTo) (k : Key) (v : Val) (s : State) (h : s.memoryOk) :
    (setAssignment r k v s).memoryOk :=
  by unfold setAssignment; (repeat' split) <;> simp (maxDischargeDepth := 60) [h]

@[simp] theorem setXrange_memoryOk (r : ReplyTo) (k : Key) (v : Val) (s : State) (h : s.memoryOk) :
    (setXrange r k v s).memoryOk :=
  by simp only [setXrange]; (repeat' split) <;> simp [h]

@[simp] theorem State.writeKeys_memoryOk (s : State) (r : ReplyTo) (e : KsEdit) (stubborn : Bool) (h : s.memoryOk) :
    (State.writeKeys s r e stubborn).memoryOk :=
  h

@[simp] theorem doTurretCreate_memoryOk (r : ReplyTo) (n : Int) (s : State) (h : s.memoryOk) :
    (doTurretCreate r n s).memoryOk :=
  by unfold doTurretCreate; (repeat' split) <;> simp [h]

@[simp] theorem State.dropClaim_memoryOk (s : State) (n : Nat) (h : s.memoryOk) :
    (State.dropClaim s n).memoryOk :=
  by unfold State.dropClaim; (repeat' split) <;> simp [h]

@[simp] theorem doTurretClaim_memoryOk (r : ReplyTo) (n : Nat) (key : List Byte) (s : State) (h : s.memoryOk) :
    (doTurretClaim r n key s).memoryOk := by
  unfold doTurretClaim
  dsimp only
  split
  · simp (maxDischargeDepth := 60) [h]
  · split
    · simp (maxDischargeDepth := 60) [h]
    · split <;> simp (maxDischargeDepth := 60) [h]

@[simp] theorem getKeyNonce_memoryOk (r : ReplyTo) (s : State) (h : s.memoryOk) :
    (getKeyNonce r s).memoryOk :=
  by unfold getKeyNonce; (repeat' split) <;> simp [h]

theorem execKeyNonceExpiry_memoryOk (sess : Nat) (s : State) (h : s.memoryOk) :
    ∃ t, execKeyNonceExpiry sess s = .next t ∧ t.memoryOk :=
  ⟨_, rfl, by (repeat' split) <;> simp [h]⟩

@[simp] theorem doKeyImport_memoryOk (r : ReplyTo) (slot b : Int) (s : State) (h : s.memoryOk) :
    (doKeyImport r slot b s).memoryOk :=
  by simp only [doKeyImport]; (repeat' split) <;> simp (maxDischargeDepth := 60) [h]

@[simp] theorem doKeyErase_memoryOk (r : ReplyTo) (slot : Int) (s : State) (h : s.memoryOk) :
    (doKeyErase r slot s).memoryOk :=
  by unfold doKeyErase; (repeat' split) <;> simp [h]

@[simp] theorem doBlobWrite_memoryOk (r : ReplyTo) (b off : Int) (data : List Byte) (s : State) (h : s.memoryOk) :
    (doBlobWrite r b off data s).memoryOk :=
  by unfold doBlobWrite; (repeat' split) <;> simp [h]

@[simp] theorem doBlobRead_memoryOk (r : ReplyTo) (b off len : Int) (s : State) (h : s.memoryOk) :
    (doBlobRead r b off len s).memoryOk :=
  by unfold doBlobRead; (repeat' split) <;> simp [h]

@[simp] theorem doBlobClear_memoryOk (r : ReplyTo) (b : Int) (s : State) (h : s.memoryOk) :
    (doBlobClear r b s).memoryOk :=
  by unfold doBlobClear; (repeat' split) <;> simp [h]

@[simp] theorem State.abortedTo_memoryOk (s : State) (f : DomeFrom) (h : s.memoryOk) :
    (State.abortedTo s f).memoryOk :=
  by unfold State.abortedTo; (repeat' split) <;> simp [h]

@[simp] theorem State.abortedAll_memoryOk (s : State) (fs : List DomeFrom) (h : s.memoryOk) :
    (State.abortedAll s fs).memoryOk :=
  foldl_memoryOk _ (fun _ _ h => by simp [h]) _ _ h

@[simp] theorem State.stopWritesOf_memoryOk (s : State) (n : Nat) (h : s.memoryOk) :
    (State.stopWritesOf s n).memoryOk := by
  unfold State.stopWritesOf
  refine foldl_memoryOk _ ?_ _ _ h
  intro t w ht
  split
  · exact ht
  · split
    · rename_i hh
      exact State.abortedTo_memoryOk _ _ (State.pkeWritten_memoryOk _ _ (State.stopWrite_memoryOk _ _ ht _ hh))
    · exact ht

@[simp] theorem State.stopLeave_memoryOk (s : State) (n : Nat) (h : s.memoryOk) :
    (State.stopLeave s n).memoryOk :=
  by simp only [State.stopLeave]; (repeat' split) <;> simp (maxDischargeDepth := 60) [h]

@[simp] theorem State.logOutTurret_memoryOk (s : State) (n : Nat) (h : s.memoryOk) :
    (State.logOutTurret s n).memoryOk := by
  unfold State.logOutTurret
  refine foldl_memoryOk _ ?_ _ _ h
  intro t k ht
  split
  · exact State.emit_memoryOk _ _ _ _ _ (State.endLogin_memoryOk _ _ _ ht)
  · exact ht

@[simp] theorem State.closeStreamsOf_memoryOk (s : State) (n : Nat) (h : s.memoryOk) :
    (State.closeStreamsOf s n).memoryOk :=
  foldl_memoryOk _ (fun _ _ h => by simp [h]) _ _ h

@[simp] theorem State.revokeNow_memoryOk (s : State) (n : Nat) (h : s.memoryOk) :
    (State.revokeNow s n).memoryOk :=
  by simp (maxDischargeDepth := 60) [State.revokeNow, h]

@[simp] theorem doTurretRevoke_memoryOk (r : ReplyTo) (n : Int) (s : State) (h : s.memoryOk) :
    (doTurretRevoke r n s).memoryOk :=
  by simp only [doTurretRevoke]; (repeat' split) <;> simp [h]

@[simp] theorem doTurretRestore_memoryOk (r : ReplyTo) (n : Int) (s : State) (h : s.memoryOk) :
    (doTurretRestore r n s).memoryOk :=
  by unfold doTurretRestore; (repeat' split) <;> simp [h]

theorem memoryOk_staged (t : State) (l : SMap Val) (h : t.memoryOk) : { t with staged := l }.memoryOk := h

@[simp] theorem State.unassign_memoryOk (s : State) (n : Nat) (h : s.memoryOk) :
    (State.unassign s n).memoryOk := by
  unfold State.unassign
  rw [State.onFe_memoryOk]
  exact memoryOk_staged _ _ (State.assignAll_memoryOk _ _ h)

@[simp] theorem State.forget_memoryOk (s : State) (n : Nat) (h : s.memoryOk) :
    (State.forget s n).memoryOk := by
  unfold State.forget
  exact memoryOk_of_wf rfl (SMap.wf_filter _ (Ram.clear_wf _ _ (State.toDefaults_memoryOk _ _ h)))

@[simp] theorem doTurretDestroy_memoryOk (r : ReplyTo) (n : Int) (s : State) (h : s.memoryOk) :
    (doTurretDestroy r n s).memoryOk :=
  by simp only [doTurretDestroy]; (repeat' split) <;> simp (maxDischargeDepth := 60) [h]

@[simp] theorem doSysSeal_memoryOk (r : ReplyTo) (b : Int) (s : State) (h : s.memoryOk) :
    (doSysSeal r b s).memoryOk :=
  by simp only [doSysSeal]; (repeat' split) <;> simp [h]

@[simp] theorem State.unkeyRunning_memoryOk (s : State) (n : Nat) (h : s.memoryOk) :
    (State.unkeyRunning s n).memoryOk :=
  h

@[simp] theorem State.strip_memoryOk (s : State) (n : Nat) (h : s.memoryOk) :
    (State.strip s n).memoryOk := by
  have h1 : ∀ (l : List Nat) (f : Stream → Stream) (t : State), t.memoryOk → (l.foldl (fun t k => t.modStream k f) t).memoryOk :=
    fun l f t => foldl_memoryOk _ (fun t k h => (State.modStream_memoryOk _ _ _).2 h) l t
  unfold State.strip
  exact State.logOutTurret_memoryOk _ _ ((State.modTurret_memoryOk _ _ _).2 (h1 _ _ _ (State.closeStreamsOf_memoryOk _ _
    (State.stopLeave_memoryOk _ _ (State.stopWritesOf_memoryOk _ _ (State.abortedAll_memoryOk _ _ (State.stopDomeOf_memoryOk _ _ h)))))))

@[simp] theorem doSysUnseal_memoryOk (r : ReplyTo) (s : State) (h : s.memoryOk) :
    (doSysUnseal r s).memoryOk := by
  unfold doSysUnseal
  split
  · exact State.er_memoryOk _ _ _ _ h
  · refine State.writeKeys_memoryOk _ _ _ _ ((State.onDome_memoryOk _ _).2 ((State.onSys_memoryOk _ _).2 ?_))
    exact foldl_memoryOk _ (fun t n h => State.strip_memoryOk _ _ h) _ _ h

@[simp] theorem State.freshStart_memoryOk (s : State) (h : s.memoryOk) :
    (State.freshStart s).memoryOk := memoryOk_of_wf rfl (Ram.flash_wf _ h)

@[simp] theorem State.loopsOff_memoryOk (s : State) (h : s.memoryOk) :
    (State.loopsOff s).memoryOk :=
  h

@[simp] theorem State.loopsOn_memoryOk (s : State) (h : s.memoryOk) :
    (State.loopsOn s).memoryOk :=
  h

theorem execL24Valid_memoryOk (above19 p24Low : Bool) (s : State) (h : s.memoryOk) :
    ∃ t, execL24Valid above19 p24Low s = .next t ∧ t.memoryOk :=
  ⟨_, rfl, by (repeat' split) <;> simp [h]⟩

theorem execL24Lost_memoryOk (s : State) (h : s.memoryOk) :
    ∃ t, execL24Lost s = .next t ∧ t.memoryOk :=
  ⟨_, rfl, by (repeat' split) <;> simp [h]⟩

theorem execL24Removed_memoryOk (s : State) (h : s.memoryOk) :
    ∃ t, execL24Removed s = .next t ∧ t.memoryOk := ⟨_, rfl, memoryOk_of_wf rfl (Ram.flash_wf _ h)⟩

theorem execHoldupCharged_memoryOk (s : State) (h : s.memoryOk) :
    ∃ t, execHoldupCharged s = .next t ∧ t.memoryOk :=
  ⟨_, rfl, by (repeat' split) <;> simp [h]⟩

theorem execHoldupExhausted_memoryOk (s : State) (h : s.memoryOk) :
    ∃ t, execHoldupExhausted s = .next t ∧ t.memoryOk :=
  ⟨_, rfl, by (repeat' split) <;> simp [h]⟩

theorem execL24FlashLevel_memoryOk (above19 : Bool) (s : State) (h : s.memoryOk) :
    ∃ t, execL24FlashLevel above19 s = .next t ∧ t.memoryOk :=
  ⟨_, rfl, by (repeat' split) <;> simp [h]⟩

theorem execL24High_memoryOk (s : State) (h : s.memoryOk) :
    ∃ t, execL24High s = .next t ∧ t.memoryOk :=
  ⟨_, rfl, by (repeat' split) <;> simp [h]⟩

@[simp] theorem State.p24Falls_memoryOk (s : State) (h : s.memoryOk) :
    (State.p24Falls s).memoryOk := by
  unfold State.p24Falls
  dsimp only
  split
  · exact h
  · split <;> simp (maxDischargeDepth := 60) [h]

theorem execP24Low_memoryOk (s : State) (h : s.memoryOk) :
    ∃ t, execP24Low s = .next t ∧ t.memoryOk :=
  ⟨_, rfl, by simp [h]⟩

theorem execP24Ok_memoryOk (s : State) (h : s.memoryOk) :
    ∃ t, execP24Ok s = .next t ∧ t.memoryOk := by
  refine ⟨_, rfl, ?_⟩
  dsimp only
  split
  · split <;> simp (maxDischargeDepth := 60) [h]
  · exact h

theorem execP24High_memoryOk (above33 : Bool) (s : State) (h : s.memoryOk) :
    ∃ t, execP24High above33 s = .next t ∧ t.memoryOk :=
  ⟨_, rfl, by (repeat' split) <;> simp (maxDischargeDepth := 60) [h]⟩

theorem execP24OvervoltageClear_memoryOk (s : State) (h : s.memoryOk) :
    ∃ t, execP24OvervoltageClear s = .next t ∧ t.memoryOk :=
  ⟨_, rfl, h⟩

theorem execTamperMeshBreak_memoryOk (s : State) (h : s.memoryOk) :
    ∃ t, execTamperMeshBreak s = .next t ∧ t.memoryOk :=
  ⟨_, rfl, by (repeat' split) <;> simp [h]⟩

theorem execJunctionReading_memoryOk (milliC : Int) (s : State) (h : s.memoryOk) :
    ∃ t, execJunctionReading milliC s = .next t ∧ t.memoryOk :=
  ⟨_, rfl, by dsimp only; (repeat' split) <;> simp [h]⟩

theorem execReferenceStable_memoryOk (s : State) (h : s.memoryOk) :
    ∃ t, execReferenceStable s = .next t ∧ t.memoryOk :=
  ⟨_, rfl, by (repeat' split) <;> simp [h]⟩

@[simp] theorem State.restoreStats_memoryOk (s : State) (n : Nat) (h : s.memoryOk) :
    (State.restoreStats s n).memoryOk :=
  by unfold State.restoreStats; (repeat' split) <;> simp [h]

@[simp] theorem State.useKeyStore_memoryOk (s : State) (h : s.memoryOk) :
    (State.useKeyStore s).memoryOk :=
  by unfold State.useKeyStore; (repeat' split) <;> exact h

@[simp] theorem State.useConfig_memoryOk (s : State) (h : s.memoryOk) :
    (State.useConfig s).memoryOk :=
  memoryOk_of_ram (by unfold State.useConfig; dsimp only; (repeat' split) <;> rfl) h

@[simp] theorem State.useRecords_memoryOk (s : State) (h : s.memoryOk) :
    (State.useRecords s).memoryOk := by
  have h1 : ∀ (l : List Nat) (t : State), t.memoryOk → (l.foldl (fun t n => (t.modRec (.recipe n) Rec.start).modRec (.stats n) Rec.start) t).memoryOk :=
    fun l t => foldl_memoryOk _ (fun t n h => (State.modRec_memoryOk _ _ _).2 ((State.modRec_memoryOk _ _ _).2 h)) l t
  have h2 := h1 s.presentTurrets _ ((State.modRec_memoryOk (s.modRec .shade Rec.start) .epoch Rec.start).2 ((State.modRec_memoryOk s .shade Rec.start).2 h))
  unfold State.useRecords
  refine foldl_memoryOk _ (fun t n h => State.restoreStats_memoryOk _ _ (State.restoreRecipe_memoryOk _ _ h)) _ _ ?_
  split
  · exact memoryOk_of_ram (s := _) rfl h2
  all_goals exact h2

@[simp] theorem State.haltAt_memoryOk (s : State) (step cause : Nat) (h : s.memoryOk) :
    (State.haltAt s step cause).memoryOk :=
  by simp [State.haltAt, h]

@[simp] theorem State.drawKeys_memoryOk (s : State) (h : s.memoryOk) :
    (State.drawKeys s).memoryOk :=
  h

theorem execRngStartupTest_memoryOk (boot : BootIn) (s : State) (h : s.memoryOk) :
    ∃ t, execRngStartupTest boot s = .next t ∧ t.memoryOk :=
  ⟨_, rfl, by dsimp only; (repeat' split) <;> simp (maxDischargeDepth := 60) [h]⟩

theorem execEpochCommit_memoryOk (tests : SelfTest) (s : State) (h : s.memoryOk) :
    ∃ t, execEpochCommit tests s = .next t ∧ t.memoryOk :=
  ⟨_, rfl, by (repeat' split) <;> simp [h]⟩

@[simp] theorem State.testValves_memoryOk (s : State) (xs : List (Nat × Nat)) (h : s.memoryOk) :
    (State.testValves s xs).memoryOk :=
  foldl_memoryOk _ (fun _ _ h => by dsimp only; (repeat' split) <;> simp [h]) _ _ h

@[simp] theorem State.testLantern_memoryOk (s : State) (xs : List (Nat × Nat)) (h : s.memoryOk) :
    (State.testLantern s xs).memoryOk :=
  foldl_memoryOk _ (fun _ _ h => by simp [h]) _ _ h

@[simp] theorem State.testFe_memoryOk (s : State) (t : SelfTest) (h : s.memoryOk) :
    (State.testFe s t).memoryOk := by
  unfold State.testFe
  repeat' (first | (simp (maxDischargeDepth := 60) [h]; done) | split | (with_reducible refine foldl_memoryOk _ (fun t x h => ?_) _ _ ?_ <;> try dsimp only))

@[simp] theorem State.testLoop_memoryOk (s : State) (n : Nat) (reading6 : Option Int) (h : s.memoryOk) :
    (State.testLoop s n reading6).memoryOk :=
  by unfold State.testLoop; (repeat' split) <;> simp [h]

@[simp] theorem State.epochCommitted_memoryOk (s : State) (n : Nat) (t : SelfTest) (h : s.memoryOk) :
    (State.epochCommitted s n t).memoryOk :=
  by simp (maxDischargeDepth := 60) [State.epochCommitted, h]

@[simp] theorem State.tellP24_memoryOk (s : State) (h : s.memoryOk) :
    (State.tellP24 s).memoryOk :=
  by unfold State.tellP24; (repeat' split) <;> simp [h]

@[simp] theorem State.startEvents_memoryOk (s : State) (h : s.memoryOk) :
    (State.startEvents s).memoryOk := by
  have h1 : ∀ (l : List RecName) (t : State), t.memoryOk → (l.foldl (fun t n =>
    let r := t.getRec n
    let u := if r.lost then t.emit (recAud n) "nv" "lost" [recFld n] else t
    if r.damaged then u.emit (recAud n) "nv" "slot" [recFld n] else u) t).memoryOk := by
    intro l t
    refine foldl_memoryOk _ ?_ l t
    intro u n hu
    have h2 : (if (u.getRec n).lost then u.emit (recAud n) "nv" "lost" [recFld n] else u).memoryOk := by
      split
      · exact State.emit_memoryOk _ _ _ _ _ hu
      · exact hu
    dsimp only
    generalize (if (u.getRec n).lost then u.emit (recAud n) "nv" "lost" [recFld n] else u) = w at h2
    split
    · exact State.emit_memoryOk _ _ _ _ _ h2
    · exact h2
  unfold State.startEvents
  exact State.tellP24_memoryOk _ (h1 _ _ h)

@[simp] theorem State.installStreams_memoryOk (s : State) (h : s.memoryOk) :
    (State.installStreams s).memoryOk :=
  foldl_memoryOk _ (fun _ _ h => by simp [h]) _ _ h

theorem execStartComplete_memoryOk (s : State) (h : s.memoryOk) :
    ∃ t, execStartComplete s = .next t ∧ t.memoryOk :=
  ⟨_, rfl, by (repeat' split) <;> simp (maxDischargeDepth := 60) [h]⟩

@[simp] theorem doSysWatch_memoryOk (r : ReplyTo) (s : State) (h : s.memoryOk) :
    (doSysWatch r s).memoryOk :=
  by simp only [doSysWatch]; (repeat' split) <;> simp [h]

theorem execWatchEntryComplete_memoryOk (s : State) (h : s.memoryOk) :
    ∃ t, execWatchEntryComplete s = .next t ∧ t.memoryOk := by
  refine ⟨_, rfl, ?_⟩
  dsimp only
  split
  · exact h
  · have h1 := State.deEnergise_memoryOk _ (State.loopsWatch_memoryOk _ (State.calibLosesHeads_memoryOk _ (foldl_memoryOk (fun t n => t.shutStream n true) (fun t n h => State.shutStream_memoryOk _ _ _ h) s.openStreams s h)))
    have h2 := foldl_memoryOk (fun t p => t.modPort p Port.quiet) (fun t p h => (State.modPort_memoryOk _ _ _).2 h) [0, 1] _ h1
    have h3 := foldl_memoryOk (fun t x => t.modHead x fun h => { h with state := .absent, v5 := 0, v12 := false }) (fun t p h => (State.modHead_memoryOk _ _ _).2 h) [0, 1] _ h2
    exact memoryOk_of_ram rfl h3

@[simp] theorem State.rederive_memoryOk (s : State) (h : s.memoryOk) :
    (State.rederive s).memoryOk :=
  h

@[simp] theorem State.wakePlan_memoryOk (s : State) (h : s.memoryOk) :
    (State.wakePlan s).memoryOk :=
  by unfold State.wakePlan; (repeat' split) <;> simp [h]

@[simp] theorem State.tellHot_memoryOk (s : State) (h : s.memoryOk) :
    (State.tellHot s).memoryOk :=
  foldl_memoryOk _ (fun _ _ h => by simp [h]) _ _ h

@[simp] theorem State.dueCheckpoints_memoryOk (s : State) (h : s.memoryOk) :
    (State.dueCheckpoints s).memoryOk :=
  by unfold State.dueCheckpoints; (repeat' split) <;> simp [h]

@[simp] theorem State.wakeUp_memoryOk (s : State) (src : SerialPort) (h : s.memoryOk) :
    (State.wakeUp s src).memoryOk :=
  by simp (maxDischargeDepth := 60) [State.wakeUp, h]

@[simp] theorem doSysRun_memoryOk (r : ReplyTo) (s : State) (h : s.memoryOk) :
    (doSysRun r s).memoryOk := by
  have h1 : ∀ (l : List Nat) (f : Head → Head) (t : State), t.memoryOk → (l.foldl (fun t x => t.modHead x f) t).memoryOk :=
    fun l f t => foldl_memoryOk _ (fun t x h => (State.modHead_memoryOk _ _ _).2 h) l t
  unfold doSysRun
  split
  · exact State.er_memoryOk _ _ _ _ h
  · split
    · exact State.er_memoryOk _ _ _ _ (State.countRefused_memoryOk _ _ h)
    · extract_lets a b c
      have hb : b.memoryOk := State.holdCoils_memoryOk _ ((State.onSys_memoryOk _ _).2 ((State.onTrack_memoryOk _ _).2 (h1 _ _ _ (State.calibLosesHeads_memoryOk _ h))))
      have hc : c.memoryOk := (State.onFeed_memoryOk _ _).2 (State.enter_memoryOk _ _ hb)
      refine State.ok_memoryOk _ _ _ ?_
      split
      · exact State.startRamp_memoryOk _ hc
      · exact hc

@[simp] theorem doSysStop_memoryOk (r : ReplyTo) (s : State) (h : s.memoryOk) :
    (doSysStop r s).memoryOk :=
  by unfold doSysStop; (repeat' split) <;> simp [h]

@[simp] theorem doSysHalt_memoryOk (r : ReplyTo) (s : State) (h : s.memoryOk) : (doSysHalt r s).memoryOk :=
  State.halt_memoryOk _ _ h

@[simp] theorem doShowSysHalt_memoryOk (r : ReplyTo) (s : State) (h : s.memoryOk) :
    (doShowSysHalt r s).memoryOk :=
  by unfold doShowSysHalt; (repeat' split) <;> simp [h]

@[simp] theorem State.restart_memoryOk (s : State) (h : s.memoryOk) :
    (State.restart s).memoryOk :=
  by simp [State.restart, h]

@[simp] theorem State.restartFinds_memoryOk (s : State) (x : RestartIn) (h : s.memoryOk) :
    (State.restartFinds s x).memoryOk :=
  by unfold State.restartFinds; (repeat' split) <;> simp [h]

@[simp] theorem State.probeKeystore_memoryOk (s : State) (h : s.memoryOk) :
    (State.probeKeystore s).memoryOk :=
  by simp only [State.probeKeystore]; (repeat' split) <;> simp [h]

@[simp] theorem doSysRestart_memoryOk (r : ReplyTo) (x : RestartIn) (s : State) (h : s.memoryOk) :
    (doSysRestart r x s).memoryOk :=
  by simp only [doSysRestart]; (repeat' split) <;> simp (maxDischargeDepth := 60) [h]

@[simp] theorem setIslandGate_memoryOk (r : ReplyTo) (k : Key) (v : Val) (s : State) (h : s.memoryOk) :
    (setIslandGate r k v s).memoryOk :=
  by simp only [setIslandGate]; (repeat' split) <;> simp [h]

theorem execIslandAutoGate_memoryOk (isl : Nat) (s : State) (h : s.memoryOk) :
    ∃ t, execIslandAutoGate isl s = .next t ∧ t.memoryOk :=
  ⟨_, rfl, by (repeat' split) <;> simp [h]⟩

theorem execHandshakeWatchdog_memoryOk (wait : WaitKind) (openedAt : Tick) (s : State) (h : s.memoryOk) :
    ∃ t, execHandshakeWatchdog wait openedAt s = .next t ∧ t.memoryOk :=
  ⟨_, rfl, by (repeat' split) <;> simp [h]⟩

@[simp] theorem State.eraseRecords_memoryOk (s : State) (ns : List Nat) (h : s.memoryOk) :
    (State.eraseRecords s ns).memoryOk :=
  foldl_memoryOk _ (fun _ _ h => by simp [h]) _ _ h

@[simp] theorem State.endDiag_memoryOk (s : State) (h : s.memoryOk) :
    (State.endDiag s).memoryOk := by
  unfold State.endDiag
  repeat' (first | (simp (maxDischargeDepth := 60) [h]; done) | (with_reducible refine foldl_memoryOk _ (fun t x h => ?_) _ _ ?_ <;> try dsimp only))

@[simp] theorem State.applyEdit_memoryOk (s : State) (e : KsEdit) (h : s.memoryOk) :
    (State.applyEdit s e).memoryOk := by
  have h1 : ({ s with turrets := e.apply s.turrets }.onSys fun y => { y with mode := e.mode s.sys.mode }).memoryOk := h
  unfold State.applyEdit
  dsimp only
  split
  · exact State.endDiag_memoryOk _ ((State.onFe_memoryOk _ _).2 h1)
  all_goals exact h1

@[simp] theorem State.afterEdit_memoryOk (s : State) (e : KsEdit) (h : s.memoryOk) :
    (State.afterEdit s e).memoryOk :=
  by unfold State.afterEdit; (repeat' split) <;> simp [h]

@[simp] theorem State.takeEffect_memoryOk (s : State) (w : Write) (h : s.memoryOk) :
    (State.takeEffect s w).memoryOk :=
  by unfold State.takeEffect; (repeat' split) <;> simp [h]

@[simp] theorem State.answerWrite_memoryOk (s : State) (w : Write) (h : s.memoryOk) :
    (State.answerWrite s w).memoryOk :=
  by unfold State.answerWrite; (repeat' split) <;> simp (maxDischargeDepth := 60) [h]

@[simp] theorem State.commitWrite_memoryOk (s : State) (w : Write) (h : s.memoryOk) :
    (State.commitWrite s w).memoryOk :=
  by unfold State.commitWrite; (repeat' split) <;> simp (maxDischargeDepth := 60) [h]

@[simp] theorem State.nextStep_memoryOk (s : State) (w : Write) (h : s.memoryOk) :
    (State.nextStep s w).memoryOk :=
  by simp [State.nextStep, h]

@[simp] theorem State.endWrite_memoryOk (s : State) (h : s.memoryOk) :
    (State.endWrite s).memoryOk :=
  h

@[simp] theorem State.flashDone_memoryOk (s : State) (w : Write) (h : s.memoryOk) :
    (State.flashDone s w).memoryOk :=
  by simp only [State.flashDone]; (repeat' split) <;> simp (maxDischargeDepth := 60) [h]

@[simp] theorem State.eraseDone_memoryOk (s : State) (e : Erase) (h : s.memoryOk) :
    (State.eraseDone s e).memoryOk :=
  h

theorem execFlashOpComplete_memoryOk (s : State) (h : s.memoryOk) :
    ∃ t, execFlashOpComplete s = .next t ∧ t.memoryOk :=
  ⟨_, rfl, by (repeat' split) <;> simp [h]⟩

@[simp] theorem State.refile_memoryOk (s : State) (q : Req) (h : s.memoryOk) :
    (State.refile s q).memoryOk :=
  by simp [State.refile, h]

@[simp] theorem State.refusedEvent_memoryOk (s : State) (c : Cls) (h : s.memoryOk) :
    (State.refusedEvent s c).memoryOk :=
  by simp [State.refusedEvent, h]

@[simp] theorem State.flashRefused_memoryOk (s : State) (h : s.memoryOk) :
    (State.flashRefused s).memoryOk :=
  by unfold State.flashRefused; (repeat' split) <;> simp (maxDischargeDepth := 60) [h]

@[simp] theorem State.eraseRefused_memoryOk (s : State) (h : s.memoryOk) :
    (State.eraseRefused s).memoryOk :=
  by unfold State.eraseRefused; (repeat' split) <;> simp [h]

@[simp] theorem State.refuse_memoryOk (s : State) (q : Req) (h : s.memoryOk) :
    (State.refuse s q).memoryOk :=
  by simp only [State.refuse]; (repeat' split) <;> simp (maxDischargeDepth := 60) [h]

theorem execLedgerDeadline_memoryOk (s : State) (h : s.memoryOk) :
    ∃ t, execLedgerDeadline s = .next t ∧ t.memoryOk :=
  ⟨_, rfl, by (repeat' split) <;> simp [h]⟩

@[simp] theorem doNvSave_memoryOk (r : ReplyTo) (s : State) (h : s.memoryOk) :
    (doNvSave r s).memoryOk :=
  h

@[simp] theorem setNvCheckpoint_memoryOk (r : ReplyTo) (k : Key) (v : Val) (s : State) (h : s.memoryOk) :
    (setNvCheckpoint r k v s).memoryOk :=
  by simp only [setNvCheckpoint]; (repeat' split) <;> simp [h]

@[simp] theorem setChainFormat_memoryOk (r : ReplyTo) (k : Key) (v : Val) (s : State) (h : s.memoryOk) :
    (setChainFormat r k v s).memoryOk :=
  by simp [setChainFormat, h]

@[simp] theorem setStreamRate_memoryOk (r : ReplyTo) (k : Key) (v : Val) (s : State) (h : s.memoryOk) :
    (setStreamRate r k v s).memoryOk :=
  by simp only [setStreamRate]; (repeat' split) <;> simp (maxDischargeDepth := 60) [h]

@[simp] theorem setLinkHeadroom_memoryOk (r : ReplyTo) (k : Key) (v : Val) (s : State) (h : s.memoryOk) :
    (setLinkHeadroom r k v s).memoryOk :=
  by simp only [setLinkHeadroom]; (repeat' split) <;> simp [h]

@[simp] theorem setFeedTargetUnit_memoryOk (r : ReplyTo) (k : Key) (v : Val) (s : State) (h : s.memoryOk) :
    (setFeedTargetUnit r k v s).memoryOk :=
  by simp only [setFeedTargetUnit]; (repeat' split) <;> simp [h]

@[simp] theorem setFeedCurrent_memoryOk (r : ReplyTo) (k : Key) (v : Val) (s : State) (h : s.memoryOk) :
    (setFeedCurrent r k v s).memoryOk :=
  by simp only [setFeedCurrent]; (repeat' split) <;> simp [h]

@[simp] theorem setCaptureMark_memoryOk (r : ReplyTo) (k : Key) (v : Val) (s : State) (h : s.memoryOk) :
    (setCaptureMark r k v s).memoryOk :=
  by simp only [setCaptureMark]; (repeat' split) <;> simp [h]

@[simp] theorem setValveSetting_memoryOk (r : ReplyTo) (k : Key) (v : Val) (s : State) (h : s.memoryOk) :
    (setValveSetting r k v s).memoryOk :=
  by simp only [setValveSetting]; (repeat' split) <;> simp [h]

@[simp] theorem setPeakShare_memoryOk (r : ReplyTo) (k : Key) (v : Val) (s : State) (h : s.memoryOk) :
    (setPeakShare r k v s).memoryOk :=
  by simp only [setPeakShare]; (repeat' split) <;> simp [h]

@[simp] theorem setPeakBudget_memoryOk (r : ReplyTo) (k : Key) (v : Val) (s : State) (h : s.memoryOk) :
    (setPeakBudget r k v s).memoryOk :=
  by simp only [setPeakBudget]; (repeat' split) <;> simp [h]

@[simp] theorem State.plainEffect_memoryOk (s : State) (k : Key) (v : Val) (h : s.memoryOk) :
    (State.plainEffect s k v).memoryOk :=
  by unfold State.plainEffect; (repeat' split) <;> simp [h]

@[simp] theorem setPlain_memoryOk (r : ReplyTo) (k : Key) (v : Val) (s : State) (h : s.memoryOk) :
    (setPlain r k v s).memoryOk :=
  by unfold setPlain; (repeat' split) <;> simp (maxDischargeDepth := 60) [h]

@[simp] theorem State.applySet_memoryOk (s : State) (r : ReplyTo) (k : Key) (v : Val) (h : s.memoryOk) :
    (State.applySet s r k v).memoryOk :=
  by unfold State.applySet; (repeat' split) <;> simp [h]

@[simp] theorem State.sendLines_memoryOk (s : State) (r : ReplyTo) (ls : List (List Fld)) (h : s.memoryOk) :
    (State.sendLines s r ls).memoryOk :=
  by unfold State.sendLines; (repeat' split) <;> simp [h]

@[simp] theorem doGet_memoryOk (r : ReplyTo) (p : Path) (s : State) (h : s.memoryOk) :
    (doGet r p s).memoryOk :=
  by simp only [doGet]; (repeat' split) <;> simp [h]

@[simp] theorem doShow_memoryOk (r : ReplyTo) (p : Path) (s : State) (h : s.memoryOk) :
    (doShow r p s).memoryOk :=
  by simp only [doShow]; (repeat' split) <;> simp [h]

@[simp] theorem doHelp_memoryOk (r : ReplyTo) (p : Option Path) (s : State) (h : s.memoryOk) :
    (doHelp r p s).memoryOk :=
  by simp only [doHelp]; (repeat' split) <;> simp [h]

@[simp] theorem State.watchEvent_memoryOk (s : State) (k : Nat) (key : Key) (v : List Fld) (h : s.memoryOk) :
    (State.watchEvent s k key v).memoryOk :=
  by unfold State.watchEvent; (repeat' split) <;> simp [h]

@[simp] theorem doWatch_memoryOk (r : ReplyTo) (p : Path) (a : WatchArg) (s : State) (h : s.memoryOk) :
    (doWatch r p a s).memoryOk :=
  by simp only [doWatch]; (repeat' split) <;> simp [h]

theorem execWatchPeriod_memoryOk (sess idx : Nat) (s : State) (h : s.memoryOk) :
    ∃ t, execWatchPeriod sess idx s = .next t ∧ t.memoryOk :=
  ⟨_, rfl, by dsimp only; (repeat' split) <;> simp [h]⟩

@[simp] theorem State.noticeSet_memoryOk (s : State) (key : Key) (h : s.memoryOk) :
    (State.noticeSet s key).memoryOk := by
  unfold State.noticeSet
  repeat' (first | (simp (maxDischargeDepth := 60) [h]; done) | split | (with_reducible refine foldl_memoryOk _ (fun t x h => ?_) _ _ ?_ <;> try dsimp only))

@[simp] theorem State.setDone_memoryOk (s : State) (r : ReplyTo) (k : Key) (h : s.memoryOk) :
    (State.setDone s r k).memoryOk :=
  by simp [State.setDone, h]

@[simp] theorem doSet_memoryOk (r : ReplyTo) (k0 : Key) (v : Val) (s : State) (h : s.memoryOk) :
    (doSet r k0 v s).memoryOk :=
  by simp only [doSet]; (repeat' split) <;> simp [h]

@[simp] theorem doSetPath_memoryOk (r : ReplyTo) (p : Path) (tok : List Char) (s : State) (h : s.memoryOk) :
    (doSetPath r p tok s).memoryOk :=
  by unfold doSetPath; (repeat' split) <;> simp [h]

@[simp] theorem State.act_memoryOk (s : State) (r : ReplyTo) (c : Cmd) (h : s.memoryOk) :
    (State.act s r c).memoryOk :=
  by unfold State.act; (repeat' split) <;> simp [h]

@[simp] theorem State.perform_memoryOk (s : State) (r : ReplyTo) (c : Cmd) (h : s.memoryOk) :
    (State.perform s r c).memoryOk :=
  by unfold State.perform; (repeat' split) <;> simp [h]

@[simp] theorem State.turnAway_memoryOk (s : State) (h : Hdr) (code : Nat) (detail : List Fld) (hh : s.memoryOk) :
    (State.turnAway s h code detail).memoryOk :=
  hh

@[simp] theorem State.run_memoryOk (s : State) (r : ReplyTo) (c : Cmd) (h : s.memoryOk) :
    (State.run s r c).memoryOk :=
  by unfold State.run; (repeat' split) <;> simp [h]

@[simp] theorem State.startUntagged_memoryOk (s : State) (h : Hdr) (c : Cmd) (hh : s.memoryOk) :
    (State.startUntagged s h c).memoryOk :=
  by unfold State.startUntagged; (repeat' split) <;> simp [hh]

@[simp] theorem State.startTagged_memoryOk (s : State) (h : Hdr) (tag : Nat) (c : Cmd) (hh : s.memoryOk) :
    (State.startTagged s h tag c).memoryOk := by
  unfold State.startTagged
  dsimp only
  split
  · exact State.turnAway_memoryOk _ _ _ _ hh
  · split
    · split <;> exact State.turnAway_memoryOk _ _ _ _ hh
    · exact State.run_memoryOk _ _ _ (memoryOk_of_ram rfl hh)

@[simp] theorem State.beginLine_memoryOk (s : State) (h : Hdr) (c : Cmd) (hh : s.memoryOk) :
    (State.beginLine s h c).memoryOk :=
  by unfold State.beginLine; (repeat' split) <;> simp [hh]

@[simp] theorem State.startWaiting_memoryOk (s : State) (k : Nat) (h : s.memoryOk) :
    (State.startWaiting s k).memoryOk :=
  by unfold State.startWaiting; (repeat' split) <;> simp [h]

@[simp] theorem State.holdLine_memoryOk (s : State) (h : Hdr) (c : Cmd) (hh : s.memoryOk) :
    (State.holdLine s h c).memoryOk :=
  by unfold State.holdLine; (repeat' split) <;> simp [hh]

@[simp] theorem State.takeCmd_memoryOk (s : State) (h : Hdr) (c : Cmd) (hh : s.memoryOk) :
    (State.takeCmd s h c).memoryOk :=
  by simp only [State.takeCmd]; (repeat' split) <;> simp [hh]

@[simp] theorem State.forwardAll_memoryOk (s : State) (bs : List Byte) (h : s.memoryOk) :
    (State.forwardAll s bs).memoryOk :=
  h

@[simp] theorem State.enumLine_memoryOk (s : State) (h : Hdr) (n : Option Nat) (hh : s.memoryOk) :
    (State.enumLine s h n).memoryOk :=
  by unfold State.enumLine; (repeat' split) <;> simp [hh]

@[simp] theorem State.repeatEnum_memoryOk (s : State) (h : Hdr) (c : Cmd) (hh : s.memoryOk) :
    (State.repeatEnum s h c).memoryOk :=
  by unfold State.repeatEnum; (repeat' split) <;> simp [hh]

@[simp] theorem State.arrive_memoryOk (s : State) (h : Hdr) (c : Cmd) (hh : s.memoryOk) :
    (State.arrive s h c).memoryOk :=
  by unfold State.arrive; (repeat' split) <;> simp [hh]

theorem execUntaggedLineStart_memoryOk (sess : Nat) (s : State) (h : s.memoryOk) :
    ∃ t, execUntaggedLineStart sess s = .next t ∧ t.memoryOk :=
  ⟨_, rfl, by (repeat' split) <;> simp [h]⟩

@[simp] theorem State.lineIn_memoryOk (s : State) (k : Nat) (b : LineBuf) (h : s.memoryOk) :
    (State.lineIn s k b).memoryOk :=
  by unfold State.lineIn; (repeat' split) <;> simp [h]

@[simp] theorem State.busyLine_memoryOk (s : State) (b : LineBuf) (h : s.memoryOk) :
    (State.busyLine s b).memoryOk :=
  by simp only [State.busyLine]; (repeat' split) <;> simp [h]

@[simp] theorem State.deliverHeld_memoryOk (s : State) (h : s.memoryOk) :
    (State.deliverHeld s).memoryOk := by
  unfold State.deliverHeld
  repeat' (first | (simp (maxDischargeDepth := 60) [h]; done) | (with_reducible refine foldl_memoryOk _ (fun t x h => ?_) _ _ ?_ <;> try dsimp only))

theorem execI25RestartDone_memoryOk (s : State) (h : s.memoryOk) :
    ∃ t, execI25RestartDone s = .next t ∧ t.memoryOk :=
  ⟨_, rfl, by (repeat' split) <;> simp [h]⟩

@[simp] theorem State.announceLine_memoryOk (s : State) (cause : Nat) (h : s.memoryOk) :
    (State.announceLine s cause).memoryOk :=
  by unfold State.announceLine; (repeat' split) <;> simp [h]

theorem execHaltAnnounce_memoryOk (s : State) (h : s.memoryOk) :
    ∃ t, execHaltAnnounce s = .next t ∧ t.memoryOk := by
  refine ⟨_, rfl, ?_⟩
  dsimp only
  split
  · exact h
  · split
    · exact h
    · exact State.deliverHeld_memoryOk _ (State.startWaiting_memoryOk _ _ (foldl_memoryOk _ (fun t r h => State.er_memoryOk _ _ _ _ h) _ _
        (State.announceLine_memoryOk _ _ h)))

@[simp] theorem State.stash_memoryOk (s : State) (b : LineBuf) (h : s.memoryOk) :
    (State.stash s b).memoryOk :=
  by unfold State.stash; (repeat' split) <;> simp [h]

@[simp] theorem State.endChainLine_memoryOk (s : State) (b : LineBuf) (term : Option Byte) (h : s.memoryOk) :
    (State.endChainLine s b term).memoryOk :=
  by unfold State.endChainLine; (repeat' split) <;> simp [h]

@[simp] theorem State.chainEnd_memoryOk (s : State) (e : RxEntry) (h : s.memoryOk) :
    (State.chainEnd s e).memoryOk :=
  by simp only [State.chainEnd]; (repeat' split) <;> simp [h]

@[simp] theorem State.chainChar_memoryOk (s : State) (e : RxEntry) (h : s.memoryOk) :
    (State.chainChar s e).memoryOk :=
  h

@[simp] theorem State.chainReceive_memoryOk (s : State) (e : RxEntry) (h : s.memoryOk) :
    (State.chainReceive s e).memoryOk :=
  by simp only [State.chainReceive]; (repeat' split) <;> simp [h]

@[simp] theorem State.irReceive_memoryOk (s : State) (c : Byte) (tags : CharTags) (lastPulse : Tick) (h : s.memoryOk) :
    (State.irReceive s c tags lastPulse).memoryOk :=
  by simp only [State.irReceive]; (repeat' split) <;> simp [h]

@[simp] theorem State.irWave_memoryOk (s : State) (ps : List IrPulse) (h : s.memoryOk) :
    (State.irWave s ps).memoryOk :=
  by unfold State.irWave; (repeat' split) <;> simp [h]

@[simp] theorem State.chainIdle_memoryOk (s : State) (h : s.memoryOk) :
    (State.chainIdle s).memoryOk :=
  by simp only [State.chainIdle]; (repeat' split) <;> simp [h]

@[simp] theorem State.chainBroken_memoryOk (s : State) (e : RxEntry) (h : s.memoryOk) :
    (State.chainBroken s e).memoryOk :=
  by simp only [State.chainBroken]; (repeat' split) <;> simp [h]

@[simp] theorem State.chainWave_memoryOk (s : State) (bits : List RxBit) (mark : Nat) (h : s.memoryOk) :
    (State.chainWave s bits mark).memoryOk :=
  by simp only [State.chainWave]; (repeat' split) <;> simp [h]

theorem execCharacterReceived_memoryOk (port : SerialPort) (wave : RxWave) (mark : Nat) (s : State) (h : s.memoryOk) :
    ∃ t, execCharacterReceived port wave mark s = .next t ∧ t.memoryOk :=
  ⟨_, rfl, by (repeat' split) <;> simp [h]⟩

@[simp] theorem State.irIdle_memoryOk (s : State) (h : s.memoryOk) :
    (State.irIdle s).memoryOk :=
  by simp only [State.irIdle]; (repeat' split) <;> simp [h]

theorem execIdleLine_memoryOk (port : SerialPort) (s : State) (h : s.memoryOk) :
    ∃ t, execIdleLine port s = .next t ∧ t.memoryOk :=
  ⟨_, rfl, by (repeat' split) <;> simp [h]⟩

theorem execCsinChange_memoryOk (driven : Bool) (s : State) (h : s.memoryOk) :
    ∃ t, execCsinChange driven s = .next t ∧ t.memoryOk :=
  ⟨_, rfl, by (repeat' split) <;> simp [h]⟩

theorem execChainBreak_memoryOk (s : State) (h : s.memoryOk) :
    ∃ t, execChainBreak s = .next t ∧ t.memoryOk :=
  ⟨_, rfl, by (repeat' split) <;> simp [h]⟩

theorem execOwnLineSend_memoryOk (s : State) (h : s.memoryOk) :
    ∃ t, execOwnLineSend s = .next t ∧ t.memoryOk := by
  refine ⟨_, rfl, ?_⟩
  extract_lets p
  split
  · exact h
  · split
    · exact h
    · split
      · exact h
      rename_i hh _
      exact State.lineLeaves_memoryOk _ _ _ _ ((State.onSerial_memoryOk _ _).2 (State.takeLine_memoryOk _ _ h _ _ hh))

theorem execChainFormatChange_memoryOk (s : State) (h : s.memoryOk) :
    ∃ t, execChainFormatChange s = .next t ∧ t.memoryOk :=
  ⟨_, rfl, by dsimp only; (repeat' split) <;> simp [h]⟩

@[simp] theorem State.irHoldBack_memoryOk (s : State) (h : s.memoryOk) :
    (State.irHoldBack s).memoryOk :=
  memoryOk_of_ram (by unfold State.irHoldBack; dsimp only; (repeat' split) <;> rfl) h

theorem execIrFlood_memoryOk (microA : Nat) (s : State) (h : s.memoryOk) :
    ∃ t, execIrFlood microA s = .next t ∧ t.memoryOk :=
  ⟨_, rfl, by (repeat' split) <;> simp [h]⟩

theorem execIrFloodEvent_memoryOk (s : State) (h : s.memoryOk) :
    ∃ t, execIrFloodEvent s = .next t ∧ t.memoryOk :=
  ⟨_, rfl, by (repeat' split) <;> simp [h]⟩

theorem execIrTxResume_memoryOk (s : State) (h : s.memoryOk) :
    ∃ t, execIrTxResume s = .next t ∧ t.memoryOk :=
  ⟨_, rfl, by (repeat' split) <;> simp [h]⟩

theorem execIrFault_memoryOk (s : State) (h : s.memoryOk) :
    ∃ t, execIrFault s = .next t ∧ t.memoryOk :=
  ⟨_, rfl, by (repeat' split) <;> simp [h]⟩

@[simp] theorem State.irSend_memoryOk (s : State) (l : OutLine) (cs : List IrChar) (fin : Tick) (h : s.memoryOk) :
    (State.irSend s l cs fin).memoryOk :=
  by simp [State.irSend, h]

theorem execIrTurnaround_memoryOk (s : State) (h : s.memoryOk) :
    ∃ t, execIrTurnaround s = .next t ∧ t.memoryOk := by
  refine ⟨_, rfl, ?_⟩
  split
  · exact h
  · split
    · split
      · exact h
      · exact State.irSend_memoryOk _ _ _ _ h
    · split
      · exact h
      · split
        · exact h
        rename_i hh _
        exact State.irSend_memoryOk _ _ _ _ (State.takeLine_memoryOk _ _ h _ _ hh)

@[simp] theorem State.wakeEvent_memoryOk (s : State) (src : SerialPort) (h : s.memoryOk) :
    (State.wakeEvent s src).memoryOk :=
  by unfold State.wakeEvent; (repeat' split) <;> simp [h]

theorem execChainSlowReceiveMatch_memoryOk (line : List Byte) (s : State) (h : s.memoryOk) :
    ∃ t, execChainSlowReceiveMatch line s = .next t ∧ t.memoryOk :=
  ⟨_, rfl, by (repeat' split) <;> simp [h]⟩

theorem execChainStartEdgeWake_memoryOk (s : State) (h : s.memoryOk) :
    ∃ t, execChainStartEdgeWake s = .next t ∧ t.memoryOk :=
  ⟨_, rfl, by (repeat' split) <;> simp [h]⟩

theorem execCsinRiseInWatch_memoryOk (s : State) (h : s.memoryOk) :
    ∃ t, execCsinRiseInWatch s = .next t ∧ t.memoryOk :=
  ⟨_, rfl, by (repeat' split) <;> simp [h]⟩

theorem execIrStartEdgeWake_memoryOk (s : State) (h : s.memoryOk) :
    ∃ t, execIrStartEdgeWake s = .next t ∧ t.memoryOk :=
  ⟨_, rfl, by (repeat' split) <;> simp [h]⟩

theorem execWakeComplete_memoryOk (s : State) (h : s.memoryOk) :
    ∃ t, execWakeComplete s = .next t ∧ t.memoryOk := by
  have h1 : ∀ (l : List LineBuf) (t : State), t.memoryOk → (l.foldl State.busyLine t).memoryOk :=
    fun l t => foldl_memoryOk _ (fun t x h => State.busyLine_memoryOk _ _ h) l t
  have h2 : ∀ (l : List LineBuf) (t : State), t.memoryOk → (l.foldl (fun t b => t.lineIn 0 b) t).memoryOk :=
    fun l t => foldl_memoryOk _ (fun t x h => State.lineIn_memoryOk _ _ _ h) l t
  refine ⟨_, rfl, ?_⟩
  dsimp only
  split
  · exact h
  · split
    · exact h
    · exact h1 _ _ (h2 _ _ ((State.onSerial_memoryOk _ _).2 (State.wakeUp_memoryOk _ _ h)))

theorem State.after_memoryOk (s : State) (o : Host.Outcome State Fault Refusal) (h : ∃ u, o = .next u ∧ u.memoryOk) :
    (s.after o).memoryOk := by
  obtain ⟨u, rfl, hu⟩ := h
  exact hu

@[simp] theorem State.consoleIn_memoryOk (s : State) (k : Nat) (payload : List Byte) (h : s.memoryOk) :
    (State.consoleIn s k payload).memoryOk := by
  have h1 : ∀ (l : List LineBuf) (t : State), t.memoryOk → (l.foldl (fun u b => u.lineIn k b) t).memoryOk :=
    fun l t => foldl_memoryOk _ (fun t b h => State.lineIn_memoryOk _ _ _ h) l t
  unfold State.consoleIn
  extract_lets c t
  split
  · exact h1 _ _ h
  · split
    · exact State.lineIn_memoryOk _ _ _ (h1 _ _ h)
    · exact State.arrive_memoryOk _ _ _ (h1 _ _ h)

@[simp] theorem State.mgmtIn_memoryOk (s : State) (n : Nat) (r : List Byte) (h : s.memoryOk) :
    (State.mgmtIn s n r).memoryOk := by
  unfold State.mgmtIn
  dsimp only
  (repeat' split) <;> first
    | exact State.status_memoryOk _ _ _ _ h
    | exact State.after_memoryOk _ _ (execBlobWrite_memoryOk (h := h) ..)
    | exact State.after_memoryOk _ _ (execBlobRead_memoryOk (h := h) ..)
    | exact State.after_memoryOk _ _ (execTableWrite_memoryOk (h := h) ..)
    | exact State.after_memoryOk _ _ (execMgmtDomeOperation_memoryOk (h := h) ..)

@[simp] theorem State.joinFrame_memoryOk (s : State) (p key : Nat) (f : Frame) (next : Bool) (payload : List Byte) (h : s.memoryOk) :
    (State.joinFrame s p key f next payload).1.memoryOk :=
  h

@[simp] theorem State.frameFails_memoryOk (s : State) (p n : Nat) (h : s.memoryOk) :
    (State.frameFails s p n).memoryOk :=
  by simp only [State.frameFails]; (repeat' split) <;> simp [h]

@[simp] theorem State.streamIn_memoryOk (s : State) (p : Nat) (f : Frame) (h : s.memoryOk) :
    (State.streamIn s p f).memoryOk := by
  unfold State.streamIn
  repeat' (first | (simp (maxDischargeDepth := 60) [h]; done) | split | (with_reducible refine foldl_memoryOk _ (fun t x h => ?_) _ _ ?_ <;> try dsimp only) | dsimp only)

@[simp] theorem State.towerFrame_memoryOk (s : State) (p : Nat) (f : Frame) (h : s.memoryOk) :
    (State.towerFrame s p f).memoryOk := by
  unfold State.towerFrame
  have h1 := State.towerIn_memoryOk s p f h
  extract_lets next r
  split
  · exact h1
  · extract_lets j
    have h2 : j.1.memoryOk := State.joinFrame_memoryOk _ _ _ _ _ _ h1
    split
    · exact State.after_memoryOk _ _ (execViewFeatureRecord_memoryOk (h := h2) ..)
    · exact h2

@[simp] theorem State.forwardFrame_memoryOk (s : State) (p : Nat) (f : Frame) (h : s.memoryOk) :
    (State.forwardFrame s p f).memoryOk :=
  h

@[simp] theorem State.routeFrame_memoryOk (s : State) (p : Nat) (f : Frame) (h : s.memoryOk) :
    (State.routeFrame s p f).memoryOk :=
  by unfold State.routeFrame; (repeat' split) <;> simp [h]

@[simp] theorem State.forwardBad_memoryOk (s : State) (x : RxFrame) (rxSeq : Nat) (h : s.memoryOk) :
    (State.forwardBad s x rxSeq).memoryOk :=
  by simp only [State.forwardBad]; (repeat' split) <;> simp [h]

theorem execFrameReceived_memoryOk (port : Nat) (lanes : List (List Sym)) (ending : Sym) (codeError : Bool) (s : State) (h : s.memoryOk) :
    ∃ t, execFrameReceived port lanes ending codeError s = .next t ∧ t.memoryOk :=
  ⟨_, rfl, by dsimp only; (repeat' split) <;> simp [h]⟩

@[simp] theorem State.bypassIn_memoryOk (s : State) (p : Nat) (x : BypassIn) (m : BMsg) (h : s.memoryOk) :
    (State.bypassIn s p x m).memoryOk := by
  cases m <;> dsimp only [State.bypassIn]
  case mark => (split <;> first | exact State.after_memoryOk _ _ (execMark_memoryOk (h := h) ..) | exact h)
  case xoff => exact State.after_memoryOk _ _ (execXoff_memoryOk (h := h) ..)
  case xon => exact State.after_memoryOk _ _ (execXon_memoryOk (h := h) ..)
  case addr => exact State.after_memoryOk _ _ (execAddr_memoryOk (h := h) ..)
  case countReq => exact State.after_memoryOk _ _ (execCountReq_memoryOk (h := h) ..)
  case count => exact State.after_memoryOk _ _ (execCountReq_memoryOk (h := h) ..)
  case tmgmt => exact State.after_memoryOk _ _ (execTmgmt_memoryOk (h := h) ..)
  case haltNotice => exact State.after_memoryOk _ _ (execHaltNotice_memoryOk (h := h) ..)
  case openS => (split <;> first | exact State.sendBypass_memoryOk _ _ _ h | exact State.after_memoryOk _ _ (execOpenStream_memoryOk (h := h) ..))
  case openOk => exact State.after_memoryOk _ _ (execOpenOk_memoryOk (h := h) ..)
  case close => (split <;> first | exact State.sendBypass_memoryOk _ _ _ h | exact State.after_memoryOk _ _ (execCloseStream_memoryOk (h := h) ..))
  case keyReady => (split <;> first | exact State.sendBypass_memoryOk _ _ _ h | exact State.after_memoryOk _ _ (execKeyReady_memoryOk (h := h) ..))
  case keyConfirm => (split <;> first | exact State.sendBypass_memoryOk _ _ _ h | exact State.after_memoryOk _ _ (execKeyConfirm_memoryOk (h := h) ..))
  case keyFail => (split <;> first | exact State.sendBypass_memoryOk _ _ _ h | exact State.after_memoryOk _ _ (execKeyFail_memoryOk (h := h) ..))

theorem execBypassSetReceived_memoryOk (port : Nat) (x : BypassIn) (s : State) (h : s.memoryOk) :
    ∃ t, execBypassSetReceived port x s = .next t ∧ t.memoryOk :=
  ⟨_, rfl, by (repeat' split) <;> simp (maxDischargeDepth := 60) [h]⟩

theorem execGetPath_memoryOk (h : Hdr) (p : Path) (s : State) (hh : s.memoryOk) :
    ∃ t, execGetPath h p s = .next t ∧ t.memoryOk :=
  ⟨_, rfl, by simp [hh]⟩

theorem execSetPath_memoryOk (h : Hdr) (p : Path) (tok : List Char) (s : State) (hh : s.memoryOk) :
    ∃ t, execSetPath h p tok s = .next t ∧ t.memoryOk :=
  ⟨_, rfl, by simp [hh]⟩

theorem execShowPath_memoryOk (h : Hdr) (p : Path) (s : State) (hh : s.memoryOk) :
    ∃ t, execShowPath h p s = .next t ∧ t.memoryOk :=
  ⟨_, rfl, by simp [hh]⟩

theorem execWatchPath_memoryOk (h : Hdr) (p : Path) (a : WatchArg) (s : State) (hh : s.memoryOk) :
    ∃ t, execWatchPath h p a s = .next t ∧ t.memoryOk :=
  ⟨_, rfl, by simp [hh]⟩

theorem execHelpPath_memoryOk (h : Hdr) (p : Option Path) (s : State) (hh : s.memoryOk) :
    ∃ t, execHelpPath h p s = .next t ∧ t.memoryOk :=
  ⟨_, rfl, by simp [hh]⟩

theorem execLoginChallenge_memoryOk (h : Hdr) (n : Int) (s : State) (hh : s.memoryOk) :
    ∃ t, execLoginChallenge h n s = .next t ∧ t.memoryOk :=
  ⟨_, rfl, by simp [hh]⟩

theorem execLoginResponse_memoryOk (h : Hdr) (n : Int) (r : LoginIn) (s : State) (hh : s.memoryOk) :
    ∃ t, execLoginResponse h n r s = .next t ∧ t.memoryOk :=
  ⟨_, rfl, by simp [hh]⟩

theorem execLoginPin_memoryOk (h : Hdr) (n : Int) (digits : List Char) (s : State) (hh : s.memoryOk) :
    ∃ t, execLoginPin h n digits s = .next t ∧ t.memoryOk :=
  ⟨_, rfl, by simp [hh]⟩

theorem execLogout_memoryOk (h : Hdr) (s : State) (hh : s.memoryOk) :
    ∃ t, execLogout h s = .next t ∧ t.memoryOk :=
  ⟨_, rfl, by simp [hh]⟩

theorem execAbort_memoryOk (h : Hdr) (a : AbortArg) (s : State) (hh : s.memoryOk) :
    ∃ t, execAbort h a s = .next t ∧ t.memoryOk :=
  ⟨_, rfl, by simp [hh]⟩

theorem execChainFormatSet_memoryOk (h : Hdr) (k : Key) (v : Val) (s : State) (hh : s.memoryOk) :
    ∃ t, execChainFormatSet h k v s = .next t ∧ t.memoryOk :=
  ⟨_, rfl, by simp [hh]⟩

theorem execDoSysRun_memoryOk (h : Hdr) (s : State) (hh : s.memoryOk) :
    ∃ t, execDoSysRun h s = .next t ∧ t.memoryOk :=
  ⟨_, rfl, by simp [hh]⟩

theorem execDoSysStop_memoryOk (h : Hdr) (s : State) (hh : s.memoryOk) :
    ∃ t, execDoSysStop h s = .next t ∧ t.memoryOk :=
  ⟨_, rfl, by simp [hh]⟩

theorem execDoSysWatch_memoryOk (h : Hdr) (s : State) (hh : s.memoryOk) :
    ∃ t, execDoSysWatch h s = .next t ∧ t.memoryOk :=
  ⟨_, rfl, by simp [hh]⟩

theorem execDoSysHalt_memoryOk (h : Hdr) (s : State) (hh : s.memoryOk) :
    ∃ t, execDoSysHalt h s = .next t ∧ t.memoryOk :=
  ⟨_, rfl, by simp [hh]⟩

theorem execShowSysHalt_memoryOk (h : Hdr) (s : State) (hh : s.memoryOk) :
    ∃ t, execShowSysHalt h s = .next t ∧ t.memoryOk :=
  ⟨_, rfl, by simp [hh]⟩

theorem execDoSysRestart_memoryOk (h : Hdr) (r : RestartIn) (s : State) (hh : s.memoryOk) :
    ∃ t, execDoSysRestart h r s = .next t ∧ t.memoryOk :=
  ⟨_, rfl, by simp [hh]⟩

theorem execNvCheckpointSet_memoryOk (h : Hdr) (k : Key) (v : Val) (s : State) (hh : s.memoryOk) :
    ∃ t, execNvCheckpointSet h k v s = .next t ∧ t.memoryOk :=
  ⟨_, rfl, by simp [hh]⟩

theorem execDoNvCheckpoint_memoryOk (h : Hdr) (s : State) (hh : s.memoryOk) :
    ∃ t, execDoNvCheckpoint h s = .next t ∧ t.memoryOk :=
  ⟨_, rfl, by simp [hh]⟩

theorem execDoNvSave_memoryOk (h : Hdr) (s : State) (hh : s.memoryOk) :
    ∃ t, execDoNvSave h s = .next t ∧ t.memoryOk :=
  ⟨_, rfl, by simp [hh]⟩

theorem execDoNvVerify_memoryOk (h : VerifyIn) (s : State) (hh : s.memoryOk) :
    ∃ t, execDoNvVerify h s = .next t ∧ t.memoryOk :=
  ⟨_, rfl, by simp [hh]⟩

theorem execIslandGateSet_memoryOk (h : Hdr) (k : Key) (v : Val) (s : State) (hh : s.memoryOk) :
    ∃ t, execIslandGateSet h k v s = .next t ∧ t.memoryOk :=
  ⟨_, rfl, by simp [hh]⟩

theorem execEnumerate_memoryOk (h : Hdr) (n : Option Nat) (s : State) (hh : s.memoryOk) :
    ∃ t, execEnumerate h n s = .next t ∧ t.memoryOk :=
  ⟨_, rfl, by simp [hh]⟩

theorem execDoTowerPromote_memoryOk (h : Hdr) (s : State) (hh : s.memoryOk) :
    ∃ t, execDoTowerPromote h s = .next t ∧ t.memoryOk :=
  ⟨_, rfl, by simp [hh]⟩

theorem execStreamRateSet_memoryOk (h : Hdr) (k : Key) (v : Val) (s : State) (hh : s.memoryOk) :
    ∃ t, execStreamRateSet h k v s = .next t ∧ t.memoryOk :=
  ⟨_, rfl, by simp [hh]⟩

theorem execLinkHeadroomSet_memoryOk (h : Hdr) (k : Key) (v : Val) (s : State) (hh : s.memoryOk) :
    ∃ t, execLinkHeadroomSet h k v s = .next t ∧ t.memoryOk :=
  ⟨_, rfl, by simp [hh]⟩

theorem execFeedTargetUnitSet_memoryOk (h : Hdr) (k : Key) (v : Val) (s : State) (hh : s.memoryOk) :
    ∃ t, execFeedTargetUnitSet h k v s = .next t ∧ t.memoryOk :=
  ⟨_, rfl, by simp [hh]⟩

theorem execFeedCurrentSet_memoryOk (h : Hdr) (k : Key) (v : Val) (s : State) (hh : s.memoryOk) :
    ∃ t, execFeedCurrentSet h k v s = .next t ∧ t.memoryOk :=
  ⟨_, rfl, by simp [hh]⟩

theorem execCaptureMarkSet_memoryOk (h : Hdr) (k : Key) (v : Val) (s : State) (hh : s.memoryOk) :
    ∃ t, execCaptureMarkSet h k v s = .next t ∧ t.memoryOk :=
  ⟨_, rfl, by simp [hh]⟩

theorem execDoFeedPause_memoryOk (h : Hdr) (s : State) (hh : s.memoryOk) :
    ∃ t, execDoFeedPause h s = .next t ∧ t.memoryOk :=
  ⟨_, rfl, by simp [hh]⟩

theorem execDoFeedResume_memoryOk (h : Hdr) (s : State) (hh : s.memoryOk) :
    ∃ t, execDoFeedResume h s = .next t ∧ t.memoryOk :=
  ⟨_, rfl, by simp [hh]⟩

theorem execLanternStagedSet_memoryOk (h : Hdr) (k : Key) (v : Val) (s : State) (hh : s.memoryOk) :
    ∃ t, execLanternStagedSet h k v s = .next t ∧ t.memoryOk :=
  ⟨_, rfl, by simp [hh]⟩

theorem execDoLanternCommit_memoryOk (h : Hdr) (s : State) (hh : s.memoryOk) :
    ∃ t, execDoLanternCommit h s = .next t ∧ t.memoryOk :=
  ⟨_, rfl, by simp [hh]⟩

theorem execHeadExpectTypeSet_memoryOk (h : Hdr) (k : Key) (v : Val) (s : State) (hh : s.memoryOk) :
    ∃ t, execHeadExpectTypeSet h k v s = .next t ∧ t.memoryOk :=
  ⟨_, rfl, by simp [hh]⟩

theorem execDoShadeCalibrate_memoryOk (h : Hdr) (s : State) (hh : s.memoryOk) :
    ∃ t, execDoShadeCalibrate h s = .next t ∧ t.memoryOk :=
  ⟨_, rfl, by simp [hh]⟩

theorem execClassStagedSet_memoryOk (h : Hdr) (k : Key) (v : Val) (s : State) (hh : s.memoryOk) :
    ∃ t, execClassStagedSet h k v s = .next t ∧ t.memoryOk :=
  ⟨_, rfl, by simp [hh]⟩

theorem execDoClassCommit_memoryOk (h : Hdr) (s : State) (hh : s.memoryOk) :
    ∃ t, execDoClassCommit h s = .next t ∧ t.memoryOk :=
  ⟨_, rfl, by simp [hh]⟩

theorem execDoValveTest_memoryOk (h : Hdr) (mm : Nat) (ms6 : Int) (s : State) (hh : s.memoryOk) :
    ∃ t, execDoValveTest h mm ms6 s = .next t ∧ t.memoryOk :=
  ⟨_, rfl, by simp [hh]⟩

theorem execValveSettingSet_memoryOk (h : Hdr) (k : Key) (v : Val) (s : State) (hh : s.memoryOk) :
    ∃ t, execValveSettingSet h k v s = .next t ∧ t.memoryOk :=
  ⟨_, rfl, by simp [hh]⟩

theorem execPeakShareSet_memoryOk (h : Hdr) (k : Key) (v : Val) (s : State) (hh : s.memoryOk) :
    ∃ t, execPeakShareSet h k v s = .next t ∧ t.memoryOk :=
  ⟨_, rfl, by simp [hh]⟩

theorem execPeakBudgetSet_memoryOk (h : Hdr) (k : Key) (v : Val) (s : State) (hh : s.memoryOk) :
    ∃ t, execPeakBudgetSet h k v s = .next t ∧ t.memoryOk :=
  ⟨_, rfl, by simp [hh]⟩

theorem execDoSeqNow_memoryOk (h : Hdr) (e : Nat) (s : State) (hh : s.memoryOk) :
    ∃ t, execDoSeqNow h e s = .next t ∧ t.memoryOk :=
  ⟨_, rfl, by simp [hh]⟩

theorem execSeqStagedSet_memoryOk (h : Hdr) (k : Key) (v : Val) (s : State) (hh : s.memoryOk) :
    ∃ t, execSeqStagedSet h k v s = .next t ∧ t.memoryOk :=
  ⟨_, rfl, by simp [hh]⟩

theorem execDoSeqCommit_memoryOk (h : Hdr) (s : State) (hh : s.memoryOk) :
    ∃ t, execDoSeqCommit h s = .next t ∧ t.memoryOk :=
  ⟨_, rfl, by simp [hh]⟩

theorem execDoCheckRun_memoryOk (h : Hdr) (c : CheckKind) (s : State) (hh : s.memoryOk) :
    ∃ t, execDoCheckRun h c s = .next t ∧ t.memoryOk :=
  ⟨_, rfl, by simp [hh]⟩

theorem execCheckIntervalSet_memoryOk (h : Hdr) (k : Key) (v : Val) (s : State) (hh : s.memoryOk) :
    ∃ t, execCheckIntervalSet h k v s = .next t ∧ t.memoryOk :=
  ⟨_, rfl, by simp [hh]⟩

theorem execLoopQuantitySet_memoryOk (h : Hdr) (k : Key) (v : Val) (s : State) (hh : s.memoryOk) :
    ∃ t, execLoopQuantitySet h k v s = .next t ∧ t.memoryOk :=
  ⟨_, rfl, by simp [hh]⟩

theorem execDoMemRekey_memoryOk (h : Hdr) (n : Nat) (r : Region) (s : State) (hh : s.memoryOk) :
    ∃ t, execDoMemRekey h n r s = .next t ∧ t.memoryOk :=
  ⟨_, rfl, by simp [hh]⟩

theorem execDoTurretCreate_memoryOk (h : Hdr) (n : Int) (s : State) (hh : s.memoryOk) :
    ∃ t, execDoTurretCreate h n s = .next t ∧ t.memoryOk :=
  ⟨_, rfl, by simp [hh]⟩

theorem execDoTurretClaim_memoryOk (h : Hdr) (n : Nat) (key : List Byte) (s : State) (hh : s.memoryOk) :
    ∃ t, execDoTurretClaim h n key s = .next t ∧ t.memoryOk :=
  ⟨_, rfl, by simp [hh]⟩

theorem execGetKeyNonce_memoryOk (h : Hdr) (s : State) (hh : s.memoryOk) :
    ∃ t, execGetKeyNonce h s = .next t ∧ t.memoryOk :=
  ⟨_, rfl, by simp [hh]⟩

theorem execDoKeyImport_memoryOk (h : Hdr) (slot b : Int) (s : State) (hh : s.memoryOk) :
    ∃ t, execDoKeyImport h slot b s = .next t ∧ t.memoryOk :=
  ⟨_, rfl, by simp [hh]⟩

theorem execDoKeyErase_memoryOk (h : Hdr) (slot : Int) (s : State) (hh : s.memoryOk) :
    ∃ t, execDoKeyErase h slot s = .next t ∧ t.memoryOk :=
  ⟨_, rfl, by simp [hh]⟩

theorem execDoBlobWrite_memoryOk (h : Hdr) (b off : Int) (data : List Byte) (s : State) (hh : s.memoryOk) :
    ∃ t, execDoBlobWrite h b off data s = .next t ∧ t.memoryOk :=
  ⟨_, rfl, by simp [hh]⟩

theorem execDoBlobRead_memoryOk (h : Hdr) (b off len : Int) (s : State) (hh : s.memoryOk) :
    ∃ t, execDoBlobRead h b off len s = .next t ∧ t.memoryOk :=
  ⟨_, rfl, by simp [hh]⟩

theorem execDoBlobClear_memoryOk (h : Hdr) (b : Int) (s : State) (hh : s.memoryOk) :
    ∃ t, execDoBlobClear h b s = .next t ∧ t.memoryOk :=
  ⟨_, rfl, by simp [hh]⟩

theorem execXrangeSet_memoryOk (h : Hdr) (k : Key) (v : Val) (s : State) (hh : s.memoryOk) :
    ∃ t, execXrangeSet h k v s = .next t ∧ t.memoryOk :=
  ⟨_, rfl, by simp [hh]⟩

theorem execAssignmentSet_memoryOk (h : Hdr) (k : Key) (v : Val) (s : State) (hh : s.memoryOk) :
    ∃ t, execAssignmentSet h k v s = .next t ∧ t.memoryOk :=
  ⟨_, rfl, by simp [hh]⟩

theorem execDoTurretRevoke_memoryOk (h : Hdr) (n : Int) (s : State) (hh : s.memoryOk) :
    ∃ t, execDoTurretRevoke h n s = .next t ∧ t.memoryOk :=
  ⟨_, rfl, by simp [hh]⟩

theorem execDoTurretRestore_memoryOk (h : Hdr) (n : Int) (s : State) (hh : s.memoryOk) :
    ∃ t, execDoTurretRestore h n s = .next t ∧ t.memoryOk :=
  ⟨_, rfl, by simp [hh]⟩

theorem execDoTurretDestroy_memoryOk (h : Hdr) (n : Int) (s : State) (hh : s.memoryOk) :
    ∃ t, execDoTurretDestroy h n s = .next t ∧ t.memoryOk :=
  ⟨_, rfl, by simp [hh]⟩

theorem execDoSysSeal_memoryOk (h : Hdr) (b : Int) (s : State) (hh : s.memoryOk) :
    ∃ t, execDoSysSeal h b s = .next t ∧ t.memoryOk :=
  ⟨_, rfl, by simp [hh]⟩

theorem execDoSysUnseal_memoryOk (h : Hdr) (s : State) (hh : s.memoryOk) :
    ∃ t, execDoSysUnseal h s = .next t ∧ t.memoryOk :=
  ⟨_, rfl, by simp [hh]⟩

theorem execDoStreamNext_memoryOk (h : Hdr) (n : Nat) (s : State) (hh : s.memoryOk) :
    ∃ t, execDoStreamNext h n s = .next t ∧ t.memoryOk :=
  ⟨_, rfl, by simp [hh]⟩

theorem execDoDomeDigHash_memoryOk (h : Hdr) (alg : DigAlg) (k : Option Nat) (b off len : Int) (out : Option (Int × Int)) (s : State) (hh : s.memoryOk) :
    ∃ t, execDoDomeDigHash h alg k b off len out s = .next t ∧ t.memoryOk :=
  ⟨_, rfl, by simp [hh]⟩

theorem execDoDomeDigStart_memoryOk (h : Hdr) (alg : DigAlg) (k : Option Nat) (s : State) (hh : s.memoryOk) :
    ∃ t, execDoDomeDigStart h alg k s = .next t ∧ t.memoryOk :=
  ⟨_, rfl, by simp [hh]⟩

theorem execDoDomeDigUpdate_memoryOk (h : Hdr) (hd b off len : Int) (s : State) (hh : s.memoryOk) :
    ∃ t, execDoDomeDigUpdate h hd b off len s = .next t ∧ t.memoryOk :=
  ⟨_, rfl, by simp [hh]⟩

theorem execDoDomeDigFinal_memoryOk (h : Hdr) (hd : Int) (out : Option (Int × Int)) (s : State) (hh : s.memoryOk) :
    ∃ t, execDoDomeDigFinal h hd out s = .next t ∧ t.memoryOk :=
  ⟨_, rfl, by simp [hh]⟩

theorem execDoDomeDigDrop_memoryOk (h : Hdr) (hd : Int) (s : State) (hh : s.memoryOk) :
    ∃ t, execDoDomeDigDrop h hd s = .next t ∧ t.memoryOk :=
  ⟨_, rfl, by simp [hh]⟩

theorem execDoDomeDigTable_memoryOk (h : Hdr) (head slot : Nat) (s : State) (hh : s.memoryOk) :
    ∃ t, execDoDomeDigTable h head slot s = .next t ∧ t.memoryOk :=
  ⟨_, rfl, by simp [hh]⟩

theorem execDoDomePkeSign_memoryOk (h : Hdr) (k b : Int) (s : State) (hh : s.memoryOk) :
    ∃ t, execDoDomePkeSign h k b s = .next t ∧ t.memoryOk :=
  ⟨_, rfl, by simp [hh]⟩

theorem execDoDomePkeVerify_memoryOk (h : Hdr) (c : Curve) (b : Int) (s : State) (hh : s.memoryOk) :
    ∃ t, execDoDomePkeVerify h c b s = .next t ∧ t.memoryOk :=
  ⟨_, rfl, by simp [hh]⟩

theorem execDoDomePkeKeygen_memoryOk (h : Hdr) (c : Curve) (k : Int) (s : State) (hh : s.memoryOk) :
    ∃ t, execDoDomePkeKeygen h c k s = .next t ∧ t.memoryOk :=
  ⟨_, rfl, by simp [hh]⟩

theorem execDoDomePkeEcdh_memoryOk (h : Hdr) (k b : Int) (k2 : Option Int) (s : State) (hh : s.memoryOk) :
    ∃ t, execDoDomePkeEcdh h k b k2 s = .next t ∧ t.memoryOk :=
  ⟨_, rfl, by simp [hh]⟩

theorem execDoDomePkePublic_memoryOk (h : Hdr) (k : Int) (s : State) (hh : s.memoryOk) :
    ∃ t, execDoDomePkePublic h k s = .next t ∧ t.memoryOk :=
  ⟨_, rfl, by simp [hh]⟩

theorem execDoDomePkeDiag_memoryOk (h : Hdr) (b : Int) (s : State) (hh : s.memoryOk) :
    ∃ t, execDoDomePkeDiag h b s = .next t ∧ t.memoryOk :=
  ⟨_, rfl, by simp [hh]⟩

theorem execDoDomeRngFill_memoryOk (h : Hdr) (b off len : Int) (s : State) (hh : s.memoryOk) :
    ∃ t, execDoDomeRngFill h b off len s = .next t ∧ t.memoryOk :=
  ⟨_, rfl, by simp [hh]⟩

@[simp] theorem State.tickOn_memoryOk (s : State) (h : s.memoryOk) :
    (State.tickOn s).memoryOk :=
  by unfold State.tickOn; (repeat' split) <;> simp [h]

@[simp] theorem State.timePasses_memoryOk (s : State) (h : s.memoryOk) :
    (State.timePasses s).memoryOk :=
  by simp (maxDischargeDepth := 60) [State.timePasses, h]

end Sys2Proof.Machine
end

