-- ==== Sys2Proof/Laws/Queue.lean ====
section
/-! SUPPORT. No operation of the block and no command touches the queue of commands that wait: one law for each operation, and
for each command that it ends in a next state with the queue as it was. -/

set_option linter.unusedSimpArgs false
set_option linter.unusedVariables false

namespace Sys2Proof.Machine

@[simp] theorem State.holdFor_pending (s : State) (k : Nat) :
    (State.holdFor s k).pending = s.pending :=
  rfl

@[simp] theorem foldl_pending {α : Type} (f : State → α → State) (h : ∀ t x, (f t x).pending = t.pending) (l : List α) (s : State) :
    (l.foldl f s).pending = s.pending := by
  induction l generalizing s with
  | nil => rfl
  | cons x xs ih => simp [List.foldl, ih, h]

@[simp] theorem State.setVals_pending (s : State) (vs : List (Key × Val)) :
    (State.setVals s vs).pending = s.pending :=
  foldl_pending _ (fun _ _ => by simp) _ _

@[simp] theorem State.stageVal_pending (s : State) (k : Key) (v : Val) :
    (State.stageVal s k v).pending = s.pending :=
  rfl

@[simp] theorem State.dropStaged_pending (s : State) (p : Nat → Bool) :
    (State.dropStaged s p).pending = s.pending :=
  rfl

@[simp] theorem State.useFree_pending (s : State) :
    (State.useFree s).pending = s.pending :=
  rfl

@[simp] theorem State.useDraw_pending (s : State) :
    (State.useDraw s).pending = s.pending :=
  rfl

@[simp] theorem State.useDigest_pending (s : State) :
    (State.useDigest s).pending = s.pending :=
  rfl

@[simp] theorem State.usePke_pending (s : State) :
    (State.usePke s).pending = s.pending :=
  rfl

@[simp] theorem State.queueEvent_pending (s : State) (k : Nat) (l : OutLine) :
    (State.queueEvent s k l).pending = s.pending :=
  rfl

@[simp] theorem State.emit_pending (s : State) (a : Aud) (src word : String) (fs : List Fld) :
    (State.emit s a src word fs).pending = s.pending :=
  by simp [State.emit, apply_ite State.pending]

@[simp] theorem State.enter_pending (s : State) (m : MState) :
    (State.enter s m).pending = s.pending :=
  by simp [State.enter]

@[simp] theorem State.say_pending (s : State) (r : ReplyTo) (dat : List LineBody) (b : LineBody) :
    (State.say s r dat b).pending = s.pending :=
  rfl

@[simp] theorem State.release_pending (s : State) (r : ReplyTo) :
    (State.release s r).pending = s.pending :=
  by unfold State.release; (repeat' split) <;> simp

@[simp] theorem State.finish_pending (s : State) (r : ReplyTo) (dat : List LineBody) (b : LineBody) :
    (State.finish s r dat b).pending = s.pending :=
  by simp [State.finish]

@[simp] theorem State.ok_pending (s : State) (r : ReplyTo) (fs : List Fld) :
    (State.ok s r fs).pending = s.pending :=
  by simp [State.ok]

@[simp] theorem State.okLines_pending (s : State) (r : ReplyTo) (ls : List (List Fld)) :
    (State.okLines s r ls).pending = s.pending :=
  by simp [State.okLines]

@[simp] theorem State.er_pending (s : State) (r : ReplyTo) (code : Nat) (detail : List Fld) :
    (State.er s r code detail).pending = s.pending :=
  by simp [State.er]

@[simp] theorem State.okTo_pending (s : State) (r : Option ReplyTo) (fs : List Fld) :
    (State.okTo s r fs).pending = s.pending :=
  by unfold State.okTo; (repeat' split) <;> simp

@[simp] theorem State.erTo_pending (s : State) (r : Option ReplyTo) (code : Nat) (detail : List Fld) :
    (State.erTo s r code detail).pending = s.pending :=
  by unfold State.erTo; (repeat' split) <;> simp

@[simp] theorem State.holdIr_pending (s : State) (r : ReplyTo) :
    (State.holdIr s r).pending = s.pending :=
  rfl

@[simp] theorem State.loopsAlarm_pending (s : State) :
    (State.loopsAlarm s).pending = s.pending :=
  rfl

@[simp] theorem State.countWaits_pending (s : State) (as : List Action) :
    (State.countWaits s as).pending = s.pending :=
  rfl

@[simp] theorem State.valvesOff_pending (s : State) :
    (State.valvesOff s).pending = s.pending :=
  rfl

@[simp] theorem State.haltPorts_pending (s : State) (i : HaltInfo) :
    (State.haltPorts s i).pending = s.pending :=
  rfl

@[simp] theorem State.haltSessions_pending (s : State) :
    (State.haltSessions s).pending = s.pending :=
  rfl

@[simp] theorem State.zeroise_pending (s : State) :
    (State.zeroise s).pending = s.pending :=
  rfl

@[simp] theorem State.haltOutputs_pending (s : State) :
    (State.haltOutputs s).pending = s.pending :=
  rfl

@[simp] theorem State.latchHalt_pending (s : State) (cause : Nat) :
    (State.latchHalt s cause).pending = s.pending :=
  rfl

@[simp] theorem State.halt_pending (s : State) (cause : Nat) :
    (State.halt s cause).pending = s.pending :=
  by unfold State.halt; (repeat' split) <;> simp

@[simp] theorem State.started_pending (s : State) (w : ReqFor) :
    (State.started s w).pending = s.pending :=
  by unfold State.started; (repeat' split) <;> simp

@[simp] theorem State.grant_pending (s : State) (r : Req) :
    (State.grant s r).pending = s.pending :=
  by simp [State.grant]

@[simp] theorem State.grantNext_pending (s : State) :
    (State.grantNext s).pending = s.pending :=
  by unfold State.grantNext; (repeat' split) <;> simp

@[simp] theorem State.grantAll_pending (n : Nat) (s : State) : (State.grantAll n s).pending = s.pending := by
  induction n generalizing s with
  | zero => rfl
  | succ n ih =>
    unfold State.grantAll
    split
    · rw [ih, State.grant_pending]
    · rfl

@[simp] theorem State.ledgerTick_pending (s : State) :
    (State.ledgerTick s).pending = s.pending := State.grantAll_pending _ _

@[simp] theorem State.file_pending (s : State) (cls : Cls) (turret peak prio wait : Nat) (what : ReqFor) :
    (State.file s cls turret peak prio wait what).pending = s.pending :=
  by simp only [State.file]; (repeat' split) <;> simp

@[simp] theorem State.releaseGrant_pending (s : State) (what : ReqFor) :
    (State.releaseGrant s what).pending = s.pending :=
  rfl

@[simp] theorem State.withdrawReq_pending (s : State) (what : ReqFor) :
    (State.withdrawReq s what).pending = s.pending :=
  rfl

@[simp] theorem State.withdrawAccel_pending (s : State) :
    (State.withdrawAccel s).pending = s.pending :=
  rfl

@[simp] theorem State.dropAccel_pending (s : State) :
    (State.dropAccel s).pending = s.pending :=
  rfl

@[simp] theorem State.countRefused_pending (s : State) (c : Cls) :
    (State.countRefused s c).pending = s.pending :=
  rfl

@[simp] theorem State.dropRefused_pending (s : State) (r : Req) :
    (State.dropRefused s r).pending = s.pending :=
  rfl

theorem execLedgerGrant_pending (s : State) :
    ∃ t, execLedgerGrant s = .next t ∧ t.pending = s.pending :=
  ⟨_, rfl, by simp⟩

theorem execLedgerP24Check_pending (measured : Nat) (s : State) :
    ∃ t, execLedgerP24Check measured s = .next t ∧ t.pending = s.pending :=
  ⟨_, rfl, by dsimp only; (repeat' split) <;> simp⟩

@[simp] theorem State.fileWrite_pending (s : State) (w : Write) :
    (State.fileWrite s w).pending = s.pending :=
  rfl

@[simp] theorem State.fileFlash_pending (s : State) :
    (State.fileFlash s).pending = s.pending :=
  by unfold State.fileFlash; (repeat' split) <;> simp

@[simp] theorem State.fileErase_pending (s : State) (rec : RecName) (slot : Bool) :
    (State.fileErase s rec slot).pending = s.pending :=
  by simp [State.fileErase]

@[simp] theorem State.startWrite_pending (s : State) (w : Write) (rest : List Write) :
    (State.startWrite s w rest).pending = s.pending :=
  by simp [State.startWrite]

@[simp] theorem State.shelveErase_pending (s : State) :
    (State.shelveErase s).pending = s.pending :=
  by unfold State.shelveErase; (repeat' split) <;> simp

theorem execRecordWriteStart_pending (s : State) :
    ∃ t, execRecordWriteStart s = .next t ∧ t.pending = s.pending :=
  ⟨_, rfl, by (repeat' split) <;> simp⟩

@[simp] theorem State.flashCollapse_pending (s : State) :
    (State.flashCollapse s).pending = s.pending :=
  by unfold State.flashCollapse; (repeat' split) <;> simp

theorem execSupersededSlotErase_pending (rec : RecName) (s : State) :
    ∃ t, execSupersededSlotErase rec s = .next t ∧ t.pending = s.pending :=
  ⟨_, rfl, by dsimp only; (repeat' split) <;> simp⟩

theorem execRecordRepair_pending (rec : RecName) (s : State) :
    ∃ t, execRecordRepair rec s = .next t ∧ t.pending = s.pending :=
  ⟨_, rfl, by dsimp only; (repeat' split) <;> simp⟩

@[simp] theorem State.fileCheckpoints_pending (s : State) :
    (State.fileCheckpoints s).pending = s.pending :=
  by unfold State.fileCheckpoints; (repeat' split) <;> first | (simp; done) | exact (foldl_pending _ (fun _ _ => by simp) _ _).trans (by simp)

@[simp] theorem State.markBad_pending (s : State) (bs : List BadSlot) :
    (State.markBad s bs).pending = s.pending :=
  foldl_pending _ (fun _ _ => by simp) _ _

@[simp] theorem State.countProbes_pending (s : State) (n : Nat) :
    (State.countProbes s n).pending = s.pending :=
  rfl

@[simp] theorem State.probed_pending (s : State) (rs : List RecName) :
    (State.probed s rs).pending = s.pending :=
  rfl

theorem execCheckpointDue_pending (s : State) :
    ∃ t, execCheckpointDue s = .next t ∧ t.pending = s.pending :=
  ⟨_, rfl, by (repeat' split) <;> simp⟩

@[simp] theorem doNvCheckpoint_pending (r : ReplyTo) (s : State) :
    (doNvCheckpoint r s).pending = s.pending :=
  rfl

@[simp] theorem doNvVerify_pending (r : ReplyTo) (bad : List BadSlot) (s0 : State) :
    (doNvVerify r bad s0).pending = s0.pending :=
  by simp [doNvVerify]

@[simp] theorem State.setPause_pending (s : State) (bit : Nat) :
    (State.setPause s bit).pending = s.pending :=
  rfl

@[simp] theorem State.energise_pending (s : State) :
    (State.energise s).pending = s.pending :=
  by unfold State.energise; (repeat' split) <;> simp

@[simp] theorem State.holdCoils_pending (s : State) :
    (State.holdCoils s).pending = s.pending :=
  by unfold State.holdCoils; (repeat' split) <;> simp

@[simp] theorem State.deEnergise_pending (s : State) :
    (State.deEnergise s).pending = s.pending :=
  rfl

@[simp] theorem State.restCoils_pending (s : State) :
    (State.restCoils s).pending = s.pending :=
  by unfold State.restCoils; (repeat' split) <;> simp

@[simp] theorem State.clearPause_pending (s : State) (bits : Nat) :
    (State.clearPause s bits).pending = s.pending :=
  by simp only [State.clearPause]; (repeat' split) <;> simp

@[simp] theorem State.fillCross_pending (s : State) :
    (State.fillCross s).pending = s.pending :=
  by unfold State.fillCross; (repeat' split) <;> simp

@[simp] theorem State.putRecs_pending (s : State) (stream : Nat) (rs : List (List Byte)) :
    (State.putRecs s stream rs).pending = s.pending :=
  rfl

@[simp] theorem State.dropRec_pending (s : State) (obj : Option Nat) (line : LineMark) :
    (State.dropRec s obj line).pending = s.pending :=
  rfl

@[simp] theorem State.spreadGap_pending (s : State) (stream : Nat) (gs : List (List Byte)) :
    (State.spreadGap s stream gs).pending = s.pending :=
  by simp [State.spreadGap, apply_ite State.pending]

@[simp] theorem State.captureWrite_pending (s : State) (stream : Nat) (obj : Option Nat) (line : LineMark) (data : List Byte) :
    (State.captureWrite s stream obj line data).pending = s.pending :=
  by simp only [State.captureWrite]; (repeat' split) <;> simp

@[simp] theorem State.writeMarker_pending (s : State) (line : LineMark) (m : List Byte) :
    (State.writeMarker s line m).pending = s.pending :=
  by simp [State.writeMarker]

@[simp] theorem State.turnRoll_pending (s : State) :
    (State.turnRoll s).pending = s.pending :=
  rfl

@[simp] theorem State.rested_pending (s : State) :
    (State.rested s).pending = s.pending :=
  by unfold State.rested; (repeat' split) <;> simp

@[simp] theorem State.endAccel_pending (s : State) :
    (State.endAccel s).pending = s.pending :=
  foldl_pending _ (fun _ _ => by simp) _ _

theorem execStepperSpeedStep_pending (s : State) :
    ∃ t, execStepperSpeedStep s = .next t ∧ t.pending = s.pending :=
  ⟨_, rfl, by dsimp only; (repeat' split) <;> simp⟩

@[simp] theorem State.measureRate_pending (s : State) :
    (State.measureRate s).pending = s.pending :=
  rfl

@[simp] theorem State.startRamp_pending (s : State) :
    (State.startRamp s).pending = s.pending :=
  by unfold State.startRamp; (repeat' split) <;> simp

theorem execRateLoopStep_pending (s : State) :
    ∃ t, execRateLoopStep s = .next t ∧ t.pending = s.pending :=
  ⟨_, rfl, by dsimp only; (repeat' split) <;> simp⟩

theorem execRampReachesTarget_pending (s : State) :
    ∃ t, execRampReachesTarget s = .next t ∧ t.pending = s.pending :=
  ⟨_, rfl, by (repeat' split) <;> simp⟩

theorem execRollStandstill_pending (s : State) :
    ∃ t, execRollStandstill s = .next t ∧ t.pending = s.pending :=
  ⟨_, rfl, by (repeat' split) <;> simp⟩

theorem execEjectCapacityUpdate_pending (s : State) :
    ∃ t, execEjectCapacityUpdate s = .next t ∧ t.pending = s.pending :=
  ⟨_, rfl, by (repeat' split) <;> simp⟩

theorem execFeedStall_pending (s : State) :
    ∃ t, execFeedStall s = .next t ∧ t.pending = s.pending :=
  ⟨_, rfl, by (repeat' split) <;> simp⟩

theorem execFeedCoilFault_pending (f : CoilFault) (s : State) :
    ∃ t, execFeedCoilFault f s = .next t ∧ t.pending = s.pending :=
  ⟨_, rfl, by (repeat' split) <;> simp⟩

@[simp] theorem doFeedPause_pending (r : ReplyTo) (s : State) :
    (doFeedPause r s).pending = s.pending := by
  unfold doFeedPause; split <;> simp

@[simp] theorem doFeedResume_pending (r : ReplyTo) (s : State) :
    (doFeedResume r s).pending = s.pending :=
  by simp only [doFeedResume]; (repeat' split) <;> simp

theorem execSegmentOpen_pending (s : State) :
    ∃ t, execSegmentOpen s = .next t ∧ t.pending = s.pending :=
  ⟨_, rfl, by (repeat' split) <;> simp⟩

@[simp] theorem State.closeSegment_pending (s : State) (forced : Bool) :
    (State.closeSegment s forced).pending = s.pending :=
  by simp [State.closeSegment]

theorem execClearTimeout_pending (s : State) :
    ∃ t, execClearTimeout s = .next t ∧ t.pending = s.pending :=
  ⟨_, rfl, by (repeat' split) <;> simp⟩

@[simp] theorem State.applyEntries_pending (s : State) :
    (State.applyEntries s).pending = s.pending :=
  by simp [State.applyEntries]

@[simp] theorem State.openPass_pending (s : State) (p : Pass) :
    (State.openPass s p).pending = s.pending :=
  rfl

@[simp] theorem State.startPass_pending (s0 : State) :
    (State.startPass s0).pending = s0.pending :=
  by simp only [State.startPass]; (repeat' split) <;> simp

@[simp] theorem State.startNext_pending (s : State) :
    (State.startNext s).pending = s.pending :=
  by unfold State.startNext; dsimp only; split <;> simp

@[simp] theorem State.suspend_pending (s : State) (e reps : Nat) :
    (State.suspend s e reps).pending = s.pending :=
  rfl

@[simp] theorem State.preempt_pending (s : State) :
    (State.preempt s).pending = s.pending :=
  by unfold State.preempt; (repeat' split) <;> simp

@[simp] theorem State.fileUrgent_pending (s : State) (e : Nat) (trig : Bool) (rs : List ReplyTo) :
    (State.fileUrgent s e trig rs).pending = s.pending :=
  by unfold State.fileUrgent; (repeat' split) <;> simp

theorem execSeqSlotStart_pending (slot : Nat) (s : State) :
    ∃ t, execSeqSlotStart slot s = .next t ∧ t.pending = s.pending :=
  ⟨_, rfl, by (repeat' split) <;> simp⟩

theorem execSeqSettleEnd_pending (s : State) :
    ∃ t, execSeqSettleEnd s = .next t ∧ t.pending = s.pending :=
  ⟨_, rfl, rfl⟩

theorem execSeqDelayEnd_pending (turret : Nat) (s : State) :
    ∃ t, execSeqDelayEnd turret s = .next t ∧ t.pending = s.pending :=
  ⟨_, rfl, by (repeat' split) <;> simp⟩

theorem execSeqFrameStart_pending (s : State) :
    ∃ t, execSeqFrameStart s = .next t ∧ t.pending = s.pending :=
  ⟨_, rfl, by (repeat' split) <;> simp⟩

@[simp] theorem State.stopFe_pending (s : State) (n : Nat) :
    (State.stopFe s n).1.pending = s.pending :=
  by simp [State.stopFe]

@[simp] theorem State.settleExcite_pending (s : State) :
    (State.settleExcite s).pending = s.pending :=
  by simp only [State.settleExcite]; (repeat' split) <;> simp

@[simp] theorem State.dropFe_pending (s : State) (r : ReplyTo) :
    (State.dropFe s r).pending = s.pending :=
  by simp [State.dropFe]

@[simp] theorem State.pkeNext_pending (s : State) :
    (State.pkeNext s).pending = s.pending :=
  by unfold State.pkeNext; (repeat' split) <;> simp

@[simp] theorem State.digNext1_pending (s : State) :
    (State.digNext1 s).pending = s.pending :=
  by unfold State.digNext1; (repeat' split) <;> simp

@[simp] theorem State.domeNext_pending (s : State) :
    (State.domeNext s).pending = s.pending :=
  by unfold State.domeNext; (repeat' split) <;> simp

@[simp] theorem State.wipe_pending (s : State) (b : Option (Nat × Nat)) : (s.wipe b).pending = s.pending := by
  cases b <;> rfl

theorem State.dropWrites_pending (s : State) (f : DomeFrom) :
    ∀ t, State.dropWrites s f = some t → t.pending = s.pending := by
  intro t h
  simp only [State.dropWrites] at h
  split at h
  · cases h
  · simp only [Option.some.injEq] at h
    subst h
    refine (foldl_pending _ ?_ _ _).trans ?_ <;> intros <;> simp

theorem State.stopWrite_pending (s : State) (f : DomeFrom) :
    ∀ t, State.stopWrite s f = some t → t.pending = s.pending := by
  intro t h
  unfold State.stopWrite at h
  (repeat' split at h) <;> first | (cases h; done) | exact State.dropWrites_pending _ _ _ h | (simp only [Option.some.injEq] at h; subst h; simp; done)

@[simp] theorem State.stopDome_pending (s : State) (f : DomeFrom) :
    (State.stopDome s f).pending = s.pending := by
  unfold State.stopDome
  repeat' (first | rfl | (refine (foldl_pending _ ?_ _ _).trans ?_ <;> intros <;> try dsimp only))

theorem State.abortable_pending (s : State) (r : ReplyTo) :
    ∀ t, State.abortable s r = some t → t.pending = s.pending := by
  intro t h
  unfold State.abortable at h
  split at h
  · cases h
  split at h
  · cases h
  split at h
  · cases h
  split at h
  · cases h
  rename_i t' h'
  extract_lets d u v w at h
  have hu : u.pending = s.pending :=
    (State.dropFe_pending _ _).trans ((State.stopDome_pending t' (.traop r)).trans (State.stopWrite_pending _ _ _ h'))
  have hv : v.pending = s.pending := by
    change (if _ then _ else _ : State).pending = s.pending
    split
    · exact (foldl_pending _ (fun _ _ => State.withdrawReq_pending _ _) _ _).trans hu
    · exact hu
  cases h
  exact (State.settleExcite_pending _).trans hv

@[simp] theorem State.abortCmd_pending (s : State) (r : ReplyTo) :
    (State.abortCmd s r).1.pending = s.pending := by
  unfold State.abortCmd
  split
  · rename_i t h
    have h1 := State.abortable_pending _ _ _ h
    simp [h1]
  · rfl

@[simp] theorem State.dropWaiting_pending (s : State) (k : Nat) :
    (State.dropWaiting s k).1.pending = s.pending :=
  by unfold State.dropWaiting; (repeat' split) <;> simp

@[simp] theorem State.abortAll_pending (s : State) (l : List ReplyTo) : (s.abortAll l).1.pending = s.pending := by
  induction l generalizing s with
  | nil => rfl
  | cons r rs ih => simp [State.abortAll, ih]

@[simp] theorem State.abortNow_pending (s : State) (r : ReplyTo) (a : AbortArg) :
    (State.abortNow s r a).pending = s.pending := by
  unfold State.abortNow
  dsimp only
  split <;> simp

@[simp] theorem doAbort_pending (r : ReplyTo) (a : AbortArg) (s : State) :
    (doAbort r a s).pending = s.pending := by
  rfl

@[simp] theorem State.abortTick_pending (s : State) :
    (State.abortTick s).pending = s.pending :=
  by unfold State.abortTick; (repeat' split) <;> first | (simp; done) | exact (foldl_pending _ (fun _ _ => by simp) _ _).trans (by simp)

@[simp] theorem State.endLogin_pending (s : State) (k : Nat) (keep : Option ReplyTo) :
    (State.endLogin s k keep).pending = s.pending :=
  by simp [State.endLogin]

@[simp] theorem State.closeSession_pending (s : State) (k : Nat) :
    (State.closeSession s k).pending = s.pending :=
  by simp [State.closeSession]

@[simp] theorem State.leaveLogin_pending (s : State) (r : ReplyTo) :
    (State.leaveLogin s r).pending = s.pending :=
  by unfold State.leaveLogin; (repeat' split) <;> simp

@[simp] theorem State.logIn_pending (s : State) (r : ReplyTo) (n : Nat) :
    (State.logIn s r n).pending = s.pending :=
  by simp [State.logIn]

@[simp] theorem State.loginFails_pending (s : State) (r : ReplyTo) (n : Nat) :
    (State.loginFails s r n).pending = s.pending :=
  by simp only [State.loginFails]; (repeat' split) <;> simp

@[simp] theorem doLoginChallenge_pending (r : ReplyTo) (n : Int) (s : State) :
    (doLoginChallenge r n s).pending = s.pending :=
  by unfold doLoginChallenge; (repeat' split) <;> simp

@[simp] theorem State.findWrap_pending (s : State) (n : Nat) (w : Option (List Byte)) :
    (State.findWrap s n w).pending = s.pending :=
  rfl

@[simp] theorem doLoginResponse_pending (r : ReplyTo) (n : Int) (x : LoginIn) (s : State) :
    (doLoginResponse r n x s).pending = s.pending :=
  by simp only [doLoginResponse]; (repeat' split) <;> simp

@[simp] theorem doLoginPin_pending (r : ReplyTo) (n : Int) (digits : List Char) (s : State) :
    (doLoginPin r n digits s).pending = s.pending :=
  by simp only [doLoginPin]; (repeat' split) <;> simp

@[simp] theorem doLogout_pending (r : ReplyTo) (s : State) :
    (doLogout r s).pending = s.pending :=
  by unfold doLogout; (repeat' split) <;> simp

theorem execChallengeExpiry_pending (sess : Nat) (s : State) :
    ∃ t, execChallengeExpiry sess s = .next t ∧ t.pending = s.pending :=
  ⟨_, rfl, rfl⟩

theorem execSessionIdleTimeout_pending (sess : Nat) (s : State) :
    ∃ t, execSessionIdleTimeout sess s = .next t ∧ t.pending = s.pending :=
  ⟨_, rfl, by (repeat' split) <;> simp⟩

theorem execLockoutExpiry_pending (who : Option (Nat × Nat)) (s : State) :
    ∃ t, execLockoutExpiry who s = .next t ∧ t.pending = s.pending :=
  ⟨_, rfl, by (repeat' split) <;> simp⟩

theorem execPinLockoutExpiry_pending (n : Nat) (s : State) :
    ∃ t, execPinLockoutExpiry n s = .next t ∧ t.pending = s.pending :=
  ⟨_, rfl, by (repeat' split) <;> simp⟩

@[simp] theorem State.endLogins_pending (s : State) :
    (State.endLogins s).pending = s.pending := by
  unfold State.endLogins
  exact (foldl_pending _ (fun _ _ => State.endLogin_pending _ _ _) _ _).trans (foldl_pending _ (fun _ _ => State.modSess_pending _ _ _) _ _)

@[simp] theorem State.dropCommands_pending (s : State) (was : SMap Sess) :
    (State.dropCommands s was).pending = s.pending :=
  rfl

@[simp] theorem State.resetCommandIsland_pending (s : State) :
    (State.resetCommandIsland s).pending = s.pending := by
  have h1 : (s.endLogins.dropCommands s.sess).pending = s.pending := (State.dropCommands_pending _ _).trans (State.endLogins_pending _)
  unfold State.resetCommandIsland
  generalize s.endLogins.dropCommands s.sess = u at h1
  extract_lets log w v
  have hv : v.pending = s.pending := h1
  split
  · exact (State.halt_pending _ _).trans hv
  · exact hv

theorem execI25Reset_pending (s : State) :
    ∃ t, execI25Reset s = .next t ∧ t.pending = s.pending :=
  ⟨_, rfl, by (repeat' split) <;> simp⟩

@[simp] theorem State.lineLeaves_pending (s : State) (k : Nat) (l : OutLine) (at_ : Tick) :
    (State.lineLeaves s k l at_).pending = s.pending :=
  by unfold State.lineLeaves; (repeat' split) <;> simp

@[simp] theorem State.takeEvent_pending (s : State) (k : Nat) (rest : List OutLine) :
    (State.takeEvent s k rest).pending = s.pending :=
  rfl

@[simp] theorem State.pump_pending (s : State) (p : Nat) :
    (State.pump s p).pending = s.pending :=
  by unfold State.pump; split <;> simp

@[simp] theorem State.put_pending (s : State) (p : Nat) (xs : List LinkOut) :
    (State.put s p xs).pending = s.pending :=
  rfl

@[simp] theorem State.sendBypass_pending (s : State) (p : Nat) (m : BMsg) :
    (State.sendBypass s p m).pending = s.pending :=
  by unfold State.sendBypass; (repeat' split) <;> simp

@[simp] theorem State.ackBypass_pending (s : State) (p : Nat) (byp : Option Nat) :
    (State.ackBypass s p byp).pending = s.pending :=
  by unfold State.ackBypass; (repeat' split) <;> simp

@[simp] theorem State.freeFrames_pending (s : State) (fs : List TxFrame) :
    (State.freeFrames s fs).pending = s.pending :=
  by simp [State.freeFrames, apply_ite State.pending]

@[simp] theorem State.ackFrames_pending (s : State) (p n : Nat) :
    (State.ackFrames s p n).pending = s.pending :=
  by simp only [State.ackFrames]; (repeat' split) <;> simp

@[simp] theorem State.linkEvent_pending (s : State) (p : Nat) (word : String) (fs : List Fld) :
    (State.linkEvent s p word fs).pending = s.pending :=
  by simp [State.linkEvent]

@[simp] theorem State.shutStream_pending (s : State) (n : Nat) (all : Bool) :
    (State.shutStream s n all).pending = s.pending :=
  by simp only [State.shutStream]; (repeat' split) <;> simp

@[simp] theorem State.closeStream_pending (s : State) (n : Nat) (why : CloseReason) :
    (State.closeStream s n why).pending = s.pending :=
  by unfold State.closeStream; (repeat' split) <;> simp

@[simp] theorem State.linkDown_pending (s : State) (p : Nat) (reason : String) :
    (State.linkDown s p reason).pending = s.pending := by
  unfold State.linkDown
  split
  · rfl
  · exact (State.modPort_pending _ _ _).trans (State.releaseGrant_pending _ _)
  all_goals
    extract_lets t
    have ht : t.pending = s.pending := by
      change (if _ then _ else _ : State).pending = s.pending
      split
      · exact foldl_pending _ (fun _ _ => State.shutStream_pending _ _ _) _ _
      · rfl
    exact (State.linkEvent_pending _ _ _ _).trans ((State.modPort_pending _ _ _).trans ht)

@[simp] theorem State.replay_pending (s : State) (p : Nat) (byp : Bool) :
    (State.replay s p byp).pending = s.pending :=
  by simp only [State.replay]; (repeat' split) <;> simp

@[simp] theorem State.hear_pending (s : State) (p : Nat) :
    (State.hear s p).pending = s.pending :=
  rfl

theorem execAck_pending (port : Nat) (sets : List LaneSet) (s : State) :
    ∃ t, execAck port sets s = .next t ∧ t.pending = s.pending :=
  ⟨_, rfl, by (repeat' split) <;> simp⟩

theorem execNak_pending (port : Nat) (sets : List LaneSet) (s : State) :
    ∃ t, execNak port sets s = .next t ∧ t.pending = s.pending :=
  ⟨_, rfl, by (repeat' split) <;> simp⟩

theorem execReplayTimer_pending (port : Nat) (s : State) :
    ∃ t, execReplayTimer port s = .next t ∧ t.pending = s.pending :=
  ⟨_, rfl, by dsimp only; (repeat' split) <;> simp⟩

@[simp] theorem State.frameIn_pending (s : State) (p : Nat) (x : RxFrame) :
    (State.frameIn s p x).1.pending = s.pending :=
  by simp only [State.frameIn]; (repeat' split) <;> simp

theorem execLinkBeacon_pending (port : Nat) (s : State) :
    ∃ t, execLinkBeacon port s = .next t ∧ t.pending = s.pending :=
  ⟨_, rfl, by (repeat' split) <;> simp⟩

@[simp] theorem State.ts1In_pending (s : State) (port : Nat) (sets : List LaneSet) (d : List Byte) :
    (State.ts1In s port sets d).pending = s.pending :=
  by unfold State.ts1In; (repeat' split) <;> simp

theorem execTs1_pending (port : Nat) (sets : List LaneSet) (s : State) :
    ∃ t, execTs1 port sets s = .next t ∧ t.pending = s.pending :=
  ⟨_, rfl, by (repeat' split) <;> simp⟩

@[simp] theorem State.trainFails_pending (s : State) (p : Nat) :
    (State.trainFails s p).pending = s.pending :=
  rfl

theorem execTraining_pending (port : Nat) (found : TrainIn) (s : State) :
    ∃ t, execTraining port found s = .next t ∧ t.pending = s.pending :=
  ⟨_, rfl, by dsimp only; (repeat' split) <;> simp⟩

theorem execTrainingTimeout_pending (port : Nat) (s : State) :
    ∃ t, execTrainingTimeout port s = .next t ∧ t.pending = s.pending :=
  ⟨_, rfl, by (repeat' split) <;> simp⟩

@[simp] theorem State.sendTmgmt_pending (s : State) :
    (State.sendTmgmt s).pending = s.pending :=
  by simp [State.sendTmgmt]

@[simp] theorem State.tmgmtTick_pending (s : State) :
    (State.tmgmtTick s).pending = s.pending :=
  by simp only [State.tmgmtTick]; (repeat' split) <;> simp

theorem execTrainingComplete_pending (port : Nat) (times : List Exchange) (s : State) :
    ∃ t, execTrainingComplete port times s = .next t ∧ t.pending = s.pending :=
  ⟨_, rfl, by dsimp only; (repeat' split) <;> simp⟩

@[simp] theorem State.flow_pending (s : State) (p : Nat) :
    (State.flow s p).pending = s.pending :=
  by simp only [State.flow]; (repeat' split) <;> simp

theorem execReceiveBufferThreshold_pending (port free : Nat) (s : State) :
    ∃ t, execReceiveBufferThreshold port free s = .next t ∧ t.pending = s.pending := by
  exact ⟨_, rfl, by simp⟩

@[simp] theorem State.portTick_pending (s : State) (p : Nat) :
    (State.portTick s p).pending = s.pending :=
  by unfold State.portTick; dsimp only; split <;> simp

@[simp] theorem State.linkTick_pending (s : State) :
    (State.linkTick s).pending = s.pending := by
  unfold State.linkTick; simp

theorem execXoff_pending (port : Nat) (s : State) :
    ∃ t, execXoff port s = .next t ∧ t.pending = s.pending :=
  ⟨_, rfl, by (repeat' split) <;> simp⟩

theorem execXon_pending (port : Nat) (s : State) :
    ∃ t, execXon port s = .next t ∧ t.pending = s.pending :=
  ⟨_, rfl, by (repeat' split) <;> simp⟩

theorem execLinkStalled_pending (port : Nat) (s : State) :
    ∃ t, execLinkStalled port s = .next t ∧ t.pending = s.pending :=
  ⟨_, rfl, by (repeat' split) <;> simp⟩

@[simp] theorem State.beginChange_pending (s : State) (p w : Nat) (map : List Nat) (spare : Option Nat) (failed : List Nat) (xs : List LinkOut) :
    (State.beginChange s p w map spare failed xs).pending = s.pending :=
  rfl

@[simp] theorem State.changeLanes_pending (s : State) (p lane : Nat) :
    (State.changeLanes s p lane).pending = s.pending :=
  by simp only [State.changeLanes]; (repeat' split) <;> simp

theorem execLaneErrorLimit_pending (port lane errors : Nat) (s : State) :
    ∃ t, execLaneErrorLimit port lane errors s = .next t ∧ t.pending = s.pending :=
  ⟨_, rfl, by dsimp only; (repeat' split) <;> simp⟩

theorem execRepl_pending (port : Nat) (sets : List LaneSet) (s : State) :
    ∃ t, execRepl port sets s = .next t ∧ t.pending = s.pending :=
  ⟨_, rfl, by dsimp only; (repeat' split) <;> simp⟩

theorem execWidth_pending (port : Nat) (sets : List LaneSet) (s : State) :
    ∃ t, execWidth port sets s = .next t ∧ t.pending = s.pending :=
  ⟨_, rfl, by dsimp only; (repeat' split) <;> simp⟩

theorem execLaneChangeComplete_pending (port : Nat) (times : List Exchange) (s : State) :
    ∃ t, execLaneChangeComplete port times s = .next t ∧ t.pending = s.pending :=
  ⟨_, rfl, by dsimp only; (repeat' split) <;> simp⟩

theorem execLockTimeout_pending (port : Nat) (s : State) :
    ∃ t, execLockTimeout port s = .next t ∧ t.pending = s.pending :=
  ⟨_, rfl, by dsimp only; (repeat' split) <;> simp⟩

theorem execHaltSet_pending (port : Nat) (sets : List LaneSet) (s : State) :
    ∃ t, execHaltSet port sets s = .next t ∧ t.pending = s.pending :=
  ⟨_, rfl, by (repeat' split) <;> simp⟩

theorem execHaltNotice_pending (info : HaltInfo) (s : State) :
    ∃ t, execHaltNotice info s = .next t ∧ t.pending = s.pending :=
  ⟨_, rfl, by simp⟩

@[simp] theorem State.sendKeyed_pending (s : State) (n g kind phase : Nat) (wrap : KeyMsg → BMsg) :
    (State.sendKeyed s n g kind phase wrap).pending = s.pending :=
  by simp only [State.sendKeyed]; (repeat' split) <;> simp

@[simp] theorem State.streamEvent_pending (s : State) (n : Nat) (word : String) :
    (State.streamEvent s n word).pending = s.pending :=
  by simp [State.streamEvent]

@[simp] theorem State.openHere_pending (s : State) (m : KeyMsg) :
    (State.openHere s m).pending = s.pending :=
  by simp only [State.openHere]; (repeat' split) <;> simp

theorem execOpenStream_pending (m : KeyMsg) (s : State) :
    ∃ t, execOpenStream m s = .next t ∧ t.pending = s.pending :=
  ⟨_, rfl, by (repeat' split) <;> simp⟩

theorem execOpenOk_pending (m : KeyMsg) (s : State) :
    ∃ t, execOpenOk m s = .next t ∧ t.pending = s.pending :=
  ⟨_, rfl, by (repeat' split) <;> simp⟩

theorem execCloseStream_pending (stream modAddr : Nat) (reason : CloseReason) (s : State) :
    ∃ t, execCloseStream stream modAddr reason s = .next t ∧ t.pending = s.pending :=
  ⟨_, rfl, by (repeat' split) <;> simp⟩

@[simp] theorem State.installNext_pending (s : State) (n : Nat) :
    (State.installNext s n).pending = s.pending :=
  by simp only [State.installNext]; (repeat' split) <;> simp

@[simp] theorem State.assignStream_pending (s : State) (n : Nat) :
    (State.assignStream s n).pending = s.pending :=
  rfl

@[simp] theorem doStreamNext_pending (r : ReplyTo) (n : Nat) (s : State) :
    (doStreamNext r n s).pending = s.pending :=
  by simp only [doStreamNext]; (repeat' split) <;> simp

@[simp] theorem State.readyHere_pending (s : State) (m : KeyMsg) :
    (State.readyHere s m).pending = s.pending :=
  by simp only [State.readyHere]; (repeat' split) <;> simp

theorem execKeyReady_pending (m : KeyMsg) (s : State) :
    ∃ t, execKeyReady m s = .next t ∧ t.pending = s.pending :=
  ⟨_, rfl, by (repeat' split) <;> simp⟩

@[simp] theorem State.confirmHere_pending (s : State) (m : KeyMsg) :
    (State.confirmHere s m).pending = s.pending :=
  by simp only [State.confirmHere]; (repeat' split) <;> simp

theorem execKeyConfirm_pending (m : KeyMsg) (s : State) :
    ∃ t, execKeyConfirm m s = .next t ∧ t.pending = s.pending :=
  ⟨_, rfl, by (repeat' split) <;> simp⟩

theorem execKeyFail_pending (stream modAddr : Nat) (reason : CloseReason) (s : State) :
    ∃ t, execKeyFail stream modAddr reason s = .next t ∧ t.pending = s.pending :=
  ⟨_, rfl, by (repeat' split) <;> simp⟩

theorem execKeyReadyRetry_pending (stream : Nat) (s : State) :
    ∃ t, execKeyReadyRetry stream s = .next t ∧ t.pending = s.pending :=
  ⟨_, rfl, by dsimp only; (repeat' split) <;> simp⟩

theorem execRekeyWindowEnd_pending (stream : Nat) (s : State) :
    ∃ t, execRekeyWindowEnd stream s = .next t ∧ t.pending = s.pending :=
  ⟨_, rfl, by dsimp only; (repeat' split) <;> simp⟩

@[simp] theorem State.flip_pending (s : State) (n : Nat) :
    (State.flip s n).pending = s.pending :=
  by simp only [State.flip]; (repeat' split) <;> simp

@[simp] theorem State.countBound_pending (s : State) (n : Nat) :
    (State.countBound s n).pending = s.pending :=
  by simp only [State.countBound]; (repeat' split) <;> simp

@[simp] theorem State.putFrame_pending (s : State) (p : Nat) (f : Frame) :
    (State.putFrame s p f).pending = s.pending :=
  rfl

theorem State.takeLine_pending (s : State) (k : Nat) (l : OutLine) (t : State) (h : s.takeLine k = some (l, t)) : t.pending = s.pending := by
  unfold State.takeLine at h
  dsimp only at h
  (repeat' split at h) <;> first | (cases h; done) | (simp only [Option.some.injEq, Prod.mk.injEq] at h; obtain ⟨_, rfl⟩ := h; simp)

theorem State.nextChunk_pending (s : State) (n : Nat) (r : List Byte × Bool × Bool × State) (h : s.nextChunk n = some r) :
    r.2.2.2.pending = s.pending := by
  unfold State.nextChunk at h
  dsimp only at h
  (repeat' split at h) <;> first
    | (cases h; done)
    | (simp only [Option.some.injEq] at h; subst h; simp; done)
    | (simp only [Option.some.injEq] at h; subst h; rename_i h'; simpa using State.takeLine_pending _ _ _ _ h')

@[simp] theorem State.sendStream_pending (s : State) (n : Nat) :
    (State.sendStream s n).pending = s.pending := by
  unfold State.sendStream
  split
  · rfl
  · rename_i h
    have h1 := State.nextChunk_pending _ _ _ h
    simp_all

@[simp] theorem State.sendClass_pending (s : State) (p c : Nat) :
    (State.sendClass s p c).pending = s.pending :=
  by unfold State.sendClass; (repeat' split) <;> simp

theorem execFrameTransmit_pending (port : Nat) (s : State) :
    ∃ t, execFrameTransmit port s = .next t ∧ t.pending = s.pending :=
  ⟨_, rfl, by dsimp only; (repeat' split) <;> simp⟩

@[simp] theorem State.headEvent_pending (s : State) (x : Nat) (word : String) :
    (State.headEvent s x word).pending = s.pending :=
  by simp [State.headEvent]

@[simp] theorem State.identifyHeads_pending (s : State) :
    (State.identifyHeads s).pending = s.pending :=
  rfl

theorem execHpresLow_pending (head : Nat) (s : State) :
    ∃ t, execHpresLow head s = .next t ∧ t.pending = s.pending :=
  ⟨_, rfl, rfl⟩

theorem execHeadIdentityRead_pending (head : Nat) (first second : List Byte) (s : State) :
    ∃ t, execHeadIdentityRead head first second s = .next t ∧ t.pending = s.pending :=
  ⟨_, rfl, by dsimp only; (repeat' split) <;> simp⟩

@[simp] theorem setHeadExpectType_pending (r : ReplyTo) (k : Key) (v : Val) (s : State) :
    (setHeadExpectType r k v s).pending = s.pending :=
  by simp [setHeadExpectType]

@[simp] theorem State.testChannels_pending (s : State) (p : Plan) :
    (State.testChannels s p).pending = s.pending :=
  by simp [State.testChannels, apply_ite State.pending]

@[simp] theorem State.tryPlan_pending (s : State) :
    (State.tryPlan s).1.pending = s.pending :=
  by simp only [State.tryPlan]; (repeat' split) <;> simp

@[simp] theorem doLanternCommit_pending (r : ReplyTo) (s : State) :
    (doLanternCommit r s).pending = s.pending := by
  unfold doLanternCommit
  repeat' (first | (simp; done) | split | (rename_i h; have h' := congrArg Prod.fst h; dsimp only at h'; subst h'; simp; done))

@[simp] theorem State.commitPlanAtStart_pending (s : State) :
    (State.commitPlanAtStart s).pending = s.pending := by
  unfold State.commitPlanAtStart
  repeat' (first | split | (rename_i h; have h' := congrArg Prod.fst h; dsimp only at h'; subst h'; simp; done))

@[simp] theorem setLanternStaged_pending (r : ReplyTo) (k : Key) (v : Val) (s : State) :
    (setLanternStaged r k v s).pending = s.pending :=
  by simp [setLanternStaged]

@[simp] theorem State.beginCycle_pending (s : State) (line : Nat) (start : Tick) (late : Bool) :
    (State.beginCycle s line start late).pending = s.pending :=
  by unfold State.beginCycle; (repeat' split) <;> simp

@[simp] theorem State.startLine_pending (s : State) (line : Nat) :
    (State.startLine s line).pending = s.pending :=
  by unfold State.startLine; (repeat' split) <;> simp

@[simp] theorem State.lineTurn_pending (s : State) :
    (State.lineTurn s).pending = s.pending :=
  by simp only [State.lineTurn]; (repeat' split) <;> simp

theorem execLineCycleStart_pending (s : State) :
    ∃ t, execLineCycleStart s = .next t ∧ t.pending = s.pending :=
  ⟨_, rfl, by (repeat' split) <;> simp⟩

@[simp] theorem State.failCalib_pending (s : State) (code : Nat) (d : List Fld) :
    (State.failCalib s code d).pending = s.pending :=
  by unfold State.failCalib; (repeat' split) <;> simp

@[simp] theorem State.spoilWhite_pending (s : State) (bad : List Nat) :
    (State.spoilWhite s bad).pending = s.pending :=
  by unfold State.spoilWhite; (repeat' split) <;> simp

@[simp] theorem State.pulseStart_pending (s : State) :
    (State.pulseStart s).pending = s.pending :=
  by unfold State.pulseStart; (repeat' split) <;> simp

@[simp] theorem State.lanternTick_pending (s : State) :
    (State.lanternTick s).pending = s.pending :=
  by unfold State.lanternTick; (repeat' split) <;> simp

theorem execPhaseSlotStart_pending (phase : Nat) (s0 : State) :
    ∃ t, execPhaseSlotStart phase s0 = .next t ∧ t.pending = s0.pending :=
  ⟨_, rfl, by dsimp only; (repeat' split) <;> simp⟩

@[simp] theorem State.compliancePulse_pending (s : State) (c : Nat) :
    (State.compliancePulse s c).pending = s.pending :=
  by simp only [State.compliancePulse]; (repeat' split) <;> simp

theorem execLanternPulseEnd_pending (phase : Nat) (lows : List (Nat × Nat)) (s0 : State) :
    ∃ t, execLanternPulseEnd phase lows s0 = .next t ∧ t.pending = s0.pending := by
  refine ⟨_, rfl, ?_⟩
  repeat' (first | (simp [apply_ite State.pending]; done) | split | dsimp only)

@[simp] theorem State.writeLines_pending (s : State) (head phase : Nat) (c : Cycle) (pl : Plane) :
    (State.writeLines s head phase c pl).pending = s.pending := by
  unfold State.writeLines
  repeat' (first | (simp; done) | split | (refine (foldl_pending _ ?_ _ _).trans ?_ <;> intros <;> try dsimp only) | dsimp only)

theorem execReadoutComplete_pending (head phase : Nat) (r : Readout) (s : State) :
    ∃ t, execReadoutComplete head phase r s = .next t ∧ t.pending = s.pending :=
  ⟨_, rfl, by dsimp only; (repeat' split) <;> simp⟩

@[simp] theorem doShadeCalibrate_pending (r : ReplyTo) (s : State) :
    (doShadeCalibrate r s).pending = s.pending :=
  by unfold doShadeCalibrate; (repeat' split) <;> simp

theorem execShadeCaptureDone_pending (uu : Unit) (s : State) :
    ∃ t, execShadeCaptureDone uu s = .next t ∧ t.pending = s.pending :=
  ⟨_, rfl, by dsimp only; (repeat' split) <;> simp⟩

theorem foldl_congr_pending {α : Type} (f : State → α → State) (l : List α) (s : State) (h : ∀ t x, (f t x).pending = t.pending) :
    (l.foldl f s).pending = s.pending := foldl_pending f h l s

@[simp] theorem State.useShade_pending (s : State) (x : ShadeSet) :
    (State.useShade s x).pending = s.pending := by
  unfold State.useShade
  exact (foldl_pending _ (fun t x => foldl_pending _ (fun _ _ => State.emit_pending _ _ _ _ _) _ _) _ _).trans (State.onLantern_pending _ _)

@[simp] theorem State.calibLosesHeads_pending (s : State) :
    (State.calibLosesHeads s).pending = s.pending :=
  by unfold State.calibLosesHeads; (repeat' split) <;> simp

@[simp] theorem State.towerEvent_pending (s : State) (word : String) (fs : List Fld) :
    (State.towerEvent s word fs).pending = s.pending :=
  by simp [State.towerEvent]

@[simp] theorem State.readCounts_pending (s : State) :
    (State.readCounts s).pending = s.pending :=
  by simp [State.readCounts]

@[simp] theorem State.takeAddr_pending (s : State) (a : Nat) :
    (State.takeAddr s a).pending = s.pending :=
  by unfold State.takeAddr; (repeat' split) <;> simp

@[simp] theorem State.enumNumber_pending (s : State) (n : Nat) :
    (State.enumNumber s n).1.pending = s.pending :=
  by simp only [State.enumNumber]; (repeat' split) <;> simp

theorem execTowerDuplicateCheck_pending (addrs : List Nat) (s : State) :
    ∃ t, execTowerDuplicateCheck addrs s = .next t ∧ t.pending = s.pending :=
  ⟨_, rfl, by (repeat' split) <;> simp⟩

theorem execAddr_pending (port addr : Nat) (s : State) :
    ∃ t, execAddr port addr s = .next t ∧ t.pending = s.pending :=
  ⟨_, rfl, by (repeat' split) <;> simp⟩

theorem execCountReq_pending (port addr : Nat) (count : Option Nat) (s : State) :
    ∃ t, execCountReq port addr count s = .next t ∧ t.pending = s.pending :=
  ⟨_, rfl, by (repeat' split) <;> simp⟩

theorem execTmgmt_pending (port : Nat) (m : Tmgmt) (s : State) :
    ∃ t, execTmgmt port m s = .next t ∧ t.pending = s.pending :=
  ⟨_, rfl, by dsimp only; (repeat' split) <;> simp⟩

theorem execSpireCountStep_pending (counts : List Nat) (s : State) :
    ∃ t, execSpireCountStep counts s = .next t ∧ t.pending = s.pending :=
  ⟨_, rfl, by (repeat' split) <;> simp⟩

theorem execLineMarkSend_pending (s : State) :
    ∃ t, execLineMarkSend s = .next t ∧ t.pending = s.pending :=
  ⟨_, rfl, by (repeat' split) <;> simp⟩

@[simp] theorem State.correctCount_pending (s : State) (e16 : Int) :
    (State.correctCount s e16).pending = s.pending :=
  by simp only [State.correctCount]; (repeat' split) <;> simp

@[simp] theorem State.noteMark_pending (s : State) (m : Mark) :
    (State.noteMark s m).pending = s.pending :=
  by unfold State.noteMark; (repeat' split) <;> simp

theorem execMark_pending (m : Mark) (arrival16 residence16 : Nat) (replayed : Bool) (s : State) :
    ∃ t, execMark m arrival16 residence16 replayed s = .next t ∧ t.pending = s.pending :=
  ⟨_, rfl, by dsimp only; (repeat' split) <;> simp⟩

theorem execMarkLineStart_pending (s : State) :
    ∃ t, execMarkLineStart s = .next t ∧ t.pending = s.pending :=
  ⟨_, rfl, by (repeat' split) <;> simp⟩

@[simp] theorem State.loseSpire_pending (s : State) :
    (State.loseSpire s).pending = s.pending :=
  by unfold State.loseSpire; (repeat' split) <;> simp

theorem execMarkMissing_pending (s : State) :
    ∃ t, execMarkMissing s = .next t ∧ t.pending = s.pending :=
  ⟨_, rfl, by (repeat' split) <;> simp⟩

theorem execSpireLoss_pending (s : State) :
    ∃ t, execSpireLoss s = .next t ∧ t.pending = s.pending :=
  ⟨_, rfl, by (repeat' split) <;> simp⟩

theorem execSpireLostTimeout_pending (s : State) :
    ∃ t, execSpireLostTimeout s = .next t ∧ t.pending = s.pending :=
  ⟨_, rfl, by (repeat' split) <;> simp⟩

theorem execNoMarksAfterTraining_pending (s : State) :
    ∃ t, execNoMarksAfterTraining s = .next t ∧ t.pending = s.pending :=
  ⟨_, rfl, by (repeat' split) <;> simp⟩

@[simp] theorem doTowerPromote_pending (r : ReplyTo) (s : State) :
    (doTowerPromote r s).pending = s.pending :=
  by unfold doTowerPromote; (repeat' split) <;> simp

@[simp] theorem State.sendTower_pending (s : State) (dest : Nat) (payload : List Byte) :
    (State.sendTower s dest payload).pending = s.pending :=
  by unfold State.sendTower; (repeat' split) <;> simp

@[simp] theorem State.towerIn_pending (s : State) (port : Nat) (f : Frame) :
    (State.towerIn s port f).1.pending = s.pending :=
  by simp only [State.towerIn]; (repeat' split) <;> simp

@[simp] theorem State.useTables_pending (s : State) (n : Nat) (r : Recipe) :
    (State.useTables s n r).pending = s.pending :=
  by simp [State.useTables]

@[simp] theorem State.dueTables_pending (s : State) (start : Tick) :
    (State.dueTables s start).pending = s.pending :=
  by simp [State.dueTables]

@[simp] theorem State.toDecideAt_pending (s : State) (at_ : Tick) (o : Obj) :
    (State.toDecideAt s at_ o).pending = s.pending :=
  rfl

@[simp] theorem State.toDecideQ_pending (s : State) (o : Obj) :
    (State.toDecideQ s o).pending = s.pending :=
  rfl

@[simp] theorem State.unmatchedAt_pending (s : State) (at_ : Tick) (o : Obj) :
    (State.unmatchedAt s at_ o).pending = s.pending :=
  rfl

@[simp] theorem State.unmatched_pending (s : State) (o : Obj) :
    (State.unmatched s o).pending = s.pending :=
  rfl

@[simp] theorem State.expired_pending (s : State) (o : Obj) :
    (State.expired s o).pending = s.pending :=
  rfl

@[simp] theorem State.storeRoom_pending (s : State) (n : Nat) :
    (State.storeRoom s n).pending = s.pending :=
  by simp only [State.storeRoom]; (repeat' split) <;> simp

@[simp] theorem State.storeA_pending (s : State) (o : Obj) :
    (State.storeA s o).pending = s.pending :=
  by simp [State.storeA]

@[simp] theorem State.route_pending (s : State) (o : Obj) :
    (State.route s o).pending = s.pending :=
  by unfold State.route; (repeat' split) <;> simp

@[simp] theorem State.closeObj_pending (s : State) (o : Obj) :
    (State.closeObj s o).pending = s.pending :=
  by unfold State.closeObj; (repeat' split) <;> simp

@[simp] theorem State.viewRecord_pending (s : State) (r : ViewRec) :
    (State.viewRecord s r).pending = s.pending :=
  by simp only [State.viewRecord]; (repeat' split) <;> simp

@[simp] theorem State.tryViews_pending (s : State) :
    (State.tryViews s).pending = s.pending :=
  by simp [State.tryViews]

@[simp] theorem State.closeObjs_pending (s : State) (os : List Obj) :
    (State.closeObjs s os).pending = s.pending :=
  by simp [State.closeObjs]

@[simp] theorem State.classifyHead_pending (s : State) (x : Nat) (c : Cycle) :
    (State.classifyHead s x c).1.pending = s.pending :=
  by simp [State.classifyHead]

theorem execLineClassify_pending (s : State) :
    ∃ t, execLineClassify s = .next t ∧ t.pending = s.pending := by
  have h : ∀ (l : List Nat) (c : Cycle) (p : State × Bool), (l.foldl (fun (a : State × Bool) x =>
      let b := a.1.classifyHead x c; (b.1, a.2 && b.2)) p).1.pending = p.1.pending := by
    intro l c
    induction l with
    | nil => intro p; rfl
    | cons x xs ih => intro p; simp only [List.foldl]; rw [ih]; simp
  refine ⟨_, rfl, ?_⟩
  dsimp only
  split
  · split
    · simp only [State.onTrack_pending, State.onSeam_pending]
      rw [h]; simp
    · rfl
  · rfl

@[simp] theorem State.loseHead_pending (s : State) (x : Nat) :
    (State.loseHead s x).pending = s.pending :=
  by unfold State.loseHead; (repeat' split) <;> simp

@[simp] theorem State.headLeavesReady_pending (s : State) (x : Nat) :
    (State.headLeavesReady s x).pending = s.pending :=
  by unfold State.headLeavesReady; (repeat' split) <;> simp

theorem execHpresHigh_pending (head : Nat) (s : State) :
    ∃ t, execHpresHigh head s = .next t ∧ t.pending = s.pending :=
  ⟨_, rfl, by (repeat' split) <;> simp⟩

theorem execHeadSupplyOverload_pending (head : Nat) (s : State) :
    ∃ t, execHeadSupplyOverload head s = .next t ∧ t.pending = s.pending :=
  ⟨_, rfl, by (repeat' split) <;> simp⟩

theorem execViewFeatureRecord_pending (r : ViewRec) (s : State) :
    ∃ t, execViewFeatureRecord r s = .next t ∧ t.pending = s.pending :=
  ⟨_, rfl, by (repeat' split) <;> simp⟩

@[simp] theorem State.toReady_pending (s : State) :
    (State.toReady s).pending = s.pending :=
  by simp [State.toReady]

@[simp] theorem State.readyIfStopped_pending (s : State) :
    (State.readyIfStopped s).pending = s.pending :=
  by unfold State.readyIfStopped; (repeat' split) <;> simp

theorem execSegmentClose_pending (s : State) :
    ∃ t, execSegmentClose s = .next t ∧ t.pending = s.pending :=
  ⟨_, rfl, by (repeat' split) <;> simp⟩

theorem execSegmentForcedClose_pending (s : State) :
    ∃ t, execSegmentForcedClose s = .next t ∧ t.pending = s.pending :=
  ⟨_, rfl, by (repeat' split) <;> simp⟩

@[simp] theorem State.setVcom_pending (s : State) :
    (State.setVcom s).pending = s.pending :=
  rfl

@[simp] theorem State.countDenied_pending (s : State) (n mm : Nat) :
    (State.countDenied s n mm).pending = s.pending :=
  rfl

@[simp] theorem State.answerTests_pending (s : State) (rs : List ReplyTo) (f : State → ReplyTo → State)
    (hf : ∀ t r, (f t r).pending = t.pending) : (State.answerTests s rs f).pending = s.pending := foldl_pending f hf rs s

@[simp] theorem State.countMerged_pending (s : State) (n : Nat) :
    (State.countMerged s n).pending = s.pending :=
  rfl

@[simp] theorem State.dropActs_pending (s : State) (as : List Action) :
    (State.dropActs s as).pending = s.pending :=
  rfl

@[simp] theorem State.joinWaiting_pending (s : State) (x : Action) (waits : List Action) :
    (State.joinWaiting s x waits).pending = s.pending :=
  by unfold State.joinWaiting; (repeat' split) <;> simp

theorem State.extendRun_pending (s : State) (a x : Action) :
    ∀ t, State.extendRun s a x = some t → t.pending = s.pending := by
  intro t h
  unfold State.extendRun at h
  dsimp only at h
  split at h
  · cases h; simp
  · rw [Option.map_eq_some_iff] at h
    obtain ⟨cs, -, rfl⟩ := h
    simp

@[simp] theorem State.denyNew_pending (s : State) (x : Action) :
    (State.denyNew s x).pending = s.pending :=
  by simp [State.denyNew]

@[simp] theorem State.place_pending (s : State) (x : Action) :
    (State.place s x).pending = s.pending := by
  unfold State.place
  dsimp only
  split
  · simp
  · split
    · rename_i e
      simp [State.extendRun_pending _ _ _ _ e]
    · split <;> simp

@[simp] theorem State.addAction_pending (s : State) (n mm : Nat) (kind : ActKind) (st en : Nat) :
    (State.addAction s n mm kind st en).pending = s.pending :=
  by simp only [State.addAction]; (repeat' split) <;> simp

theorem State.within_pending (s : State) (n : Nat) (t : State) : ∀ u, s.within n t = some u → u.pending = t.pending := by
  intro u h
  unfold State.within at h
  split at h <;> cases h
  rfl

theorem State.within_getD_pending (s : State) (n : Nat) (t d : State) (l : List Instr) (h : t.pending = l) (hd : d.pending = l) :
    ((s.within n t).getD d).pending = l := by
  unfold State.within
  split <;> assumption

@[simp] theorem State.countMissing_pending (s : State) (n : Nat) :
    (State.countMissing s n).pending = s.pending :=
  rfl

@[simp] theorem State.divertWindow_pending (s : State) (n : Nat) (a lead lag : Nat) (from_ : Nat) :
    (State.divertWindow s n a lead lag from_).pending = s.pending := by
  unfold State.divertWindow
  split
  · simp
  · dsimp only
    split
    · rfl
    · split
      · rename_i e
        simp [State.within_pending _ _ _ _ e]
      · simp

@[simp] theorem State.overflowPolicy_pending (s : State) (n a lead lag from_ : Nat) :
    (State.overflowPolicy s n a lead lag from_).pending = s.pending :=
  by unfold State.overflowPolicy; (repeat' split) <;> simp

@[simp] theorem State.runPlan_pending (s : State) (n a lead lag : Nat) (kind : ActKind) (plan : List (Nat × Nat × Nat × Bool)) :
    (State.runPlan s n a lead lag kind plan).pending = s.pending := by
  unfold State.runPlan
  split
  · simp
  · split
    · simp
    · rename_i e
      simp [State.within_pending _ _ _ _ e]

@[simp] theorem State.scheduleReject_pending (s : State) (o : Obj) (a lead lag : Nat) :
    (State.scheduleReject s o a lead lag).pending = s.pending :=
  by simp only [State.scheduleReject]; (repeat' split) <;> simp

@[simp] theorem State.schedule_pending (s : State) (o : Obj) (action a lead lag : Nat) :
    (State.schedule s o action a lead lag).pending = s.pending :=
  by unfold State.schedule; (repeat' split) <;> simp

@[simp] theorem State.metalEvent_pending (s : State) (n : Nat) (ev : Tick) :
    (State.metalEvent s n ev).pending = s.pending := by
  unfold State.metalEvent
  dsimp only
  split
  · rfl
  · split
    · simp
    · split
      · simp
      · exact State.within_getD_pending _ _ _ _ _ (by simp) (by simp)

@[simp] theorem State.dropAct_pending (s : State) (a : Action) :
    (State.dropAct s a).pending = s.pending :=
  rfl

@[simp] theorem State.modAct_pending (s : State) (a : Action) :
    (State.modAct s a).pending = s.pending :=
  rfl

@[simp] theorem State.endWait_pending (s : State) (a : Action) :
    (State.endWait s a).pending = s.pending :=
  rfl

@[simp] theorem State.denyAct_pending (s : State) (a : Action) (f : State → ReplyTo → State)
    (hf : ∀ t r, (f t r).pending = t.pending) : (State.denyAct s a f).pending = s.pending := by
  simp [State.denyAct, hf]

@[simp] theorem State.valveFails_pending (mm : Nat) (s : State) (r : ReplyTo) :
    (State.valveFails mm s r).pending = s.pending :=
  by simp [State.valveFails]

@[simp] theorem State.refuseAct_pending (s : State) (a : Action) :
    (State.refuseAct s a).pending = s.pending :=
  by simp [State.refuseAct]

@[simp] theorem State.faultAct_pending (s : State) (a : Action) :
    (State.faultAct s a).pending = s.pending :=
  rfl

@[simp] theorem State.barAct_pending (s : State) (a : Action) :
    (State.barAct s a).pending = s.pending :=
  by simp [State.barAct]

theorem execValveRequestFile_pending (mm : Nat) (s : State) :
    ∃ t, execValveRequestFile mm s = .next t ∧ t.pending = s.pending :=
  ⟨_, rfl, by (repeat' split) <;> simp⟩

@[simp] theorem State.startAct_pending (s : State) (a : Action) (t0 : Nat) (parts : List (Nat × Nat)) (cs : List Charge) :
    (State.startAct s a t0 parts cs).pending = s.pending :=
  rfl

@[simp] theorem State.meetRun_pending (s : State) (a x : Action) :
    (State.meetRun s a x).pending = s.pending := by
  unfold State.meetRun
  split
  · rename_i e
    simp [State.extendRun_pending _ _ _ _ e]
  · split <;> simp

@[simp] theorem State.reach_pending (s : State) (mm : Nat) :
    (State.reach s mm).pending = s.pending := by
  unfold State.reach
  repeat' (first | (simp; done) | split | (refine (foldl_pending _ ?_ _ _).trans ?_ <;> intros <;> try dsimp only))

theorem execValveActionStart_pending (mm : Nat) (s : State) :
    ∃ t, execValveActionStart mm s = .next t ∧ t.pending = s.pending :=
  ⟨_, rfl, by dsimp only; (repeat' split) <;> simp⟩

@[simp] theorem State.stopAct_pending (s : State) (a : Action) :
    (State.stopAct s a).pending = s.pending :=
  rfl

@[simp] theorem State.latchValve_pending (s : State) (a : Action) (short : Bool) :
    (State.latchValve s a short).pending = s.pending :=
  by simp [State.latchValve]

@[simp] theorem State.peakReading_pending (s : State) (mm mA : Nat) :
    (State.peakReading s mm mA).1.pending = s.pending :=
  rfl

theorem execValvePeakEnd_pending (mm : Nat) (mA : Nat) (s : State) :
    ∃ t, execValvePeakEnd mm mA s = .next t ∧ t.pending = s.pending :=
  ⟨_, rfl, by dsimp only; (repeat' split) <;> simp⟩

@[simp] theorem State.actEnds_pending (s : State) (a : Action) :
    (State.actEnds s a).pending = s.pending :=
  by unfold State.actEnds; (repeat' split) <;> simp

theorem execValveActionEnd_pending (mm : Nat) (s : State) :
    ∃ t, execValveActionEnd mm s = .next t ∧ t.pending = s.pending :=
  ⟨_, rfl, by (repeat' split) <;> simp⟩

theorem execValveFaultLatch_pending (mm : Nat) (x : Overcurrent) (s : State) :
    ∃ t, execValveFaultLatch mm x s = .next t ∧ t.pending = s.pending :=
  ⟨_, rfl, by dsimp only; (repeat' split) <;> simp⟩

theorem execValveOpenCommon_pending (bank : Nat) (s : State) :
    ∃ t, execValveOpenCommon bank s = .next t ∧ t.pending = s.pending :=
  ⟨_, rfl, by (repeat' split) <;> simp⟩

theorem execValveShortReturn_pending (bank : Nat) (s : State) :
    ∃ t, execValveShortReturn bank s = .next t ∧ t.pending = s.pending :=
  ⟨_, rfl, by (repeat' split) <;> simp⟩

@[simp] theorem doValveTest_pending (r : ReplyTo) (mm : Nat) (ms6 : Int) (s : State) :
    (doValveTest r mm ms6 s).pending = s.pending := by
  unfold doValveTest
  dsimp only
  split
  · simp
  · split
    · simp
    · exact State.within_getD_pending _ _ _ _ _ (by simp) (by simp)

@[simp] theorem State.withdrawActs_pending (s : State) (n : Nat) :
    (State.withdrawActs s n).pending = s.pending :=
  by simp [State.withdrawActs, apply_ite State.pending]

@[simp] theorem State.flight_pending (s : State) (o : Obj) :
    (State.flight s o).1.pending = s.pending :=
  by unfold State.flight; (repeat' split) <;> simp

@[simp] theorem State.writeChips_pending (s : State) (o : Obj) (action rule : Nat) (f : Flight) :
    (State.writeChips s o action rule f).pending = s.pending :=
  by unfold State.writeChips; (repeat' split) <;> simp

@[simp] theorem State.countDecision_pending (s : State) (o : Obj) (action : Nat) (rules : List Nat) :
    (State.countDecision s o action rules).pending = s.pending :=
  rfl

@[simp] theorem State.decideObj_pending (s : State) (o : Obj) :
    (State.decideObj s o).pending = s.pending :=
  by unfold State.decideObj; (repeat' split) <;> simp

@[simp] theorem State.decideTaken_pending (s : State) (o : Obj) :
    (State.decideTaken s o).pending = s.pending := by
  unfold State.decideTaken
  dsimp only
  split <;> simp

@[simp] theorem State.decideTick_pending (s : State) :
    (State.decideTick s).pending = s.pending :=
  by unfold State.decideTick; (repeat' split) <;> simp

@[simp] theorem State.decideFirst_pending (s : State) :
    (State.decideFirst s).pending = s.pending :=
  by unfold State.decideFirst; (repeat' split) <;> simp

theorem execObjectDecide_pending (s : State) :
    ∃ t, execObjectDecide s = .next t ∧ t.pending = s.pending :=
  ⟨_, rfl, by (repeat' split) <;> simp⟩

theorem execDeciderPosition_pending (s : State) :
    ∃ t, execDeciderPosition s = .next t ∧ t.pending = s.pending :=
  ⟨_, rfl, by dsimp only; (repeat' split) <;> simp⟩

theorem execViewWaitEnd_pending (s : State) :
    ∃ t, execViewWaitEnd s = .next t ∧ t.pending = s.pending :=
  ⟨_, rfl, by (repeat' split) <;> simp⟩

theorem execMatchStoreExpiry_pending (s : State) :
    ∃ t, execMatchStoreExpiry s = .next t ∧ t.pending = s.pending :=
  ⟨_, rfl, by dsimp only; (repeat' split) <;> simp⟩

@[simp] theorem State.putStat_pending (s : State) (k : Nat) (r : List Byte) :
    (State.putStat s k r).pending = s.pending :=
  by simp only [State.putStat]; (repeat' split) <;> simp

theorem execStatPeriod_pending (turret : Nat) (s : State) :
    ∃ t, execStatPeriod turret s = .next t ∧ t.pending = s.pending :=
  ⟨_, rfl, by dsimp only; (repeat' split) <;> simp⟩

@[simp] theorem State.markStaged_pending (s : State) (slots : List Nat) :
    (State.markStaged s slots).pending = s.pending :=
  foldl_pending _ (fun _ _ => by simp) _ _

@[simp] theorem setClassStaged_pending (r : ReplyTo) (k : Key) (v : Val) (s : State) :
    (setClassStaged r k v s).pending = s.pending :=
  by unfold setClassStaged; (repeat' split) <;> simp

@[simp] theorem State.endTick_pending (s : State) :
    (State.endTick s).pending = s.pending :=
  by simp [State.endTick]

@[simp] theorem State.unstage_pending (s : State) (vs : List (Key × Val)) :
    (State.unstage s vs).pending = s.pending :=
  rfl

@[simp] theorem doClassCommit_pending (r : ReplyTo) (s : State) :
    (doClassCommit r s).pending = s.pending :=
  rfl

@[simp] theorem State.commitClasses_pending (s : State) (n : Nat) (r : Recipe) :
    (State.commitClasses s n r).pending = s.pending :=
  by unfold State.commitClasses; exact (foldl_pending _ (fun _ _ => by simp) _ _).trans (by simp)

@[simp] theorem State.commitEntries_pending (s : State) (n : Nat) (r : Recipe) (frame : List (Key × Val)) :
    (State.commitEntries s n r frame).pending = s.pending :=
  by simp [State.commitEntries]

@[simp] theorem State.restoreRecipe_pending (s : State) (n : Nat) :
    (State.restoreRecipe s n).pending = s.pending :=
  by unfold State.restoreRecipe; (repeat' split) <;> first | (simp; done) | exact (foldl_pending _ (fun _ _ => by simp) _ _).trans (by simp)

@[simp] theorem State.fireEntry_pending (s : State) (e : Nat) (y : Frac) (mid : Tick) :
    (State.fireEntry s e y mid).pending = s.pending :=
  by simp only [State.fireEntry]; (repeat' split) <;> simp

@[simp] theorem State.storeResult_pending (s : State) (e : Nat) (m : Sample) (pinFault : Bool) (rep : Nat) (ends : Tick) :
    (State.storeResult s e m pinFault rep ends).pending = s.pending := by
  unfold State.storeResult
  extract_lets r den noRatio q free x y bad flags mid f t u
  have ht : t.pending = s.pending := by
    refine (State.modEntry_pending _ _ _).trans ?_
    split
    · exact State.useFree_pending _
    · rfl
  have hu : u.pending = s.pending := by
    change (if _ then _ else _ : State).pending = s.pending
    split <;> exact ht
  split
  · exact (State.fireEntry_pending _ _ _ _).trans hu
  · exact hu

@[simp] theorem State.endCheck_pending (s : State) (c : CheckJob) :
    (State.endCheck s c).pending = s.pending :=
  by unfold State.endCheck; (repeat' split) <;> simp

@[simp] theorem State.checkMeasured_pending (s : State) (c : CheckJob) (m : Sample) :
    (State.checkMeasured s c m).pending = s.pending :=
  by simp only [State.checkMeasured]; (repeat' split) <;> simp

@[simp] theorem State.afterRep_pending (s : State) (e reps : Nat) (ended : Tick) :
    (State.afterRep s e reps ended).pending = s.pending :=
  by simp only [State.afterRep]; (repeat' split) <;> simp

@[simp] theorem State.readTaken_pending (s : State) (r : ReadJob) :
    (State.readTaken s r).pending = s.pending :=
  by simp only [State.readTaken]; (repeat' split) <;> simp

@[simp] theorem State.passEnds_pending (s : State) :
    (State.passEnds s).pending = s.pending :=
  by simp [State.passEnds]

theorem execSeqResult_pending (r : Sample) (s : State) :
    ∃ t, execSeqResult r s = .next t ∧ t.pending = s.pending :=
  ⟨_, rfl, by (repeat' split) <;> simp⟩

@[simp] theorem doSeqNow_pending (r : ReplyTo) (e : Nat) (s : State) :
    (doSeqNow r e s).pending = s.pending :=
  by unfold doSeqNow; (repeat' split) <;> simp

@[simp] theorem State.fileExcite_pending (s : State) (n : Nat) :
    (State.fileExcite s n).pending = s.pending :=
  by unfold State.fileExcite; (repeat' split) <;> simp

@[simp] theorem doSeqCommit_pending (r : ReplyTo) (s : State) :
    (doSeqCommit r s).pending = s.pending :=
  by simp only [doSeqCommit]; (repeat' split) <;> simp

@[simp] theorem setSeqStaged_pending (r : ReplyTo) (k : Key) (v : Val) (s : State) :
    (setSeqStaged r k v s).pending = s.pending :=
  by simp [setSeqStaged]

@[simp] theorem doCheckRun_pending (r : ReplyTo) (k : CheckKind) (s : State) :
    (doCheckRun r k s).pending = s.pending :=
  by simp only [doCheckRun]; (repeat' split) <;> simp

theorem execCheckInterval_pending (s : State) :
    ∃ t, execCheckInterval s = .next t ∧ t.pending = s.pending :=
  ⟨_, rfl, by (repeat' split) <;> simp⟩

@[simp] theorem setCheckInterval_pending (r : ReplyTo) (k : Key) (v : Val) (s : State) :
    (setCheckInterval r k v s).pending = s.pending :=
  by unfold setCheckInterval; (repeat' split) <;> simp

@[simp] theorem State.pinEvent_pending (s : State) (pin : Nat) (w : String) :
    (State.pinEvent s pin w).pending = s.pending :=
  by simp [State.pinEvent]

theorem execFePinOver_pending (pin : Nat) (s : State) :
    ∃ t, execFePinOver pin s = .next t ∧ t.pending = s.pending :=
  ⟨_, rfl, by (repeat' split) <;> simp⟩

theorem execFePinRecover_pending (pin : Nat) (s : State) :
    ∃ t, execFePinRecover pin s = .next t ∧ t.pending = s.pending :=
  ⟨_, rfl, by (repeat' split) <;> simp⟩

theorem execExcLimit_pending (entry : Nat) (s : State) :
    ∃ t, execExcLimit entry s = .next t ∧ t.pending = s.pending :=
  ⟨_, rfl, by (repeat' split) <;> simp⟩

@[simp] theorem State.readyExcite_pending (s : State) :
    (State.readyExcite s).pending = s.pending :=
  by unfold State.readyExcite; (repeat' split) <;> simp

theorem execExcRequestRefile_pending (s : State) :
    ∃ t, execExcRequestRefile s = .next t ∧ t.pending = s.pending :=
  ⟨_, rfl, by (repeat' split) <;> simp⟩

@[simp] theorem State.exciteRefused_pending (s : State) :
    (State.exciteRefused s).pending = s.pending :=
  by unfold State.exciteRefused; (repeat' split) <;> simp

theorem execLoopReadbackDue_pending (n : Nat) (microMa microV : Int) (s : State) :
    ∃ t, execLoopReadbackDue n microMa microV s = .next t ∧ t.pending = s.pending :=
  ⟨_, rfl, by (repeat' split) <;> simp⟩

@[simp] theorem State.windowStep_pending (s : State) (n : Nat) :
    (State.windowStep s n).pending = s.pending :=
  rfl

theorem execLoopSample_pending (n : Nat) (s : State) :
    ∃ t, execLoopSample n s = .next t ∧ t.pending = s.pending :=
  ⟨_, rfl, by dsimp only; (repeat' split) <;> simp⟩

@[simp] theorem State.loopEvent_pending (s : State) (n : Nat) (w : String) :
    (State.loopEvent s n w).pending = s.pending :=
  by simp [State.loopEvent]

theorem execLoopSaturation_pending (n : Nat) (s : State) :
    ∃ t, execLoopSaturation n s = .next t ∧ t.pending = s.pending :=
  ⟨_, rfl, by (repeat' split) <;> simp⟩

theorem execLoopHeadroomFault_pending (n : Nat) (s : State) :
    ∃ t, execLoopHeadroomFault n s = .next t ∧ t.pending = s.pending :=
  ⟨_, rfl, by (repeat' split) <;> simp⟩

theorem execLoopHeadroomOk_pending (n : Nat) (s : State) :
    ∃ t, execLoopHeadroomOk n s = .next t ∧ t.pending = s.pending :=
  ⟨_, rfl, by (repeat' split) <;> simp⟩

@[simp] theorem setLoopQuantity_pending (r : ReplyTo) (k : Key) (v : Val) (s : State) :
    (setLoopQuantity r k v s).pending = s.pending :=
  by simp only [setLoopQuantity]; (repeat' split) <;> simp

@[simp] theorem State.newAlarm_pending (s : State) (n : Nat) :
    (State.newAlarm s n).pending = s.pending :=
  rfl

@[simp] theorem State.loopsWatch_pending (s : State) :
    (State.loopsWatch s).pending = s.pending :=
  rfl

@[simp] theorem State.loopsWake_pending (s : State) :
    (State.loopsWake s).pending = s.pending :=
  rfl

@[simp] theorem State.loopsOfAlarm_pending (s : State) (n : Nat) :
    (State.loopsOfAlarm s n).pending = s.pending :=
  foldl_pending _ (fun _ _ => by simp) _ _

@[simp] theorem State.deliver_pending (s : State) (requester owner : Nat) (r : Region) (sector : Nat) :
    (State.deliver s requester owner r sector).pending = s.pending :=
  rfl

@[simp] theorem State.refuseMem_pending (s : State) (by_ : MemBy) :
    (State.refuseMem s by_).pending = s.pending := by
  unfold State.refuseMem
  dsimp only
  split
  · rfl
  · split
    · rename_i hh
      exact (State.er_pending _ _ _ _).trans ((State.abortable_pending _ _ _ hh).trans rfl)
    · rfl

theorem execMemRead_pending (requester : MemBy) (owner : Nat) (region : Region) (sector : Nat) (s : State) :
    ∃ t, execMemRead requester owner region sector s = .next t ∧ t.pending = s.pending :=
  ⟨_, rfl, by (repeat' split) <;> simp⟩

theorem execTagCheckComplete_pending (requester : Nat) (x : Stored) (s : State) :
    ∃ t, execTagCheckComplete requester x s = .next t ∧ t.pending = s.pending :=
  ⟨_, rfl, by dsimp only; (repeat' split) <;> simp⟩

@[simp] theorem State.fileRekey_pending (s : State) (owner : Nat) (r : Region) (turret : Nat) (reply : Option ReplyTo) :
    (State.fileRekey s owner r turret reply).pending = s.pending :=
  by simp [State.fileRekey]

@[simp] theorem State.writeSector_pending (s : State) (owner : Nat) (r : Region) (sector off : Nat) (data : List Byte) :
    (State.writeSector s owner r sector off data).pending = s.pending :=
  by simp only [State.writeSector]; (repeat' split) <;> simp

theorem execMemWrite_pending (requester : MemBy) (owner : Nat) (region : Region) (sector off : Nat) (data : List Byte) (s : State) :
    ∃ t, execMemWrite requester owner region sector off data s = .next t ∧ t.pending = s.pending :=
  ⟨_, rfl, by dsimp only; (repeat' split) <;> simp⟩

@[simp] theorem doMemRekey_pending (r : ReplyTo) (n : Nat) (region : Region) (s : State) :
    (doMemRekey r n region s).pending = s.pending :=
  by unfold doMemRekey; (repeat' split) <;> simp

@[simp] theorem State.unstall_pending (s : State) (owner : Nat) :
    (State.unstall s owner).pending = s.pending :=
  by simp [State.unstall]

theorem execRekeyPass_pending (s : State) :
    ∃ t, execRekeyPass s = .next t ∧ t.pending = s.pending :=
  ⟨_, rfl, by (repeat' split) <;> simp⟩

@[simp] theorem State.stopMem_pending (s : State) (n : Nat) :
    (State.stopMem s n).pending = s.pending :=
  foldl_pending _ (fun _ _ => by dsimp only; (repeat' split) <;> simp) _ _

@[simp] theorem State.scrubNow_pending (s : State) (bad : List BadSlot) (imageFails : Nat) :
    (State.scrubNow s bad imageFails).pending = s.pending := by
  have h1 : ∀ (l : List BadSlot) (t : State), (l.foldl (fun t b =>
    let r := b.record
    (((t.emit (recAud r) "nv" "slot" [recFld r]).markBad [b]).fileWrite { record := r, body := (t.getRec r).body, reply := none }).onMem
      fun m => { m with scrubRepairs := satInc m.scrubRepairs, probeFails := satAdd m.probeFails b.sectors }) t).pending = t.pending :=
    fun l t => foldl_pending _ (fun t b => (State.onMem_pending _ _).trans ((State.fileWrite_pending _ _).trans ((State.markBad_pending _ _).trans (State.emit_pending _ _ _ _ _)))) l t
  unfold State.scrubNow
  extract_lets t u
  have ht : t.pending = s.pending := h1 _ _
  have hu : u.pending = s.pending := by
    change (if _ then _ else _ : State).pending = s.pending
    split
    · exact (State.onMem_pending _ _).trans ((State.emit_pending _ _ _ _ _).trans ht)
    · exact ht
  exact (State.onMem_pending _ _).trans ((State.releaseGrant_pending _ _).trans hu)

theorem execScrubPass_pending (bad : List BadSlot) (imageFails : Nat) (s : State) :
    ∃ t, execScrubPass bad imageFails s = .next t ∧ t.pending = s.pending :=
  ⟨_, rfl, by dsimp only; (repeat' split) <;> simp⟩

@[simp] theorem State.putRecord_pending (s : State) (stream : Nat) (r : List Byte) :
    (State.putRecord s stream r).pending = s.pending :=
  rfl

@[simp] theorem State.status_pending (s : State) (stream tag code : Nat) :
    (State.status s stream tag code).pending = s.pending :=
  rfl

@[simp] theorem State.domeNotice_pending (s : State) (n tag code : Nat) :
    (State.domeNotice s n tag code).pending = s.pending :=
  by unfold State.domeNotice; (repeat' split) <;> simp

@[simp] theorem State.domeOk_pending (s : State) (f : DomeFrom) (n : Nat) (fs : List Fld) :
    (State.domeOk s f n fs).pending = s.pending :=
  by unfold State.domeOk; (repeat' split) <;> simp

@[simp] theorem State.domeEr_pending (s : State) (f : DomeFrom) (n code : Nat) (detail : List Fld) :
    (State.domeEr s f n code detail).pending = s.pending :=
  by unfold State.domeEr; (repeat' split) <;> simp

@[simp] theorem State.writeBlob_pending (s : State) (n b off : Nat) (bs : List Byte) :
    (State.writeBlob s n b off bs).pending = s.pending :=
  rfl

@[simp] theorem State.pkeAccept_pending (s : State) (f : DomeFrom) (n : Nat) (op : PkeOp) :
    (State.pkeAccept s f n op).pending = s.pending :=
  by unfold State.pkeAccept; (repeat' split) <;> simp

@[simp] theorem State.pkeSign_pending (s : State) (f : DomeFrom) (n : Nat) (k b : Int) :
    (State.pkeSign s f n k b).pending = s.pending :=
  by unfold State.pkeSign; (repeat' split) <;> simp

@[simp] theorem State.pkeVerify_pending (s : State) (f : DomeFrom) (n : Nat) (c : Curve) (b : Int) :
    (State.pkeVerify s f n c b).pending = s.pending :=
  by unfold State.pkeVerify; (repeat' split) <;> simp

@[simp] theorem State.pkeKeygen_pending (s : State) (f : DomeFrom) (n : Nat) (c : Curve) (k b : Int) :
    (State.pkeKeygen s f n c k b).pending = s.pending :=
  by unfold State.pkeKeygen; (repeat' split) <;> simp

@[simp] theorem State.pkeEcdh_pending (s : State) (f : DomeFrom) (n : Nat) (k b : Int) (k2 : Option Int) :
    (State.pkeEcdh s f n k b k2).pending = s.pending :=
  by unfold State.pkeEcdh; (repeat' split) <;> simp

@[simp] theorem State.pkePublic_pending (s : State) (f : DomeFrom) (n : Nat) (k b : Int) :
    (State.pkePublic s f n k b).pending = s.pending :=
  by unfold State.pkePublic; (repeat' split) <;> simp

@[simp] theorem doDomePkeSign_pending (r : ReplyTo) (k b : Int) (s : State) :
    (doDomePkeSign r k b s).pending = s.pending :=
  by simp [doDomePkeSign]

@[simp] theorem doDomePkeVerify_pending (r : ReplyTo) (c : Curve) (b : Int) (s : State) :
    (doDomePkeVerify r c b s).pending = s.pending :=
  by simp [doDomePkeVerify]

@[simp] theorem doDomePkeKeygen_pending (r : ReplyTo) (c : Curve) (k : Int) (s : State) :
    (doDomePkeKeygen r c k s).pending = s.pending :=
  by simp [doDomePkeKeygen]

@[simp] theorem doDomePkeEcdh_pending (r : ReplyTo) (k b : Int) (k2 : Option Int) (s : State) :
    (doDomePkeEcdh r k b k2 s).pending = s.pending :=
  by simp [doDomePkeEcdh]

@[simp] theorem doDomePkePublic_pending (r : ReplyTo) (k : Int) (s : State) :
    (doDomePkePublic r k s).pending = s.pending :=
  by simp [doDomePkePublic]

@[simp] theorem doDomePkeDiag_pending (r : ReplyTo) (b : Int) (s : State) :
    (doDomePkeDiag r b s).pending = s.pending :=
  by unfold doDomePkeDiag; (repeat' split) <;> simp

@[simp] theorem State.pkeDrop_pending (s : State) (j : PkeJob) :
    (State.pkeDrop s j).pending = s.pending :=
  rfl

@[simp] theorem State.pkeFail_pending (s : State) (j : PkeJob) :
    (State.pkeFail s j).pending = s.pending :=
  by simp [State.pkeFail]

@[simp] theorem State.pkeDone_pending (s : State) (j : PkeJob) (fs : List Fld) :
    (State.pkeDone s j fs).pending = s.pending :=
  by simp [State.pkeDone]

@[simp] theorem State.pkeStore_pending (s : State) (j : PkeJob) (e : KsEdit) (done : DoneAns) :
    (State.pkeStore s j e done).pending = s.pending :=
  by simp [State.pkeStore]

@[simp] theorem State.pkePub_pending (s : State) (j : PkeJob) (b : Nat) (pub : List Byte) :
    (State.pkePub s j b pub).pending = s.pending :=
  by unfold State.pkePub; (repeat' split) <;> simp

@[simp] theorem State.pkeResult_pending (s : State) (j : PkeJob) (ok : Bool) :
    (State.pkeResult s j ok).pending = s.pending :=
  by simp only [State.pkeResult]; (repeat' split) <;> simp

theorem execPkeOperationComplete_pending (found : PkeIn) (s0 : State) :
    ∃ t, execPkeOperationComplete found s0 = .next t ∧ t.pending = s0.pending :=
  ⟨_, rfl, by (repeat' split) <;> simp⟩

@[simp] theorem State.pkeWritten_pending (s : State) (f : DomeFrom) :
    (State.pkeWritten s f).pending = s.pending :=
  by simp [State.pkeWritten]

@[simp] theorem State.pkeRefused_pending (s : State) (id : Nat) :
    (State.pkeRefused s id).pending = s.pending :=
  by unfold State.pkeRefused; (repeat' split) <;> simp

theorem execDomeFrameStart_pending (s : State) :
    ∃ t, execDomeFrameStart s = .next t ∧ t.pending = s.pending :=
  ⟨_, rfl, by dsimp only; (repeat' split) <;> simp⟩

@[simp] theorem State.digAccept_pending (s : State) (f : DomeFrom) (n : Nat) (op : DigOp) :
    (State.digAccept s f n op).pending = s.pending :=
  by unfold State.digAccept; (repeat' split) <;> simp

@[simp] theorem State.digHash_pending (s : State) (f : DomeFrom) (n : Nat) (a : DigAlg) (k : Option Nat) (b off len : Int) (out : Option (Int × Int)) :
    (State.digHash s f n a k b off len out).pending = s.pending :=
  by unfold State.digHash; (repeat' split) <;> simp

@[simp] theorem doDomeDigHash_pending (r : ReplyTo) (a : DigAlg) (k : Option Nat) (b off len : Int) (out : Option (Int × Int)) (s : State) :
    (doDomeDigHash r a k b off len out s).pending = s.pending :=
  by simp [doDomeDigHash]

@[simp] theorem State.setHandle_pending (s : State) (n h : Nat) (x : Handle) :
    (State.setHandle s n h x).pending = s.pending :=
  rfl

@[simp] theorem doDomeDigStart_pending (r : ReplyTo) (a : DigAlg) (k : Option Nat) (s : State) :
    (doDomeDigStart r a k s).pending = s.pending :=
  by simp only [doDomeDigStart]; (repeat' split) <;> simp

@[simp] theorem doDomeDigUpdate_pending (r : ReplyTo) (hd b off len : Int) (s : State) :
    (doDomeDigUpdate r hd b off len s).pending = s.pending :=
  by unfold doDomeDigUpdate; (repeat' split) <;> simp

@[simp] theorem doDomeDigFinal_pending (r : ReplyTo) (hd : Int) (out : Option (Int × Int)) (s : State) :
    (doDomeDigFinal r hd out s).pending = s.pending :=
  by simp only [doDomeDigFinal]; (repeat' split) <;> simp

@[simp] theorem doDomeDigDrop_pending (r : ReplyTo) (hd : Int) (s : State) :
    (doDomeDigDrop r hd s).pending = s.pending :=
  by unfold doDomeDigDrop; (repeat' split) <;> simp

@[simp] theorem doDomeDigTable_pending (r : ReplyTo) (head slot : Nat) (s : State) :
    (doDomeDigTable r head slot s).pending = s.pending :=
  by simp only [doDomeDigTable]; (repeat' split) <;> simp

@[simp] theorem State.digAnswer_pending (s : State) (f : DomeFrom) (n : Nat) (out : Option (Nat × Nat)) (d : List Byte) :
    (State.digAnswer s f n out d).pending = s.pending :=
  by unfold State.digAnswer; (repeat' split) <;> simp

theorem execDigestJobComplete_pending (job : Nat) (s : State) :
    ∃ t, execDigestJobComplete job s = .next t ∧ t.pending = s.pending := by
  refine ⟨_, rfl, ?_⟩
  dsimp only
  (repeat' split) <;> simp

@[simp] theorem State.rngFill_pending (s : State) (f : DomeFrom) (n : Nat) (b off len : Int) :
    (State.rngFill s f n b off len).pending = s.pending :=
  by unfold State.rngFill; (repeat' split) <;> simp

@[simp] theorem doDomeRngFill_pending (r : ReplyTo) (b off len : Int) (s : State) :
    (doDomeRngFill r b off len s).pending = s.pending :=
  by simp [doDomeRngFill]

theorem execRngReseed_pending (s : State) :
    ∃ t, execRngReseed s = .next t ∧ t.pending = s.pending :=
  ⟨_, rfl, by (repeat' split) <;> simp⟩

theorem execRngHealthFail_pending (s : State) :
    ∃ t, execRngHealthFail s = .next t ∧ t.pending = s.pending :=
  ⟨_, rfl, by (repeat' split) <;> simp⟩

theorem execRngRetest_pending (passed : Bool) (s : State) :
    ∃ t, execRngRetest passed s = .next t ∧ t.pending = s.pending :=
  ⟨_, rfl, by (repeat' split) <;> simp⟩

theorem execBlobWrite_pending (stream tag blob off : Nat) (data : List Byte) (s : State) :
    ∃ t, execBlobWrite stream tag blob off data s = .next t ∧ t.pending = s.pending :=
  ⟨_, rfl, by dsimp only; (repeat' split) <;> simp⟩

theorem execBlobRead_pending (stream tag blob off len : Nat) (s : State) :
    ∃ t, execBlobRead stream tag blob off len s = .next t ∧ t.pending = s.pending :=
  ⟨_, rfl, by (repeat' split) <;> simp⟩

theorem execTableWrite_pending (stream tag head slot off : Nat) (data : List Byte) (s : State) :
    ∃ t, execTableWrite stream tag head slot off data s = .next t ∧ t.pending = s.pending :=
  ⟨_, rfl, by (repeat' split) <;> simp⟩

theorem execMgmtDomeOperation_pending (stream tag : Nat) (fields : List Byte) (s : State) :
    ∃ t, execMgmtDomeOperation stream tag fields s = .next t ∧ t.pending = s.pending :=
  ⟨_, rfl, by dsimp only; (repeat' split) <;> simp⟩

@[simp] theorem State.stopDomeOf_pending (s : State) (n : Nat) :
    (State.stopDomeOf s n).1.pending = s.pending :=
  foldl_pending _ (fun _ _ => by simp) _ _

@[simp] theorem State.assignEvents_pending (s : State) (ns : List Nat) (changed : Bool) :
    (State.assignEvents s ns changed).pending = s.pending :=
  by unfold State.assignEvents; (repeat' split) <;> simp

@[simp] theorem State.toDefaults_pending (s : State) (ks : List Key) :
    (State.toDefaults s ks).pending = s.pending :=
  foldl_pending _ (fun _ _ => by simp) _ _

@[simp] theorem State.emptySlot_pending (s : State) (slot : Nat) :
    (State.emptySlot s slot).pending = s.pending := by
  have h : ∀ (t : State) (m : SMap Byte) (f : ClassSlot → ClassSlot), ({ t with ram := m }.modClassSlot slot f).pending = t.pending :=
    fun _ _ _ => rfl
  unfold State.emptySlot
  dsimp only
  rw [h, State.toDefaults_pending]

theorem ite_pending {p : Prop} [Decidable p] {a b s : State} (ha : a.pending = s.pending) (hb : b.pending = s.pending) :
    (if p then a else b).pending = s.pending := by
  split <;> assumption

@[simp] theorem State.handOver_pending (s : State) (k : Key) (v : Val) :
    (State.handOver s k v).pending = s.pending := by
  unfold State.handOver
  refine ite_pending rfl ?_
  split
  · rw [State.modLoop_pending, State.setVal_pending, State.toDefaults_pending]
  · rw [State.onFe_pending, State.modEntry_pending, State.toDefaults_pending]
  · exact State.toDefaults_pending _ _
  · exact State.emptySlot_pending _ _
  · exact State.modStream_pending _ _ _
  · rfl

@[simp] theorem State.assign_pending (s : State) (k : Key) (v : Val) :
    (State.assign s k v).pending = s.pending :=
  by unfold State.assign; (repeat' split) <;> simp

@[simp] theorem State.assignAll_pending (s : State) (ps : List (Key × Val)) :
    (State.assignAll s ps).pending = s.pending :=
  by simp [State.assignAll]

@[simp] theorem setAssignment_pending (r : ReplyTo) (k : Key) (v : Val) (s : State) :
    (setAssignment r k v s).pending = s.pending :=
  by unfold setAssignment; (repeat' split) <;> simp

@[simp] theorem setXrange_pending (r : ReplyTo) (k : Key) (v : Val) (s : State) :
    (setXrange r k v s).pending = s.pending :=
  by simp only [setXrange]; (repeat' split) <;> simp

@[simp] theorem State.writeKeys_pending (s : State) (r : ReplyTo) (e : KsEdit) (stubborn : Bool) :
    (State.writeKeys s r e stubborn).pending = s.pending :=
  rfl

@[simp] theorem doTurretCreate_pending (r : ReplyTo) (n : Int) (s : State) :
    (doTurretCreate r n s).pending = s.pending :=
  by unfold doTurretCreate; (repeat' split) <;> simp

@[simp] theorem State.dropClaim_pending (s : State) (n : Nat) :
    (State.dropClaim s n).pending = s.pending :=
  by unfold State.dropClaim; (repeat' split) <;> simp

@[simp] theorem doTurretClaim_pending (r : ReplyTo) (n : Nat) (key : List Byte) (s : State) :
    (doTurretClaim r n key s).pending = s.pending :=
  by simp only [doTurretClaim]; (repeat' split) <;> simp

@[simp] theorem getKeyNonce_pending (r : ReplyTo) (s : State) :
    (getKeyNonce r s).pending = s.pending :=
  by unfold getKeyNonce; (repeat' split) <;> simp

theorem execKeyNonceExpiry_pending (sess : Nat) (s : State) :
    ∃ t, execKeyNonceExpiry sess s = .next t ∧ t.pending = s.pending :=
  ⟨_, rfl, by (repeat' split) <;> simp⟩

@[simp] theorem doKeyImport_pending (r : ReplyTo) (slot b : Int) (s : State) :
    (doKeyImport r slot b s).pending = s.pending :=
  by simp only [doKeyImport]; (repeat' split) <;> simp

@[simp] theorem doKeyErase_pending (r : ReplyTo) (slot : Int) (s : State) :
    (doKeyErase r slot s).pending = s.pending :=
  by unfold doKeyErase; (repeat' split) <;> simp

@[simp] theorem doBlobWrite_pending (r : ReplyTo) (b off : Int) (data : List Byte) (s : State) :
    (doBlobWrite r b off data s).pending = s.pending :=
  by unfold doBlobWrite; (repeat' split) <;> simp

@[simp] theorem doBlobRead_pending (r : ReplyTo) (b off len : Int) (s : State) :
    (doBlobRead r b off len s).pending = s.pending :=
  by unfold doBlobRead; (repeat' split) <;> simp

@[simp] theorem doBlobClear_pending (r : ReplyTo) (b : Int) (s : State) :
    (doBlobClear r b s).pending = s.pending :=
  by unfold doBlobClear; (repeat' split) <;> simp

@[simp] theorem State.abortedTo_pending (s : State) (f : DomeFrom) :
    (State.abortedTo s f).pending = s.pending :=
  by unfold State.abortedTo; (repeat' split) <;> simp

@[simp] theorem State.abortedAll_pending (s : State) (fs : List DomeFrom) :
    (State.abortedAll s fs).pending = s.pending :=
  by simp [State.abortedAll]

@[simp] theorem State.stopWritesOf_pending (s : State) (n : Nat) :
    (State.stopWritesOf s n).pending = s.pending := by
  unfold State.stopWritesOf
  refine foldl_pending _ ?_ _ _
  intro t w
  split
  · rfl
  · split
    · rename_i h
      have h1 := State.stopWrite_pending _ _ _ h
      simp [h1]
    · rfl

@[simp] theorem State.stopLeave_pending (s : State) (n : Nat) :
    (State.stopLeave s n).pending = s.pending :=
  by simp only [State.stopLeave]; (repeat' split) <;> simp

@[simp] theorem State.logOutTurret_pending (s : State) (n : Nat) :
    (State.logOutTurret s n).pending = s.pending :=
  by simp [State.logOutTurret, apply_ite State.pending]

@[simp] theorem State.closeStreamsOf_pending (s : State) (n : Nat) :
    (State.closeStreamsOf s n).pending = s.pending :=
  by simp [State.closeStreamsOf]

@[simp] theorem State.revokeNow_pending (s : State) (n : Nat) :
    (State.revokeNow s n).pending = s.pending := by
  unfold State.revokeNow
  simp

@[simp] theorem doTurretRevoke_pending (r : ReplyTo) (n : Int) (s : State) :
    (doTurretRevoke r n s).pending = s.pending :=
  by simp only [doTurretRevoke]; (repeat' split) <;> simp

@[simp] theorem doTurretRestore_pending (r : ReplyTo) (n : Int) (s : State) :
    (doTurretRestore r n s).pending = s.pending :=
  by unfold doTurretRestore; (repeat' split) <;> simp

@[simp] theorem State.unassign_pending (s : State) (n : Nat) :
    (State.unassign s n).pending = s.pending :=
  by simp [State.unassign]

@[simp] theorem State.forget_pending (s : State) (n : Nat) :
    (State.forget s n).pending = s.pending :=
  by simp [State.forget]

@[simp] theorem doTurretDestroy_pending (r : ReplyTo) (n : Int) (s : State) :
    (doTurretDestroy r n s).pending = s.pending :=
  by simp only [doTurretDestroy]; (repeat' split) <;> simp

@[simp] theorem doSysSeal_pending (r : ReplyTo) (b : Int) (s : State) :
    (doSysSeal r b s).pending = s.pending :=
  by simp only [doSysSeal]; (repeat' split) <;> simp

@[simp] theorem State.unkeyRunning_pending (s : State) (n : Nat) :
    (State.unkeyRunning s n).pending = s.pending :=
  rfl

@[simp] theorem State.strip_pending (s : State) (n : Nat) :
    (State.strip s n).pending = s.pending := by
  unfold State.strip
  repeat' (first | (simp [apply_ite State.pending]; done) | (refine (foldl_pending _ ?_ _ _).trans ?_ <;> intros <;> try dsimp only))

@[simp] theorem doSysUnseal_pending (r : ReplyTo) (s : State) :
    (doSysUnseal r s).pending = s.pending :=
  by unfold doSysUnseal; (repeat' split) <;> simp

@[simp] theorem State.freshStart_pending (s : State) :
    (State.freshStart s).pending = s.pending :=
  rfl

@[simp] theorem State.loopsOff_pending (s : State) :
    (State.loopsOff s).pending = s.pending :=
  rfl

@[simp] theorem State.loopsOn_pending (s : State) :
    (State.loopsOn s).pending = s.pending :=
  rfl

theorem execL24Valid_pending (above19 p24Low : Bool) (s : State) :
    ∃ t, execL24Valid above19 p24Low s = .next t ∧ t.pending = s.pending :=
  ⟨_, rfl, by (repeat' split) <;> simp⟩

theorem execL24Lost_pending (s : State) :
    ∃ t, execL24Lost s = .next t ∧ t.pending = s.pending :=
  ⟨_, rfl, by (repeat' split) <;> simp⟩

theorem execL24Removed_pending (s : State) :
    ∃ t, execL24Removed s = .next t ∧ t.pending = s.pending :=
  ⟨_, rfl, rfl⟩

theorem execHoldupCharged_pending (s : State) :
    ∃ t, execHoldupCharged s = .next t ∧ t.pending = s.pending :=
  ⟨_, rfl, by (repeat' split) <;> simp⟩

theorem execHoldupExhausted_pending (s : State) :
    ∃ t, execHoldupExhausted s = .next t ∧ t.pending = s.pending :=
  ⟨_, rfl, by (repeat' split) <;> simp⟩

theorem execL24FlashLevel_pending (above19 : Bool) (s : State) :
    ∃ t, execL24FlashLevel above19 s = .next t ∧ t.pending = s.pending :=
  ⟨_, rfl, by (repeat' split) <;> simp⟩

theorem execL24High_pending (s : State) :
    ∃ t, execL24High s = .next t ∧ t.pending = s.pending :=
  ⟨_, rfl, by (repeat' split) <;> simp⟩

@[simp] theorem State.p24Falls_pending (s : State) :
    (State.p24Falls s).pending = s.pending :=
  by unfold State.p24Falls; (repeat' split) <;> simp

theorem execP24Low_pending (s : State) :
    ∃ t, execP24Low s = .next t ∧ t.pending = s.pending :=
  ⟨_, rfl, by simp⟩

theorem execP24Ok_pending (s : State) :
    ∃ t, execP24Ok s = .next t ∧ t.pending = s.pending :=
  ⟨_, rfl, by (repeat' split) <;> simp⟩

theorem execP24High_pending (above33 : Bool) (s : State) :
    ∃ t, execP24High above33 s = .next t ∧ t.pending = s.pending :=
  ⟨_, rfl, by (repeat' split) <;> simp⟩

theorem execP24OvervoltageClear_pending (s : State) :
    ∃ t, execP24OvervoltageClear s = .next t ∧ t.pending = s.pending :=
  ⟨_, rfl, rfl⟩

theorem execTamperMeshBreak_pending (s : State) :
    ∃ t, execTamperMeshBreak s = .next t ∧ t.pending = s.pending :=
  ⟨_, rfl, by (repeat' split) <;> simp⟩

theorem execJunctionReading_pending (milliC : Int) (s : State) :
    ∃ t, execJunctionReading milliC s = .next t ∧ t.pending = s.pending :=
  ⟨_, rfl, by dsimp only; (repeat' split) <;> simp⟩

theorem execReferenceStable_pending (s : State) :
    ∃ t, execReferenceStable s = .next t ∧ t.pending = s.pending :=
  ⟨_, rfl, by (repeat' split) <;> simp⟩

@[simp] theorem State.restoreStats_pending (s : State) (n : Nat) :
    (State.restoreStats s n).pending = s.pending :=
  by unfold State.restoreStats; (repeat' split) <;> simp

@[simp] theorem State.useKeyStore_pending (s : State) :
    (State.useKeyStore s).pending = s.pending :=
  by unfold State.useKeyStore; (repeat' split) <;> simp

@[simp] theorem State.useConfig_pending (s : State) :
    (State.useConfig s).pending = s.pending :=
  by simp only [State.useConfig]; (repeat' split) <;> simp

@[simp] theorem State.useRecords_pending (s : State) :
    (State.useRecords s).pending = s.pending := by
  unfold State.useRecords
  repeat' (first | (simp; done) | split | (refine (foldl_pending _ ?_ _ _).trans ?_ <;> intros <;> try dsimp only))

@[simp] theorem State.haltAt_pending (s : State) (step cause : Nat) :
    (State.haltAt s step cause).pending = s.pending :=
  by simp [State.haltAt]

@[simp] theorem State.drawKeys_pending (s : State) :
    (State.drawKeys s).pending = s.pending :=
  rfl

theorem execRngStartupTest_pending (boot : BootIn) (s : State) :
    ∃ t, execRngStartupTest boot s = .next t ∧ t.pending = s.pending :=
  ⟨_, rfl, by dsimp only; (repeat' split) <;> simp⟩

theorem execEpochCommit_pending (tests : SelfTest) (s : State) :
    ∃ t, execEpochCommit tests s = .next t ∧ t.pending = s.pending :=
  ⟨_, rfl, by (repeat' split) <;> simp⟩

@[simp] theorem State.testValves_pending (s : State) (xs : List (Nat × Nat)) :
    (State.testValves s xs).pending = s.pending :=
  foldl_pending _ (fun _ _ => by dsimp only; (repeat' split) <;> simp) _ _

@[simp] theorem State.testLantern_pending (s : State) (xs : List (Nat × Nat)) :
    (State.testLantern s xs).pending = s.pending :=
  by simp [State.testLantern]

@[simp] theorem State.testFe_pending (s : State) (t : SelfTest) :
    (State.testFe s t).pending = s.pending :=
  by simp only [State.testFe]; (repeat' split) <;> simp

@[simp] theorem State.testLoop_pending (s : State) (n : Nat) (reading6 : Option Int) :
    (State.testLoop s n reading6).pending = s.pending :=
  by unfold State.testLoop; (repeat' split) <;> simp

@[simp] theorem State.epochCommitted_pending (s : State) (n : Nat) (t : SelfTest) :
    (State.epochCommitted s n t).pending = s.pending :=
  by simp [State.epochCommitted]

@[simp] theorem State.tellP24_pending (s : State) :
    (State.tellP24 s).pending = s.pending :=
  by unfold State.tellP24; (repeat' split) <;> simp

@[simp] theorem State.startEvents_pending (s : State) :
    (State.startEvents s).pending = s.pending :=
  by simp [State.startEvents, apply_ite State.pending]

@[simp] theorem State.installStreams_pending (s : State) :
    (State.installStreams s).pending = s.pending :=
  foldl_pending _ (fun _ _ => by simp) _ _

theorem execStartComplete_pending (s : State) :
    ∃ t, execStartComplete s = .next t ∧ t.pending = s.pending :=
  ⟨_, rfl, by (repeat' split) <;> simp⟩

@[simp] theorem doSysWatch_pending (r : ReplyTo) (s : State) :
    (doSysWatch r s).pending = s.pending :=
  by simp only [doSysWatch]; (repeat' split) <;> simp

theorem execWatchEntryComplete_pending (s : State) :
    ∃ t, execWatchEntryComplete s = .next t ∧ t.pending = s.pending :=
  ⟨_, rfl, by (repeat' split) <;> simp⟩

@[simp] theorem State.rederive_pending (s : State) :
    (State.rederive s).pending = s.pending :=
  rfl

@[simp] theorem State.wakePlan_pending (s : State) :
    (State.wakePlan s).pending = s.pending :=
  by unfold State.wakePlan; (repeat' split) <;> simp

@[simp] theorem State.tellHot_pending (s : State) :
    (State.tellHot s).pending = s.pending :=
  foldl_pending _ (fun _ _ => by simp) _ _

@[simp] theorem State.dueCheckpoints_pending (s : State) :
    (State.dueCheckpoints s).pending = s.pending :=
  by unfold State.dueCheckpoints; (repeat' split) <;> simp

@[simp] theorem State.wakeUp_pending (s : State) (src : SerialPort) :
    (State.wakeUp s src).pending = s.pending := by
  unfold State.wakeUp
  simp

@[simp] theorem doSysRun_pending (r : ReplyTo) (s : State) :
    (doSysRun r s).pending = s.pending := by
  have h1 : ∀ (l : List Nat) (f : Head → Head) (t : State), (l.foldl (fun t x => t.modHead x f) t).pending = t.pending :=
    fun l f t => foldl_pending _ (fun t x => State.modHead_pending _ _ _) l t
  unfold doSysRun
  split
  · exact State.er_pending _ _ _ _
  · split
    · exact (State.er_pending _ _ _ _).trans (State.countRefused_pending _ _)
    · extract_lets a b c
      have hb : b.pending = s.pending := (State.holdCoils_pending _).trans ((State.onSys_pending _ _).trans ((State.onTrack_pending _ _).trans ((h1 _ _ _).trans (State.calibLosesHeads_pending _))))
      have hc : c.pending = s.pending := (State.onFeed_pending _ _).trans ((State.enter_pending b .run).trans hb)
      refine (State.ok_pending _ _ _).trans ?_
      split
      · exact (State.startRamp_pending _).trans hc
      · exact hc

@[simp] theorem doSysStop_pending (r : ReplyTo) (s : State) :
    (doSysStop r s).pending = s.pending :=
  by unfold doSysStop; (repeat' split) <;> simp

@[simp] theorem doSysHalt_pending (r : ReplyTo) (s : State) : (doSysHalt r s).pending = s.pending := by
  simp [doSysHalt]

@[simp] theorem doShowSysHalt_pending (r : ReplyTo) (s : State) :
    (doShowSysHalt r s).pending = s.pending :=
  by unfold doShowSysHalt; (repeat' split) <;> simp

@[simp] theorem State.restart_pending (s : State) :
    (State.restart s).pending = s.pending :=
  rfl

@[simp] theorem State.restartFinds_pending (s : State) (x : RestartIn) :
    (State.restartFinds s x).pending = s.pending :=
  by unfold State.restartFinds; (repeat' split) <;> simp

@[simp] theorem State.probeKeystore_pending (s : State) :
    (State.probeKeystore s).pending = s.pending :=
  by simp only [State.probeKeystore]; (repeat' split) <;> simp

@[simp] theorem doSysRestart_pending (r : ReplyTo) (x : RestartIn) (s : State) :
    (doSysRestart r x s).pending = s.pending :=
  by simp only [doSysRestart]; (repeat' split) <;> simp

@[simp] theorem setIslandGate_pending (r : ReplyTo) (k : Key) (v : Val) (s : State) :
    (setIslandGate r k v s).pending = s.pending :=
  by simp only [setIslandGate]; (repeat' split) <;> simp

theorem execIslandAutoGate_pending (isl : Nat) (s : State) :
    ∃ t, execIslandAutoGate isl s = .next t ∧ t.pending = s.pending :=
  ⟨_, rfl, by (repeat' split) <;> simp⟩

theorem execHandshakeWatchdog_pending (wait : WaitKind) (openedAt : Tick) (s : State) :
    ∃ t, execHandshakeWatchdog wait openedAt s = .next t ∧ t.pending = s.pending :=
  ⟨_, rfl, by (repeat' split) <;> simp⟩

@[simp] theorem State.eraseRecords_pending (s : State) (ns : List Nat) :
    (State.eraseRecords s ns).pending = s.pending :=
  foldl_pending _ (fun _ _ => by simp) _ _

@[simp] theorem State.endDiag_pending (s : State) :
    (State.endDiag s).pending = s.pending :=
  by simp [State.endDiag]

@[simp] theorem State.applyEdit_pending (s : State) (e : KsEdit) :
    (State.applyEdit s e).pending = s.pending :=
  by unfold State.applyEdit; (repeat' split) <;> simp

@[simp] theorem State.afterEdit_pending (s : State) (e : KsEdit) :
    (State.afterEdit s e).pending = s.pending :=
  by unfold State.afterEdit; (repeat' split) <;> simp

@[simp] theorem State.takeEffect_pending (s : State) (w : Write) :
    (State.takeEffect s w).pending = s.pending :=
  by unfold State.takeEffect; (repeat' split) <;> simp

@[simp] theorem State.answerWrite_pending (s : State) (w : Write) :
    (State.answerWrite s w).pending = s.pending :=
  by unfold State.answerWrite; (repeat' split) <;> simp

@[simp] theorem State.commitWrite_pending (s : State) (w : Write) :
    (State.commitWrite s w).pending = s.pending :=
  by unfold State.commitWrite; (repeat' split) <;> simp

@[simp] theorem State.nextStep_pending (s : State) (w : Write) :
    (State.nextStep s w).pending = s.pending :=
  by simp [State.nextStep]

@[simp] theorem State.endWrite_pending (s : State) :
    (State.endWrite s).pending = s.pending :=
  rfl

@[simp] theorem State.flashDone_pending (s : State) (w : Write) :
    (State.flashDone s w).pending = s.pending :=
  by simp only [State.flashDone]; (repeat' split) <;> simp

@[simp] theorem State.eraseDone_pending (s : State) (e : Erase) :
    (State.eraseDone s e).pending = s.pending :=
  rfl

theorem execFlashOpComplete_pending (s : State) :
    ∃ t, execFlashOpComplete s = .next t ∧ t.pending = s.pending :=
  ⟨_, rfl, by (repeat' split) <;> simp⟩

@[simp] theorem State.refile_pending (s : State) (q : Req) :
    (State.refile s q).pending = s.pending :=
  by simp [State.refile]

@[simp] theorem State.refusedEvent_pending (s : State) (c : Cls) :
    (State.refusedEvent s c).pending = s.pending :=
  by simp [State.refusedEvent]

@[simp] theorem State.flashRefused_pending (s : State) :
    (State.flashRefused s).pending = s.pending :=
  by unfold State.flashRefused; (repeat' split) <;> simp

@[simp] theorem State.eraseRefused_pending (s : State) :
    (State.eraseRefused s).pending = s.pending :=
  by unfold State.eraseRefused; (repeat' split) <;> simp

@[simp] theorem State.refuse_pending (s : State) (q : Req) :
    (State.refuse s q).pending = s.pending :=
  by simp only [State.refuse]; (repeat' split) <;> simp

theorem execLedgerDeadline_pending (s : State) :
    ∃ t, execLedgerDeadline s = .next t ∧ t.pending = s.pending :=
  ⟨_, rfl, by (repeat' split) <;> simp⟩

@[simp] theorem doNvSave_pending (r : ReplyTo) (s : State) :
    (doNvSave r s).pending = s.pending :=
  rfl

@[simp] theorem setNvCheckpoint_pending (r : ReplyTo) (k : Key) (v : Val) (s : State) :
    (setNvCheckpoint r k v s).pending = s.pending :=
  by simp only [setNvCheckpoint]; (repeat' split) <;> simp

@[simp] theorem setChainFormat_pending (r : ReplyTo) (k : Key) (v : Val) (s : State) :
    (setChainFormat r k v s).pending = s.pending :=
  by simp [setChainFormat]

@[simp] theorem setStreamRate_pending (r : ReplyTo) (k : Key) (v : Val) (s : State) :
    (setStreamRate r k v s).pending = s.pending :=
  by simp only [setStreamRate]; (repeat' split) <;> simp

@[simp] theorem setLinkHeadroom_pending (r : ReplyTo) (k : Key) (v : Val) (s : State) :
    (setLinkHeadroom r k v s).pending = s.pending :=
  by simp only [setLinkHeadroom]; (repeat' split) <;> simp

@[simp] theorem setFeedTargetUnit_pending (r : ReplyTo) (k : Key) (v : Val) (s : State) :
    (setFeedTargetUnit r k v s).pending = s.pending :=
  by simp only [setFeedTargetUnit]; (repeat' split) <;> simp

@[simp] theorem setFeedCurrent_pending (r : ReplyTo) (k : Key) (v : Val) (s : State) :
    (setFeedCurrent r k v s).pending = s.pending :=
  by simp only [setFeedCurrent]; (repeat' split) <;> simp

@[simp] theorem setCaptureMark_pending (r : ReplyTo) (k : Key) (v : Val) (s : State) :
    (setCaptureMark r k v s).pending = s.pending :=
  by simp only [setCaptureMark]; (repeat' split) <;> simp

@[simp] theorem setValveSetting_pending (r : ReplyTo) (k : Key) (v : Val) (s : State) :
    (setValveSetting r k v s).pending = s.pending :=
  by simp only [setValveSetting]; (repeat' split) <;> simp

@[simp] theorem setPeakShare_pending (r : ReplyTo) (k : Key) (v : Val) (s : State) :
    (setPeakShare r k v s).pending = s.pending :=
  by simp only [setPeakShare]; (repeat' split) <;> simp

@[simp] theorem setPeakBudget_pending (r : ReplyTo) (k : Key) (v : Val) (s : State) :
    (setPeakBudget r k v s).pending = s.pending :=
  by simp only [setPeakBudget]; (repeat' split) <;> simp

@[simp] theorem State.plainEffect_pending (s : State) (k : Key) (v : Val) :
    (State.plainEffect s k v).pending = s.pending :=
  by unfold State.plainEffect; (repeat' split) <;> simp

@[simp] theorem setPlain_pending (r : ReplyTo) (k : Key) (v : Val) (s : State) :
    (setPlain r k v s).pending = s.pending :=
  by unfold setPlain; (repeat' split) <;> simp

@[simp] theorem State.applySet_pending (s : State) (r : ReplyTo) (k : Key) (v : Val) :
    (State.applySet s r k v).pending = s.pending :=
  by unfold State.applySet; (repeat' split) <;> simp

@[simp] theorem State.sendLines_pending (s : State) (r : ReplyTo) (ls : List (List Fld)) :
    (State.sendLines s r ls).pending = s.pending :=
  by unfold State.sendLines; (repeat' split) <;> simp

@[simp] theorem doGet_pending (r : ReplyTo) (p : Path) (s : State) :
    (doGet r p s).pending = s.pending :=
  by simp only [doGet]; (repeat' split) <;> simp

@[simp] theorem doShow_pending (r : ReplyTo) (p : Path) (s : State) :
    (doShow r p s).pending = s.pending :=
  by simp only [doShow]; (repeat' split) <;> simp

@[simp] theorem doHelp_pending (r : ReplyTo) (p : Option Path) (s : State) :
    (doHelp r p s).pending = s.pending :=
  by simp only [doHelp]; (repeat' split) <;> simp

@[simp] theorem State.watchEvent_pending (s : State) (k : Nat) (key : Key) (v : List Fld) :
    (State.watchEvent s k key v).pending = s.pending :=
  by unfold State.watchEvent; (repeat' split) <;> simp

@[simp] theorem doWatch_pending (r : ReplyTo) (p : Path) (a : WatchArg) (s : State) :
    (doWatch r p a s).pending = s.pending :=
  by simp only [doWatch]; (repeat' split) <;> simp

theorem execWatchPeriod_pending (sess idx : Nat) (s : State) :
    ∃ t, execWatchPeriod sess idx s = .next t ∧ t.pending = s.pending :=
  ⟨_, rfl, by dsimp only; (repeat' split) <;> simp⟩

@[simp] theorem State.noticeSet_pending (s : State) (key : Key) :
    (State.noticeSet s key).pending = s.pending := by
  unfold State.noticeSet
  repeat' (first | (simp; done) | split | (refine (foldl_pending _ ?_ _ _).trans ?_ <;> intros <;> try dsimp only))

@[simp] theorem State.setDone_pending (s : State) (r : ReplyTo) (k : Key) :
    (State.setDone s r k).pending = s.pending := (State.noticeSet_pending _ _).trans (State.modSess_pending _ _ _)

@[simp] theorem doSet_pending (r : ReplyTo) (k0 : Key) (v : Val) (s : State) :
    (doSet r k0 v s).pending = s.pending :=
  by simp only [doSet]; (repeat' split) <;> simp

@[simp] theorem doSetPath_pending (r : ReplyTo) (p : Path) (tok : List Char) (s : State) :
    (doSetPath r p tok s).pending = s.pending :=
  by unfold doSetPath; (repeat' split) <;> simp

@[simp] theorem State.act_pending (s : State) (r : ReplyTo) (c : Cmd) :
    (State.act s r c).pending = s.pending :=
  by unfold State.act; (repeat' split) <;> simp

@[simp] theorem State.perform_pending (s : State) (r : ReplyTo) (c : Cmd) :
    (State.perform s r c).pending = s.pending :=
  by unfold State.perform; (repeat' split) <;> simp

@[simp] theorem State.turnAway_pending (s : State) (h : Hdr) (code : Nat) (detail : List Fld) :
    (State.turnAway s h code detail).pending = s.pending :=
  rfl

@[simp] theorem State.run_pending (s : State) (r : ReplyTo) (c : Cmd) :
    (State.run s r c).pending = s.pending :=
  by unfold State.run; (repeat' split) <;> simp

@[simp] theorem State.startUntagged_pending (s : State) (h : Hdr) (c : Cmd) :
    (State.startUntagged s h c).pending = s.pending :=
  by unfold State.startUntagged; (repeat' split) <;> simp

@[simp] theorem State.startTagged_pending (s : State) (h : Hdr) (tag : Nat) (c : Cmd) :
    (State.startTagged s h tag c).pending = s.pending :=
  by simp only [State.startTagged]; (repeat' split) <;> simp

@[simp] theorem State.beginLine_pending (s : State) (h : Hdr) (c : Cmd) :
    (State.beginLine s h c).pending = s.pending :=
  by unfold State.beginLine; (repeat' split) <;> simp

@[simp] theorem State.startWaiting_pending (s : State) (k : Nat) :
    (State.startWaiting s k).pending = s.pending :=
  by unfold State.startWaiting; (repeat' split) <;> simp

@[simp] theorem State.holdLine_pending (s : State) (h : Hdr) (c : Cmd) :
    (State.holdLine s h c).pending = s.pending :=
  by unfold State.holdLine; (repeat' split) <;> simp

@[simp] theorem State.takeCmd_pending (s : State) (h : Hdr) (c : Cmd) :
    (State.takeCmd s h c).pending = s.pending :=
  by simp only [State.takeCmd]; (repeat' split) <;> simp

@[simp] theorem State.forwardAll_pending (s : State) (bs : List Byte) :
    (State.forwardAll s bs).pending = s.pending :=
  rfl

@[simp] theorem State.enumLine_pending (s : State) (h : Hdr) (n : Option Nat) :
    (State.enumLine s h n).pending = s.pending :=
  by unfold State.enumLine; (repeat' split) <;> simp

@[simp] theorem State.repeatEnum_pending (s : State) (h : Hdr) (c : Cmd) :
    (State.repeatEnum s h c).pending = s.pending :=
  by unfold State.repeatEnum; (repeat' split) <;> simp

@[simp] theorem State.arrive_pending (s : State) (h : Hdr) (c : Cmd) :
    (State.arrive s h c).pending = s.pending :=
  by unfold State.arrive; (repeat' split) <;> simp

theorem execUntaggedLineStart_pending (sess : Nat) (s : State) :
    ∃ t, execUntaggedLineStart sess s = .next t ∧ t.pending = s.pending :=
  ⟨_, rfl, by (repeat' split) <;> simp⟩

@[simp] theorem State.lineIn_pending (s : State) (k : Nat) (b : LineBuf) :
    (State.lineIn s k b).pending = s.pending :=
  by unfold State.lineIn; (repeat' split) <;> simp

@[simp] theorem State.busyLine_pending (s : State) (b : LineBuf) :
    (State.busyLine s b).pending = s.pending :=
  by simp only [State.busyLine]; (repeat' split) <;> simp

@[simp] theorem State.deliverHeld_pending (s : State) :
    (State.deliverHeld s).pending = s.pending :=
  by simp [State.deliverHeld]

theorem execI25RestartDone_pending (s : State) :
    ∃ t, execI25RestartDone s = .next t ∧ t.pending = s.pending :=
  ⟨_, rfl, by (repeat' split) <;> simp⟩

@[simp] theorem State.announceLine_pending (s : State) (cause : Nat) :
    (State.announceLine s cause).pending = s.pending :=
  by unfold State.announceLine; (repeat' split) <;> simp

theorem execHaltAnnounce_pending (s : State) :
    ∃ t, execHaltAnnounce s = .next t ∧ t.pending = s.pending :=
  ⟨_, rfl, by (repeat' split) <;> simp⟩

@[simp] theorem State.stash_pending (s : State) (b : LineBuf) :
    (State.stash s b).pending = s.pending :=
  by unfold State.stash; (repeat' split) <;> simp

@[simp] theorem State.endChainLine_pending (s : State) (b : LineBuf) (term : Option Byte) :
    (State.endChainLine s b term).pending = s.pending :=
  by unfold State.endChainLine; (repeat' split) <;> simp

@[simp] theorem State.chainEnd_pending (s : State) (e : RxEntry) :
    (State.chainEnd s e).pending = s.pending :=
  by simp only [State.chainEnd]; (repeat' split) <;> simp

@[simp] theorem State.chainChar_pending (s : State) (e : RxEntry) :
    (State.chainChar s e).pending = s.pending :=
  rfl

@[simp] theorem State.chainReceive_pending (s : State) (e : RxEntry) :
    (State.chainReceive s e).pending = s.pending :=
  by simp only [State.chainReceive]; (repeat' split) <;> simp

@[simp] theorem State.irReceive_pending (s : State) (c : Byte) (tags : CharTags) (lastPulse : Tick) :
    (State.irReceive s c tags lastPulse).pending = s.pending :=
  by simp only [State.irReceive]; (repeat' split) <;> simp

@[simp] theorem State.irWave_pending (s : State) (ps : List IrPulse) :
    (State.irWave s ps).pending = s.pending :=
  by unfold State.irWave; (repeat' split) <;> simp

@[simp] theorem State.chainIdle_pending (s : State) :
    (State.chainIdle s).pending = s.pending :=
  by simp only [State.chainIdle]; (repeat' split) <;> simp

@[simp] theorem State.chainBroken_pending (s : State) (e : RxEntry) :
    (State.chainBroken s e).pending = s.pending :=
  by simp only [State.chainBroken]; (repeat' split) <;> simp

@[simp] theorem State.chainWave_pending (s : State) (bits : List RxBit) (mark : Nat) :
    (State.chainWave s bits mark).pending = s.pending :=
  by simp only [State.chainWave]; (repeat' split) <;> simp

theorem execCharacterReceived_pending (port : SerialPort) (wave : RxWave) (mark : Nat) (s : State) :
    ∃ t, execCharacterReceived port wave mark s = .next t ∧ t.pending = s.pending :=
  ⟨_, rfl, by (repeat' split) <;> simp⟩

@[simp] theorem State.irIdle_pending (s : State) :
    (State.irIdle s).pending = s.pending :=
  by simp only [State.irIdle]; (repeat' split) <;> simp

theorem execIdleLine_pending (port : SerialPort) (s : State) :
    ∃ t, execIdleLine port s = .next t ∧ t.pending = s.pending :=
  ⟨_, rfl, by (repeat' split) <;> simp⟩

theorem execCsinChange_pending (driven : Bool) (s : State) :
    ∃ t, execCsinChange driven s = .next t ∧ t.pending = s.pending :=
  ⟨_, rfl, by (repeat' split) <;> simp⟩

theorem execChainBreak_pending (s : State) :
    ∃ t, execChainBreak s = .next t ∧ t.pending = s.pending :=
  ⟨_, rfl, by (repeat' split) <;> simp⟩

theorem execOwnLineSend_pending (s : State) :
    ∃ t, execOwnLineSend s = .next t ∧ t.pending = s.pending := by
  refine ⟨_, rfl, ?_⟩
  extract_lets p
  split
  · rfl
  · split
    · rfl
    · split
      · rfl
      rename_i h _
      exact (State.lineLeaves_pending _ _ _ _).trans ((State.onSerial_pending _ _).trans (State.takeLine_pending _ _ _ _ h))

theorem execChainFormatChange_pending (s : State) :
    ∃ t, execChainFormatChange s = .next t ∧ t.pending = s.pending :=
  ⟨_, rfl, by dsimp only; (repeat' split) <;> simp⟩

@[simp] theorem State.irHoldBack_pending (s : State) :
    (State.irHoldBack s).pending = s.pending :=
  by simp only [State.irHoldBack]; (repeat' split) <;> simp

theorem execIrFlood_pending (microA : Nat) (s : State) :
    ∃ t, execIrFlood microA s = .next t ∧ t.pending = s.pending :=
  ⟨_, rfl, by (repeat' split) <;> simp⟩

theorem execIrFloodEvent_pending (s : State) :
    ∃ t, execIrFloodEvent s = .next t ∧ t.pending = s.pending :=
  ⟨_, rfl, by (repeat' split) <;> simp⟩

theorem execIrTxResume_pending (s : State) :
    ∃ t, execIrTxResume s = .next t ∧ t.pending = s.pending :=
  ⟨_, rfl, by (repeat' split) <;> simp⟩

theorem execIrFault_pending (s : State) :
    ∃ t, execIrFault s = .next t ∧ t.pending = s.pending :=
  ⟨_, rfl, by (repeat' split) <;> simp⟩

@[simp] theorem State.irSend_pending (s : State) (l : OutLine) (cs : List IrChar) (fin : Tick) :
    (State.irSend s l cs fin).pending = s.pending :=
  by simp [State.irSend]

theorem execIrTurnaround_pending (s : State) :
    ∃ t, execIrTurnaround s = .next t ∧ t.pending = s.pending := by
  refine ⟨_, rfl, ?_⟩
  split
  · rfl
  · split
    · split
      · rfl
      · exact State.irSend_pending _ _ _ _
    · split
      · rfl
      · split
        · rfl
        rename_i h _
        exact (State.irSend_pending _ _ _ _).trans (State.takeLine_pending _ _ _ _ h)

@[simp] theorem State.wakeEvent_pending (s : State) (src : SerialPort) :
    (State.wakeEvent s src).pending = s.pending :=
  by unfold State.wakeEvent; (repeat' split) <;> simp

theorem execChainSlowReceiveMatch_pending (line : List Byte) (s : State) :
    ∃ t, execChainSlowReceiveMatch line s = .next t ∧ t.pending = s.pending :=
  ⟨_, rfl, by (repeat' split) <;> simp⟩

theorem execChainStartEdgeWake_pending (s : State) :
    ∃ t, execChainStartEdgeWake s = .next t ∧ t.pending = s.pending :=
  ⟨_, rfl, by (repeat' split) <;> simp⟩

theorem execCsinRiseInWatch_pending (s : State) :
    ∃ t, execCsinRiseInWatch s = .next t ∧ t.pending = s.pending :=
  ⟨_, rfl, by (repeat' split) <;> simp⟩

theorem execIrStartEdgeWake_pending (s : State) :
    ∃ t, execIrStartEdgeWake s = .next t ∧ t.pending = s.pending :=
  ⟨_, rfl, by (repeat' split) <;> simp⟩

theorem execWakeComplete_pending (s : State) :
    ∃ t, execWakeComplete s = .next t ∧ t.pending = s.pending :=
  ⟨_, rfl, by (repeat' split) <;> simp⟩

@[simp] theorem State.consoleIn_pending (s : State) (k : Nat) (payload : List Byte) :
    (State.consoleIn s k payload).pending = s.pending :=
  by simp only [State.consoleIn]; (repeat' split) <;> simp

theorem State.after_pending (s t : State) (o : Host.Outcome State Fault Refusal) (h : ∃ u, o = .next u ∧ u.pending = t.pending)
    (hs : s.pending = t.pending) : (s.after o).pending = t.pending := by
  obtain ⟨u, rfl, hu⟩ := h
  exact hu

@[simp] theorem State.mgmtIn_pending (s : State) (n : Nat) (r : List Byte) :
    (State.mgmtIn s n r).pending = s.pending := by
  unfold State.mgmtIn
  dsimp only
  (repeat' split) <;> first
    | (simp; done)
    | exact State.after_pending _ _ _ (execBlobWrite_pending ..) rfl
    | exact State.after_pending _ _ _ (execBlobRead_pending ..) rfl
    | exact State.after_pending _ _ _ (execTableWrite_pending ..) rfl
    | exact State.after_pending _ _ _ (execMgmtDomeOperation_pending ..) rfl

@[simp] theorem State.joinFrame_pending (s : State) (p key : Nat) (f : Frame) (next : Bool) (payload : List Byte) :
    (State.joinFrame s p key f next payload).1.pending = s.pending :=
  rfl

@[simp] theorem State.frameFails_pending (s : State) (p n : Nat) :
    (State.frameFails s p n).pending = s.pending :=
  by simp only [State.frameFails]; (repeat' split) <;> simp

@[simp] theorem State.streamIn_pending (s : State) (p : Nat) (f : Frame) :
    (State.streamIn s p f).pending = s.pending :=
  by simp only [State.streamIn]; (repeat' split) <;> simp

@[simp] theorem State.towerFrame_pending (s : State) (p : Nat) (f : Frame) :
    (State.towerFrame s p f).pending = s.pending := by
  unfold State.towerFrame
  have h1 := State.towerIn_pending s p f
  extract_lets next r
  split
  · exact h1
  · extract_lets j
    have h2 : j.1.pending = s.pending := (State.joinFrame_pending _ _ _ _ _ _).trans h1
    split
    · exact (State.after_pending _ _ _ (execViewFeatureRecord_pending ..) rfl).trans h2
    · exact h2

@[simp] theorem State.forwardFrame_pending (s : State) (p : Nat) (f : Frame) :
    (State.forwardFrame s p f).pending = s.pending :=
  rfl

@[simp] theorem State.routeFrame_pending (s : State) (p : Nat) (f : Frame) :
    (State.routeFrame s p f).pending = s.pending :=
  by unfold State.routeFrame; (repeat' split) <;> simp

@[simp] theorem State.forwardBad_pending (s : State) (x : RxFrame) (rxSeq : Nat) :
    (State.forwardBad s x rxSeq).pending = s.pending :=
  by simp only [State.forwardBad]; (repeat' split) <;> simp

theorem execFrameReceived_pending (port : Nat) (lanes : List (List Sym)) (ending : Sym) (codeError : Bool) (s : State) :
    ∃ t, execFrameReceived port lanes ending codeError s = .next t ∧ t.pending = s.pending :=
  ⟨_, rfl, by dsimp only; (repeat' split) <;> simp⟩

@[simp] theorem State.bypassIn_pending (s : State) (p : Nat) (x : BypassIn) (m : BMsg) :
    (State.bypassIn s p x m).pending = s.pending := by
  cases m <;> dsimp only [State.bypassIn]
  case mark => split <;> first | exact State.after_pending _ _ _ (execMark_pending ..) rfl | rfl
  case xoff => exact State.after_pending _ _ _ (execXoff_pending ..) rfl
  case xon => exact State.after_pending _ _ _ (execXon_pending ..) rfl
  case addr => exact State.after_pending _ _ _ (execAddr_pending ..) rfl
  case countReq => exact State.after_pending _ _ _ (execCountReq_pending ..) rfl
  case count => exact State.after_pending _ _ _ (execCountReq_pending ..) rfl
  case tmgmt => exact State.after_pending _ _ _ (execTmgmt_pending ..) rfl
  case haltNotice => exact State.after_pending _ _ _ (execHaltNotice_pending ..) rfl
  case openS => split <;> first | exact State.sendBypass_pending _ _ _ | exact State.after_pending _ _ _ (execOpenStream_pending ..) rfl
  case openOk => exact State.after_pending _ _ _ (execOpenOk_pending ..) rfl
  case close => split <;> first | exact State.sendBypass_pending _ _ _ | exact State.after_pending _ _ _ (execCloseStream_pending ..) rfl
  case keyReady => split <;> first | exact State.sendBypass_pending _ _ _ | exact State.after_pending _ _ _ (execKeyReady_pending ..) rfl
  case keyConfirm => split <;> first | exact State.sendBypass_pending _ _ _ | exact State.after_pending _ _ _ (execKeyConfirm_pending ..) rfl
  case keyFail => split <;> first | exact State.sendBypass_pending _ _ _ | exact State.after_pending _ _ _ (execKeyFail_pending ..) rfl

theorem execBypassSetReceived_pending (port : Nat) (x : BypassIn) (s : State) :
    ∃ t, execBypassSetReceived port x s = .next t ∧ t.pending = s.pending :=
  ⟨_, rfl, by (repeat' split) <;> simp⟩

theorem execGetPath_pending (h : Hdr) (p : Path) (s : State) :
    ∃ t, execGetPath h p s = .next t ∧ t.pending = s.pending :=
  ⟨_, rfl, by simp⟩

theorem execSetPath_pending (h : Hdr) (p : Path) (tok : List Char) (s : State) :
    ∃ t, execSetPath h p tok s = .next t ∧ t.pending = s.pending :=
  ⟨_, rfl, by simp⟩

theorem execShowPath_pending (h : Hdr) (p : Path) (s : State) :
    ∃ t, execShowPath h p s = .next t ∧ t.pending = s.pending :=
  ⟨_, rfl, by simp⟩

theorem execWatchPath_pending (h : Hdr) (p : Path) (a : WatchArg) (s : State) :
    ∃ t, execWatchPath h p a s = .next t ∧ t.pending = s.pending :=
  ⟨_, rfl, by simp⟩

theorem execHelpPath_pending (h : Hdr) (p : Option Path) (s : State) :
    ∃ t, execHelpPath h p s = .next t ∧ t.pending = s.pending :=
  ⟨_, rfl, by simp⟩

theorem execLoginChallenge_pending (h : Hdr) (n : Int) (s : State) :
    ∃ t, execLoginChallenge h n s = .next t ∧ t.pending = s.pending :=
  ⟨_, rfl, by simp⟩

theorem execLoginResponse_pending (h : Hdr) (n : Int) (r : LoginIn) (s : State) :
    ∃ t, execLoginResponse h n r s = .next t ∧ t.pending = s.pending :=
  ⟨_, rfl, by simp⟩

theorem execLoginPin_pending (h : Hdr) (n : Int) (digits : List Char) (s : State) :
    ∃ t, execLoginPin h n digits s = .next t ∧ t.pending = s.pending :=
  ⟨_, rfl, by simp⟩

theorem execLogout_pending (h : Hdr) (s : State) :
    ∃ t, execLogout h s = .next t ∧ t.pending = s.pending :=
  ⟨_, rfl, by simp⟩

theorem execAbort_pending (h : Hdr) (a : AbortArg) (s : State) :
    ∃ t, execAbort h a s = .next t ∧ t.pending = s.pending :=
  ⟨_, rfl, by simp⟩

theorem execChainFormatSet_pending (h : Hdr) (k : Key) (v : Val) (s : State) :
    ∃ t, execChainFormatSet h k v s = .next t ∧ t.pending = s.pending :=
  ⟨_, rfl, by simp⟩

theorem execDoSysRun_pending (h : Hdr) (s : State) :
    ∃ t, execDoSysRun h s = .next t ∧ t.pending = s.pending :=
  ⟨_, rfl, by simp⟩

theorem execDoSysStop_pending (h : Hdr) (s : State) :
    ∃ t, execDoSysStop h s = .next t ∧ t.pending = s.pending :=
  ⟨_, rfl, by simp⟩

theorem execDoSysWatch_pending (h : Hdr) (s : State) :
    ∃ t, execDoSysWatch h s = .next t ∧ t.pending = s.pending :=
  ⟨_, rfl, by simp⟩

theorem execDoSysHalt_pending (h : Hdr) (s : State) :
    ∃ t, execDoSysHalt h s = .next t ∧ t.pending = s.pending :=
  ⟨_, rfl, by simp⟩

theorem execShowSysHalt_pending (h : Hdr) (s : State) :
    ∃ t, execShowSysHalt h s = .next t ∧ t.pending = s.pending :=
  ⟨_, rfl, by simp⟩

theorem execDoSysRestart_pending (h : Hdr) (r : RestartIn) (s : State) :
    ∃ t, execDoSysRestart h r s = .next t ∧ t.pending = s.pending :=
  ⟨_, rfl, by simp⟩

theorem execNvCheckpointSet_pending (h : Hdr) (k : Key) (v : Val) (s : State) :
    ∃ t, execNvCheckpointSet h k v s = .next t ∧ t.pending = s.pending :=
  ⟨_, rfl, by simp⟩

theorem execDoNvCheckpoint_pending (h : Hdr) (s : State) :
    ∃ t, execDoNvCheckpoint h s = .next t ∧ t.pending = s.pending :=
  ⟨_, rfl, by simp⟩

theorem execDoNvSave_pending (h : Hdr) (s : State) :
    ∃ t, execDoNvSave h s = .next t ∧ t.pending = s.pending :=
  ⟨_, rfl, by simp⟩

theorem execDoNvVerify_pending (h : VerifyIn) (s : State) :
    ∃ t, execDoNvVerify h s = .next t ∧ t.pending = s.pending :=
  ⟨_, rfl, by simp⟩

theorem execIslandGateSet_pending (h : Hdr) (k : Key) (v : Val) (s : State) :
    ∃ t, execIslandGateSet h k v s = .next t ∧ t.pending = s.pending :=
  ⟨_, rfl, by simp⟩

theorem execEnumerate_pending (h : Hdr) (n : Option Nat) (s : State) :
    ∃ t, execEnumerate h n s = .next t ∧ t.pending = s.pending :=
  ⟨_, rfl, by simp⟩

theorem execDoTowerPromote_pending (h : Hdr) (s : State) :
    ∃ t, execDoTowerPromote h s = .next t ∧ t.pending = s.pending :=
  ⟨_, rfl, by simp⟩

theorem execStreamRateSet_pending (h : Hdr) (k : Key) (v : Val) (s : State) :
    ∃ t, execStreamRateSet h k v s = .next t ∧ t.pending = s.pending :=
  ⟨_, rfl, by simp⟩

theorem execLinkHeadroomSet_pending (h : Hdr) (k : Key) (v : Val) (s : State) :
    ∃ t, execLinkHeadroomSet h k v s = .next t ∧ t.pending = s.pending :=
  ⟨_, rfl, by simp⟩

theorem execFeedTargetUnitSet_pending (h : Hdr) (k : Key) (v : Val) (s : State) :
    ∃ t, execFeedTargetUnitSet h k v s = .next t ∧ t.pending = s.pending :=
  ⟨_, rfl, by simp⟩

theorem execFeedCurrentSet_pending (h : Hdr) (k : Key) (v : Val) (s : State) :
    ∃ t, execFeedCurrentSet h k v s = .next t ∧ t.pending = s.pending :=
  ⟨_, rfl, by simp⟩

theorem execCaptureMarkSet_pending (h : Hdr) (k : Key) (v : Val) (s : State) :
    ∃ t, execCaptureMarkSet h k v s = .next t ∧ t.pending = s.pending :=
  ⟨_, rfl, by simp⟩

theorem execDoFeedPause_pending (h : Hdr) (s : State) :
    ∃ t, execDoFeedPause h s = .next t ∧ t.pending = s.pending :=
  ⟨_, rfl, by simp⟩

theorem execDoFeedResume_pending (h : Hdr) (s : State) :
    ∃ t, execDoFeedResume h s = .next t ∧ t.pending = s.pending :=
  ⟨_, rfl, by simp⟩

theorem execLanternStagedSet_pending (h : Hdr) (k : Key) (v : Val) (s : State) :
    ∃ t, execLanternStagedSet h k v s = .next t ∧ t.pending = s.pending :=
  ⟨_, rfl, by simp⟩

theorem execDoLanternCommit_pending (h : Hdr) (s : State) :
    ∃ t, execDoLanternCommit h s = .next t ∧ t.pending = s.pending :=
  ⟨_, rfl, by simp⟩

theorem execHeadExpectTypeSet_pending (h : Hdr) (k : Key) (v : Val) (s : State) :
    ∃ t, execHeadExpectTypeSet h k v s = .next t ∧ t.pending = s.pending :=
  ⟨_, rfl, by simp⟩

theorem execDoShadeCalibrate_pending (h : Hdr) (s : State) :
    ∃ t, execDoShadeCalibrate h s = .next t ∧ t.pending = s.pending :=
  ⟨_, rfl, by simp⟩

theorem execClassStagedSet_pending (h : Hdr) (k : Key) (v : Val) (s : State) :
    ∃ t, execClassStagedSet h k v s = .next t ∧ t.pending = s.pending :=
  ⟨_, rfl, by simp⟩

theorem execDoClassCommit_pending (h : Hdr) (s : State) :
    ∃ t, execDoClassCommit h s = .next t ∧ t.pending = s.pending :=
  ⟨_, rfl, by simp⟩

theorem execDoValveTest_pending (h : Hdr) (mm : Nat) (ms6 : Int) (s : State) :
    ∃ t, execDoValveTest h mm ms6 s = .next t ∧ t.pending = s.pending :=
  ⟨_, rfl, by simp⟩

theorem execValveSettingSet_pending (h : Hdr) (k : Key) (v : Val) (s : State) :
    ∃ t, execValveSettingSet h k v s = .next t ∧ t.pending = s.pending :=
  ⟨_, rfl, by simp⟩

theorem execPeakShareSet_pending (h : Hdr) (k : Key) (v : Val) (s : State) :
    ∃ t, execPeakShareSet h k v s = .next t ∧ t.pending = s.pending :=
  ⟨_, rfl, by simp⟩

theorem execPeakBudgetSet_pending (h : Hdr) (k : Key) (v : Val) (s : State) :
    ∃ t, execPeakBudgetSet h k v s = .next t ∧ t.pending = s.pending :=
  ⟨_, rfl, by simp⟩

theorem execDoSeqNow_pending (h : Hdr) (e : Nat) (s : State) :
    ∃ t, execDoSeqNow h e s = .next t ∧ t.pending = s.pending :=
  ⟨_, rfl, by simp⟩

theorem execSeqStagedSet_pending (h : Hdr) (k : Key) (v : Val) (s : State) :
    ∃ t, execSeqStagedSet h k v s = .next t ∧ t.pending = s.pending :=
  ⟨_, rfl, by simp⟩

theorem execDoSeqCommit_pending (h : Hdr) (s : State) :
    ∃ t, execDoSeqCommit h s = .next t ∧ t.pending = s.pending :=
  ⟨_, rfl, by simp⟩

theorem execDoCheckRun_pending (h : Hdr) (c : CheckKind) (s : State) :
    ∃ t, execDoCheckRun h c s = .next t ∧ t.pending = s.pending :=
  ⟨_, rfl, by simp⟩

theorem execCheckIntervalSet_pending (h : Hdr) (k : Key) (v : Val) (s : State) :
    ∃ t, execCheckIntervalSet h k v s = .next t ∧ t.pending = s.pending :=
  ⟨_, rfl, by simp⟩

theorem execLoopQuantitySet_pending (h : Hdr) (k : Key) (v : Val) (s : State) :
    ∃ t, execLoopQuantitySet h k v s = .next t ∧ t.pending = s.pending :=
  ⟨_, rfl, by simp⟩

theorem execDoMemRekey_pending (h : Hdr) (n : Nat) (r : Region) (s : State) :
    ∃ t, execDoMemRekey h n r s = .next t ∧ t.pending = s.pending :=
  ⟨_, rfl, by simp⟩

theorem execDoTurretCreate_pending (h : Hdr) (n : Int) (s : State) :
    ∃ t, execDoTurretCreate h n s = .next t ∧ t.pending = s.pending :=
  ⟨_, rfl, by simp⟩

theorem execDoTurretClaim_pending (h : Hdr) (n : Nat) (key : List Byte) (s : State) :
    ∃ t, execDoTurretClaim h n key s = .next t ∧ t.pending = s.pending :=
  ⟨_, rfl, by simp⟩

theorem execGetKeyNonce_pending (h : Hdr) (s : State) :
    ∃ t, execGetKeyNonce h s = .next t ∧ t.pending = s.pending :=
  ⟨_, rfl, by simp⟩

theorem execDoKeyImport_pending (h : Hdr) (slot b : Int) (s : State) :
    ∃ t, execDoKeyImport h slot b s = .next t ∧ t.pending = s.pending :=
  ⟨_, rfl, by simp⟩

theorem execDoKeyErase_pending (h : Hdr) (slot : Int) (s : State) :
    ∃ t, execDoKeyErase h slot s = .next t ∧ t.pending = s.pending :=
  ⟨_, rfl, by simp⟩

theorem execDoBlobWrite_pending (h : Hdr) (b off : Int) (data : List Byte) (s : State) :
    ∃ t, execDoBlobWrite h b off data s = .next t ∧ t.pending = s.pending :=
  ⟨_, rfl, by simp⟩

theorem execDoBlobRead_pending (h : Hdr) (b off len : Int) (s : State) :
    ∃ t, execDoBlobRead h b off len s = .next t ∧ t.pending = s.pending :=
  ⟨_, rfl, by simp⟩

theorem execDoBlobClear_pending (h : Hdr) (b : Int) (s : State) :
    ∃ t, execDoBlobClear h b s = .next t ∧ t.pending = s.pending :=
  ⟨_, rfl, by simp⟩

theorem execXrangeSet_pending (h : Hdr) (k : Key) (v : Val) (s : State) :
    ∃ t, execXrangeSet h k v s = .next t ∧ t.pending = s.pending :=
  ⟨_, rfl, by simp⟩

theorem execAssignmentSet_pending (h : Hdr) (k : Key) (v : Val) (s : State) :
    ∃ t, execAssignmentSet h k v s = .next t ∧ t.pending = s.pending :=
  ⟨_, rfl, by simp⟩

theorem execDoTurretRevoke_pending (h : Hdr) (n : Int) (s : State) :
    ∃ t, execDoTurretRevoke h n s = .next t ∧ t.pending = s.pending :=
  ⟨_, rfl, by simp⟩

theorem execDoTurretRestore_pending (h : Hdr) (n : Int) (s : State) :
    ∃ t, execDoTurretRestore h n s = .next t ∧ t.pending = s.pending :=
  ⟨_, rfl, by simp⟩

theorem execDoTurretDestroy_pending (h : Hdr) (n : Int) (s : State) :
    ∃ t, execDoTurretDestroy h n s = .next t ∧ t.pending = s.pending :=
  ⟨_, rfl, by simp⟩

theorem execDoSysSeal_pending (h : Hdr) (b : Int) (s : State) :
    ∃ t, execDoSysSeal h b s = .next t ∧ t.pending = s.pending :=
  ⟨_, rfl, by simp⟩

theorem execDoSysUnseal_pending (h : Hdr) (s : State) :
    ∃ t, execDoSysUnseal h s = .next t ∧ t.pending = s.pending :=
  ⟨_, rfl, by simp⟩

theorem execDoStreamNext_pending (h : Hdr) (n : Nat) (s : State) :
    ∃ t, execDoStreamNext h n s = .next t ∧ t.pending = s.pending :=
  ⟨_, rfl, by simp⟩

theorem execDoDomeDigHash_pending (h : Hdr) (alg : DigAlg) (k : Option Nat) (b off len : Int) (out : Option (Int × Int)) (s : State) :
    ∃ t, execDoDomeDigHash h alg k b off len out s = .next t ∧ t.pending = s.pending :=
  ⟨_, rfl, by simp⟩

theorem execDoDomeDigStart_pending (h : Hdr) (alg : DigAlg) (k : Option Nat) (s : State) :
    ∃ t, execDoDomeDigStart h alg k s = .next t ∧ t.pending = s.pending :=
  ⟨_, rfl, by simp⟩

theorem execDoDomeDigUpdate_pending (h : Hdr) (hd b off len : Int) (s : State) :
    ∃ t, execDoDomeDigUpdate h hd b off len s = .next t ∧ t.pending = s.pending :=
  ⟨_, rfl, by simp⟩

theorem execDoDomeDigFinal_pending (h : Hdr) (hd : Int) (out : Option (Int × Int)) (s : State) :
    ∃ t, execDoDomeDigFinal h hd out s = .next t ∧ t.pending = s.pending :=
  ⟨_, rfl, by simp⟩

theorem execDoDomeDigDrop_pending (h : Hdr) (hd : Int) (s : State) :
    ∃ t, execDoDomeDigDrop h hd s = .next t ∧ t.pending = s.pending :=
  ⟨_, rfl, by simp⟩

theorem execDoDomeDigTable_pending (h : Hdr) (head slot : Nat) (s : State) :
    ∃ t, execDoDomeDigTable h head slot s = .next t ∧ t.pending = s.pending :=
  ⟨_, rfl, by simp⟩

theorem execDoDomePkeSign_pending (h : Hdr) (k b : Int) (s : State) :
    ∃ t, execDoDomePkeSign h k b s = .next t ∧ t.pending = s.pending :=
  ⟨_, rfl, by simp⟩

theorem execDoDomePkeVerify_pending (h : Hdr) (c : Curve) (b : Int) (s : State) :
    ∃ t, execDoDomePkeVerify h c b s = .next t ∧ t.pending = s.pending :=
  ⟨_, rfl, by simp⟩

theorem execDoDomePkeKeygen_pending (h : Hdr) (c : Curve) (k : Int) (s : State) :
    ∃ t, execDoDomePkeKeygen h c k s = .next t ∧ t.pending = s.pending :=
  ⟨_, rfl, by simp⟩

theorem execDoDomePkeEcdh_pending (h : Hdr) (k b : Int) (k2 : Option Int) (s : State) :
    ∃ t, execDoDomePkeEcdh h k b k2 s = .next t ∧ t.pending = s.pending :=
  ⟨_, rfl, by simp⟩

theorem execDoDomePkePublic_pending (h : Hdr) (k : Int) (s : State) :
    ∃ t, execDoDomePkePublic h k s = .next t ∧ t.pending = s.pending :=
  ⟨_, rfl, by simp⟩

theorem execDoDomePkeDiag_pending (h : Hdr) (b : Int) (s : State) :
    ∃ t, execDoDomePkeDiag h b s = .next t ∧ t.pending = s.pending :=
  ⟨_, rfl, by simp⟩

theorem execDoDomeRngFill_pending (h : Hdr) (b off len : Int) (s : State) :
    ∃ t, execDoDomeRngFill h b off len s = .next t ∧ t.pending = s.pending :=
  ⟨_, rfl, by simp⟩

@[simp] theorem State.tickOn_pending (s : State) :
    (State.tickOn s).pending = s.pending :=
  by unfold State.tickOn; (repeat' split) <;> simp

@[simp] theorem State.timePasses_pending (s : State) :
    (State.timePasses s).pending = s.pending := by
  unfold State.timePasses; simp

end Sys2Proof.Machine
end

