-- ==== Sys2Proof/WellFormed.lean ====
section
/-! DEFINITION. The well-formed commands: those whose operands name something the block has. -/

namespace Sys2Proof

/-- A line's header that a session can carry: session 0 to 3, address 1 to 32, tag 0 to 999 (Table 4-1, R169). -/
def Hdr.wf (h : Hdr) : Bool :=
  decide (h.sess < 4) &&
  (match h.addr with
   | .absent => true
   | .all => true
   | .num n => decide (1 ≤ n) && decide (n ≤ 32)) &&
  (match h.tag with
   | none => true
   | some t => decide (t < 1000))

/-- A command whose operands name something the block has: a port, a head, a bank, a session, a valve, a phase, an
entry, a pin, a stream, a slot, a turret, a lane, a loop. -/
def Instr.wf (i : Instr) : Bool :=
  match i with
  | .l24Valid _ _ => true
  | .l24Lost => true
  | .l24Removed => true
  | .holdupCharged => true
  | .l24High => true
  | .p24Low => true
  | .p24Ok => true
  | .p24High _ => true
  | .p24OvervoltageClear => true
  | .tamperMeshBreak => true
  | .haltAnnounce => true
  | .junctionReading _ => true
  | .hpresLow head => decide (head < 2)
  | .headIdentityRead head _ _ => decide (head < 2)
  | .hpresHigh head => decide (head < 2)
  | .headSupplyOverload head => decide (head < 2)
  | .valveOpenCommon bank => decide (bank < 2)
  | .valveShortReturn bank => decide (bank < 2)
  | .csinChange _ => true
  | .referenceStable => true
  | .rngStartupTest _ => true
  | .epochCommit _ => true
  | .startComplete => true
  | .islandAutoGate isl => decide (isl = 5 ∨ isl = 6)
  | .handshakeWatchdog _ _ => true
  | .i25Reset => true
  | .i25RestartDone => true
  | .ledgerGrant => true
  | .ledgerDeadline => true
  | .ledgerP24Check _ => true
  | .getPath h _ => Hdr.wf h
  | .setPath h _ _ => Hdr.wf h
  | .showPath h _ => Hdr.wf h
  | .watchPath h _ _ => Hdr.wf h
  | .watchPeriod sess _ => decide (sess < 4)
  | .helpPath h _ => Hdr.wf h
  | .loginChallenge h _ => Hdr.wf h
  | .loginResponse h _ _ => Hdr.wf h
  | .loginPin h _ _ => Hdr.wf h
  | .logout h => Hdr.wf h
  | .abort h _ => Hdr.wf h
  | .untaggedLineStart sess => decide (sess < 4)
  | .challengeExpiry sess => decide (sess < 4)
  | .sessionIdleTimeout sess => decide (sess < 4)
  | .lockoutExpiry _ => true
  | .pinLockoutExpiry n => decide (n < 64)
  | .characterReceived _ _ _ => true
  | .idleLine _ => true
  | .chainBreak => true
  | .ownLineSend => true
  | .chainFormatSet h _ _ => Hdr.wf h
  | .chainFormatChange => true
  | .irFlood _ => true
  | .irFloodEvent => true
  | .irTxResume => true
  | .irFault => true
  | .chainSlowReceiveMatch _ => true
  | .chainStartEdgeWake => true
  | .csinRiseInWatch => true
  | .irStartEdgeWake => true
  | .wakeComplete => true
  | .doSysRun h => Hdr.wf h
  | .doSysStop h => Hdr.wf h
  | .doSysWatch h => Hdr.wf h
  | .watchEntryComplete => true
  | .doSysHalt h => Hdr.wf h
  | .showSysHalt h => Hdr.wf h
  | .doSysRestart h _ => Hdr.wf h
  | .recordWriteStart => true
  | .flashOpComplete => true
  | .supersededSlotErase _ => true
  | .recordRepair _ => true
  | .checkpointDue => true
  | .nvCheckpointSet h _ _ => Hdr.wf h
  | .doNvCheckpoint h => Hdr.wf h
  | .doNvSave h => Hdr.wf h
  | .doNvVerify h => Hdr.wf h.hdr
  | .islandGateSet h _ _ => Hdr.wf h
  | .enumerate h _ => Hdr.wf h
  | .towerDuplicateCheck _ => true
  | .spireCountStep _ => true
  | .lineMarkSend => true
  | .mark _ _ _ _ => true
  | .markLineStart => true
  | .markMissing => true
  | .spireLoss => true
  | .spireLostTimeout => true
  | .noMarksAfterTraining => true
  | .doTowerPromote h => Hdr.wf h
  | .linkBeacon port => decide (port < 2)
  | .ts1 port _ => decide (port < 2)
  | .training port _ => decide (port < 2)
  | .trainingTimeout port => decide (port < 2)
  | .trainingComplete port _ => decide (port < 2)
  | .frameReceived port _ _ _ => decide (port < 2)
  | .frameTransmit port => decide (port < 2)
  | .ack port _ => decide (port < 2)
  | .nak port _ => decide (port < 2)
  | .replayTimer port => decide (port < 2)
  | .bypassSetReceived port _ => decide (port < 2)
  | .xoff port => decide (port < 2)
  | .xon port => decide (port < 2)
  | .receiveBufferThreshold port _ => decide (port < 2)
  | .linkStalled port => decide (port < 2)
  | .addr port _ => decide (port < 2)
  | .countReq port _ _ => decide (port < 2)
  | .tmgmt port _ => decide (port < 2)
  | .haltNotice _ => true
  | .openStream _ => true
  | .openOk _ => true
  | .closeStream stream _ _ => decide (stream < 256)
  | .keyReady _ => true
  | .keyConfirm _ => true
  | .keyFail stream _ _ => decide (stream < 256)
  | .keyReadyRetry stream => decide (stream < 256)
  | .rekeyWindowEnd stream => decide (stream < 256)
  | .laneErrorLimit port lane _ => decide (port < 2) && decide (lane < 5)
  | .repl port _ => decide (port < 2)
  | .width port _ => decide (port < 2)
  | .laneChangeComplete port _ => decide (port < 2)
  | .lockTimeout port => decide (port < 2)
  | .haltSet port _ => decide (port < 2)
  | .streamRateSet h _ _ => Hdr.wf h
  | .linkHeadroomSet h _ _ => Hdr.wf h
  | .stepperSpeedStep => true
  | .rateLoopStep => true
  | .ejectCapacityUpdate => true
  | .feedTargetUnitSet h _ _ => Hdr.wf h
  | .feedCurrentSet h _ _ => Hdr.wf h
  | .captureMarkSet h _ _ => Hdr.wf h
  | .doFeedPause h => Hdr.wf h
  | .doFeedResume h => Hdr.wf h
  | .rollStandstill => true
  | .rampReachesTarget => true
  | .segmentOpen => true
  | .segmentClose => true
  | .clearTimeout => true
  | .segmentForcedClose => true
  | .feedStall => true
  | .feedCoilFault _ => true
  | .lineCycleStart => true
  | .phaseSlotStart phase => decide (phase < 6)
  | .lanternPulseEnd phase _ => decide (phase < 6)
  | .readoutComplete head phase _ => decide (head < 2) && decide (phase < 6)
  | .lanternStagedSet h _ _ => Hdr.wf h
  | .doLanternCommit h => Hdr.wf h
  | .headExpectTypeSet h _ _ => Hdr.wf h
  | .doShadeCalibrate h => Hdr.wf h
  | .shadeCaptureDone _ => true
  | .lineClassify => true
  | .objectDecide => true
  | .deciderPosition => true
  | .matchStoreExpiry => true
  | .viewFeatureRecord _ => true
  | .viewWaitEnd => true
  | .statPeriod turret => decide (turret < 64)
  | .classStagedSet h _ _ => Hdr.wf h
  | .doClassCommit h => Hdr.wf h
  | .valveRequestFile mm => decide (mm < 64)
  | .valveActionStart mm => decide (mm < 64)
  | .valvePeakEnd mm _ => decide (mm < 64)
  | .valveActionEnd mm => decide (mm < 64)
  | .valveFaultLatch mm _ => decide (mm < 64)
  | .doValveTest h mm _ => Hdr.wf h && decide (mm < 64)
  | .valveSettingSet h _ _ => Hdr.wf h
  | .peakShareSet h _ _ => Hdr.wf h
  | .peakBudgetSet h _ _ => Hdr.wf h
  | .seqFrameStart => true
  | .seqSlotStart slot => decide (slot < 16)
  | .seqSettleEnd => true
  | .seqResult _ => true
  | .seqDelayEnd turret => decide (turret < 64)
  | .doSeqNow h e => Hdr.wf h && decide (e < 32)
  | .loopReadbackDue n _ _ => (decide (n = 1 ∨ n = 2))
  | .seqStagedSet h _ _ => Hdr.wf h
  | .doSeqCommit h => Hdr.wf h
  | .doCheckRun h _ => Hdr.wf h
  | .checkInterval => true
  | .checkIntervalSet h _ _ => Hdr.wf h
  | .fePinOver pin => decide (pin < 16)
  | .fePinRecover pin => decide (pin < 16)
  | .excLimit entry => decide (entry < 32)
  | .excRequestRefile => true
  | .loopSample n => (decide (n = 1 ∨ n = 2))
  | .loopSaturation n => (decide (n = 1 ∨ n = 2))
  | .loopHeadroomFault n => (decide (n = 1 ∨ n = 2))
  | .loopHeadroomOk n => (decide (n = 1 ∨ n = 2))
  | .loopQuantitySet h _ _ => Hdr.wf h
  | .memRead requester owner _ _ => decide (requester.island < 28) && decide (owner < 65)
  | .memWrite requester owner _ _ _ _ => decide (requester.island < 28) && decide (owner < 65)
  | .tagCheckComplete requester _ => decide (requester < 28)
  | .doMemRekey h _ _ => Hdr.wf h
  | .rekeyPass => true
  | .scrubPass _ _ => true
  | .doTurretCreate h _ => Hdr.wf h
  | .doTurretClaim h n _ => Hdr.wf h && decide (n < 64)
  | .getKeyNonce h => Hdr.wf h
  | .keyNonceExpiry sess => decide (sess < 4)
  | .doKeyImport h _ _ => Hdr.wf h
  | .doKeyErase h _ => Hdr.wf h
  | .doBlobWrite h _ _ _ => Hdr.wf h
  | .doBlobRead h _ _ _ => Hdr.wf h
  | .doBlobClear h _ => Hdr.wf h
  | .xrangeSet h _ _ => Hdr.wf h
  | .assignmentSet h _ _ => Hdr.wf h
  | .doTurretRevoke h _ => Hdr.wf h
  | .doTurretRestore h _ => Hdr.wf h
  | .doTurretDestroy h _ => Hdr.wf h
  | .doSysSeal h _ => Hdr.wf h
  | .doSysUnseal h => Hdr.wf h
  | .doStreamNext h s => Hdr.wf h && decide (s < 256)
  | .blobWrite stream _ _ _ _ => decide (stream < 256)
  | .blobRead stream _ _ _ _ => decide (stream < 256)
  | .tableWrite stream _ head slot _ _ => decide (stream < 256) && decide (head < 2) && decide (slot < 4)
  | .mgmtDomeOperation stream _ _ => decide (stream < 256)
  | .domeFrameStart => true
  | .doDomeDigHash h _ _ _ _ _ _ => Hdr.wf h
  | .doDomeDigStart h _ _ => Hdr.wf h
  | .doDomeDigUpdate h _ _ _ _ => Hdr.wf h
  | .doDomeDigFinal h _ _ => Hdr.wf h
  | .doDomeDigDrop h _ => Hdr.wf h
  | .doDomeDigTable h head slot => Hdr.wf h && decide (head < 2) && decide (slot < 4)
  | .digestJobComplete _ => true
  | .doDomePkeSign h _ _ => Hdr.wf h
  | .doDomePkeVerify h _ _ => Hdr.wf h
  | .doDomePkeKeygen h _ _ => Hdr.wf h
  | .doDomePkeEcdh h _ _ _ => Hdr.wf h
  | .doDomePkePublic h _ => Hdr.wf h
  | .pkeOperationComplete _ => true
  | .doDomePkeDiag h _ => Hdr.wf h
  | .doDomeRngFill h _ _ _ => Hdr.wf h
  | .rngReseed => true
  | .rngHealthFail => true
  | .rngRetest _ => true
  | .l24FlashLevel _ => true
  | .holdupExhausted => true
  | .irTurnaround => true

end Sys2Proof
end

