-- ==== Sys2Proof/Tests/Slice0.lean ====
section
/-! SUPPORT. Tests of the model: ill-formed commands that the check refuses, effects of single commands, and for every statement
states and operands that meet the hypotheses of each of its clauses together. -/

open Sys2Proof Sys2Proof.Machine

namespace Sys2Proof.Tests

set_option Elab.async false

/-! ## Small states -/

/-- An untagged line of the chain session. -/
abbrev ln : Hdr := { sess := 0 }
/-- A login key of the tests. -/
abbrev loginKey : KeySlot := ⟨.login, List.replicate 32 0x11⟩
/-- A claimed turret with a login key. -/
abbrev claimed : Turret := { state := .claimed, slots := [(1, loginKey)] }
/-- READY with every supply, sessions 0 and 1 open and session 0 logged in to a turret; turret 0 and 1 claimed, 2 created and 3 revoked. -/
def tur (n : Nat) : State := { State.reset with
  pwr := { l24Valid := true, above19 := true, holdCharged := true, logicOn := true, csin := true }
  sys := { state := .ready, refOn := true, step := 14, tick := 1000000000, epoch := 1 }
  sess := [(0, { isOpen := true, login := some n }), (1, { isOpen := true })]
  tower := { addr := 1 }
  turrets := [(0, claimed), (1, claimed), (2, { state := .created }), (3, { state := .revoked })] }
/-- The Keep's. -/
abbrev keep : State := tur 0
/-- A state in another state of the module. -/
abbrev mode (m : MState) (s : State) : State := { s with sys := { s.sys with state := m } }
/-- A state with a setting written. -/
abbrev num (x : Setting) (v : Int) (s : State) (i : Nat := 0) (j : Nat := 0) : State := s.setVal ⟨x, i, j⟩ (.num v)
/-- A halted module. -/
def halted : State := { mode .halted keep with
  sys := { (mode .halted keep).sys with halt := some { cause := 10, tick := 5, challenge := some 7 } }
  sess := [(0, { isOpen := true })]
  nv := { recs := [(1, { a := ⟨.valid, some 0, .keystore ⟨.opn, [(0, claimed)]⟩, false, 0⟩, b := Slot.init, cur := some false, state := .ok })] } }
/-- One bit of a chain character, sampled alike three times. -/
abbrev rxBit (b : Bool) : RxBit := ⟨b, b, b⟩
/-- A byte on the chain, with 8 data bits, no parity and a stop bit. -/
def wave (c : Byte) : List RxBit := rxBit false :: (List.range 8).map (fun i => rxBit (c.getLsbD i)) ++ [rxBit true]
/-- A byte at the IR receiver at 9 600 baud: a pulse of 1.6 µs for its start bit and for every 0. -/
def irWave (c : Byte) : List IrPulse :=
  ⟨0, 160⟩ :: (((List.range 8).filter fun i => !c.getLsbD i).map fun i => ⟨(i + 1) * 10417, 160⟩)
/-- `HELP` as it has arrived. -/
abbrev helpLine : LineBuf := { entries := [⟨0x48, {}, false⟩, ⟨0x45, {}, false⟩, ⟨0x4C, {}, false⟩, ⟨0x50, {}, false⟩], head := [0x48, 0x45, 0x4C], count := 4, fate := .execute }
/-- A control set on every lane on which a port takes it. -/
abbrev onLanes (q : Port) (k : Byte) (d : List Byte) : List LaneSet := q.ctrlOut k d
/-- A TIME exchange as the downstream end sees it: 20/16 tick there and back, of which the other end held it for 4. -/
def timed : Exchange := ⟨1600, 1620, ctrlLayout 0x12 ([1] ++ beBytes 8 1600 ++ beBytes 3 4)⟩
/-- A TIME exchange as the upstream end sees it. -/
def asked : Exchange := ⟨1620, 1600, ctrlLayout 0x12 ([0] ++ beBytes 8 7 ++ beBytes 3 0)⟩
/-- The echoes to so many of them. -/
def echoes (n : Nat) : List LinkOut :=
  (List.replicate n asked).filterMap fun x => x.request.map fun t => LinkOut.time true t ((x.left16 - x.came16) % 2 ^ 24)
theorem echoes_length : (echoes 64).length = 64 := by decide +kernel
theorem exchanged_asked (h : Nat) : exchanged 1 64 (List.replicate 64 asked) h = some (echoes 64, h) := by
  simp only [exchanged, Nat.one_ne_zero, if_false]
  rw [if_pos ⟨List.length_replicate, echoes_length⟩]
  simp only [echoes]
/-- A free-running module of address 2, one of whose marks is due. -/
abbrev follower (t : Tower) : State := { keep with tower := { t with addr := 2, period := 10000, markStart := some 5 } }
/-- A frame on the one lane of a link of width 1. -/
abbrev frameLanes (f : Frame) (seq : Nat) : List (List Sym) := [kSof :: (f.wire seq).map Sym.d]
/-- A port that is up with a width of 1. -/
abbrev upPort : Port := { state := .up, width := 1, map := [0] }
/-- The deficits after a port has served a class. -/
def afterServe (s : State) (p : Nat) : SMap Int :=
  ((s.serve p ((s.offers p).filter fun o => (s.getPort p).mayStart s.sys.tick o.2)).map (·.2)).getD []
/-- A module whose WATCH entry waits for nothing. -/
def watching : State := { keep with sys := { keep.sys with watchEntry := true } }
/-- A head that has been identified: one tap of 512 columns. -/
abbrev someIdent : Ident := ⟨1, 512, 16, 16, 8, true, true, true, 0, 100, [0, 0, 0, 0], 400, ['E', 'C'], ['1']⟩
/-- A line plan of one phase. -/
abbrev somePlan : Plan := ⟨1000, 1, [1, 0, 0, 0, 0, 0], [1000000, 0, 0, 0, 0, 0], [1000000, 0, 0, 0, 0, 0], [100000, 0, 0, 0, 0, 0]⟩
/-- A module that may enter RUN: head A is configured and READY, and a plan is committed. -/
def canRun : State := { num .headEnable 1 keep with
  heads := [(0, { present := true, state := .ready, v5 := 360, v12 := true, ident := some someIdent })]
  lantern := { plan := some somePlan, committed := true } }
/-- A record of 300 000 000 bytes. -/
def bigData : List Byte := List.replicate 300000000 0
theorem bigData_length : bigData.length = 300000000 := List.length_replicate
/-- A capture buffer above its pause mark. -/
theorem bigFill {u : State} (h : u.capture = { recs := [⟨0, 0, bigData, 0⟩] }) (hm : u.int .capturePauseMark = 80000000) :
    u.int .capturePauseMark < u.fill6 := by
  have e : u.capture.used = 300000000 := by
    simp only [Capture.used, h, List.map_cons, List.map_nil, List.sum_cons, List.sum_nil, bigData_length, Nat.add_zero]
  rw [hm, State.fill6, e]
  decide
/-- An answer waits to be sent on a session. -/
def lineWaits (k : Nat) : State := { keep with sess := [(k, { isOpen := true, out := [{ addr := none, tag := none, body := .ok [] }] })] }
/-- Where a `DO` of session 0 is answered. -/
abbrev r0 : ReplyTo := ⟨0, none, false, some 0, 0⟩
/-- `DO seq.1.now` waits for its pass. -/
def aborting : State := { keep with
  sess := [(0, { isOpen := true, login := some 0, running := some (.seqNow 1, r0) })]
  fe := { urgents := [{ entry := 1, turret := 0, trig := false, replies := [r0] }] } }
/-- `DO valve.03.test` has started its action. -/
def testing : State := { keep with
  sess := [(0, { isOpen := true, login := some 0, running := some (.valveTest 3 100000, r0) })]
  eject := { queue := [{ id := 0, valve := 3, turret := 0, kind := .test, s := 5, e := 50, s0 := 5, stage := .peak, replies := [r0] }] } }
/-- A control set of a type with its data, and the data as the set carries them. -/
def ctlData (d : List Byte) : List Byte := d ++ List.replicate (12 - d.length) 0
/-- The set. -/
def ctl (k : Byte) (d : List Byte) : List Byte := (k :: ctlData d) ++ beBytes 2 (crc16 (k :: ctlData d))
/-- A bypass set: its first byte, its type and its body. -/
def bypass (x k : Byte) (b : List Byte) : List Byte :=
  let h := x :: k :: BitVec.ofNat 8 b.length :: (b ++ List.replicate (32 - b.length) 0)
  h ++ beBytes 2 (crc16 h)
/-- A frame of one byte of payload. -/
abbrev aFrame : Frame := { stream := 1, modAddr := 2, stype := 3, dir := 0, phase := 0, first := true, last := true, len := 1, epoch := 1,
                           count := 0, body := List.replicate 17 0 }
/-- An identity memory (R338): one tap of 512 pixels, type "E", serial "1". -/
def identBytes : List Byte :=
  let b : List Byte := [0x4B, 0x48, 0x44, 0x31, 1, 1, 0, 2, 16, 16, 8, 7, 100, 0] ++ List.replicate 10 0 ++ [0x90, 1] ++
    List.replicate 4 0 ++ [0x45] ++ List.replicate 15 0 ++ [0x31] ++ List.replicate 79 0
  b ++ leBytes 2 (crc16 b)
/-- A module whose port is in a state of its own. -/
abbrev port (p : Nat) (q : Port) : State := { keep with ports := [(p, q)] }
/-- The Keep's stream 5 and its key. -/
abbrev stream (y : Stream) (ty : Int) : State :=
  num .streamTurret 0 (num .streamType ty { keep with ports := [(0, { state := .up })], streams := [(5, y)] } 5) 5
/-- OPEN of stream 5, whose check is the right one. -/
def openMsg (s : State) : KeyMsg := ⟨5, 1, 0, 0, s.ctlCheck 5 0 1 0x10 0 0⟩
/-- A stream whose next generation has been offered. -/
def rekeying : State := stream { isOpen := true, assigned := true, slot0 := some 0, slot1 := some 1, readySent := some (1, 5) } 2
/-- RUN, with a cycle of `somePlan` that lights channel 0 in progress. -/
def lit (l : Lantern) : State := { keep with lantern := { l with plan := some somePlan, cur := some ⟨7, none, 999000000, false, []⟩ }, ledger := { strobe := some (1, 1) } }
/-- A plan that lights no channel, staged. -/
def darkPlan : State := num .lanternMask 0 keep
/-- RUN with head A ACTIVE and its plane of line 7 corrected: 512 columns of turret 0's class-table slot, of which the range given is
turret 0's, and whose active table gives every pixel class 1. -/
def sorted (lo hi : Int) : State :=
  let s := num .classTurret 0 (num .turretXaLo lo (num .turretXaHi hi (mode .run keep)))
  { s with
    heads := [(0, { present := true, state := .active, ident := some someIdent, planeLine := 7, planes := [(0, ⟨List.replicate 8 0, 0⟩)] })]
    lantern := { plan := some somePlan, cur := some ⟨7, some 3, 1000, false, []⟩ }
    track := { slots := [(0, { coef := List.replicate 36 0, bias := List.replicate 6 0 })] }
    ram := [(activeAddr 0 0, 0x11)] }
/-- An object of one line. -/
abbrev anObj : Obj := { id := 4, head := 0, turret := 0, first := 6, last := 6, firstRef := 900, lo := 2, hi := 3, area := 2, areas := [(1, 2)],
                        sumCol := 5, sumLine := 0, flags := 0, captured := false, lastRuns := [(2, 3)] }
/-- RUN with objects to decide. -/
abbrev toDecide (os : List Obj) : State := { mode .run keep with track := { toDecide := os } }
/-- A matched pair. -/
abbrev aPair : Obj := { anObj with dt := 2000000, refB := some 1000000000, c256 := 0, lag256 := 0 }
/-- STACKED geometry, a rule of turret 0 that rejects every object, and valve 0 over the columns of an object. -/
def rejecting : State :=
  (num .trackGeometry 1 (num .valveTurret 0 (toDecide [aPair]))).setVal ⟨.classRule, 0, 0⟩
    (.bytes ([0x81, 1, 0, 1, 0, 0] ++ List.replicate 10 0))
/-- Sealed. -/
abbrev sealed_ (s : State) : State := { s with sys := { s.sys with mode := .sealed } }
/-- Valve 3 has one action. -/
abbrev act (g : ActStage) : Action := { id := 2, valve := 3, turret := 0, kind := .eject, s := 1000000000, e := 1000100000, stage := g, s0 := 1000000000 }
/-- With an owner and its bank's VCOM closed. -/
def acting (a : Action) : State :=
  num .valveTurret 0 { keep with pwr := { keep.pwr with vcom := [(0, true)] }, eject := { queue := [a] } } 3
/-- The base point of P-384, compressed (FIPS 186). -/
def baseP384 : List Byte :=
  [0x03, 0xaa, 0x87, 0xca, 0x22, 0xbe, 0x8b, 0x05, 0x37, 0x8e, 0xb1, 0xc7, 0x1e, 0xf3, 0x20, 0xad, 0x74] ++
  [0x6e, 0x1d, 0x3b, 0x62, 0x8b, 0xa7, 0x9b, 0x98, 0x59, 0xf7, 0x41, 0xe0, 0x82, 0x54, 0x2a, 0x38] ++
  [0x55, 0x02, 0xf2, 0x5d, 0xbf, 0x55, 0x29, 0x6c, 0x3a, 0x54, 0x5e, 0x38, 0x72, 0x76, 0x0a, 0xb7]
theorem baseP384_ok : pointOk .p384 baseP384 = true := by unfold pointOk; decide +kernel
/-- The Keep's MGMT stream 5. -/
def mgmt : State := stream { isOpen := true } typeMgmt
/-- The Keep with a P-256 key in slot 4. -/
def ecKeep : State := { keep with turrets := [(0, { state := .claimed, slots := [(1, loginKey), (4, ⟨.ec256, List.replicate 31 0 ++ [7]⟩)] })] }
/-- A job of the engine that has started under its grant. -/
abbrev pkeJob (op : PkeOp) : PkeJob := { id := 3, turret := 0, op := op, src := .traop r0, started := some 5, granted := true }
/-- A digest job that has started. -/
abbrev digJob (op : DigOp) : DigJob := { id := 3, turret := 0, op := op, src := .traop r0, started := some 5, msg := [1] }
/-- The Keep with handle 2 open. -/
def handle : State := { keep with dome := { turs := [(0, { handles := [(2, ⟨true, .sha384, none, [1]⟩)] })] } }
/-- A control message that bears out its check. -/
theorem ctlGood_of {s : State} {m : KeyMsg} {g k : Nat} (h : m.ctl < ctlLimit) (e : m.check = s.ctlCheck m.stream g 1 k m.phase m.ctl) :
    s.ctlGood m g k = true := by simp [State.ctlGood, h, e]
/-- One that does not. -/
theorem ctlGood_off {s : State} {m : KeyMsg} {g k : Nat} (e : m.check ≠ s.ctlCheck m.stream g 1 k m.phase m.ctl) :
    s.ctlGood m g k = false := by simp [State.ctlGood, e]
/-- An eject queue that is full has no free entry. -/
theorem fullQueue (s : State) (a : Action) (n : Nat) (h : s.isSealed = false) :
    State.freeEntries { s with eject := { queue := List.replicate 4096 a } } n = 0 := by
  simp only [State.freeEntries, List.length_replicate]
  rw [if_neg (by intro e; rw [show s.isSealed = true from e] at h; cases h)]
  rfl
/-- The sum of equal codes. -/
theorem codes_sum (n : Nat) (c : Int) : (List.replicate n c).sum = n * c := by
  induction n with
  | zero => simp
  | succ k ih => rw [List.replicate_succ, List.sum_cons, ih]; push_cast; rw [Int.add_mul]; omega
/-- A state in which the last read of a requester waits for its check. -/
def unchecked (k : Nat) (s : State) : State :=
  s.modReqr k fun q => { q with delivered := 1, pend := [⟨1, 64, .prot, 5, false, 0, 0⟩] }

/-! ## States and operands that meet the hypotheses of the statements -/

theorem witness_IdleStep :
    (∃ (s : State), s.pending = [] ∧ (s.sys.state = .off ∨ s.pwr.logicOn = false)) ∧
    (∃ (s : State) (u : State), s.pending = [] ∧ s.sys.state ≠ .off ∧ s.pwr.logicOn = true ∧ u = s.endTick ∧ u.sys.state ≠ .watch ∧
      u.tower.slew = 0 ∧ u.sys.tick + 1 < 2 ^ 64) ∧
    (∃ (s : State) (u : State), s.pending = [] ∧ s.sys.state ≠ .off ∧ s.pwr.logicOn = true ∧ u = s.endTick ∧ u.sys.state = .watch ∧
      u.sys.tick + 3052 < 2 ^ 64) ∧
    (∃ (s : State) (u : State), s.pending = [] ∧ s.sys.state ≠ .off ∧ s.pwr.logicOn = true ∧ u = s.endTick ∧ u.sys.state ≠ .watch ∧
      u.tower.slew ≠ 0 ∧ u.sys.tick + 2 < 2 ^ 64) ∧
    (∃ (s : State) (u : State), s.pending = [] ∧ s.sys.state ≠ .off ∧ s.pwr.logicOn = true ∧ u = s.endTick ∧ u.sys.state ≠ .watch ∧
      u.tower.slew = 0 ∧ 2 ^ 64 ≤ u.sys.tick + 1) ∧
    (∃ (s : State), s.track.deciding = [] ∧ s.sys.aborts = [] ∧ s.dome.queue = [] ∧ s.dome.jobs = [] ∧ s.ledger.reqs = [] ∧
      s.tower.told = some { s.ownTmgmt with reached := [] }) :=
  ⟨⟨State.reset, by decide +kernel⟩,
   ⟨keep, (keep).endTick, by decide +kernel⟩,
   ⟨mode .watch keep, (mode .watch keep).endTick, by decide +kernel⟩,
   ⟨{ keep with tower := { slew := 1 } }, ({ keep with tower := { slew := 1 } }).endTick, by decide +kernel⟩,
   ⟨{ keep with sys := { keep.sys with tick := 2 ^ 64 - 1 } }, ({ keep with sys := { keep.sys with tick := 2 ^ 64 - 1 } }).endTick,
     by decide +kernel⟩,
   ⟨{ keep with tower := { keep.tower with told := some { keep.ownTmgmt with reached := [] } } }, by decide +kernel⟩⟩

theorem witness_WatchKeepsTime :
    (∃ (s : State), s.sys.state = .watch ∧ s.sys.crystal < 128) :=
  ⟨mode .watch keep, by decide +kernel⟩

theorem witness_StepKeepsMemory :
    (∃ (s : State) (t : State), s.memoryOk ∧ step s = .next t) :=
  ⟨keep, keep.timePasses, (by unfold State.memoryOk; decide +kernel), rfl⟩

theorem witness_CommandsLeaveTheQueue :
    (∃ (c : Instr) (rest : List Instr) (s : State), s.pending = c :: rest) :=
  ⟨.l24Lost, [], { keep with pending := [.l24Lost] }, by decide +kernel⟩

theorem witness_ResetState :
    (∃ (n : Nat), n ≠ 0) :=
  ⟨1, by decide +kernel⟩

theorem witness_L24ComesAndGoes :
    (∃ (s : State), s.sys.state = .off) ∧
    (∃ (s : State), s.sys.state ≠ .off) ∧
    (∃ (s : State) (r : RecName), s.nv.running = none ∧ s.nv.erasing = none ∧ r ≠ .keystore) :=
  ⟨⟨State.reset, by decide +kernel⟩,
   ⟨keep, by decide +kernel⟩,
   ⟨keep, .epoch, by decide +kernel⟩⟩

theorem witness_SuppliesReport :
    (∃ (s : State), s.pwr.l24Valid = true) ∧
    (∃ (s : State) (l : Tick), s.pwr.l24Valid = false ∧ s.pwr.logicOn = true ∧ s.pwr.lostAt = some l ∧
      l + 12 * msTicks ≤ s.sys.tick) ∧
    (∃ (s : State) (l : Tick), s.pwr.lostAt = some l ∧ s.sys.tick < l + 12 * msTicks) ∧
    (∃ (n : Nat), (n = 1 ∨ n = 2)) ∧
    (∃ (s : State), s.pwr.l24Valid = true) ∧
    (∃ (s : State) (b : Nat), s.pwr.p24Low = false ∧ b < 2) ∧
    (∃ (s : State), s.pwr.p24Low = false ∧ s.serving = true) ∧
    (∃ (s : State), s.pwr.p24Low = false ∧ s.serving = false) ∧
    (∃ (s : State), s.pwr.p24Low = true ∧ s.pwr.p24Open = false) ∧
    (∃ (x : Int) (s : State), s.sys.state ≠ .off ∧ s.pwr.logicOn = true ∧ x ≤ 125000 ∧ s.sys.state ≠ .watch ∧ 115000 < x ∧
      s.pwr.hot = false) ∧
    (∃ (x : Int) (s : State), s.sys.state ≠ .off ∧ s.pwr.logicOn = true ∧ x ≤ 125000 ∧ s.sys.state ≠ .watch ∧ x < 110000 ∧
      s.pwr.hot = true) :=
  ⟨⟨keep, by decide +kernel⟩,
   ⟨{ keep with pwr := { logicOn := true, lostAt := some 5 } }, 5, by decide +kernel⟩,
   ⟨{ keep with pwr := { logicOn := true, lostAt := some 999999999 } }, 999999999, by decide +kernel⟩,
   ⟨1, by decide +kernel⟩,
   ⟨keep, by decide +kernel⟩,
   ⟨keep, 1, by decide +kernel⟩,
   ⟨keep, by decide +kernel⟩,
   ⟨State.reset, by decide +kernel⟩,
   ⟨{ keep with pwr := { keep.pwr with p24Low := true, p24Told := true } }, by decide +kernel⟩,
   ⟨125000, keep, by decide +kernel⟩,
   ⟨109999, { keep with pwr := { keep.pwr with hot := true } }, by decide +kernel⟩⟩

theorem witness_HaltCauses :
    (∃ (s : State), s.sys.state ≠ .off ∧ s.sys.state ≠ .halted ∧ s.pwr.l24Valid = true) ∧
    (∃ (s : State) (x : Nat), s.sys.state ≠ .off ∧ s.sys.state ≠ .halted ∧ 125000 < x ∧ s.pwr.logicOn = true) ∧
    (∃ (s : State) (w : WaitKind) (o : Tick), s.sys.state ≠ .off ∧ s.sys.state ≠ .halted ∧ s.sys.state ≠ .watch ∧
      s.pwr.logicOn = true ∧ s.waitOver w o = true) ∧
    (∃ (s : State) (w : WaitKind), s.sys.state ≠ .off ∧ s.sys.state ≠ .halted ∧ w ≠ .publicKey) :=
  ⟨⟨keep, by decide +kernel⟩,
   ⟨keep, 125001, by decide +kernel⟩,
   ⟨keep, .handshake, 0, by decide +kernel⟩,
   ⟨keep, .handshake, by decide +kernel⟩⟩

theorem witness_HaltedModule :
    (∃ (s : State) (h : HaltRec), s.sys.state = .halted ∧ s.sys.halt = some h ∧ h.announced = false ∧ s.jobs = [] ∧
      (s.getSess 0).waiting = none ∧ s.serial.held = [] ∧ s.serial.irHeld = [] ∧ s.hears .all "sys" 0 = true ∧
      (s.getSess 0).running = none) ∧
    (∃ (s : State) (h : HaltRec) (c : Cmd) (r : ReplyTo), s.sys.state = .halted ∧ s.sys.halt = some h ∧ h.announced = false ∧
      s.jobs = [] ∧ (s.getSess 0).waiting = none ∧ s.serial.held = [] ∧ s.serial.irHeld = [] ∧ s.hears .all "sys" 0 = true ∧
      (s.getSess 0).running = some (c, r) ∧ r.sess = 0 ∧ r.tag = none ∧ r.addrd = false ∧ r.gen = (s.getSess 0).gen ∧
      (s.getSess 0).isOpen = true) :=
  ⟨⟨halted, { cause := 10, tick := 5, challenge := some 7 }, by decide +kernel⟩,
   ⟨{ halted with sess := [(0, { isOpen := true, running := some (.sysHalt, ⟨0, none, false, none, 0⟩) })] },
     { cause := 10, tick := 5, challenge := some 7 }, .sysHalt, ⟨0, none, false, none, 0⟩, by decide +kernel⟩⟩

theorem witness_CountStartsAtZero :
    (∃ (s : State), s.sys.state = .off) :=
  ⟨State.reset, by decide +kernel⟩

theorem witness_FourthIslandResetHalts :
    (∃ (s : State), (s.serving = true ∨ (s.sys.state = .start ∧ 9 ≤ s.sys.step)) ∧
      3 ≤ (s.isl.cmdLog.filter fun x => decide (s.sys.tick < x + 10 * secTicks)).length) :=
  ⟨{ keep with isl := { cmdLog := [keep.sys.tick, keep.sys.tick, keep.sys.tick] } }, by decide +kernel⟩

theorem witness_WatchdogSleepsInWatch :
    (∃ (s : State), s.sys.state = .watch) :=
  ⟨mode .watch keep, by decide +kernel⟩

theorem witness_StartSteps :
    (∃ (s : State), s.sys.state = .start ∧ s.sys.step = 2) ∧
    (∃ (s : State), s.sys.state = .start ∧ s.sys.step = 3 ∧ s.pwr.meshBroken = true) ∧
    (∃ (b : BootIn) (s : State), s.sys.state = .start ∧ s.sys.step = 3 ∧ s.pwr.meshBroken = false ∧ s.testsMay = true ∧
      b.entropyOk = false) ∧
    (∃ (s : State) (f : Tick), s.sys.state = .start ∧ s.sys.step = 3 ∧ s.pwr.meshBroken = false ∧ s.dome.testAt = some f ∧
      s.sys.tick < f + 10 * msTicks) ∧
    (∃ (b : BootIn) (s : State), s.sys.state = .start ∧ s.sys.step = 3 ∧ b.entropyOk = true ∧ s.testsMay = true ∧
      s.pwr.meshBroken = false ∧ b.firmwareOk = false) ∧
    (∃ (b : BootIn) (s : State), s.sys.state = .start ∧ s.sys.step = 3 ∧ b.entropyOk = true ∧ s.testsMay = true ∧
      s.pwr.meshBroken = false ∧ b.firmwareOk = true ∧ b.microcodeOk = false) ∧
    (∃ (b : BootIn) (s : State), s.sys.state = .start ∧ s.sys.step = 3 ∧ b.entropyOk = true ∧ s.testsMay = true ∧
      s.pwr.meshBroken = false ∧ b.firmwareOk = true ∧ b.microcodeOk = true ∧ b.knownAnswerOk = false) ∧
    (∃ (b : BootIn) (s : State), s.sys.state = .start ∧ s.sys.step = 3 ∧ b.entropyOk = true ∧ s.testsMay = true ∧
      s.pwr.meshBroken = false ∧ b.firmwareOk = true ∧ b.microcodeOk = true ∧ b.knownAnswerOk = true ∧
      (bootUnwraps b = false ∨ b.certKey ≠ publicKey .p384 deviceKey)) ∧
    (∃ (b : BootIn) (s : State) (k : KeyStore), s.sys.state = .start ∧ s.sys.step = 3 ∧ b.entropyOk = true ∧ s.testsMay = true ∧
      s.pwr.meshBroken = false ∧ b.firmwareOk = true ∧ b.microcodeOk = true ∧ b.knownAnswerOk = true ∧ bootUnwraps b = true ∧
      b.certKey = publicKey .p384 deviceKey ∧ b.badSlots = [] ∧ ((s.getRec .keystore).start).body = .keystore k ∧
      ((s.getRec .keystore).start).cur ≠ none) ∧
    (∃ (s : State) (n : Nat), s.sys.state = .start ∧ s.sys.step = 11 ∧ s.pwr.holdCharged = true ∧ s.nvPendingCount = 0 ∧
      s.heldEpoch = some n ∧ n < 0xFFFFFF) ∧
    (∃ (s : State), s.sys.state = .start ∧ s.sys.step = 11 ∧ s.pwr.holdCharged = true ∧ s.nvPendingCount = 0 ∧
      s.heldEpoch = some 0xFFFFFF) ∧
    (∃ (s : State), s.pwr.holdCharged = false) ∧
    (∃ (s : State), s.sys.state = .start ∧ s.sys.step = 12 ∧ s.identifying = true) ∧
    (∃ (s : State), s.sys.state = .start ∧ s.sys.step = 12 ∧ s.identifying = false) :=
  ⟨⟨{ keep with sys := { keep.sys with state := .start, step := 2 } }, by decide +kernel⟩,
   ⟨{ keep with sys := { keep.sys with state := .start, step := 3 }, pwr := { keep.pwr with meshBroken := true } },
     by decide +kernel⟩,
   ⟨⟨false, true, true, true, publicKey .p384 deviceKey, [], 0, []⟩,
     { keep with sys := { keep.sys with state := .start, step := 3 } }, by decide +kernel⟩,
   ⟨{ keep with sys := { keep.sys with state := .start, step := 3 }, dome := { testAt := some 1000000000 } }, 1000000000,
     by decide +kernel⟩,
   ⟨⟨true, false, true, true, publicKey .p384 deviceKey, [], 0, []⟩,
     { keep with sys := { keep.sys with state := .start, step := 3 } }, by decide +kernel⟩,
   ⟨⟨true, true, false, true, publicKey .p384 deviceKey, [], 0, []⟩,
     { keep with sys := { keep.sys with state := .start, step := 3 } }, by decide +kernel⟩,
   ⟨⟨true, true, true, false, publicKey .p384 deviceKey, [], 0, []⟩,
     { keep with sys := { keep.sys with state := .start, step := 3 } }, by decide +kernel⟩,
   ⟨⟨true, true, true, true, publicKey .p384 deviceKey, [(0, [])], 0, []⟩,
     { keep with sys := { keep.sys with state := .start, step := 3 } }, by decide +kernel, by decide +kernel, by decide +kernel,
     by decide +kernel, by decide +kernel, by decide +kernel, by decide +kernel, by decide +kernel,
     .inl (by simp [bootUnwraps, unwraps, kwpOpen])⟩,
   ⟨⟨true, true, true, true, publicKey .p384 deviceKey, [], 0, []⟩,
     { keep with sys := { keep.sys with state := .start, step := 3 } }, ⟨.opn, factoryTurrets⟩, by decide +kernel, by decide +kernel,
     by decide +kernel, by decide +kernel, by decide +kernel, by decide +kernel, by decide +kernel, by decide +kernel,
     (by decide +kernel), rfl, by decide +kernel, by decide +kernel, by decide +kernel⟩,
   ⟨{ keep with sys := { keep.sys with state := .start, step := 11 } }, 0, by decide +kernel⟩,
   ⟨{ keep with sys := { keep.sys with state := .start, step := 11 }, nv := { recs := [(0, { a := ⟨.valid, some 0, .epoch 0xFFFFFF, false, 0⟩, b := Slot.init, cur := some false, state := .ok })] } },
     by decide +kernel⟩,
   ⟨State.reset, by decide +kernel⟩,
   ⟨{ keep with sys := { keep.sys with state := .start, step := 12 }, heads := [(0, { present := true, state := .ident })] },
     by decide +kernel⟩,
   ⟨{ keep with sys := { keep.sys with state := .start, step := 12 } }, by decide +kernel⟩⟩

theorem witness_HaltAndRestart :
    (∃ (hd : Hdr) (s : State) (h : HaltRec), s.sys.state = .halted ∧ s.starts hd .showSysHalt = true ∧ s.sys.halt = some h) ∧
    (∃ (hd : Hdr) (s : State) (h : HaltRec) (key : KeySlot) (c : Nat) (x : Nat), s.sys.state = .halted ∧
      s.starts hd (.sysRestart ⟨some x, 0, true, none⟩) = true ∧ s.sys.halt = some h ∧ s.sys.restartLock = none ∧ s.nv.idle = true ∧
      s.restartable h.cause = true ∧ s.storedLogin = some key ∧ key.kind = .login ∧ h.challenge = some c ∧
      x = loginHmac key.key c 0 0) ∧
    (∃ (hd : Hdr) (s : State) (h : HaltRec) (key : KeySlot) (c : Nat) (x : Nat), s.sys.state = .halted ∧
      s.starts hd (.sysRestart ⟨some x, 0, true, none⟩) = true ∧ s.sys.halt = some h ∧ s.sys.restartLock = none ∧ s.nv.idle = true ∧
      s.restartable h.cause = true ∧ s.storedLogin = some key ∧ key.kind = .login ∧ h.challenge = some c ∧
      x ≠ loginHmac key.key c 0 0 ∧ s.sys.restartFails < 4) ∧
    (∃ (hd : Hdr) (s : State) (h : HaltRec) (key : KeySlot) (c : Nat) (x : Nat), s.sys.state = .halted ∧
      s.starts hd (.sysRestart ⟨some x, 0, true, none⟩) = true ∧ s.sys.halt = some h ∧ s.sys.restartLock = none ∧ s.nv.idle = true ∧
      s.restartable h.cause = true ∧ s.storedLogin = some key ∧ key.kind = .login ∧ h.challenge = some c ∧
      x ≠ loginHmac key.key c 0 0 ∧ s.sys.restartFails = 4) ∧
    (∃ (hd : Hdr) (x : RestartIn) (s : State) (h : HaltRec), s.sys.state = .halted ∧ s.starts hd (.sysRestart x) = true ∧
      s.sys.halt = some h ∧ s.sys.restartLock = none ∧ s.nv.idle = true ∧ s.restartable h.cause = true ∧
      (s.getRec .keystore).cur.isSome = true ∧ (x.digestOk = false ∨ unwraps 0 x.wrap = false)) :=
  ⟨⟨ln, halted, { cause := 10, tick := 5, challenge := some 7 }, by decide +kernel⟩,
   ⟨ln, halted, { cause := 10, tick := 5, challenge := some 7 }, loginKey, 7, loginHmac (List.replicate 32 0x11) 7 0 0,
     by decide +kernel, by decide +kernel, by decide +kernel, by decide +kernel, by decide +kernel, by decide +kernel,
     by decide +kernel, by decide +kernel, by decide +kernel, rfl⟩,
   ⟨ln, halted, { cause := 10, tick := 5, challenge := some 7 }, loginKey, 7, loginHmac (List.replicate 32 0x11) 7 0 0 + 1,
     by decide +kernel, by decide +kernel, by decide +kernel, by decide +kernel, by decide +kernel, by decide +kernel,
     by decide +kernel, by decide +kernel, by decide +kernel, Nat.succ_ne_self _, by decide +kernel⟩,
   ⟨ln, { halted with sys := { halted.sys with restartFails := 4 } }, { cause := 10, tick := 5, challenge := some 7 }, loginKey, 7,
     loginHmac (List.replicate 32 0x11) 7 0 0 + 1, by decide +kernel, by decide +kernel, by decide +kernel, by decide +kernel,
     by decide +kernel, by decide +kernel, by decide +kernel, by decide +kernel, by decide +kernel, Nat.succ_ne_self _,
     by decide +kernel⟩,
   ⟨ln, { response := some 5, sectors := 0, digestOk := false, wrap := none }, halted,
     { cause := 10, tick := 5, challenge := some 7 }, by decide +kernel⟩⟩

theorem witness_RunStopHalt :
    (∃ (hd : Hdr) (s : State) (x : Nat), s.begins hd .sysRun = true ∧ s.runBar = false ∧
      (s.coilsFree = false ∨ s.stepperFits = true) ∧ x ∈ s.configuredHeads) ∧
    (∃ (hd : Hdr) (s : State), s.begins hd .sysStop = true ∧ s.sorting = true ∧ s.sys.stopReply = none) ∧
    (∃ (hd : Hdr) (s : State), s.begins hd .sysHalt = true) :=
  ⟨⟨ln, canRun, 0, by decide +kernel⟩,
   ⟨ln, mode .run keep, by decide +kernel⟩,
   ⟨ln, keep, by decide +kernel⟩⟩

theorem witness_FeedPauses :
    (∃ (hd : Hdr) (s : State), s.begins hd .feedPause = true ∧ (s.stepperMode = false ∨ s.gated 16 = false) ∧ s.feed.pauses = 0) ∧
    (∃ (hd : Hdr) (s : State), s.begins hd .feedPause = true ∧ (s.stepperMode = false ∨ s.gated 16 = false) ∧ s.feed.pauses ≠ 0) ∧
    (∃ (hd : Hdr) (s : State), s.begins hd .feedPause = true ∧ s.stepperMode = true ∧ s.gated 16 = true) ∧
    (∃ (hd : Hdr) (s : State), s.begins hd .feedResume = true ∧ s.feed.pauses &&& pauseCoil = 0 ∧
      (s.stepperMode = false ∨ s.gated 16 = false) ∧ (s.feed.pauses &&& pauseSpire = 0 ∨ s.tower.source ≠ .free)) ∧
    (∃ (s : State), s.sys.state = .run ∧ s.feed.pauses ≠ 0 ∧ s.feed.speed = 0 ∧ s.int .feedHoldCurrent = 0) ∧
    (∃ (s : State), s.sys.state = .run ∧ s.feed.pauses ≠ 0 ∧ s.feed.speed = 0 ∧ s.int .feedHoldCurrent ≠ 0) ∧
    (∃ (s : State), s.sorting = true ∧ s.feed.ramping = true ∧ s.feed.pauses = 0 ∧ s.speedGoal ≤ s.feed.speed) :=
  ⟨⟨ln, mode .run keep, by decide +kernel⟩,
   ⟨ln, { mode .run keep with feed := { pauses := 2 } }, by decide +kernel⟩,
   ⟨ln, { keep with isl := { keep.isl with gate := 2 ^ 16 } }, by decide +kernel⟩,
   ⟨ln, { mode .run keep with feed := { pauses := 25 } }, by decide +kernel⟩,
   ⟨{ num .feedHoldCurrent 0 (mode .run keep) with feed := { pauses := 1 } }, by decide +kernel⟩,
   ⟨{ mode .run keep with feed := { pauses := 1 } }, by decide +kernel⟩,
   ⟨{ mode .run keep with feed := { ramping := true } }, by decide +kernel⟩⟩

theorem witness_FeedSpeedAndFaults :
    (∃ (s : State), s.sorting = true ∧ s.stepperMode = true ∧ s.feed.energised = true ∧ s.feed.stepAt + 10 * msTicks ≤ s.sys.tick ∧
      s.fenced 16 = true) ∧
    (∃ (s : State), s.sorting = true ∧ s.stepperMode = true ∧ s.feed.energised = true ∧ s.speedGoal ≤ s.feed.speed ∧
      s.feed.stepAt + 10 * msTicks ≤ s.sys.tick ∧ s.fenced 16 = false) ∧
    (∃ (s : State), s.sorting = true ∧ s.stepperMode = true ∧ s.feed.energised = true ∧ s.feed.speed < s.speedGoal ∧
      s.feed.stepAt + 10 * msTicks ≤ s.sys.tick ∧ s.fenced 16 = false) ∧
    (∃ (q : Req) (s : State), s.ledger.reqs = [q] ∧ q.cls = .stepper) ∧
    (∃ (s : State), s.feed.pauses = 0) ∧
    (∃ (s : State), s.feed.pauses ≠ 0) ∧
    (∃ (s : State), s.sys.state = .run ∧ s.feed.pauses = 0 ∧ s.stepperMode = true ∧ s.feed.ramping = false ∧ s.int .feedTarget = 0 ∧
      s.fill6 ≤ s.int .capturePauseMark ∧ s.feed.rateAt + 10 * msTicks ≤ s.sys.tick) ∧
    (∃ (s : State), s.sorting = true ∧ s.feed.capAt + secTicks ≤ s.sys.tick ∧ s.eject.charge10 = []) ∧
    (∃ (s : State), s.sorting = true ∧ s.stepperMode = true ∧ 0 < s.feed.speed ∧ s.nat .feedStallMinSpeed ≤ s.feed.speed) ∧
    (∃ (s : State), s.serving = true ∧ s.stepperMode = true) ∧
    (∃ (s : State), s.sys.state = .run ∧ s.seam.isOpen = false ∧ s.feed.pauses = 0 ∧ s.settled = true ∧ s.imageStreams = []) ∧
    (∃ (s : State), s.sorting = true ∧ s.feed.pauses ≠ 0 ∧ s.clearLate = true ∧ s.seam.timeoutLine = none ∧
      s.seam.clear < s.nat .seamClearLines) :=
  ⟨⟨unchecked 16 { mode .run keep with feed := { energised := true } }, by decide +kernel⟩,
   ⟨{ mode .run keep with feed := { energised := true } }, by decide +kernel⟩,
   ⟨{ mode .run keep with feed := { energised := true, cmd := ⟨10000, 1⟩ } }, by decide +kernel⟩,
   ⟨⟨1, .stepper, 0, 100, 500, 2, 0, 2000000000, .accel 100⟩,
     { keep with ledger := { reqs := [⟨1, .stepper, 0, 100, 500, 2, 0, 2000000000, .accel 100⟩] } }, by decide +kernel⟩,
   ⟨keep, by decide +kernel⟩,
   ⟨{ keep with feed := { pauses := 2 } }, by decide +kernel⟩,
   ⟨num .feedTarget 0 (mode .run keep), by decide +kernel⟩,
   ⟨mode .run keep, by decide +kernel⟩,
   ⟨{ mode .run keep with feed := { speed := 10000 } }, by decide +kernel⟩,
   ⟨keep, by decide +kernel⟩,
   ⟨{ mode .run keep with feed := { steadyAt := some 0 }, seam := { lineTick := 999999999 } }, by decide +kernel⟩,
   ⟨{ mode .paused keep with sys := { (mode .paused keep).sys with tick := 2000000000000 }, feed := { pauses := 4, firstPause := some 0 } },
     by decide +kernel⟩⟩

theorem witness_LedgerGrantsAndRefuses :
    (∃ (s : State) (r : Req) (q : Req), s.firstGrant = some r ∧ q ∈ s.ledger.reqs ∧ s.grantable q = true ∧ q.filed < s.sys.tick) ∧
    (∃ (s : State), s.firstGrant = none) ∧
    (∃ (s : State) (t : State), exec .ledgerGrant s = .next t ∧ s.ledger.l24Used ≤ l24Headroom) ∧
    (∃ (s : State) (t : State), exec .ledgerGrant s = .next t ∧ s.ledger.standPeak + s.ledger.rampPeak ≤ peakTotal - s.valvePool) ∧
    (∃ (s : State) (r : Req), s.ledger.reqs = [r] ∧ s.grantable r = true) ∧
    (∃ (s : State), (∀ r, r ∈ s.ledger.reqs → s.grantable r = false)) ∧
    (∃ (s : State) (q : Req), s.firstDue = some q ∧ s.sys.tick ≤ q.deadline) ∧
    (∃ (s : State) (q : Req) (v : Nat), s.firstDue = some q ∧ q.deadline < s.sys.tick ∧ q.what = .accel v) ∧
    (∃ (s : State), s.firstDue = none) ∧
    (∃ (m : Nat) (s : State), s.nat .ledgerAvgLimit * 110 < m * 100 ∧ s.ledger.overTold = false) ∧
    (∃ (m : Nat) (s : State), (m * 100 ≤ s.nat .ledgerAvgLimit * 110 ∨ s.ledger.overTold = true)) :=
  ⟨⟨{ keep with ledger := { reqs := [⟨1, .train, 0, 0, 1, 2, 0, 2000000000, .train 0⟩] } }, ⟨1, .train, 0, 0, 1, 2, 0, 2000000000,
     .train 0⟩, ⟨1, .train, 0, 0, 1, 2, 0, 2000000000, .train 0⟩, by decide +kernel⟩,
   ⟨keep, by decide +kernel⟩,
   ⟨keep, keep, rfl, by decide +kernel⟩,
   ⟨keep, keep, rfl, by decide +kernel⟩,
   ⟨{ keep with ledger := { reqs := [⟨1, .train, 0, 0, 1, 2, 0, 2000000000, .train 0⟩] } }, ⟨1, .train, 0, 0, 1, 2, 0, 2000000000,
     .train 0⟩, by decide +kernel⟩,
   ⟨keep, (by intro r h; exact absurd h (List.not_mem_nil))⟩,
   ⟨{ keep with ledger := { reqs := [⟨1, .train, 0, 0, 0, 2, 0, 1000000001, .train 0⟩] } }, ⟨1, .train, 0, 0, 0, 2, 0, 1000000001,
     .train 0⟩, by decide +kernel⟩,
   ⟨{ keep with ledger := { reqs := [⟨1, .stepper, 0, 100000, 0, 2, 0, 0, .accel 100⟩] } }, ⟨1, .stepper, 0, 100000, 0, 2, 0, 0,
     .accel 100⟩, 100, by decide +kernel⟩,
   ⟨keep, by decide +kernel⟩,
   ⟨60000, keep, by decide +kernel⟩,
   ⟨0, keep, by decide +kernel⟩⟩

theorem witness_RecordsAreWritten :
    (∃ (s : State) (w : Write) (rest : List Write), s.nv.running = none ∧ s.nv.erasing = none ∧ nextWrite s.nv.writes = some (w,
      rest) ∧ s.serving = true) ∧
    (∃ (s : State) (w : Write) (r : RecName), s.nv.running = some w ∧ w.granted = true ∧ s.nv.erasing = none ∧
      s.pwr.logicOn = true ∧ s.sys.state ≠ .halted ∧ w.step < 4 ∧ w.stopNext = false ∧ r.code ≠ w.record.code) ∧
    (∃ (s : State) (w : Write) (r : RecName), s.nv.running = some w ∧ w.granted = true ∧ s.nv.erasing = none ∧
      s.pwr.logicOn = true ∧ s.sys.state ≠ .halted ∧ w.step = 4 ∧ w.reply = none ∧ w.onCommit = .answer ∧ r.code ≠ w.record.code) ∧
    (∃ (s : State) (w : Write), s.nv.running = some w ∧ w.granted = true ∧ s.nv.erasing = none ∧ s.pwr.logicOn = true ∧
      s.sys.state = .halted) ∧
    (∃ (r : RecName) (b : Bool) (s : State), s.nvPendingCount = 0 ∧ s.nv.idle = true ∧ s.serving = true ∧
      ((s.getRec r).slot b).stage = .superseded ∧ (b = true → (s.getRec r).a.stage ≠ .superseded) ∧
      (s.pwr.above19 = false ∨ s.pwr.holdCharged = false)) ∧
    (∃ (s : State) (r : RecName) (b : Bool) (rest : List (RecName × Bool)), s.nv.writes = [] ∧ s.nv.erases = (r, b) :: rest ∧
      s.nv.idle = true ∧ s.serving = true) ∧
    (∃ (s : State) (e : Erase) (q : RecName), s.nv.running = none ∧ s.nv.erasing = some e ∧ e.granted = true ∧
      s.pwr.logicOn = true ∧ q.code ≠ e.record.code) ∧
    (∃ (r : RecName) (s : State), (s.getRec r).damaged = true ∧ s.serving = true ∧ (∀ w, w ∈ s.nv.writes → w.record ≠ r)) ∧
    (∃ (s : State), s.serving = true ∧ s.checkpointAt ≤ s.sys.tick ∧ s.nv.ckMade = false) ∧
    (∃ (s : State), s.serving = true ∧ s.nv.ckMade = true) ∧
    (∃ (s : State), s.sys.state = .watch ∧ s.checkpointAt ≤ s.sys.tick) ∧
    (∃ (s : State), s.sys.tick < s.checkpointAt) ∧
    (∃ (hd : Hdr) (s : State), s.begins hd .nvCheckpoint = true) ∧
    (∃ (hd : Hdr) (s : State), s.begins hd .nvSave = true) ∧
    (∃ (hd : Hdr) (bad : List BadSlot) (s : State), s.begins hd (.nvVerify bad) = true) :=
  ⟨⟨{ keep with nv := { writes := [{ record := .config, body := .none, reply := none }] } },
     { record := .config, body := .none, reply := none }, [], by decide +kernel⟩,
   ⟨{ keep with nv := { running := some { record := .config, body := .none, reply := none, step := 3, granted := true } } },
     { record := .config, body := .none, reply := none, step := 3, granted := true }, .epoch, by decide +kernel⟩,
   ⟨{ keep with nv := { running := some { record := .config, body := .none, reply := none, step := 4, granted := true } } },
     { record := .config, body := .none, reply := none, step := 4, granted := true }, .epoch, by decide +kernel⟩,
   ⟨{ halted with nv := { running := some { record := .config, body := .none, reply := none, step := 2, granted := true } } },
     { record := .config, body := .none, reply := none, step := 2, granted := true }, by decide +kernel⟩,
   ⟨.config, false,
     { keep with pwr := { keep.pwr with above19 := false }, nv := { recs := [(3, { a := ⟨.superseded, some 1, .none, false, 0⟩, b := Slot.init, cur := none, state := .ok })] } },
     by decide +kernel⟩,
   ⟨{ keep with nv := { erases := [(.config, true)] } }, .config, true, [], by decide +kernel⟩,
   ⟨{ keep with nv := { erasing := some { record := .config, slot := true, granted := true } } },
     { record := .config, slot := true, granted := true }, .epoch, by decide +kernel⟩,
   ⟨.config, keep.modRec .config fun r => { r with damaged := true }, by decide +kernel, by decide +kernel, (by intro w h; cases h)⟩,
   ⟨{ keep with sys := { keep.sys with tick := 400000000000 } }, by decide +kernel⟩,
   ⟨{ keep with nv := { keep.nv with ckMade := true } }, by decide +kernel⟩,
   ⟨{ mode .watch keep with sys := { (mode .watch keep).sys with tick := 400000000000 } }, by decide +kernel⟩,
   ⟨keep, by decide +kernel⟩,
   ⟨ln, tur 1, by decide +kernel⟩,
   ⟨ln, keep, by decide +kernel⟩,
   ⟨ln, [], keep, by decide +kernel⟩⟩

theorem witness_WatchEntry :
    (∃ (hd : Hdr) (s : State), s.begins hd .sysWatch = true ∧ s.sys.state = .ready ∧ s.liveJobs = [] ∧ s.sortsBelow = false ∧
      (s.serial.fmt.baud ≤ 460800 ∨ s.pwr.csin = false)) ∧
    (∃ (hd : Hdr) (s : State), s.begins hd .sysWatch = true ∧ ((460800 < s.serial.fmt.baud ∧
      s.pwr.csin = true) ∨ (s.tower.spire = true ∧ s.tower.active ≠ []))) ∧
    (∃ (s : State), s.watchMay = false) ∧
    (∃ (s : State), s.watchMay = true ∧ s.openStreams = [] ∧ s.lantern.calib = none) ∧
    (∃ (s : State), s.watchMay = true ∧ s.openStreams = [] ∧ s.configuredHeads ≠ []) ∧
    (∃ (s : State) (n : Nat), s.watchMay = true ∧ s.openStreams = [] ∧ (n = 1 ∨ n = 2) ∧ (s.getLoop n).state ≠ .fault ∧
      s.int .loopQuantity n = 6) ∧
    (∃ (s : State) (n : Nat), s.watchMay = true ∧ s.openStreams = [] ∧ (n = 1 ∨ n = 2) ∧ (s.getLoop n).state ≠ .fault ∧
      s.int .loopQuantity n ≠ 6 ∧ s.int .loopWatch n = 0) ∧
    (∃ (s : State) (n : Nat), s.watchMay = true ∧ s.openStreams = [] ∧ (n = 1 ∨ n = 2) ∧ (s.getLoop n).state ≠ .fault ∧
      s.int .loopQuantity n ≠ 6 ∧ s.int .loopWatch n = 1) ∧
    (∃ (s : State) (n : Nat), s.watchMay = true ∧ s.openStreams = [] ∧ (n = 1 ∨ n = 2) ∧ (s.getLoop n).state ≠ .fault ∧
      s.int .loopQuantity n ≠ 6 ∧ 1 < s.int .loopWatch n) :=
  ⟨⟨ln, keep, by decide +kernel⟩,
   ⟨ln, { keep with serial := { fmt := ⟨921600, 8, 0, 1⟩ } }, by decide +kernel⟩,
   ⟨keep, by decide +kernel⟩,
   ⟨watching, by decide +kernel⟩,
   ⟨num .headEnable 1 watching, by decide +kernel⟩,
   ⟨num .loopQuantity 6 watching 1, 1, by decide +kernel⟩,
   ⟨num .loopWatch 0 (num .loopQuantity 7 watching 1) 1, 1, by decide +kernel⟩,
   ⟨num .loopWatch 1 (num .loopQuantity 7 watching 1) 1, 1, by decide +kernel⟩,
   ⟨num .loopWatch 2 (num .loopQuantity 7 watching 1) 1, 1, by decide +kernel⟩⟩

theorem witness_WakeSourcesAndWake :
    (∃ (line : List Byte) (s : State), s.sys.state = .watch ∧ s.serial.fmt.baud ≤ 9600 ∧ s.pwr.csin = true ∧
      s.matchesHead line = true ∧ (line.drop 2).head? ≠ some 0x1A ∧ s.serial.woke.length < 2) ∧
    (∃ (line : List Byte) (s : State), s.matchesHead line = false) ∧
    (∃ (s : State), s.sys.state = .watch ∧ 9600 < s.serial.fmt.baud ∧ s.pwr.csin = true) ∧
    (∃ (s : State), s.sys.state = .watch ∧ s.pwr.csin = false ∧ 460800 < s.serial.fmt.baud) ∧
    (∃ (s : State), s.sys.state = .watch ∧ s.serial.irFlood = false ∧ s.gated 24 = false) ∧
    (∃ (s : State), s.serial.irFlood = true) ∧
    (∃ (s : State), s.sys.state = .ready ∧ 9600 < s.serial.fmt.baud ∧ s.pwr.csin = true) ∧
    (∃ (src : SerialPort) (s : State), s.sys.state = .watch ∧ s.sys.waking = some src) ∧
    (∃ (s : State) (n : Nat), s.nv.ckDue = false ∧ s.sys.state = .watch ∧ (n = 1 ∨ n = 2)) ∧
    (∃ (s : State), s.nv.ckDue = false ∧ s.sys.state = .watch ∧ s.pwr.hotWaits = [] ∧ s.pwr.p24Low = false) ∧
    (∃ (s : State), s.sys.waking = none) :=
  ⟨⟨[0x40, 0x2A, 0x0D], { mode .watch keep with serial := { fmt := ⟨9600, 8, 0, 1⟩ } }, by decide +kernel⟩,
   ⟨[], keep, by decide +kernel⟩,
   ⟨mode .watch keep, by decide +kernel⟩,
   ⟨{ mode .watch keep with pwr := {}, serial := { fmt := ⟨921600, 8, 0, 1⟩ } }, by decide +kernel⟩,
   ⟨mode .watch keep, by decide +kernel⟩,
   ⟨{ keep with serial := { irFlood := true } }, by decide +kernel⟩,
   ⟨keep, by decide +kernel⟩,
   ⟨.chain, { keep with sys := { keep.sys with state := .watch, waking := some .chain } }, by decide +kernel⟩,
   ⟨mode .watch keep, 1, by decide +kernel⟩,
   ⟨mode .watch keep, by decide +kernel⟩,
   ⟨keep, by decide +kernel⟩⟩

theorem witness_IslandsGateAndReset :
    (∃ (s : State), s.on .islandAutoGate = true ∧ s.serving = true ∧ (∀ j, j ∈ s.dome.jobs → j.started = none) ∧
      s.isl.busy05 + msTicks ≤ s.sys.tick) ∧
    (∃ (s : State), s.on .islandAutoGate = true ∧ s.serving = true ∧ (∀ j, j ∈ s.dome.queue → j.started = none ∨ j.writing = true) ∧
      s.isl.busy06 + msTicks ≤ s.sys.tick) ∧
    (∃ (n : Nat) (s : State), (s.on .islandAutoGate = false ∨ s.serving = false ∨ (n ≠ 5 ∧ n ≠ 6) ∨ (n = 5 ∧
      s.sys.tick < s.isl.busy05 + msTicks) ∨ (n = 6 ∧ s.sys.tick < s.isl.busy06 + msTicks))) ∧
    (∃ (s : State) (k : Nat), (s.serving = true ∨ (s.sys.state = .start ∧ 9 ≤ s.sys.step)) ∧ k < 4) ∧
    (∃ (s : State) (k : Nat), s.serving = true ∧ s.jobs = [] ∧ (∀ k, k < 4 → (s.getSess k).running = none ∧
      (s.getSess k).waiting = none) ∧ (s.isl.cmdLog.filter fun x => decide (s.sys.tick < x + 10 * secTicks)).length < 3 ∧ k < 4) ∧
    (∃ (s : State), s.serving = true ∧ s.jobs = [] ∧ (∀ k, k < 4 → (s.getSess k).running = none ∧ (s.getSess k).waiting = none) ∧
      3 ≤ (s.isl.cmdLog.filter fun x => decide (s.sys.tick < x + 10 * secTicks)).length) ∧
    (∃ (s : State), s.isl.cmdDown = true ∧ s.serving = true ∧ s.serial.held = [] ∧ s.serial.irHeld = []) :=
  ⟨⟨keep, by decide +kernel, by decide +kernel, (by intro j h; cases h), by decide +kernel⟩,
   ⟨keep, by decide +kernel, by decide +kernel, (by intro j h; cases h), by decide +kernel⟩,
   ⟨7, keep, by decide +kernel⟩,
   ⟨keep, 0, by decide +kernel⟩,
   ⟨keep, 0, by decide +kernel⟩,
   ⟨{ keep with isl := { cmdLog := [keep.sys.tick, keep.sys.tick, keep.sys.tick] } }, by decide +kernel⟩,
   ⟨{ keep with isl := { cmdDown := true } }, by decide +kernel⟩⟩

theorem witness_PathsAreRead :
    (∃ (hd : Hdr) (p : Path) (s : State), s.begins hd (.getPath p) = true ∧ leafOf p = none) ∧
    (∃ (hd : Hdr) (p : Path) (k : Key) (s : State), s.begins hd (.getPath p) = true ∧ leafOf p = some k ∧ k.isAct = false ∧
      s.mayRead (s.replyTo hd) (s.target hd k) false = false) ∧
    (∃ (hd : Hdr) (p : Path) (k : Key) (s : State), s.begins hd (.getPath p) = true ∧ leafOf p = some k ∧ k.isAct = false ∧
      s.mayRead (s.replyTo hd) (s.target hd k) false = true ∧ k.s ≠ .keyDevice) ∧
    (∃ (hd : Hdr) (p : Path) (s : State), s.begins hd (.showPath p) = true ∧ leavesUnder p = [] ∧ p ≠ [.w "key", .w "device"]) ∧
    (∃ (hd : Hdr) (p : Path) (k : Key) (s : State), s.begins hd (.showPath p) = true ∧ leavesUnder p = [k] ∧ leafOf p = some k ∧
      p ≠ [.w "key", .w "device"] ∧ k.isAct = false ∧ k.s ≠ .keyDevice ∧ s.mayRead (s.replyTo hd) (s.target hd k) true = true) ∧
    (∃ (hd : Hdr) (s : State), s.begins hd (.helpPath none) = true) ∧
    (∃ (hd : Hdr) (p : Path) (s : State), s.begins hd (.helpPath (some p)) = true ∧ helpLines p ≠ [] ∧ (helpLines p).length ≤ 256) ∧
    (∃ (hd : Hdr) (p : Path) (s : State), s.begins hd (.helpPath (some p)) = true ∧ helpLines p = []) ∧
    (∃ (hd : Hdr) (p : Path) (k : Key) (ms : Nat) (s : State), s.begins hd (.watchPath p (.period ms)) = true ∧ leafOf p = some k ∧
      k.isAct = false ∧ (s.replyTo hd).turret ≠ none ∧ s.mayRead (s.replyTo hd) (s.target hd k) true = true ∧
      ((s.getSess hd.sess).watches.filter fun w => decide (w.key ≠ s.target hd k)).length < 16 ∧ 10 ≤ ms ∧ ms ≤ 60000) ∧
    (∃ (hd : Hdr) (p : Path) (k : Key) (ms : Nat) (s : State), s.begins hd (.watchPath p (.period ms)) = true ∧ leafOf p = some k ∧
      k.isAct = false ∧ (s.replyTo hd).turret ≠ none ∧ s.mayRead (s.replyTo hd) (s.target hd k) true = true ∧ (ms < 10 ∨ 60000 < ms)) ∧
    (∃ (hd : Hdr) (p : Path) (k : Key) (s : State), s.begins hd (.watchPath p .change) = true ∧ leafOf p = some k ∧
      k.isAct = false ∧ (s.replyTo hd).turret ≠ none ∧ s.mayRead (s.replyTo hd) (s.target hd k) true = true ∧
      16 ≤ ((s.getSess hd.sess).watches.filter fun w => decide (w.key ≠ s.target hd k)).length) ∧
    (∃ (hd : Hdr) (p : Path) (k : Key) (s : State), s.begins hd (.watchPath p .off) = true ∧ leafOf p = some k ∧ k.isAct = false ∧
      (s.replyTo hd).turret ≠ none ∧ s.mayRead (s.replyTo hd) (s.target hd k) true = true) ∧
    (∃ (n : Nat) (i : Nat) (ms : Nat) (m : Nat) (w : WatchE) (s : State) (k : Nat), (s.getSess n).watches[i]? = some w ∧
      w.period = some ms ∧ s.serving = true ∧ w.due ≤ s.sys.tick ∧ (s.getSess n).login = some m ∧
      s.mayRead (s.asSess n) w.key true = true ∧ s.hears (.turret m false) "watch" k = true ∧ k < 4 ∧
      (s.getSess k).events.length < maxEvents) ∧
    (∃ (n : Nat) (i : Nat) (m : Nat) (w : WatchE) (s : State) (k : Nat), (s.getSess n).watches[i]? = some w ∧ w.period = none ∧
      s.serving = true ∧ w.due ≤ s.sys.tick ∧ (s.getSess n).login = some m ∧ s.mayRead (s.asSess n) w.key true = true ∧
      w.last ≠ some (s.readFor (s.asSess n) w.key) ∧ s.hears (.turret m false) "watch" k = true ∧ k < 4 ∧
      (s.getSess k).events.length < maxEvents) ∧
    (∃ (n : Nat) (i : Nat) (w : WatchE) (s : State), (s.getSess n).watches[i]? = some w ∧ w.period = none ∧
      w.last = some (s.readFor (s.asSess n) w.key)) ∧
    (∃ (n : Nat) (i : Nat) (w : WatchE) (s : State), (s.getSess n).watches[i]? = some w ∧ s.sys.tick < w.due) :=
  ⟨⟨ln, [.w "sys"], keep, by decide +kernel⟩,
   ⟨ln, [.w "chain", .w "baud"], ⟨.chainBaud, 0, 0⟩, tur 1, by decide +kernel⟩,
   ⟨ln, [.w "sys", .w "state"], ⟨.sysState, 0, 0⟩, tur 1, by decide +kernel⟩,
   ⟨ln, [.w "nothing"], keep, by decide +kernel⟩,
   ⟨ln, [.w "sys", .w "state"], ⟨.sysState, 0, 0⟩, keep, by decide +kernel⟩,
   ⟨ln, keep, by decide +kernel⟩,
   ⟨ln, [.w "sys", .w "state"], keep, by decide +kernel⟩,
   ⟨ln, [.w "nothing"], keep, by decide +kernel⟩,
   ⟨ln, [.w "sys", .w "state"], ⟨.sysState, 0, 0⟩, 10, keep, by decide +kernel⟩,
   ⟨ln, [.w "sys", .w "state"], ⟨.sysState, 0, 0⟩, 60001, keep, by decide +kernel⟩,
   ⟨ln, [.w "sys", .w "state"], ⟨.sysState, 0, 0⟩,
     { keep with sess := [(0, { isOpen := true, login := some 0, watches := (List.range 16).map fun i => ⟨⟨.seqScale, i, 0⟩, none, 0, none, none⟩ })] },
     by decide +kernel⟩,
   ⟨ln, [.w "sys", .w "state"], ⟨.sysState, 0, 0⟩, keep, by decide +kernel⟩,
   ⟨0, 0, 10, 0, ⟨⟨.sysState, 0, 0⟩, some 10, 0, none, none⟩,
     { keep with sess := [(0, { isOpen := true, login := some 0, watches := [⟨⟨.sysState, 0, 0⟩, some 10, 0, none, none⟩] })] }, 0,
     by decide +kernel⟩,
   ⟨0, 0, 0, ⟨⟨.sysState, 0, 0⟩, none, 0, none, none⟩,
     { keep with sess := [(0, { isOpen := true, login := some 0, watches := [⟨⟨.sysState, 0, 0⟩, none, 0, none, none⟩] })] }, 0,
     by decide +kernel⟩,
   ⟨0, 0, ⟨⟨.sysState, 0, 0⟩, none, 0, some [.word "READY"], none⟩,
     { keep with sess := [(0, { isOpen := true, login := some 0, watches := [⟨⟨.sysState, 0, 0⟩, none, 0, some [.word "READY"], none⟩] })] },
     by decide +kernel⟩,
   ⟨0, 0, ⟨⟨.sysState, 0, 0⟩, some 10, 2000000000, none, none⟩,
     { keep with sess := [(0, { isOpen := true, login := some 0, watches := [⟨⟨.sysState, 0, 0⟩, some 10, 2000000000, none, none⟩] })] },
     by decide +kernel⟩⟩

theorem witness_PathsAreWritten :
    (∃ (hd : Hdr) (p : Path) (tok : List Char) (s : State), s.begins hd (.setPath p tok) = true ∧ leafOf p = none) ∧
    (∃ (hd : Hdr) (p : Path) (tok : List Char) (k : Key) (s : State), s.begins hd (.setPath p tok) = true ∧ leafOf p = some k ∧
      k.isAct = false ∧ k.s.info.ty.form tok = none) ∧
    (∃ (hd : Hdr) (p : Path) (tok : List Char) (k : Key) (v : Val) (s : State), s.begins hd (.setPath p tok) = true ∧
      leafOf p = some k ∧ k.isAct = false ∧ k.s.info.ty.form tok = some v ∧ k.s.info.ty.kindOk v = true ∧
      s.mayWrite (s.replyTo hd) (s.target hd k) = false) ∧
    (∃ (hd : Hdr) (p : Path) (tok : List Char) (k : Key) (v : Val) (s : State), s.begins hd (.setPath p tok) = true ∧
      leafOf p = some k ∧ k.isAct = false ∧ k.s.info.ty.form tok = some v ∧ k.s.info.ty.kindOk v = true ∧
      s.mayWrite (s.replyTo hd) (s.target hd k) = true ∧ k.s.info.run = .ro) ∧
    (∃ (hd : Hdr) (p : Path) (tok : List Char) (k : Key) (v : Val) (s : State), s.begins hd (.setPath p tok) = true ∧
      leafOf p = some k ∧ k.isAct = false ∧ k.s.info.ty.form tok = some v ∧ k.s.info.ty.kindOk v = true ∧
      s.mayWrite (s.replyTo hd) (s.target hd k) = true ∧ k.s.info.run = .no ∧ s.sorting = true) ∧
    (∃ (hd : Hdr) (p : Path) (tok : List Char) (k : Key) (v : Val) (s : State), s.begins hd (.setPath p tok) = true ∧
      leafOf p = some k ∧ k.isAct = false ∧ k.s.info.ty.form tok = some v ∧ k.s.info.ty.kindOk v = true ∧
      s.mayWrite (s.replyTo hd) (s.target hd k) = true ∧ k.s.info.run = .yes ∧ k.s ≠ .seqPartitioned ∧
      s.setBar (s.target hd k) v = false ∧ k.s.info.ty.rangeOk v = false) ∧
    (∃ (hd : Hdr) (p : Path) (tok : List Char) (k : Key) (v : Val) (s : State), s.begins hd (.setPath p tok) = true ∧
      leafOf p = some k ∧ k.isAct = false ∧ k.s.info.ty.form tok = some v ∧ k.s.info.row = .plain ∧ s.settable hd k v = true ∧
      s.plainRange (s.target hd k) v = false ∧ (k.s = .feedMode → (s.setVal (s.target hd k) v).coilsRefused = false) ∧
      k.s ∉ [.loopAlarmMa, .towerRole, .towerPartner, .islandAutoGate, .linkEnable, .seqPartitioned, .feedMode, .irBaud, .irPulse]) :=
  ⟨⟨ln, [.w "sys"], ['1'], keep, by decide +kernel⟩,
   ⟨ln, [.w "nv", .w "checkpoint_s"], ['x'], ⟨.nvCheckpointS, 0, 0⟩, keep, by decide +kernel⟩,
   ⟨ln, [.w "nv", .w "checkpoint_s"], ['1', '0'], ⟨.nvCheckpointS, 0, 0⟩, .num 10, tur 1, by decide +kernel⟩,
   ⟨ln, [.w "sys", .w "epoch"], ['1', '0'], ⟨.sysEpoch, 0, 0⟩, .num 10, keep, by decide +kernel⟩,
   ⟨ln, [.w "ledger", .w "p24_avg_limit"], ['2', '0', '0', '0'], ⟨.ledgerAvgLimit, 0, 0⟩, .num 2000, mode .run keep,
     by decide +kernel⟩,
   ⟨ln, [.w "nv", .w "checkpoint_s"], ['9'], ⟨.nvCheckpointS, 0, 0⟩, .num 9, keep, by decide +kernel⟩,
   ⟨ln, [.w "feed", .w "max_rate"], ['4', '0', '0', '0', '0'], ⟨.feedMaxRate, 0, 0⟩, .num 40000, keep, by decide +kernel⟩⟩

theorem witness_BoundSettingsKeepBounds :
    (∃ (hd : Hdr) (k : Key) (v : Val) (s : State) (u : State), s.sets hd k v = true ∧ u = s.setVal (s.target hd k) v ∧
      k.s.info.row = .linkHeadroom ∧ u.nat .linkHeadroom (s.target hd k).i + u.nat .linkHysteresis (s.target hd k).i ≤ 98304) ∧
    (∃ (hd : Hdr) (k : Key) (v : Val) (s : State) (u : State), s.sets hd k v = true ∧ u = s.setVal (s.target hd k) v ∧
      k.s.info.row = .linkHeadroom ∧ 98304 < u.nat .linkHeadroom (s.target hd k).i + u.nat .linkHysteresis (s.target hd k).i) ∧
    (∃ (hd : Hdr) (k : Key) (v : Val) (s : State) (u : State), s.sets hd k v = true ∧ u = s.setVal (s.target hd k) v ∧
      k.s.info.row = .feedTargetUnit ∧ (u.int .feedTargetUnit ≠ 1 ∨ u.int .feedTarget ≤ 60000000)) ∧
    (∃ (hd : Hdr) (k : Key) (v : Val) (s : State) (u : State), s.sets hd k v = true ∧ u = s.setVal (s.target hd k) v ∧
      k.s.info.row = .feedTargetUnit ∧ u.int .feedTargetUnit = 1 ∧ 60000000 < u.int .feedTarget) ∧
    (∃ (hd : Hdr) (k : Key) (v : Val) (s : State) (u : State), s.sets hd k v = true ∧ u = s.setVal (s.target hd k) v ∧
      k.s.info.row = .captureMark ∧ u.int .captureResumeMark < u.int .captureSlowMark ∧
      u.int .captureSlowMark < u.int .capturePauseMark ∧ u.int .capturePauseMark < u.fill6) ∧
    (∃ (hd : Hdr) (k : Key) (v : Val) (s : State) (u : State), s.sets hd k v = true ∧ u = s.setVal (s.target hd k) v ∧
      k.s.info.row = .captureMark ∧ u.int .captureResumeMark < u.int .captureSlowMark ∧
      u.int .captureSlowMark < u.int .capturePauseMark ∧ u.fill6 < u.int .captureResumeMark) ∧
    (∃ (hd : Hdr) (k : Key) (v : Val) (s : State) (u : State), s.sets hd k v = true ∧ u = s.setVal (s.target hd k) v ∧
      k.s.info.row = .captureMark ∧
      (u.int .captureSlowMark ≤ u.int .captureResumeMark ∨ u.int .capturePauseMark ≤ u.int .captureSlowMark)) ∧
    (∃ (hd : Hdr) (k : Key) (v : Val) (s : State) (u : State), s.sets hd k v = true ∧ u = s.setVal (s.target hd k) v ∧
      k.s.info.row = .valveSetting ∧ u.int .valveHoldA (s.target hd k).i ≤ u.int .valvePeakA (s.target hd k).i) ∧
    (∃ (hd : Hdr) (k : Key) (v : Val) (s : State) (u : State), s.sets hd k v = true ∧ u = s.setVal (s.target hd k) v ∧
      k.s.info.row = .valveSetting ∧ u.int .valvePeakA (s.target hd k).i < u.int .valveHoldA (s.target hd k).i) ∧
    (∃ (hd : Hdr) (k : Key) (v : Val) (s : State) (u : State), s.sets hd k v = true ∧ u = s.setVal (s.target hd k) v ∧
      k.s.info.row = .feedCurrent ∧
      (u.int .feedAccelCurrent < u.int .feedRunCurrent ∨ u.int .feedRunCurrent < u.int .feedHoldCurrent)) ∧
    (∃ (hd : Hdr) (k : Key) (v : Val) (s : State) (u : State), s.sets hd k v = true ∧ u = s.setVal (s.target hd k) v ∧
      k.s.info.row = .feedCurrent ∧ u.int .feedRunCurrent ≤ u.int .feedAccelCurrent ∧ u.int .feedHoldCurrent ≤ u.int .feedRunCurrent ∧
      s.feed.energised = false ∧ u.coilsRefused = false ∧ (s.serving = false ∨ u.coilsFree = false ∨ u.int .feedHoldCurrent = 0)) ∧
    (∃ (hd : Hdr) (k : Key) (v : Val) (s : State) (u : State), s.sets hd k v = true ∧ u = s.setVal (s.target hd k) v ∧
      k.s.info.row = .feedCurrent ∧ u.int .feedRunCurrent ≤ u.int .feedAccelCurrent ∧ u.int .feedHoldCurrent ≤ u.int .feedRunCurrent ∧
      s.feed.energised = false ∧ u.coilsRefused = false ∧ s.serving = true ∧ u.coilsFree = true ∧ u.int .feedHoldCurrent ≠ 0) ∧
    (∃ (hd : Hdr) (k : Key) (v : Val) (s : State) (u : State), s.sets hd k v = true ∧ u = s.setVal (s.target hd k) v ∧
      k.s.info.row = .feedCurrent ∧ u.int .feedRunCurrent ≤ u.int .feedAccelCurrent ∧ u.int .feedHoldCurrent ≤ u.int .feedRunCurrent ∧
      s.feed.energised = true ∧ u.standingFits u.ledger.strobe (some u.stepperReserve) = true ∧ u.int .feedHoldCurrent ≠ 0) ∧
    (∃ (hd : Hdr) (k : Key) (v : Val) (s : State) (u : State), s.sets hd k v = true ∧ u = s.setVal (s.target hd k) v ∧
      k.s.info.row = .feedCurrent ∧ u.int .feedRunCurrent ≤ u.int .feedAccelCurrent ∧ u.int .feedHoldCurrent ≤ u.int .feedRunCurrent ∧
      s.feed.energised = true ∧ u.standingFits u.ledger.strobe (some u.stepperReserve) = false) ∧
    (∃ (hd : Hdr) (k : Key) (v : Val) (s : State) (u : State), s.sets hd k v = true ∧ u = s.setVal (s.target hd k) v ∧
      k.s.info.row = .peakShare ∧ u.shareSum ≤ u.valvePool) ∧
    (∃ (hd : Hdr) (k : Key) (v : Val) (s : State) (u : State), s.sets hd k v = true ∧ u = s.setVal (s.target hd k) v ∧
      k.s.info.row = .peakShare ∧ u.valvePool < u.shareSum) ∧
    (∃ (hd : Hdr) (k : Key) (v : Val) (s : State) (u : State), s.sets hd k v = true ∧ u = s.setVal (s.target hd k) v ∧
      k.s.info.row = .peakBudget ∧ k.s = .ejectPeakBudget ∧ u.valvePool < u.shareSum) ∧
    (∃ (hd : Hdr) (k : Key) (v : Val) (s : State) (u : State), s.sets hd k v = true ∧ u = s.setVal (s.target hd k) v ∧
      k.s.info.row = .peakBudget ∧ (k.s ≠ .ejectPeakBudget ∨ u.shareSum ≤ u.valvePool) ∧
      u.standingFits u.ledger.strobe u.ledger.stepper = true) ∧
    (∃ (hd : Hdr) (k : Key) (v : Val) (s : State) (u : State), s.sets hd k v = true ∧ u = s.setVal (s.target hd k) v ∧
      k.s.info.row = .peakBudget ∧ (k.s ≠ .ejectPeakBudget ∨ u.shareSum ≤ u.valvePool) ∧
      u.standingFits u.ledger.strobe u.ledger.stepper = false) ∧
    (∃ (hd : Hdr) (k : Key) (v : Val) (s : State) (u : State), s.sets hd k v = true ∧ u = s.setVal (s.target hd k) v ∧
      k.s = .streamRateMbps ∧ towerMbps < u.towerRates ∧ s.rateSum < u.rateSum) ∧
    (∃ (hd : Hdr) (k : Key) (v : Val) (s : State) (u : State), s.sets hd k v = true ∧ u = s.setVal (s.target hd k) v ∧
      k.s = .streamRateMbps ∧ (u.towerRates ≤ towerMbps ∨ u.rateSum ≤ s.rateSum)) :=
  ⟨⟨ln, ⟨.linkHeadroom, 0, 0⟩, .num 65536, keep, (keep).setVal ((keep).target ln ⟨.linkHeadroom, 0, 0⟩) (.num 65536),
     by decide +kernel, rfl, by decide +kernel, by decide +kernel⟩,
   ⟨ln, ⟨.linkHeadroom, 0, 0⟩, .num 65536, num .linkHysteresis 32769 keep,
     (num .linkHysteresis 32769 keep).setVal ((num .linkHysteresis 32769 keep).target ln ⟨.linkHeadroom, 0, 0⟩) (.num 65536),
     by decide +kernel, rfl, by decide +kernel, by decide +kernel⟩,
   ⟨ln, ⟨.feedTarget, 0, 0⟩, .num 60000000, keep, (keep).setVal ((keep).target ln ⟨.feedTarget, 0, 0⟩) (.num 60000000),
     by decide +kernel, rfl, by decide +kernel, by decide +kernel⟩,
   ⟨ln, ⟨.feedTargetUnit, 0, 0⟩, .num 1, num .feedTarget 60000001 keep,
     (num .feedTarget 60000001 keep).setVal ((num .feedTarget 60000001 keep).target ln ⟨.feedTargetUnit, 0, 0⟩) (.num 1),
     by decide +kernel, rfl, by decide +kernel, by decide +kernel, by decide +kernel⟩,
   ⟨ln, ⟨.captureSlowMark, 0, 0⟩, .num 40000000, { keep with capture := { recs := [⟨0, 0, bigData, 0⟩] } },
     ({ keep with capture := { recs := [⟨0, 0, bigData, 0⟩] } }).setVal (({ keep with capture := { recs := [⟨0, 0, bigData, 0⟩] } }).target ln ⟨.captureSlowMark,
     0, 0⟩) (.num 40000000), by decide +kernel, rfl, by decide +kernel, by decide +kernel, by decide +kernel,
     bigFill rfl (by decide +kernel)⟩,
   ⟨ln, ⟨.captureSlowMark, 0, 0⟩, .num 40000000, keep, (keep).setVal ((keep).target ln ⟨.captureSlowMark, 0, 0⟩) (.num 40000000),
     by decide +kernel, rfl, by decide +kernel, by decide +kernel, by decide +kernel, by decide +kernel⟩,
   ⟨ln, ⟨.captureSlowMark, 0, 0⟩, .num 30000000, keep, (keep).setVal ((keep).target ln ⟨.captureSlowMark, 0, 0⟩) (.num 30000000),
     by decide +kernel, rfl, by decide +kernel, by decide +kernel⟩,
   ⟨ln, ⟨.valveHoldA, 0, 0⟩, .num 300000, num .valvePeakA 300000 keep,
     (num .valvePeakA 300000 keep).setVal ((num .valvePeakA 300000 keep).target ln ⟨.valveHoldA, 0, 0⟩) (.num 300000),
     by decide +kernel, rfl, by decide +kernel, by decide +kernel⟩,
   ⟨ln, ⟨.valveHoldA, 0, 0⟩, .num 600000, num .valvePeakA 590000 keep,
     (num .valvePeakA 590000 keep).setVal ((num .valvePeakA 590000 keep).target ln ⟨.valveHoldA, 0, 0⟩) (.num 600000),
     by decide +kernel, rfl, by decide +kernel, by decide +kernel⟩,
   ⟨ln, ⟨.feedRunCurrent, 0, 0⟩, .num 1300000, keep, (keep).setVal ((keep).target ln ⟨.feedRunCurrent, 0, 0⟩) (.num 1300000),
     by decide +kernel, rfl, by decide +kernel, by decide +kernel⟩,
   ⟨ln, ⟨.feedRunCurrent, 0, 0⟩, .num 1200000, mode .ready (num .feedMode 1 keep),
     (mode .ready (num .feedMode 1 keep)).setVal ((mode .ready (num .feedMode 1 keep)).target ln ⟨.feedRunCurrent, 0,
     0⟩) (.num 1200000), by decide +kernel, rfl, by decide +kernel, by decide +kernel, by decide +kernel, by decide +kernel,
     by decide +kernel, by decide +kernel⟩,
   ⟨ln, ⟨.feedRunCurrent, 0, 0⟩, .num 1200000, keep, (keep).setVal ((keep).target ln ⟨.feedRunCurrent, 0, 0⟩) (.num 1200000),
     by decide +kernel, rfl, by decide +kernel, by decide +kernel, by decide +kernel, by decide +kernel, by decide +kernel,
     by decide +kernel, by decide +kernel, by decide +kernel⟩,
   ⟨ln, ⟨.feedRunCurrent, 0, 0⟩, .num 1200000, { keep with feed := { energised := true } },
     ({ keep with feed := { energised := true } }).setVal (({ keep with feed := { energised := true } }).target ln ⟨.feedRunCurrent,
     0, 0⟩) (.num 1200000), by decide +kernel, rfl, by decide +kernel, by decide +kernel, by decide +kernel, by decide +kernel,
     by decide +kernel, by decide +kernel⟩,
   ⟨ln, ⟨.feedRunCurrent, 0, 0⟩, .num 3000000,
     num .feedAccelCurrent 3000000 (num .ledgerAvgLimit 1000 { keep with feed := { energised := true } }),
     (num .feedAccelCurrent 3000000 (num .ledgerAvgLimit 1000 { keep with feed := { energised := true } })).setVal ((num .feedAccelCurrent 3000000 (num .ledgerAvgLimit 1000 { keep with feed := { energised := true } })).target ln ⟨.feedRunCurrent,
     0, 0⟩) (.num 3000000), by decide +kernel, rfl, by decide +kernel, by decide +kernel, by decide +kernel, by decide +kernel,
     by decide +kernel⟩,
   ⟨ln, ⟨.turretPeakShare, 0, 0⟩, .num 1000, keep, (keep).setVal ((keep).target ln ⟨.turretPeakShare, 0, 0⟩) (.num 1000),
     by decide +kernel, rfl, by decide +kernel, by decide +kernel⟩,
   ⟨ln, ⟨.turretPeakShare, 0, 0⟩, .num 24001, keep, (keep).setVal ((keep).target ln ⟨.turretPeakShare, 0, 0⟩) (.num 24001),
     by decide +kernel, rfl, by decide +kernel, by decide +kernel⟩,
   ⟨ln, ⟨.ejectPeakBudget, 0, 0⟩, .num 1000, num .turretPeakShare 1001 keep 1,
     (num .turretPeakShare 1001 keep 1).setVal ((num .turretPeakShare 1001 keep 1).target ln ⟨.ejectPeakBudget, 0, 0⟩) (.num 1000),
     by decide +kernel, rfl, by decide +kernel, by decide +kernel, by decide +kernel⟩,
   ⟨ln, ⟨.ledgerAvgLimit, 0, 0⟩, .num 1000, keep, (keep).setVal ((keep).target ln ⟨.ledgerAvgLimit, 0, 0⟩) (.num 1000),
     by decide +kernel, rfl, by decide +kernel, by decide +kernel, by decide +kernel⟩,
   ⟨ln, ⟨.ledgerAvgLimit, 0, 0⟩, .num 1000, { keep with ledger := { strobe := some (0, 1001) } },
     ({ keep with ledger := { strobe := some (0, 1001) } }).setVal (({ keep with ledger := { strobe := some (0, 1001) } }).target ln ⟨.ledgerAvgLimit,
     0, 0⟩) (.num 1000), by decide +kernel, rfl, by decide +kernel, by decide +kernel, by decide +kernel⟩,
   ⟨ln, ⟨.streamRateMbps, 0, 0⟩, .num 16000, num .streamTurret 1 { keep with tower := { addr := 1, rates := [(2, 1)] } },
     (num .streamTurret 1 { keep with tower := { addr := 1, rates := [(2, 1)] } }).setVal ((num .streamTurret 1 { keep with tower := { addr := 1, rates := [(2, 1)] } }).target ln ⟨.streamRateMbps,
     0, 0⟩) (.num 16000), by decide +kernel, rfl, by decide +kernel, by decide +kernel, by decide +kernel⟩,
   ⟨ln, ⟨.streamRateMbps, 0, 0⟩, .num 16000, keep, (keep).setVal ((keep).target ln ⟨.streamRateMbps, 0, 0⟩) (.num 16000),
     by decide +kernel, rfl, by decide +kernel, by decide +kernel⟩⟩

theorem witness_WaitingSettingsAreStaged :
    (∃ (hd : Hdr) (k : Key) (v : Val) (s : State), s.sets hd k v = true ∧ k.s.info.row = .lanternStaged) ∧
    (∃ (hd : Hdr) (k : Key) (v : Val) (s : State), s.sets hd k v = true ∧ k.s.info.row = .classStaged ∧ k.s ≠ .classRule) ∧
    (∃ (hd : Hdr) (k : Key) (v : Val) (s : State) (b : List Byte), s.sets hd k v = true ∧ k.s = .classRule ∧ v = .bytes b ∧
      ruleOk b = true) ∧
    (∃ (hd : Hdr) (k : Key) (v : Val) (s : State) (b : List Byte), s.sets hd k v = true ∧ k.s = .classRule ∧ v = .bytes b ∧
      ruleOk b = false) ∧
    (∃ (hd : Hdr) (k : Key) (v : Val) (s : State), s.sets hd k v = true ∧ k.s.info.row = .seqStaged) ∧
    (∃ (hd : Hdr) (k : Key) (v : Val) (s : State), s.sets hd k v = true ∧ k.s.info.row = .chainFormat ∧ k.s = .chainBaud) ∧
    (∃ (hd : Hdr) (k : Key) (v : Val) (s : State), s.sets hd k v = true ∧ k.s.info.row = .chainFormat ∧ k.s = .chainBaud) ∧
    (∃ (hd : Hdr) (k : Key) (v : Val) (s : State), s.sets hd k v = true ∧ k.s = .islandGate ∧ s.sys.state = .ready ∧
      gateWrong v.int.toNat = false) ∧
    (∃ (hd : Hdr) (k : Key) (v : Val) (s : State), s.sets hd k v = true ∧ k.s = .islandGate ∧ s.sys.state = .ready ∧
      gateWrong v.int.toNat = true) ∧
    (∃ (hd : Hdr) (k : Key) (v : Val) (s : State), s.sets hd k v = true ∧ k.s = .headExpectType) ∧
    (∃ (hd : Hdr) (k : Key) (v : Val) (s : State), s.sets hd k v = true ∧ k.s = .checkIntervalS ∧
      (v.int = 0 ∨ s.partitioned = false ∨ 3100 ≤ s.longest 0)) ∧
    (∃ (hd : Hdr) (k : Key) (v : Val) (s : State), s.sets hd k v = true ∧ k.s = .checkIntervalS ∧ v.int ≠ 0 ∧ s.partitioned = true ∧
      s.longest 0 < 3100) ∧
    (∃ (hd : Hdr) (k : Key) (v : Val) (s : State), s.sets hd k v = true ∧ k.s = .loopQuantity ∧
      (v.int = qRate ∨ v.int = qMass ∨ v.int = qState) ∧ s.nat .loopTurret (s.target hd k).i ≠ 0) ∧
    (∃ (hd : Hdr) (k : Key) (v : Val) (s : State), s.sets hd k v = true ∧ k.s = .loopQuantity ∧
      (v.int = qRate ∨ v.int = qMass ∨ v.int = qState ∨ v.int = qEntry) ∧ s.nat .loopTurret (s.target hd k).i = 0 ∧
      (v.int = qEntry → s.nat .seqTurret (s.nat .loopEntry (s.target hd k).i) = 0)) ∧
    (∃ (hd : Hdr) (k : Key) (v : Val) (s : State), s.sets hd k v = true ∧ k.s = .loopLo ∧ v.int = s.int .loopHi (s.target hd k).i) ∧
    (∃ (hd : Hdr) (k : Key) (v : Val) (s : State), s.sets hd k v = true ∧ k.s = .loopLo ∧ v.int ≠ s.int .loopHi (s.target hd k).i) ∧
    (∃ (hd : Hdr) (k : Key) (v : Val) (s : State), s.sets hd k v = true ∧ k.s = .nvCheckpointS ∧
      s.sys.tick < s.nv.ckLast + v.int.toNat * secTicks) ∧
    (∃ (hd : Hdr) (k : Key) (v : Val) (s : State), s.sets hd k v = true ∧ k.s = .nvCheckpointS ∧
      s.nv.ckLast + v.int.toNat * secTicks ≤ s.sys.tick) :=
  ⟨⟨ln, ⟨.lanternLineRate, 0, 0⟩, .num 100, keep, by decide +kernel⟩,
   ⟨ln, ⟨.classCoef, 0, 0⟩, .bytes (List.replicate 36 1), num .classTurret 1 (tur 1), by decide +kernel⟩,
   ⟨ln, ⟨.classRule, 0, 1⟩, .bytes ([0x81, 1, 0, 1, 0, 0] ++ List.replicate 10 0), tur 1,
     [0x81, 1, 0, 1, 0, 0] ++ List.replicate 10 0, by decide +kernel⟩,
   ⟨ln, ⟨.classRule, 0, 1⟩, .bytes (1 :: List.replicate 15 0), tur 1, 1 :: List.replicate 15 0, by decide +kernel⟩,
   ⟨ln, ⟨.seqScale, 0, 0⟩, .num 5, num .seqTurret 1 (tur 1), by decide +kernel⟩,
   ⟨ln, ⟨.chainBaud, 0, 0⟩, .num 9600, keep, by decide +kernel⟩,
   ⟨ln, ⟨.chainBaud, 0, 0⟩, .num 9600, keep, by decide +kernel⟩,
   ⟨ln, ⟨.islandGate, 0, 0⟩, .num 0, keep, by decide +kernel⟩,
   ⟨ln, ⟨.islandGate, 0, 0⟩, .num 1, keep, by decide +kernel⟩,
   ⟨ln, ⟨.headExpectType, 0, 0⟩, .text [], keep, by decide +kernel⟩,
   ⟨ln, ⟨.checkIntervalS, 0, 0⟩, .num 86400, keep, by decide +kernel⟩,
   ⟨ln, ⟨.checkIntervalS, 0, 0⟩, .num 1, num .seqPartitioned 1 keep, by decide +kernel⟩,
   ⟨ln, ⟨.loopQuantity, 1, 0⟩, .num 1, num .loopTurret 1 (tur 1) 1, by decide +kernel⟩,
   ⟨ln, ⟨.loopQuantity, 1, 0⟩, .num 1, num .loopTurret 0 keep 1, by decide +kernel⟩,
   ⟨ln, ⟨.loopLo, 1, 0⟩, .num 100000000, num .loopTurret 0 keep 1, by decide +kernel⟩,
   ⟨ln, ⟨.loopLo, 1, 0⟩, .num 1, num .loopTurret 0 keep 1, by decide +kernel⟩,
   ⟨ln, ⟨.nvCheckpointS, 0, 0⟩, .num 11, keep, by decide +kernel⟩,
   ⟨ln, ⟨.nvCheckpointS, 0, 0⟩, .num 10, { keep with sys := { keep.sys with tick := 1000000000000 } }, by decide +kernel⟩⟩

theorem witness_AssignmentsKeepBounds :
    (∃ (hd : Hdr) (k : Key) (v : Val) (s : State) (lo : Nat) (hi : Nat), s.sets hd k v = true ∧
      (k.s = .turretXaLo ∨ k.s = .turretXaHi) ∧
      lo = (if k.s = .turretXaLo then v.int.toNat else s.nat .turretXaLo (s.target hd k).i) ∧
      hi = (if k.s = .turretXaHi then v.int.toNat else s.nat .turretXaHi (s.target hd k).i) ∧ lo < 65535 ∧ hi < 65535 ∧ hi < lo) ∧
    (∃ (hd : Hdr) (k : Key) (v : Val) (s : State) (lo : Nat) (hi : Nat) (m : Nat), s.sets hd k v = true ∧
      (k.s = .turretXaLo ∨ k.s = .turretXaHi) ∧
      lo = (if k.s = .turretXaLo then v.int.toNat else s.nat .turretXaLo (s.target hd k).i) ∧
      hi = (if k.s = .turretXaHi then v.int.toNat else s.nat .turretXaHi (s.target hd k).i) ∧ m < 64 ∧ m ≠ (s.target hd k).i ∧
      lo < 65535 ∧ hi < 65535 ∧ s.nat .turretXaLo m < 65535 ∧ s.nat .turretXaHi m < 65535 ∧ lo ≤ s.nat .turretXaHi m ∧
      s.nat .turretXaLo m ≤ hi) ∧
    (∃ (hd : Hdr) (k : Key) (v : Val) (s : State) (lo : Nat) (hi : Nat), s.sets hd k v = true ∧
      (k.s = .turretXaLo ∨ k.s = .turretXaHi) ∧
      lo = (if k.s = .turretXaLo then v.int.toNat else s.nat .turretXaLo (s.target hd k).i) ∧
      hi = (if k.s = .turretXaHi then v.int.toNat else s.nat .turretXaHi (s.target hd k).i) ∧ (lo = 65535 ∨ hi = 65535)) ∧
    (∃ (hd : Hdr) (k : Key) (v : Val) (s : State), s.sets hd k v = true ∧ k.s.info.row = .assignment ∧
      s.assignRange (s.target hd k) v = true) ∧
    (∃ (hd : Hdr) (k : Key) (v : Val) (s : State), s.sets hd k v = true ∧
      (k.s = .valveTurret ∨ k.s = .turretJobs ∨ k.s = .ejectQueueShare ∨ k.s = .turretProtKib) ∧
      s.assignRange (s.target hd k) v = false) ∧
    (∃ (hd : Hdr) (k : Key) (v : Val) (s : State), s.sets hd k v = true ∧ k.s = .seqSlotTurret) ∧
    (∃ (hd : Hdr) (k : Key) (v : Val) (s : State) (n : Nat), s.sets hd k v = true ∧ k.s = .streamTurret ∧
      s.val (s.target hd k) ≠ v ∧ v.int < 64 ∧ (s.assign (s.target hd k) v).towerRates ≤ towerMbps ∧ n ≠ (s.target hd k).i) :=
  ⟨⟨ln, ⟨.turretXaLo, 1, 0⟩, .num 21, num .turretXaLo 10 (num .turretXaHi 20 keep 1) 1, 21, 20, by decide +kernel⟩,
   ⟨ln, ⟨.turretXaLo, 2, 0⟩, .num 20, num .turretXaHi 30 (num .turretXaLo 10 (num .turretXaHi 20 keep 1) 1) 2, 20, 30, 1,
     by decide +kernel⟩,
   ⟨ln, ⟨.turretXaLo, 1, 0⟩, .num 65535, num .turretXaLo 10 (num .turretXaHi 20 keep 1) 1, 65535, 20, by decide +kernel⟩,
   ⟨ln, ⟨.turretJobs, 1, 0⟩, .num 8, num .turretJobs 8 (num .turretJobs 8 (num .turretJobs 8 (num .turretJobs 8 keep 2) 3) 4) 5,
     by decide +kernel⟩,
   ⟨ln, ⟨.turretJobs, 1, 0⟩, .num 8, keep, by decide +kernel⟩,
   ⟨ln, ⟨.seqSlotTurret, 0, 0⟩, .num 1, keep, by decide +kernel⟩,
   ⟨ln, ⟨.streamTurret, 0, 0⟩, .num 1, keep, 1, by decide +kernel⟩⟩

theorem witness_ChallengeLogins :
    (∃ (hd : Hdr) (n : Nat) (s : State), s.begins hd (.loginChallenge n) = true ∧ hd.sess < 2 ∧ n ≤ 63 ∧
      s.locked hd.sess n = false ∧ s.dome.rngFault = false) ∧
    (∃ (hd : Hdr) (n : Int) (s : State), s.begins hd (.loginChallenge n) = true ∧ (hd.sess < 2 → n < 0 ∨ 63 < n)) ∧
    (∃ (hd : Hdr) (n : Nat) (s : State), s.begins hd (.loginChallenge n) = true ∧ hd.sess < 2 ∧ n ≤ 63 ∧ s.locked hd.sess n = true) ∧
    (∃ (hd : Hdr) (n : Nat) (x : Nat) (w : Option (List Byte)) (c : Chal) (s : State), s.begins hd (.loginResponse n ⟨x,
      w⟩) = true ∧ hd.sess < 2 ∧ n ≤ 63 ∧ (s.getTurret n).state ≠ .revoked ∧ s.locked hd.sess n = false ∧
      (s.getSess hd.sess).challenge = some c ∧ c.turret = n ∧ s.sys.tick < c.issued + challengeTicks ∧
      (SMap.look KeySlot.init (s.getTurret n).slots 1).kind = .login ∧ unwraps n w = true ∧
      x = loginHmac (SMap.look KeySlot.init (s.getTurret n).slots 1).key c.value n hd.sess ∧ s.jobs = [] ∧
      (s.getSess hd.sess).running = none ∧ (s.getSess hd.sess).login ≠ none) ∧
    (∃ (hd : Hdr) (n : Nat) (x : Nat) (w : Option (List Byte)) (c : Chal) (s : State), s.begins hd (.loginResponse n ⟨x,
      w⟩) = true ∧ hd.sess < 2 ∧ n ≤ 63 ∧ (s.getTurret n).state ≠ .revoked ∧ s.locked hd.sess n = false ∧
      (s.getSess hd.sess).challenge = some c ∧ c.turret = n ∧ s.sys.tick < c.issued + challengeTicks ∧
      (SMap.look KeySlot.init (s.getTurret n).slots 1).kind = .login ∧ unwraps n w = false) ∧
    (∃ (hd : Hdr) (n : Nat) (x : Nat) (s : State), s.begins hd (.loginResponse n ⟨x, none⟩) = true ∧ hd.sess < 2 ∧ n ≤ 63 ∧
      (s.getTurret n).state ≠ .revoked ∧ s.locked hd.sess n = false ∧ (∀ c,
      (s.getSess hd.sess).challenge = some c → c.turret ≠ n ∨ c.issued + challengeTicks ≤ s.sys.tick ∨ x ≠ loginHmac (SMap.look KeySlot.init (s.getTurret n).slots 1).key c.value n hd.sess) ∧
      SMap.look 0 (s.getSess hd.sess).fails n < 4) ∧
    (∃ (hd : Hdr) (n : Nat) (x : Nat) (s : State), s.begins hd (.loginResponse n ⟨x, none⟩) = true ∧ hd.sess < 2 ∧ n ≤ 63 ∧
      (s.getTurret n).state ≠ .revoked ∧ s.locked hd.sess n = false ∧ (∀ c,
      (s.getSess hd.sess).challenge = some c → c.turret ≠ n ∨ c.issued + challengeTicks ≤ s.sys.tick ∨ x ≠ loginHmac (SMap.look KeySlot.init (s.getTurret n).slots 1).key c.value n hd.sess) ∧
      SMap.look 0 (s.getSess hd.sess).fails n = 4) ∧
    (∃ (k : Nat) (c : Chal) (s : State) (q : Nat), (s.getSess k).challenge = some c ∧ q ≠ k) ∧
    (∃ (k : Nat) (c : Chal) (s : State), (s.getSess k).challenge = some c ∧ c.issued + challengeTicks ≤ s.sys.tick) ∧
    (∃ (k : Nat) (c : Chal) (s : State), (s.getSess k).challenge = some c ∧ s.sys.tick < c.issued + challengeTicks) :=
  ⟨⟨ln, 63, keep, by decide +kernel⟩,
   ⟨ln, 64, keep, by decide +kernel⟩,
   ⟨ln, 0, { keep with sess := [(0, { isOpen := true, lockEnd := [(0, 1000000001)] })] }, by decide +kernel⟩,
   ⟨ln, 0, loginHmac (List.replicate 32 0x11) 7 0 0, none, ⟨7, 0, 900000000⟩,
     { keep with sess := [(0, { isOpen := true, login := some 0, challenge := some ⟨7, 0, 900000000⟩ })] }, by decide +kernel,
     by decide +kernel, by decide +kernel, by decide +kernel, by decide +kernel, by decide +kernel, by decide +kernel,
     by decide +kernel, by decide +kernel, by decide +kernel, rfl, by decide +kernel, by decide +kernel, by decide +kernel⟩,
   ⟨ln, 0, 5, some [], ⟨7, 0, 900000000⟩,
     { keep with sess := [(0, { isOpen := true, login := some 0, challenge := some ⟨7, 0, 900000000⟩ })] }, by decide +kernel,
     by decide +kernel, by decide +kernel, by decide +kernel, by decide +kernel, by decide +kernel, by decide +kernel,
     by decide +kernel, by decide +kernel, (by simp [unwraps, kwpOpen])⟩,
   ⟨ln, 1, 5, { keep with sess := [(0, { isOpen := true, challenge := some ⟨7, 0, 900000000⟩ })] }, by decide +kernel,
     by decide +kernel, by decide +kernel, by decide +kernel, by decide +kernel, (by intro c h; cases h; exact Or.inl (by decide)),
     by decide +kernel⟩,
   ⟨ln, 1, 5, { keep with sess := [(0, { isOpen := true, challenge := some ⟨7, 0, 900000000⟩, fails := [(1, 4)] })] },
     by decide +kernel, by decide +kernel, by decide +kernel, by decide +kernel, by decide +kernel,
     (by intro c h; cases h; exact Or.inl (by decide)), by decide +kernel⟩,
   ⟨0, ⟨7, 0, 900000000⟩, { keep with sess := [(0, { isOpen := true, login := some 0, challenge := some ⟨7, 0, 900000000⟩ })] }, 1,
     by decide +kernel⟩,
   ⟨0, ⟨7, 0, 900000000⟩,
     { keep with sess := [(0, { isOpen := true, login := some 0, challenge := some ⟨7, 0, 900000000⟩ })], sys := { keep.sys with tick := 900000000000 } },
     by decide +kernel⟩,
   ⟨0, ⟨7, 0, 900000000⟩, { keep with sess := [(0, { isOpen := true, login := some 0, challenge := some ⟨7, 0, 900000000⟩ })] },
     by decide +kernel⟩⟩

theorem witness_PinLogins :
    (∃ (hd : Hdr) (n : Nat) (ds : List Char) (s : State), s.begins hd (.loginPin n ds) = true ∧ pinForm ds = false) ∧
    (∃ (hd : Hdr) (n : Nat) (ds : List Char) (s : State), s.begins hd (.loginPin n ds) = true ∧ pinForm ds = true ∧
      (hd.sess ≠ 1 ∨ (n ≤ 63 ∧ (s.getTurret n).pins = []))) ∧
    (∃ (hd : Hdr) (n : Nat) (ds : List Char) (s : State), s.begins hd (.loginPin n ds) = true ∧ pinForm ds = true ∧ hd.sess = 1 ∧
      n ≤ 63 ∧ (s.getTurret n).state ≠ .revoked ∧ (s.getTurret n).pins ≠ [] ∧ (s.getTurret n).pinLock = none ∧
      (ds.map fun c => BitVec.ofNat 8 c.toNat) ∈ (s.getTurret n).pins ∧ s.jobs = [] ∧ (s.getSess hd.sess).running = none) ∧
    (∃ (hd : Hdr) (n : Nat) (ds : List Char) (s : State), s.begins hd (.loginPin n ds) = true ∧ pinForm ds = true ∧ hd.sess = 1 ∧
      n ≤ 63 ∧ (s.getTurret n).state ≠ .revoked ∧ (s.getTurret n).pins ≠ [] ∧ (s.getTurret n).pinLock = none ∧
      (ds.map fun c => BitVec.ofNat 8 c.toNat) ∉ (s.getTurret n).pins ∧ (s.getTurret n).pinFails < 4) ∧
    (∃ (hd : Hdr) (n : Nat) (ds : List Char) (s : State), s.begins hd (.loginPin n ds) = true ∧ pinForm ds = true ∧ hd.sess = 1 ∧
      n ≤ 63 ∧ (s.getTurret n).state ≠ .revoked ∧ (s.getTurret n).pins ≠ [] ∧ (s.getTurret n).pinLock = none ∧
      (ds.map fun c => BitVec.ofNat 8 c.toNat) ∉ (s.getTurret n).pins ∧ 4 ≤ (s.getTurret n).pinFails) ∧
    (∃ (n : Nat) (e : Tick) (s : State) (m : Nat), (s.getTurret n).pinLock = some e ∧ e ≤ s.sys.tick ∧ s.pwr.l24Valid = true ∧
      m ≠ n) ∧
    (∃ (n : Nat) (s : State), (s.pwr.l24Valid = false ∨ (∀ e, (s.getTurret n).pinLock = some e → s.sys.tick < e))) :=
  ⟨⟨ln, 0, ['1'], keep, by decide +kernel⟩,
   ⟨ln, 0, ['1', '2', '3', '4', '5', '6'], keep, by decide +kernel⟩,
   ⟨{ sess := 1 }, 0, ['1', '2', '3', '4', '5', '6'],
     { keep with turrets := [(0, { state := .claimed, slots := [(3, ⟨.pin, [0x31, 0x32, 0x33, 0x34, 0x35, 0x36]⟩)] })] },
     by decide +kernel⟩,
   ⟨{ sess := 1 }, 0, ['1', '2', '3', '4', '5', '7'],
     { keep with turrets := [(0, { state := .claimed, slots := [(3, ⟨.pin, [0x31, 0x32, 0x33, 0x34, 0x35, 0x36]⟩)], pinFails := 3 })] },
     by decide +kernel⟩,
   ⟨{ sess := 1 }, 0, ['1', '2', '3', '4', '5', '7'],
     { keep with turrets := [(0, { state := .claimed, slots := [(3, ⟨.pin, [0x31, 0x32, 0x33, 0x34, 0x35, 0x36]⟩)], pinFails := 4 })] },
     by decide +kernel⟩,
   ⟨0, 5,
     { keep with turrets := [(0, { state := .claimed, slots := [(3, ⟨.pin, [0x31, 0x32, 0x33, 0x34, 0x35, 0x36]⟩)], pinLock := some 5 })] },
     1, by decide +kernel⟩,
   ⟨0, State.reset, by decide +kernel⟩⟩

theorem witness_LoginsEnd :
    (∃ (hd : Hdr) (s : State) (q : Nat), s.begins hd .logout = true ∧ hd.sess < 2 ∧ s.jobs = [] ∧
      (s.getSess hd.sess).running = none ∧ (s.getSess hd.sess).login = none ∧ q ≠ hd.sess) ∧
    (∃ (hd : Hdr) (s : State) (q : Nat), s.begins hd .logout = true ∧ hd.sess < 2 ∧ s.jobs = [] ∧
      (s.getSess hd.sess).running = none ∧ (s.getSess hd.sess).login ≠ none ∧ q ≠ hd.sess) ∧
    (∃ (hd : Hdr) (s : State), s.begins hd .logout = true ∧ 2 ≤ hd.sess) ∧
    (∃ (k : Nat) (s : State) (q : Nat), k < 2 ∧ (s.getSess k).login ≠ none ∧ s.nat .sessIdleS k ≠ 0 ∧ s.busySess k = false ∧
      (s.getSess k).lastActive + s.nat .sessIdleS k * secTicks ≤ s.sys.tick ∧ q < 4 ∧ q ≠ k ∧ s.hears .keep "session" q = false) ∧
    (∃ (k : Nat) (s : State),
      (2 ≤ k ∨ s.nat .sessIdleS k = 0 ∨ s.busySess k = true ∨ s.sys.tick < (s.getSess k).lastActive + s.nat .sessIdleS k * secTicks)) ∧
    (∃ (k : Nat) (n : Nat) (s : State) (q : Nat), s.locked k n = false ∧ q ≠ k) ∧
    (∃ (k : Nat) (n : Nat) (s : State), s.locked k n = true) ∧
    (∃ (e : Tick) (s : State), s.sys.restartLock = some e) ∧
    (∃ (k : Nat) (v : List Byte) (at_ : Tick) (s : State) (q : Nat), (s.getSess k).nonce = some (v, at_) ∧ q ≠ k) ∧
    (∃ (k : Nat) (v : List Byte) (at_ : Tick) (s : State), (s.getSess k).nonce = some (v, at_) ∧ at_ + 60 * secTicks ≤ s.sys.tick) ∧
    (∃ (k : Nat) (v : List Byte) (at_ : Tick) (s : State), (s.getSess k).nonce = some (v, at_) ∧ s.sys.tick < at_ + 60 * secTicks) :=
  ⟨⟨ln, { keep with sess := [(0, { isOpen := true })] }, 1, by decide +kernel⟩,
   ⟨ln, keep, 1, by decide +kernel⟩,
   ⟨{ sess := 2, check := .good }, { keep with sess := [(2, { isOpen := true })] }, by decide +kernel⟩,
   ⟨0, { keep with sys := { keep.sys with tick := 900000000000 } }, 1, by decide +kernel⟩,
   ⟨2, keep, by decide +kernel⟩,
   ⟨0, 1, keep, 1, by decide +kernel⟩,
   ⟨0, 0, { keep with sess := [(0, { isOpen := true, lockEnd := [(0, 2000000000)] })] }, by decide +kernel⟩,
   ⟨5, { halted with sys := { halted.sys with restartLock := some 5 } }, by decide +kernel⟩,
   ⟨0, [1], 5, { keep with sess := [(0, { isOpen := true, nonce := some ([1], 5) })] }, 1, by decide +kernel⟩,
   ⟨0, [1], 5, { keep with sess := [(0, { isOpen := true, nonce := some ([1], 5) })], sys := { keep.sys with tick := 6000000005 } },
     by decide +kernel⟩,
   ⟨0, [1], 5, { keep with sess := [(0, { isOpen := true, nonce := some ([1], 5) })] }, by decide +kernel⟩⟩

theorem witness_LinesWaitAndAbort :
    (∃ (hd : Hdr) (p : Path) (s : State), s.heard hd (.getPath p) = true ∧ hd.tag = none ∧ s.sys.state ≠ .halted ∧
      (s.getSess hd.sess).running ≠ none ∧ (s.getSess hd.sess).waiting = none) ∧
    (∃ (hd : Hdr) (p : Path) (s : State), s.heard hd (.getPath p) = true ∧ hd.tag = none ∧ s.sys.state ≠ .halted ∧
      (s.getSess hd.sess).running ≠ none ∧ (s.getSess hd.sess).waiting ≠ none) ∧
    (∃ (k : Nat) (hd : Hdr) (c : Cmd) (s : State), s.serving = true ∧ s.takesLines k = true ∧ s.islandDown = false ∧
      (s.getSess k).running = none ∧ (s.getSess k).waiting = some (hd, c) ∧ hd.sess = k ∧ hd.tag = none ∧ (∀ a, c ≠ .abort a) ∧
      s.lineBar hd c = none ∧ s.gate (s.replyTo hd) c = none) ∧
    (∃ (k : Nat) (s : State), (s.getSess k).running ≠ none) ∧
    (∃ (hd : Hdr) (a : AbortArg) (s : State), s.heard hd (.abort a) = true ∧ s.sys.state ≠ .halted ∧ hd.tag = none) ∧
    (∃ (s : State) (v : State) (c : Cmd) (q : ReplyTo) (r : ReplyTo) (u : State), s.sys.aborts = [(q, .untagged)] ∧
      s.sys.state ≠ .halted ∧ v = { s with sys := { s.sys with aborts := [] } } ∧ (s.getSess q.sess).running = some (c, r) ∧
      r.sess = q.sess ∧ (s.getSess q.sess).waiting = none ∧ v.abortable r = some u ∧ (u.getSess q.sess).waiting = none) ∧
    (∃ (s : State) (v : State) (c : Cmd) (q : ReplyTo) (r : ReplyTo), s.sys.aborts = [(q, .untagged)] ∧ s.sys.state ≠ .halted ∧
      v = { s with sys := { s.sys with aborts := [] } } ∧ (s.getSess q.sess).running = some (c, r) ∧ r.sess = q.sess ∧
      (s.getSess q.sess).waiting = none ∧ v.abortable r = none) ∧
    (∃ (q : ReplyTo) (n : Nat) (s : State), s.sys.aborts = [(q, .tag n)] ∧ s.sys.state ≠ .halted ∧ (∀ j,
      j ∈ s.jobs → j.sess = q.sess → j.reply.tag ≠ some n)) ∧
    (∃ (q : ReplyTo) (a : AbortArg) (h : HaltRec) (s : State), s.sys.aborts = [(q, a)] ∧ s.sys.state = .halted ∧
      s.sys.halt = some h) ∧
    (∃ (s : State), s.sys.aborts = []) :=
  ⟨⟨ln, [],
     { keep with sess := [(0, { isOpen := true, login := some 0, running := some (.sysStop, ⟨0, none, false, some 0, 0⟩) })] },
     by decide +kernel⟩,
   ⟨ln, [],
     { keep with sess := [(0, { isOpen := true, login := some 0, waiting := some (ln, .logout), running := some (.sysStop, ⟨0, none, false, some 0, 0⟩) })] },
     by decide +kernel⟩,
   ⟨0, ln, .logout, { keep with sess := [(0, { isOpen := true, login := some 0, waiting := some (ln, .logout) })] },
     by decide +kernel, by decide +kernel, by decide +kernel, by decide +kernel, by decide +kernel, by decide +kernel,
     by decide +kernel, (by intro a h; cases h), by decide +kernel, by decide +kernel⟩,
   ⟨0, { keep with sess := [(0, { isOpen := true, running := some (.sysStop, ⟨0, none, false, some 0, 0⟩) })] }, by decide +kernel⟩,
   ⟨ln, .untagged, keep, by decide +kernel⟩,
   ⟨{ aborting with sys := { aborting.sys with aborts := [(r0, .untagged)] } },
     { aborting with sys := { aborting.sys with aborts := [] } }, .seqNow 1, r0, r0,
     (({ aborting with sys := { aborting.sys with aborts := [] } } : State).abortable r0).getD keep, by decide +kernel,
     by decide +kernel, rfl, by decide +kernel, by decide +kernel, by decide +kernel, rfl, by decide +kernel⟩,
   ⟨{ testing with sys := { testing.sys with aborts := [(r0, .untagged)] } },
     { testing with sys := { testing.sys with aborts := [] } }, .valveTest 3 100000, r0, r0, by decide +kernel, by decide +kernel,
     rfl, by decide +kernel, by decide +kernel, by decide +kernel, by decide +kernel⟩,
   ⟨r0, 7, { keep with sys := { keep.sys with aborts := [(r0, .tag 7)] } }, by decide +kernel, by decide +kernel,
     (by intro j h; cases h)⟩,
   ⟨r0, .untagged, { cause := 10, tick := 5, challenge := some 7 },
     { halted with sys := { halted.sys with aborts := [(r0, .untagged)] } }, by decide +kernel⟩,
   ⟨keep, by decide +kernel⟩⟩

theorem witness_ChainCharacters :
    (∃ (i : Nat), i < 8) ∧
    (∃ (bits : List RxBit) (m : Nat) (c : Byte) (g : CharTags) (s : State), s.reads bits m c g = true ∧
      (s.sys.state = .off ∨ s.pwr.logicOn = false ∨ s.pwr.csin = false)) ∧
    (∃ (bits : List RxBit) (m : Nat) (c : Byte) (g : CharTags) (s : State), s.reads bits m c g = true ∧ s.sys.state = .watch ∧
      s.pwr.logicOn = true ∧ s.pwr.csin = true ∧ s.collects = false ∧ s.serial.repeating = true) ∧
    (∃ (bits : List RxBit) (m : Nat) (s : State), (((s.serial.fmt.frame bits).headD ⟨false, false,
      false⟩).value = true ∨ (s.serial.brk ≠ none ∧ m * s.serial.fmt.baud < secTicks))) ∧
    (∃ (bits : List RxBit) (m : Nat) (c : Byte) (g : CharTags) (s : State), s.reads bits m c g = true ∧ s.sys.state ≠ .off ∧
      s.sys.state ≠ .watch ∧ s.pwr.logicOn = true ∧ s.pwr.csin = true ∧ s.serial.takes 1 ∧ (g.any = true ∨ (c ≠ 13 ∧ c ≠ 10)) ∧
      3 ≤ s.serial.line.count ∧ s.serial.line.fate = .forward) ∧
    (∃ (bits : List RxBit) (m : Nat) (c : Byte) (g : CharTags) (s : State), s.reads bits m c g = true ∧ s.sys.state ≠ .off ∧
      s.sys.state ≠ .watch ∧ s.pwr.logicOn = true ∧ s.pwr.csin = true ∧ s.serial.takes 1 ∧ (g.any = true ∨ (c ≠ 13 ∧ c ≠ 10)) ∧
      3 ≤ s.serial.line.count ∧ (s.serial.line.fate = .execute ∨ s.serial.line.fate = .withhold) ∧ s.islandDown = false ∧
      s.serial.line.overrun = false ∧ s.serial.line.count < 200) ∧
    (∃ (bits : List RxBit) (m : Nat) (c : Byte) (g : CharTags) (s : State), s.reads bits m c g = true ∧ s.sys.state ≠ .off ∧
      s.sys.state ≠ .watch ∧ s.pwr.logicOn = true ∧ s.pwr.csin = true ∧ s.serial.takes 1 ∧ (g.any = true ∨ (c ≠ 13 ∧ c ≠ 10)) ∧
      s.serial.line.count = 0 ∧ g.any = false ∧ c ≠ 0x1A ∧ c ≠ 0x40) ∧
    (∃ (bits : List RxBit) (m : Nat) (c : Byte) (g : CharTags) (s : State), s.reads bits m c g = true ∧ s.sys.state ≠ .off ∧
      s.sys.state ≠ .watch ∧ s.pwr.logicOn = true ∧ s.pwr.csin = true ∧ s.serial.takes 1 ∧ (g.any = true ∨ (c ≠ 13 ∧ c ≠ 10)) ∧
      s.serial.line.count = 2 ∧ s.serial.line.fate = .undecided ∧ g.any = false ∧ c ≠ 0x1A ∧ s.tower.addr ≠ 0 ∧
      s.serial.line.head ++ [c] = addrBytes s.tower.addr ∧ s.islandDown = false ∧ s.serial.line.overrun = false) ∧
    (∃ (bits : List RxBit) (s : State), s.serial.fmt.isBreak bits = true ∧ s.serial.brk = none ∧
      (s.serial.fmt.frame bits).head? ≠ none ∧ s.sys.state ≠ .off ∧ s.sys.state ≠ .watch ∧ s.pwr.logicOn = true ∧ s.pwr.csin = true ∧
      s.serial.takes 2 ∧ s.serial.line = {} ∧ s.islandDown = false) ∧
    (∃ (bits : List RxBit) (m : Nat) (s : State), s.reads bits m 13 {} = true ∧ s.sys.state ≠ .off ∧ s.sys.state ≠ .watch ∧
      s.pwr.logicOn = true ∧ s.pwr.csin = true ∧ s.serial.repeating = false ∧ s.serial.line.count ≠ 0 ∧
      s.serial.line.fate = .execute ∧ s.serial.line.isEnum = false ∧ s.islandDown = false) :=
  ⟨⟨0, by decide +kernel⟩,
   ⟨wave 0x41, 5, 0x41, {}, State.reset, by decide +kernel⟩,
   ⟨wave 0x41, 5, 0x41, {}, { mode .watch keep with serial := { repeating := true } }, by decide +kernel⟩,
   ⟨[], 5, keep, by decide +kernel⟩,
   ⟨wave 0x41, 5, 0x41, {}, { keep with serial := { line := { count := 3, fate := .forward } } }, by decide +kernel⟩,
   ⟨wave 0x41, 5, 0x41, {}, { keep with serial := { line := { count := 199, fate := .execute } } }, by decide +kernel⟩,
   ⟨wave 0x41, 5, 0x41, {}, keep, by decide +kernel⟩,
   ⟨wave 0x31, 5, 0x31, {}, { keep with serial := { line := { count := 2, head := [0x40, 0x30] } } }, by decide +kernel⟩,
   ⟨List.replicate 10 (rxBit false), keep, by decide +kernel⟩,
   ⟨wave 13, 5, { keep with serial := { line := helpLine } }, by decide +kernel⟩⟩

theorem witness_ChainPortIdlesAndSends :
    (∃ (s : State), s.sys.state ≠ .off ∧ s.sys.state ≠ .watch ∧ s.pwr.logicOn = true ∧ s.serial.line.tooLong = false ∧
      s.serial.line.overrun = false ∧ (∀ l, s.serial.lastRx = some l → l + s.serial.fmt.charTicks 1 ≤ s.sys.tick)) ∧
    (∃ (l : Tick) (s : State), (s.sys.state = .off ∨ (s.serial.lastRx = some l ∧ s.sys.tick < l + s.serial.fmt.charTicks 1))) ∧
    (∃ (s : State), (s.pwr.csin = false ∨ s.sys.state = .off)) ∧
    (∃ (s : State), s.pwr.csin = true ∧ s.sys.state ≠ .off ∧ s.pwr.logicOn = true) ∧
    (∃ (b : Tick) (s : State), s.sys.state ≠ .off ∧ s.sys.state ≠ .watch ∧ s.serial.brk = some b ∧ b + 10 * msTicks < s.sys.tick ∧
      s.serial.brkTold = false ∧ s.pwr.csin = true ∧ s.pwr.logicOn = true) ∧
    (∃ (s : State), (s.serial.brk = none ∨ s.serial.brkTold = true)) ∧
    (∃ (l : OutLine) (u : State) (s : State), s.ownMay = true ∧ s.fenced 25 = false ∧ s.takeLine 0 = some (l, u)) ∧
    (∃ (s : State), (s.takeLine 0 = none ∨ 819 < (charsIn s.serial.backlog).length ∨ s.sys.tick < s.serial.txFree)) ∧
    (∃ (l : OutLine) (u : State) (s : State), s.ownMay = true ∧ s.fenced 25 = true ∧ s.takeLine 0 = some (l, u)) ∧
    (∃ (f : Fmt) (s : State), s.serial.newFmt = some f ∧ s.serial.backlog = [] ∧ s.serial.line.count = 0 ∧ (∀ w,
      s.serial.fmtWait = some w → s.answerSent w = true) ∧ s.serial.lastChar + s.serial.fmt.charTicks 10 ≤ s.sys.tick) ∧
    (∃ (w : AnsWait) (s : State), (s.sys.tick < s.serial.lastChar + s.serial.fmt.charTicks 10 ∨ (s.serial.fmtWait = some w ∧
      s.answerSent w = false))) ∧
    (∃ (w : AnsWait) (s : State), w.gen = (s.getSess w.sess).gen ∧ w.until_ = none ∧ (∃ l, l ∈ (s.getSess w.sess).out ∧
      l.ready = w.ready)) ∧
    (∃ (w : AnsWait) (t : Tick), w.until_ = some t) :=
  ⟨⟨keep, by decide +kernel, by decide +kernel, by decide +kernel, by decide +kernel, by decide +kernel, (by intro l h; cases h)⟩,
   ⟨5, State.reset, by decide +kernel⟩,
   ⟨State.reset, by decide +kernel⟩,
   ⟨keep, by decide +kernel⟩,
   ⟨5, { keep with serial := { brk := some 5 } }, by decide +kernel⟩,
   ⟨keep, by decide +kernel⟩,
   ⟨{ addr := none, tag := none, body := .ok [] }, (((lineWaits 0).takeLine 0).map (·.2)).getD keep, lineWaits 0, by decide +kernel,
     by decide +kernel, rfl⟩,
   ⟨keep, by decide +kernel⟩,
   ⟨{ addr := none, tag := none, body := .ok [] }, (((unchecked 25 (lineWaits 0)).takeLine 0).map (·.2)).getD keep,
     unchecked 25 (lineWaits 0), by decide +kernel, by decide +kernel, rfl⟩,
   ⟨⟨9600, 7, 1, 2⟩, { keep with serial := { newFmt := some ⟨9600, 7, 1, 2⟩ } }, by decide +kernel, by decide +kernel,
     by decide +kernel, (by intro w h; cases h), by decide +kernel⟩,
   ⟨⟨0, 0, 0, none⟩, { lineWaits 0 with serial := { newFmt := some ⟨9600, 7, 1, 2⟩, fmtWait := some ⟨0, 0, 0, none⟩ } },
     by decide +kernel⟩,
   ⟨⟨0, 0, 0, none⟩, lineWaits 0, by decide +kernel⟩,
   ⟨⟨0, 0, 0, some 5⟩, 5, by decide +kernel⟩⟩

theorem witness_IrPortReceivesAndSends :
    (∃ (ps : List IrPulse) (s : State), (s.irUp = false ∨ s.sys.tick - s.irTicks 1 < s.serial.irTxEnd ∨ (∀ p,
      p ∈ ps → p.width < usTicks))) ∧
    (∃ (ps : List IrPulse) (c : Byte) (g : CharTags) (s : State), irDecode s.irFormat.1 ps = some (c, g) ∧ s.irUp = true ∧
      s.serial.irTxEnd ≤ s.sys.tick - s.irTicks 1 ∧ s.islandDown = false ∧ (g.any = true ∨ (c ≠ 13 ∧ c ≠ 10)) ∧
      s.serial.irLine.overrun = false ∧ s.serial.irLine.count < 200) ∧
    (∃ (ps : List IrPulse) (s : State), irDecode s.irFormat.1 ps = some (13, {}) ∧ s.irUp = true ∧
      s.serial.irTxEnd ≤ s.sys.tick - s.irTicks 1 ∧ s.islandDown = false ∧ s.irFlooded (s.sys.tick - s.irTicks 1) = false) ∧
    (∃ (s : State), s.serial.irLine.tooLong = false ∧ s.serial.irLine.overrun = false ∧ (∀ l,
      s.serial.irRx = some l → l + s.irTicks 1 ≤ s.sys.tick)) ∧
    (∃ (l : OutLine) (u : State) (s : State), s.irMay = true ∧ s.fenced 25 = false ∧ s.serial.irRest = none ∧
      s.takeLine 1 = some (l, u)) ∧
    (∃ (p : Tick) (s : State), (s.serial.irMute = true ∨ s.sys.tick < s.serial.irTxEnd ∨ (s.serial.irPulse = some p ∧
      s.sys.tick < p + s.nat .irTurnaround * msTicks))) ∧
    (∃ (s : State), s.irMay = true ∧ s.fenced 25 = true ∧ (s.serial.irRest ≠ none ∨ s.takeLine 1 ≠ none)) ∧
    (∃ (x : Nat) (s : State), s.irStarted = true ∧ 40 < x ∧ s.serial.irFlood = false) ∧
    (∃ (x : Nat) (s : State), s.irStarted = true ∧ x < 30 ∧ s.serial.irFlood = true ∧ s.serial.irTold = true) ∧
    (∃ (x : Nat) (s : State), s.irStarted = true ∧ x < 30 ∧ s.serial.irFlood = true ∧ s.serial.irTold = false) ∧
    (∃ (x : Nat) (s : State), 30 ≤ x ∧ x ≤ 40 ∧ s.irStarted = true) ∧
    (∃ (s : State), s.irStarted = true ∧ s.serial.irFlood = true ∧ s.serial.irTold = false ∧
      s.serial.irFloodAt + 100 * msTicks ≤ s.sys.tick) ∧
    (∃ (s : State), s.sys.tick < s.serial.irFloodAt + 100 * msTicks) ∧
    (∃ (o : Tick) (s : State), s.irStarted = true ∧ s.serial.irFault = false ∧ s.serial.irOver = some o ∧
      o + 60 * secTicks ≤ s.sys.tick) ∧
    (∃ (s : State), s.serial.irFlood = false ∧ s.serial.irClearAt + 50 * msTicks ≤ s.sys.tick) ∧
    (∃ (s : State), (s.serial.irFlood = true ∨ s.sys.tick < s.serial.irClearAt + 50 * msTicks)) :=
  ⟨⟨[], State.reset, by decide +kernel⟩,
   ⟨irWave 0x41, 0x41, {}, { keep with serial := { irLine := { count := 199 } } }, by decide +kernel⟩,
   ⟨irWave 13, keep, by decide +kernel⟩,
   ⟨keep, by decide +kernel, by decide +kernel, (by intro l h; cases h)⟩,
   ⟨{ addr := none, tag := none, body := .ok [] }, (((lineWaits 1).takeLine 1).map (·.2)).getD keep, lineWaits 1, by decide +kernel,
     by decide +kernel, by decide +kernel, rfl⟩,
   ⟨5, { keep with serial := { irMute := true } }, by decide +kernel⟩,
   ⟨unchecked 25 (lineWaits 1), by decide +kernel, by decide +kernel, Or.inr (by decide)⟩,
   ⟨41, keep, by decide +kernel⟩,
   ⟨29, { keep with serial := { irFlood := true, irTold := true } }, by decide +kernel⟩,
   ⟨29, { keep with serial := { irFlood := true } }, by decide +kernel⟩,
   ⟨30, keep, by decide +kernel⟩,
   ⟨{ keep with serial := { irFlood := true } }, by decide +kernel⟩,
   ⟨{ keep with sys := { keep.sys with tick := 5 } }, by decide +kernel⟩,
   ⟨5, { keep with serial := { irOver := some 5 }, sys := { keep.sys with tick := 900000000000 } }, by decide +kernel⟩,
   ⟨keep, by decide +kernel⟩,
   ⟨{ keep with serial := { irFlood := true } }, by decide +kernel⟩⟩

theorem witness_EnumerationAndTowerOrder :
    (∃ (hd : Hdr) (n : Nat) (s : State), s.takesLines 0 = true ∧ hd.sess = 0 ∧ hd.addr = .absent ∧ hd.tag = none ∧ hd.check ≠ .bad ∧
      (hd.check = .absent → s.on .sessRequireCheck 0 = false) ∧ n ≤ 33 ∧ s.serial.takes 16 ∧ s.sorting = false ∧ n < 32 ∧
      (s.nat .towerPin = 0 ∨ n = 0) ∧ n ≠ 0) ∧
    (∃ (hd : Hdr) (n : Nat) (s : State), s.takesLines 0 = true ∧ hd.sess = 0 ∧ hd.addr = .absent ∧ hd.tag = none ∧ hd.check ≠ .bad ∧
      (hd.check = .absent → s.on .sessRequireCheck 0 = false) ∧ n ≤ 33 ∧ s.serial.takes 16 ∧ s.sorting = false ∧ n < 32 ∧ 0 < n ∧
      s.nat .towerPin ≠ 0) ∧
    (∃ (hd : Hdr) (n : Nat) (s : State), s.takesLines 0 = true ∧ hd.sess = 0 ∧ hd.addr = .absent ∧ hd.tag = none ∧ hd.check ≠ .bad ∧
      (hd.check = .absent → s.on .sessRequireCheck 0 = false) ∧ n ≤ 33 ∧ s.serial.takes 16 ∧ s.sorting = false ∧ 32 ≤ n) ∧
    (∃ (hd : Hdr) (n : Nat) (s : State), s.takesLines 0 = true ∧ hd.sess = 0 ∧ hd.addr = .absent ∧ hd.tag = none ∧ hd.check ≠ .bad ∧
      (hd.check = .absent → s.on .sessRequireCheck 0 = false) ∧ n ≤ 33 ∧ s.serial.takes 16 ∧ s.sorting = true ∧ s.tower.addr ≠ n + 1 ∧
      s.tower.addr ≠ 0) ∧
    (∃ (hd : Hdr) (n : Option Nat) (s : State), s.takesLines 0 = true ∧ hd.sess = 0 ∧ hd.addr = .absent ∧ hd.tag = none ∧
      hd.check = .bad ∧ s.serial.takes (enumEcho hd n).length) ∧
    (∃ (hd : Hdr) (s : State), s.serial.repeating = true ∧ hd.sess = 0 ∧ hd.addr = .absent ∧ s.pwr.logicOn = true ∧
      s.pwr.csin = true) ∧
    (∃ (hd : Hdr) (n : Option Nat) (s : State), s.takesLines hd.sess = true ∧ s.forOther hd = false ∧ s.sys.state ≠ .halted ∧
      hd.check = .good ∧ (Hdr.enumOf hd n = none ∨ hd.sess ≠ 0)) ∧
    (∃ (as : List Nat) (s : State), s.tower.spire = true ∧ s.tower.firstSent = true ∧ (∀ a,
      0 < a → a < 33 → (as.filter fun x => decide (x = a)).length < 2)) ∧
    (∃ (s : State), (s.tower.spire = false ∨ s.tower.firstSent = false)) ∧
    (∃ (a : Nat) (s : State), s.tower.addr ≠ 0 ∧ a ≠ 0 ∧ a + 1 ≠ s.tower.addr) ∧
    (∃ (p : Nat) (a : Nat) (s : State), (p ≠ 0 ∨ s.tower.addr = 0 ∨ a = 0 ∨ a + 1 = s.tower.addr)) ∧
    (∃ (a : Nat) (s : State), a ≠ s.tower.addr) ∧
    (∃ (s : State), s.tower.spire = true) ∧
    (∃ (p : Nat) (s : State), (s.tower.spire = false ∨ p ≠ 1)) ∧
    (∃ (p : Nat) (m : Tmgmt), m.addr ≠ 0 ∧ p = 1) ∧
    (∃ (p : Nat) (m : Tmgmt), m.addr ≠ 0 ∧ p ≠ 1) ∧
    (∃ (m : Tmgmt) (s : State), m.addr ≠ 0 ∧ SMap.look 0 s.tower.epochs m.addr ≠ m.epoch + 1) ∧
    (∃ (m : Tmgmt) (s : State), m.addr ≠ 0 ∧ SMap.look 0 s.tower.epochs m.addr ≠ m.epoch + 1) ∧
    (∃ (m : Tmgmt) (s : State), m.addr ≠ 0 ∧ SMap.look 0 s.tower.epochs m.addr = m.epoch + 1) :=
  ⟨⟨ln, 31, keep, by decide +kernel⟩,
   ⟨ln, 31, num .towerPin 4 keep, by decide +kernel⟩,
   ⟨ln, 32, keep, by decide +kernel⟩,
   ⟨ln, 33, mode .run keep, by decide +kernel⟩,
   ⟨{ sess := 0, check := .bad }, some 5, keep, by decide +kernel⟩,
   ⟨ln, { keep with serial := { repeating := true } }, by decide +kernel⟩,
   ⟨{ sess := 1, check := .good }, some 5, keep, by decide +kernel⟩,
   ⟨[1, 2], { keep with tower := { addr := 1, spire := true, firstSent := true } }, by decide +kernel, by decide +kernel,
     (by intro a _ _; by_cases h : 1 = a <;> by_cases h2 : 2 = a <;> simp [h, h2] <;> omega)⟩,
   ⟨keep, by decide +kernel⟩,
   ⟨2, keep, by decide +kernel⟩,
   ⟨1, 5, keep, by decide +kernel⟩,
   ⟨2, keep, by decide +kernel⟩,
   ⟨{ keep with tower := { addr := 1, spire := true } }, by decide +kernel⟩,
   ⟨1, keep, by decide +kernel⟩,
   ⟨1, ⟨2, 0, 5, 0, [], 0, 0⟩, by decide +kernel⟩,
   ⟨0, ⟨2, 0, 5, 0, [], 0, 0⟩, by decide +kernel⟩,
   ⟨⟨2, 0, 5, 0, [], 0, 0⟩, keep, by decide +kernel⟩,
   ⟨⟨2, 0, 5, 0, [], 0, 0⟩, keep, by decide +kernel⟩,
   ⟨⟨2, 0, 5, 0, [], 0, 0⟩, { keep with tower := { addr := 1, epochs := [(2, 6)] } }, by decide +kernel⟩⟩

theorem witness_MarksKeepTime :
    (∃ (cs : List Nat) (s : State) (top : Nat), s.tower.spire = true ∧ s.tower.firstSent = false ∧ s.countsHeld = true ∧
      top = (cs ++ s.tower.counts.map fun c : Nat × Nat => c.2 - 1).foldl max 0) ∧
    (∃ (s : State), (s.tower.spire = false ∨ s.tower.firstSent = true ∨ s.countsHeld = false)) ∧
    (∃ (s : State), s.tower.spire = true ∧ s.tower.stepped = true ∧ s.serving = true ∧ (∀ a,
      s.tower.markAt = some a → a + s.markTicks ≤ s.sys.tick)) ∧
    (∃ (a : Tick) (s : State), (s.tower.spire = false ∨ s.tower.stepped = false ∨ s.serving = false ∨ s.tower.markAt = some a ∧
      s.sys.tick < a + s.markTicks)) ∧
    (∃ (m : Mark) (x : Nat) (s : State) (e : Int), s.tower.spire = false ∧ s.tower.addr ≠ 0 ∧ m.timeOnly = true ∧
      e = (x : Int) - (16 * m.origin + (m.delay16 + (s.getPort 0).hop16) : Nat) ∧ e < -160000) ∧
    (∃ (m : Mark) (x : Nat) (s : State) (e : Int), s.tower.spire = false ∧ s.tower.addr ≠ 0 ∧ m.timeOnly = true ∧
      e = (x : Int) - (16 * m.origin + (m.delay16 + (s.getPort 0).hop16) : Nat) ∧ -160000 ≤ e) ∧
    (∃ (m : Mark) (x : Nat) (s : State) (e : Int), s.tower.spire = false ∧ s.tower.addr ≠ 0 ∧ m.timeOnly = true ∧
      e = (x : Int) - (16 * m.origin + (m.delay16 + (s.getPort 0).hop16) : Nat) ∧ (-80 ≤ e ∧ e ≤ 80)) ∧
    (∃ (m : Mark) (x : Nat) (s : State) (e : Int), s.tower.spire = false ∧ s.tower.addr ≠ 0 ∧ m.timeOnly = true ∧
      e = (x : Int) - (16 * m.origin + (m.delay16 + (s.getPort 0).hop16) : Nat) ∧ (e < -80 ∨ 80 < e)) ∧
    (∃ (s : State), s.tower.spire = true) ∧
    (∃ (m : Mark) (ms : List Mark) (s : State), s.tower.marks = m :: ms ∧ m.origin + m.lead ≤ s.sys.tick ∧ s.serving = true ∧
      s.ownLines = false) ∧
    (∃ (m : Mark) (ms : List Mark) (s : State), s.tower.marks = m :: ms ∧ s.sys.tick < m.origin + m.lead) ∧
    (∃ (s : State), s.tower.marks = []) :=
  ⟨⟨[5], { keep with tower := { addr := 1, spire := true } }, 5, by decide +kernel⟩,
   ⟨keep, by decide +kernel⟩,
   ⟨{ keep with tower := { spire := true, stepped := true } }, by decide +kernel, by decide +kernel, by decide +kernel,
     (by intro a h; cases h)⟩,
   ⟨5, keep, by decide +kernel⟩,
   ⟨⟨0, 20000, 1000, 0, true⟩, 159999, { keep with tower := { addr := 2 } }, -160001, by decide +kernel⟩,
   ⟨⟨0, 20000, 1000, 0, true⟩, 160000, { keep with tower := { addr := 2 } }, -160000, by decide +kernel⟩,
   ⟨⟨0, 10000, 1000, 0, true⟩, 160080, { keep with tower := { addr := 2 } }, 80, by decide +kernel⟩,
   ⟨⟨0, 10000, 1000, 0, true⟩, 160081, { keep with tower := { addr := 2 } }, 81, by decide +kernel⟩,
   ⟨{ keep with tower := { addr := 1, spire := true } }, by decide +kernel⟩,
   ⟨⟨0, 5, 1000, 0, true⟩, [], { keep with tower := { addr := 2, marks := [⟨0, 5, 1000, 0, true⟩] } }, by decide +kernel⟩,
   ⟨⟨0, 2000000000, 1000, 0, true⟩, [], { keep with tower := { addr := 2, marks := [⟨0, 2000000000, 1000, 0, true⟩] } },
     by decide +kernel⟩,
   ⟨keep, by decide +kernel⟩⟩

theorem witness_SpireLost :
    (∃ (d : Tick) (s : State), s.serving = true ∧ s.tower.spire = false ∧ s.tower.addr ≠ 0 ∧ s.tower.source ≠ .free ∧
      s.nextMarkStart = some d ∧ d ≤ s.sys.tick ∧ s.markWaits = false ∧ s.ownLines = true ∧ s.tower.missing < 2) ∧
    (∃ (d : Tick) (s : State), s.serving = true ∧ s.tower.spire = false ∧ s.tower.addr ≠ 0 ∧ s.tower.source ≠ .free ∧
      s.nextMarkStart = some d ∧ d ≤ s.sys.tick ∧ s.markWaits = false ∧ s.ownLines = true ∧ 2 ≤ s.tower.missing) ∧
    (∃ (d : Tick) (s : State), s.serving = true ∧ s.tower.spire = false ∧ s.tower.addr ≠ 0 ∧ s.tower.source ≠ .free ∧
      s.nextMarkStart = some d ∧ d ≤ s.sys.tick ∧ s.markWaits = false ∧ s.ownLines = false ∧ s.tower.missing < 2) ∧
    (∃ (d : Tick) (s : State), s.serving = true ∧ s.tower.spire = false ∧ s.tower.addr ≠ 0 ∧ s.tower.source ≠ .free ∧
      s.nextMarkStart = some d ∧ d ≤ s.sys.tick ∧ s.markWaits = false ∧ s.ownLines = false ∧ 2 ≤ s.tower.missing) ∧
    (∃ (s : State), (s.markWaits = true ∨ s.nextMarkStart.all (fun d => decide (s.sys.tick < d)) = true)) ∧
    (∃ (s : State) (t : State), s.serving = true ∧ s.tower.spire = false ∧ s.tower.addr ≠ 0 ∧ s.tower.source ≠ .free ∧
      t = { s with tower := { s.tower with source := .free, locked := false, good := 0, slew := 0, losses := satInc s.tower.losses, lossAt := some s.sys.tick, lossTold := false } } ∧
      s.lossDue = true) ∧
    (∃ (s : State) (t : State) (a : Nat), s.serving = true ∧ s.tower.spire = false ∧ s.tower.addr ≠ 0 ∧ s.tower.source ≠ .free ∧
      t = { s with tower := { s.tower with source := .free, locked := false, good := 0, slew := 0, losses := satInc s.tower.losses, lossAt := some s.sys.tick, lossTold := false } } ∧
      s.tower.markSeen = false ∧ s.tower.trainedAt = some a ∧ a + secTicks ≤ s.sys.tick) ∧
    (∃ (s : State), (s.serving = false ∨ s.tower.spire = true ∨ s.tower.addr = 0 ∨ s.lossDue = false)) ∧
    (∃ (s : State), (s.tower.markSeen = true ∨ (∀ a, s.tower.trainedAt = some a → s.sys.tick < a + secTicks))) ∧
    (∃ (a : Tick) (s : State), s.tower.source = .free ∧ s.tower.lossAt = some a ∧ s.tower.lossTold = false ∧
      a + 200 * msTicks ≤ s.sys.tick) ∧
    (∃ (a : Tick) (s : State), s.tower.source = .free ∧ s.tower.lossAt = some a ∧ s.tower.lossTold = false ∧
      s.sys.tick < a + 200 * msTicks) ∧
    (∃ (hd : Hdr) (s : State), s.begins hd .towerPromote = true ∧ s.tower.source = .free) ∧
    (∃ (hd : Hdr) (s : State), s.begins hd .towerPromote = true ∧ s.tower.source ≠ .free) :=
  ⟨⟨10005, num .towerRole 2 (follower { missing := 1 }), by decide +kernel⟩,
   ⟨10005, num .towerRole 2 (follower { missing := 2 }), by decide +kernel⟩,
   ⟨10005, follower { missing := 1 }, by decide +kernel⟩,
   ⟨10005, follower { missing := 2 }, by decide +kernel⟩,
   ⟨keep, by decide +kernel⟩,
   ⟨follower {  },
     { follower {} with tower := { (follower {}).tower with source := .free, locked := false, good := 0, slew := 0, losses := satInc (follower {}).tower.losses, lossAt := some (follower {}).sys.tick, lossTold := false } },
     by decide +kernel⟩,
   ⟨{ keep with tower := { addr := 2, trainedAt := some 5 } },
     { keep with tower := { addr := 2, trainedAt := some 5, source := .free, locked := false, good := 0, slew := 0, losses := 1, lossAt := some 1000000000 } },
     5, by decide +kernel⟩,
   ⟨State.reset, by decide +kernel⟩,
   ⟨{ keep with tower := { markSeen := true } }, by decide +kernel⟩,
   ⟨5, { mode .run keep with tower := { addr := 2, source := .free, lossAt := some 5 } }, by decide +kernel⟩,
   ⟨999999999, { keep with tower := { addr := 2, source := .free, lossAt := some 999999999 } }, by decide +kernel⟩,
   ⟨ln, { keep with tower := { addr := 2, source := .free } }, by decide +kernel⟩,
   ⟨ln, keep, by decide +kernel⟩⟩

theorem witness_FrameRoundTrip :
    (∃ (f : Frame) (seq : Nat), f.stream < 256 ∧ f.modAddr < 256 ∧ f.stype < 8 ∧ f.dir < 2 ∧ f.phase < 2 ∧ 0 < f.len ∧
      f.len ≤ 2048 ∧ f.epoch < 2 ^ 24 ∧ f.count < 2 ^ 40 ∧ f.body.length = f.len + 16 ∧ seq < 4096) :=
  ⟨{ stream := 255, modAddr := 255, stype := 7, dir := 1, phase := 1, first := true, last := true, len := 1, epoch := 2 ^ 24 - 1, count := 2 ^ 40 - 1, body := List.replicate 17 0xFF },
     4095, by decide +kernel⟩

theorem witness_LinkTrains :
    (∃ (p : Nat) (s : State), s.portLive p = true ∧ (s.getPort p).state = .down ∧ (s.getPort p).beaconAt ≤ s.sys.tick) ∧
    (∃ (p : Nat) (s : State), (s.portLive p = false ∨ (s.getPort p).state ≠ .down ∨ s.sys.tick < (s.getPort p).beaconAt)) ∧
    (∃ (p : Nat) (sets : List LaneSet) (d : List Byte) (s : State), (s.getPort p).ctrlOf sets = some (0x10, d) ∧
      s.portLive p = true ∧ (s.getPort p).state = .down ∧ (s.getPort p).trainReq = false) ∧
    (∃ (p : Nat) (sets : List LaneSet) (d : List Byte) (s : State), (s.getPort p).ctrlOf sets = some (0x10, d) ∧
      s.portLive p = true ∧ ((s.getPort p).state = .training ∨ (s.getPort p).state = .down ∧ (s.getPort p).trainReq = true)) ∧
    (∃ (p : Nat) (sets : List LaneSet) (s : State), (s.getPort p).ctrlOf sets = none) ∧
    (∃ (sets : List LaneSet) (d : List Byte) (s : State), (s.getPort 0).ctrlOf sets = some (0x10, d) ∧
      (s.getPort 0).state = .retrain) ∧
    (∃ (p : Nat) (s : State), s.portLive p = false) ∧
    (∃ (x : TrainIn) (s : State) (h : List Nat), s.portLive 1 = true ∧ (s.getPort 1).state = .training ∧ (s.getPort 1).width = 0 ∧
      h = x.healthy.filter (fun l => (s.peerLanes 1 x.sets).testBit l) ∧ h = []) ∧
    (∃ (x : TrainIn) (s : State) (h : List Nat) (q : Nat), s.portLive 1 = true ∧ (s.getPort 1).state = .training ∧
      (s.getPort 1).width = 0 ∧ h = x.healthy.filter (fun l => (s.peerLanes 1 x.sets).testBit l) ∧ h ≠ [] ∧ q ≠ 1) ∧
    (∃ (x : TrainIn) (s : State), s.portLive 0 = true ∧ (s.getPort 0).state = .training ∧ (s.getPort 0).width = 0 ∧ x.healthy = []) ∧
    (∃ (x : TrainIn) (d : List Byte) (s : State) (v : Nat), s.portLive 0 = true ∧ (s.getPort 0).state = .training ∧
      (s.getPort 0).width = 0 ∧ x.healthy ≠ [] ∧ (s.getPort 0).ctrlOf x.sets = some (0x11, d) ∧ v = byteAt d 1 ∧
      (v = 1 ∨ v = 2 ∨ v = 4)) ∧
    (∃ (p : Nat) (s : State) (q : Nat), (s.getPort p).state = .training ∧ (s.getPort p).grantAt + 10 * msTicks ≤ s.sys.tick ∧ q ≠ p) ∧
    (∃ (p : Nat) (s : State), ((s.getPort p).state ≠ .training ∨ s.sys.tick < (s.getPort p).grantAt + 10 * msTicks)) ∧
    (∃ (p : Nat) (xs : List Exchange) (r : List LinkOut × Nat) (s : State), s.portLive p = true ∧ (s.getPort p).state = .training ∧
      0 < (s.getPort p).width ∧ s.sys.tick < (s.getPort p).grantAt + 10 * msTicks ∧ exchanged p 64 xs (s.freeNat % 2 ^ 16) = some r ∧
      p = 0) ∧
    (∃ (p : Nat) (xs : List Exchange) (r : List LinkOut × Nat) (s : State), s.portLive p = true ∧ (s.getPort p).state = .training ∧
      0 < (s.getPort p).width ∧ s.sys.tick < (s.getPort p).grantAt + 10 * msTicks ∧ exchanged p 64 xs (s.freeNat % 2 ^ 16) = some r ∧
      p ≠ 0) ∧
    (∃ (p : Nat) (xs : List Exchange) (s : State),
      (s.portLive p = false ∨ (s.getPort p).state ≠ .training ∨ (s.getPort p).width = 0 ∨ (s.getPort p).grantAt + 10 * msTicks ≤ s.sys.tick ∨ xs.length ≠ 64)) ∧
    (∃ (xs : List Exchange) (x : Nat), xs.length = 64 ∧ (∀ e, e ∈ xs → e.twice16 = some (2 * x))) :=
  ⟨⟨0, keep, by decide +kernel⟩,
   ⟨0, port 0 { state := .up }, by decide +kernel⟩,
   ⟨0, onLanes {} 0x10 [0, 0, 31], [0, 0, 31, 0, 0, 0, 0, 0, 0, 0, 0, 0], keep, by decide +kernel⟩,
   ⟨0, onLanes {} 0x10 [0, 0, 31], [0, 0, 31, 0, 0, 0, 0, 0, 0, 0, 0, 0], port 0 { state := .training }, by decide +kernel⟩,
   ⟨0, [], keep, by decide +kernel⟩,
   ⟨onLanes {} 0x10 [0], ctlData [0], port 0 { state := .retrain }, by decide +kernel⟩,
   ⟨0, mode .watch keep, by decide +kernel⟩,
   ⟨⟨[], []⟩, port 1 { state := .training }, [], by decide +kernel⟩,
   ⟨⟨[some 0, some 0, none, none, none], []⟩, port 1 { state := .training }, [0, 1], 0, by decide +kernel⟩,
   ⟨⟨[], []⟩, port 0 { state := .training }, by decide +kernel⟩,
   ⟨⟨[some 0, some 0, none, none, none], onLanes {} 0x11 [0, 2, 0, 1]⟩, [0, 2, 0, 1, 0, 0, 0, 0, 0, 0, 0, 0],
     port 0 { state := .training }, 2, by decide +kernel⟩,
   ⟨0, port 0 { state := .training, width := 2 }, 1, by decide +kernel⟩,
   ⟨0, keep, by decide +kernel⟩,
   ⟨0, List.replicate 64 timed, ((exchanged 0 64 (List.replicate 64 timed) 0).getD ([], 0)),
     port 0 { state := .training, width := 2, map := [0, 1], grantAt := 1000000000 }, by decide +kernel⟩,
   ⟨1, List.replicate 64 asked, (echoes 64,
     (port 1 { state := .training, width := 2, map := [0, 1], grantAt := 1000000000 }).freeNat % 2 ^ 16),
     port 1 { state := .training, width := 2, map := [0, 1], grantAt := 1000000000 }, by decide +kernel, by decide +kernel,
     by decide +kernel, by decide +kernel, exchanged_asked _, by decide +kernel⟩,
   ⟨0, [], keep, by decide +kernel⟩,
   ⟨List.replicate 64 timed, 8, List.length_replicate, (by intro e h; rw [List.eq_of_mem_replicate h]; decide +kernel)⟩⟩

theorem witness_LinkGoesDownAndRecovers :
    (∃ (p : Nat) (s : State) (q : Nat), ((s.getPort p).state = .up ∨ (s.getPort p).state = .retrain) ∧
      (p ≠ 0 ∨ s.openStreams = []) ∧ q ≠ p) ∧
    (∃ (p : Nat) (s : State), ((s.getPort p).state = .up ∨ (s.getPort p).state = .retrain) ∧
      (s.getPort p).heard + s.nat .linkLockTimeout p / 10 < s.sys.tick) ∧
    (∃ (p : Nat) (s : State), ((s.getPort p).state = .up ∨ (s.getPort p).state = .retrain) ∧
      s.sys.tick ≤ (s.getPort p).heard + s.nat .linkLockTimeout p / 10) ∧
    (∃ (p : Nat) (s : State), ((s.getPort p).state = .down ∨ (s.getPort p).state = .training)) ∧
    (∃ (l : Nat) (n : Nat) (s : State), (s.getPort 1).state = .up ∧ l ∈ (s.getPort 1).map ∧ s.nat .linkLaneLimit 1 < n) ∧
    (∃ (l : Nat) (sp : Nat) (s : State) (m : List Nat), (s.getPort 1).spare = some sp ∧
      m = (s.getPort 1).map.map (fun x => if x = l then sp else x)) ∧
    (∃ (l : Nat) (s : State) (h : List Nat) (w : Nat), (s.getPort 1).spare = none ∧
      (h = ((List.range 5).filter fun x => decide (x ∈ (s.getPort 1).map ∧ x ≠ l))) ∧ w = (if 2 ≤ h.length then 2 else 1) ∧ h = []) ∧
    (∃ (l : Nat) (s : State) (h : List Nat) (w : Nat), (s.getPort 1).spare = none ∧
      (h = ((List.range 5).filter fun x => decide (x ∈ (s.getPort 1).map ∧ x ≠ l))) ∧ w = (if 2 ≤ h.length then 2 else 1) ∧ h ≠ []) ∧
    (∃ (l : Nat) (n : Nat) (s : State), (s.getPort 0).state = .up ∧ l ∈ (s.getPort 0).map ∧ s.nat .linkLaneLimit 0 < n) ∧
    (∃ (p : Nat) (l : Nat) (n : Nat) (s : State), ((s.getPort p).state ≠ .up ∨ l ∉ (s.getPort p).map ∨ n ≤ s.nat .linkLaneLimit p)) ∧
    (∃ (sets : List LaneSet) (d : List Byte) (s : State), (s.getPort 1).ctrlOf sets = some (0x13, d) ∧ byteAt d 0 = 0 ∧
      (s.getPort 1).state = .up ∧ byteAt d 1 ∈ (s.getPort 1).map) ∧
    (∃ (sets : List LaneSet) (d : List Byte) (s : State), (s.getPort 0).ctrlOf sets = some (0x13, d) ∧ byteAt d 0 ≠ 0 ∧
      ((s.getPort 0).state = .up ∨ (s.getPort 0).state = .retrain)) ∧
    (∃ (sets : List LaneSet) (d : List Byte) (s : State), (s.getPort 0).ctrlOf sets = some (0x14, d) ∧
      ((s.getPort 0).state = .up ∨ (s.getPort 0).state = .retrain) ∧ byteAt d 1 = 0) ∧
    (∃ (sets : List LaneSet) (d : List Byte) (s : State), (s.getPort 0).ctrlOf sets = some (0x14, d) ∧
      ((s.getPort 0).state = .up ∨ (s.getPort 0).state = .retrain) ∧ (byteAt d 1 = 1 ∨ byteAt d 1 = 2)) ∧
    (∃ (p : Nat) (at_ : Nat) (w : Nat) (xs : List Exchange) (r : List LinkOut × Nat) (s : State), (s.getPort p).change = some at_ ∧
      (s.getPort p).changeWidth = some w ∧ (s.getPort p).unacked = [] ∧ s.sys.tick ≤ at_ + 100 * usTicks ∧
      exchanged p 8 xs (s.getPort p).hop16 = some r) ∧
    (∃ (p : Nat) (at_ : Nat) (w : Nat) (s : State), (s.getPort p).change = some at_ ∧ (s.getPort p).changeWidth = some w ∧
      (s.getPort p).unacked = [] ∧ at_ + 100 * usTicks < s.sys.tick) ∧
    (∃ (p : Nat) (sets : List LaneSet) (d : List Byte) (s : State), (s.getPort p).ctrlOf sets = some (0x20, d) ∧
      ((s.getPort p).state ≠ .down ∨ s.portLive p = true)) ∧
    (∃ (p : Nat) (a : Tick) (s : State), (s.getPort p).xoffIn = some a ∧ (s.getPort p).xoffTold = false ∧ a + secTicks ≤ s.sys.tick) ∧
    (∃ (p : Nat) (a : Tick) (s : State), (s.getPort p).xoffIn = some a ∧ (s.getPort p).xoffTold = false ∧ s.sys.tick < a + secTicks) ∧
    (∃ (p : Nat) (s : State), (s.getPort p).xoffIn = none) ∧
    (∃ (p : Nat) (n : Nat) (s : State), n + s.rxWaiting p ≤ rxSize) ∧
    (∃ (p : Nat) (s : State) (h : Nat), h = max (s.nat .linkHeadroom p) (s.getPort p).headroomMin ∧ (s.getPort p).state = .up ∧
      s.rxFree p < h ∧ (s.getPort p).xoffOut = false) ∧
    (∃ (p : Nat) (s : State) (h : Nat), h = max (s.nat .linkHeadroom p) (s.getPort p).headroomMin ∧ (s.getPort p).state = .up ∧
      h + s.nat .linkHysteresis p < s.rxFree p ∧ (s.getPort p).xoffOut = true) ∧
    (∃ (p : Nat) (s : State) (h : Nat), h = max (s.nat .linkHeadroom p) (s.getPort p).headroomMin ∧ (s.getPort p).state = .up ∧
      h ≤ s.rxFree p ∧ s.rxFree p ≤ h + s.nat .linkHysteresis p) ∧
    (∃ (w : WaitFrame) (s : State), (s.getPort 0).waitQ = [w] ∧ w.cls ≠ 256) ∧
    (∃ (w : WaitFrame) (s : State), (s.getPort 0).waitQ = [w] ∧ w.cls = 256) :=
  ⟨⟨0, port 0 { state := .up }, 1, by decide +kernel⟩,
   ⟨0, port 0 { state := .up, width := 2, map := [0, 1] }, by decide +kernel⟩,
   ⟨0, port 0 { state := .up, width := 2, map := [0, 1], heard := 1000000000 }, by decide +kernel⟩,
   ⟨0, keep, by decide +kernel⟩,
   ⟨1, 65536, port 1 { state := .up, width := 2, map := [0, 1] }, by decide +kernel⟩,
   ⟨1, 2, port 1 { state := .up, width := 2, map := [0, 1], spare := some 2 }, [0, 2], by decide +kernel⟩,
   ⟨0, port 1 { state := .up, width := 1, map := [0] }, [], 1, by decide +kernel⟩,
   ⟨0, port 1 { state := .up, width := 2, map := [0, 1] }, [1], 1, by decide +kernel⟩,
   ⟨1, 65536, port 0 { state := .up, width := 2, map := [0, 1] }, by decide +kernel⟩,
   ⟨0, 1, 0, keep, by decide +kernel⟩,
   ⟨onLanes { width := 2, map := [0, 1] } 0x13 [0, 1], [0, 1, 0, 0, 0, 0, 0, 0, 0, 0, 0, 0],
     port 1 { state := .up, width := 2, map := [0, 1] }, by decide +kernel⟩,
   ⟨onLanes { width := 2, map := [0, 1] } 0x13 [1, 1, 0, 2], [1, 1, 0, 2, 0, 0, 0, 0, 0, 0, 0, 0],
     port 0 { state := .up, width := 2, map := [0, 1] }, by decide +kernel⟩,
   ⟨onLanes { width := 2, map := [0, 1] } 0x14 [0, 0], [0, 0, 0, 0, 0, 0, 0, 0, 0, 0, 0, 0],
     port 0 { state := .up, width := 2, map := [0, 1] }, by decide +kernel⟩,
   ⟨onLanes { width := 2, map := [0, 1] } 0x14 [0, 1, 0], [0, 1, 0, 0, 0, 0, 0, 0, 0, 0, 0, 0],
     port 0 { state := .up, width := 2, map := [0, 1] }, by decide +kernel⟩,
   ⟨0, 999990000, 1, List.replicate 8 timed, ((exchanged 0 8 (List.replicate 8 timed) 0).getD ([], 0)),
     port 0 { state := .retrain, change := some 999990000, changeWidth := some 1 }, by decide +kernel⟩,
   ⟨0, 999989999, 1, port 0 { state := .retrain, change := some 999989999, changeWidth := some 1 }, by decide +kernel⟩,
   ⟨0, onLanes { width := 2, map := [0, 1] } 0x20 [3, 9], [3, 9, 0, 0, 0, 0, 0, 0, 0, 0, 0, 0],
     port 0 { state := .up, width := 2, map := [0, 1] }, by decide +kernel⟩,
   ⟨0, 5, port 0 { state := .up, xoffIn := some 5 }, by decide +kernel⟩,
   ⟨0, 999999999, port 0 { state := .up, xoffIn := some 999999999 }, by decide +kernel⟩,
   ⟨0, keep, by decide +kernel⟩,
   ⟨0, 5, keep, by decide +kernel⟩,
   ⟨0, port 0 { state := .up, rxBusy := 131000 }, 16384, by decide +kernel⟩,
   ⟨0, port 0 { state := .up, xoffOut := true }, 16384, by decide +kernel⟩,
   ⟨0, port 0 { state := .up, rxBusy := 98304 }, 16384, by decide +kernel⟩,
   ⟨⟨257, aFrame⟩, port 0 { waitQ := [⟨257, aFrame⟩] }, by decide +kernel⟩,
   ⟨⟨256, aFrame⟩, port 0 { waitQ := [⟨256, aFrame⟩] }, by decide +kernel⟩⟩

theorem witness_LinkFrames :
    (∃ (p : Nat) (s : State), (s.getPort p).state ≠ .up) ∧
    (∃ (p : Nat) (ls : List (List Sym)) (e : Sym) (c : Bool) (x : RxFrame) (s : State), (s.getPort p).state = .up ∧
      (s.getPort p).rxFrame ls e c = x ∧ x.frame = none ∧ (s.badIn p true).length ≤ s.nat .linkCrcLimit p) ∧
    (∃ (p : Nat) (ls : List (List Sym)) (e : Sym) (c : Bool) (x : RxFrame) (s : State), (s.getPort p).state = .up ∧
      (s.getPort p).rxFrame ls e c = x ∧ x.frame = none ∧ s.nat .linkCrcLimit p < (s.badIn p true).length) ∧
    (∃ (p : Nat) (m : BMsg) (ms : List BMsg) (s : State), (s.getPort p).bWait = m :: ms ∧ (s.getPort p).state = .up ∧
      (s.getPort p).bUnacked.length < 7 ∧ (s.getPort p).busyTo ≤ s.sys.tick ∧ (s.fenced 22 = false ∨ s.originates m = false)) ∧
    (∃ (p : Nat) (m : BMsg) (ms : List BMsg) (s : State), (s.getPort p).bWait = m :: ms ∧
      ((s.getPort p).state ≠ .up ∨ 7 ≤ (s.getPort p).bUnacked.length ∨ s.sys.tick < (s.getPort p).busyTo ∨ s.fenced 22 = true ∧
      s.originates m = true)) ∧
    (∃ (a : Tick) (b : Tick), a ≤ b) ∧
    (∃ (x : RxFrame) (k : Nat) (r : Nat) (s : State), s.routeOf (headerOf x.bytes) = some k ∧ 16 ≤ x.bytes.length ∧
      byteAt x.bytes 0 / 16 = 1 ∧ beNat (sliceAt x.bytes 0 2) % 4096 = r ∧ (s.getPort k).waitQ = [] ∧
      (s.getPort k).mayStart s.sys.tick (headerOf x.bytes).symbols = true) ∧
    (∃ (p : Nat) (n : Nat) (ls : List (List Sym)) (e : Sym) (c : Bool) (f : Frame) (s : State), (s.getPort p).state = .up ∧
      ((s.getPort p).rxFrame ls e c).frame = some (n, f) ∧ n ≠ (s.getPort p).rxSeq ∧ ((s.getPort p).rxSeq + 4096 - n) % 4096 ≤ 2047) ∧
    (∃ (p : Nat) (n : Nat) (ls : List (List Sym)) (e : Sym) (c : Bool) (f : Frame) (s : State) (q : Nat),
      (s.getPort p).state = .up ∧ ((s.getPort p).rxFrame ls e c).frame = some (n, f) ∧ n = (s.getPort p).rxSeq ∧ q ≠ p) ∧
    (∃ (f : Frame), f.stype ≠ typeTower ∧ f.dir = 0) ∧
    (∃ (f : Frame) (s : State), f.stype ≠ typeTower ∧ f.dir ≠ 0 ∧ (s.tower.addr = 0 ∨ f.modAddr ≠ s.tower.addr)) ∧
    (∃ (f : Frame) (s : State), f.stype ≠ typeTower ∧ f.dir ≠ 0 ∧ s.tower.addr ≠ 0 ∧ f.modAddr = s.tower.addr) ∧
    (∃ (f : Frame) (s : State), f.stype = typeTower ∧ (s.tower.addr = 0 ∨ f.modAddr ≠ s.tower.addr)) ∧
    (∃ (f : Frame) (s : State), f.stype = typeTower ∧ s.tower.addr ≠ 0 ∧ f.modAddr = s.tower.addr) ∧
    (∃ (n : Nat) (f : Frame) (s : State), (s.getPort n).state = .up ∧ f.stype ≠ typeTower) ∧
    (∃ (p : Nat) (c : Nat) (d : SMap Int) (s : State) (w : WaitFrame),
      s.serve p ((s.offers p).filter fun o => (s.getPort p).mayStart s.sys.tick o.2) = some (c, d) ∧ s.frameHeld p = false ∧
      (s.getPort p).waitQ.find? (fun w => decide (w.cls = c)) = some w) ∧
    (∃ (p : Nat) (c : Nat) (d : SMap Int) (s : State),
      s.serve p ((s.offers p).filter fun o => (s.getPort p).mayStart s.sys.tick o.2) = some (c, d) ∧ s.frameHeld p = false ∧
      (s.getPort p).waitQ.find? (fun w => decide (w.cls = c)) = none) ∧
    (∃ (p : Nat) (s : State), s.serve p ((s.offers p).filter fun o => (s.getPort p).mayStart s.sys.tick o.2) = none ∧
      s.frameHeld p = false) ∧
    (∃ (p : Nat) (s : State), s.serve p ((s.offers p).filter fun o => (s.getPort p).mayStart s.sys.tick o.2) = none ∧
      s.frameHeld p = true) ∧
    (∃ (w : WaitFrame) (s : State), (s.getPort 1).waitQ = [w] ∧ (w.cls ≠ 256 ∨ s.fenced 22 = false) ∧
      (s.getPort 1).mayStart s.sys.tick w.frame.symbols = true) ∧
    (∃ (w : WaitFrame) (s : State), (s.getPort 1).waitQ = [w] ∧ (w.cls = 256 ∧
      s.fenced 22 = true ∨ (s.getPort 1).mayStart s.sys.tick w.frame.symbols = false)) ∧
    (∃ (p : Nat) (sets : List LaneSet) (d : List Byte) (s : State), (s.getPort p).ctrlOf sets = some (0x01, d) ∧
      (s.getPort p).state = .up) ∧
    (∃ (p : Nat) (sets : List LaneSet) (d : List Byte) (s : State), (s.getPort p).ctrlOf sets = some (0x02, d) ∧
      (s.getPort p).state = .up ∧ (∀ x, x ∈ (s.getPort p).unacked → x.sends < maxSends)) ∧
    (∃ (p : Nat) (s : State), (s.getPort p).state = .up ∧ ((s.getPort p).unacked ≠ [] ∨ (s.getPort p).bUnacked ≠ []) ∧
      (s.getPort p).ackAt + (s.getPort p).replayTicks ≤ s.sys.tick ∧ (∀ x, x ∈ (s.getPort p).unacked → x.sends < maxSends)) ∧
    (∃ (p : Nat) (s : State) (x : TxFrame), (s.getPort p).state = .up ∧ ((s.getPort p).unacked ≠ [] ∨ (s.getPort p).bUnacked ≠ []) ∧
      (s.getPort p).ackAt + (s.getPort p).replayTicks ≤ s.sys.tick ∧ x ∈ (s.getPort p).unacked ∧ maxSends ≤ x.sends) ∧
    (∃ (p : Nat) (s : State), s.sys.tick < (s.getPort p).ackAt + (s.getPort p).replayTicks) ∧
    (∃ (p : Nat) (x : BypassIn) (s : State), ((s.getPort p).rxBypass x.lanes = none ∨ (s.getPort p).state ≠ .up)) ∧
    (∃ (p : Nat) (x : BypassIn) (b : BypassSet) (s : State), (s.getPort p).rxBypass x.lanes = some b ∧ (s.getPort p).state = .up ∧
      b.ack = none ∧ b.seq = (s.getPort p).bRx) ∧
    (∃ (p : Nat) (x : BypassIn) (b : BypassSet) (s : State), (s.getPort p).rxBypass x.lanes = some b ∧ (s.getPort p).state = .up ∧
      b.ack = none ∧ b.seq ≠ (s.getPort p).bRx) :=
  ⟨⟨0, keep, by decide +kernel⟩,
   ⟨0, [], kEof, false, ⟨[], .eof, true⟩, port 0 upPort, by decide +kernel⟩,
   ⟨0, [], kEof, false, ⟨[], .eof, true⟩,
     port 0 { state := .up, width := 1, map := [0], winFrames := 200, winBad := List.range 200 }, by decide +kernel⟩,
   ⟨0, .xoff, [.xon], port 0 { state := .up, bWait := [.xoff, .xon] }, by decide +kernel⟩,
   ⟨0, .xoff, [.xon], port 0 { state := .up, bWait := [.xoff, .xon], busyTo := 2000000000 }, by decide +kernel⟩,
   ⟨2, 5, by decide +kernel⟩,
   ⟨⟨aFrame.wire 0, .eof, true⟩, 0, 0, port 0 { state := .up, width := 1, map := [0] }, by decide +kernel⟩,
   ⟨0, 0, frameLanes aFrame 0, kEof, false, aFrame, port 0 { upPort with rxSeq := 1 }, by decide +kernel⟩,
   ⟨0, 0, frameLanes aFrame 0, kEof, false, aFrame, port 0 upPort, 1, by decide +kernel⟩,
   ⟨aFrame, by decide +kernel⟩,
   ⟨{ aFrame with dir := 1 }, keep, by decide +kernel⟩,
   ⟨{ aFrame with dir := 1, modAddr := 1 }, keep, by decide +kernel⟩,
   ⟨{ aFrame with stype := typeTower }, keep, by decide +kernel⟩,
   ⟨{ aFrame with stype := typeTower, modAddr := 1 }, keep, by decide +kernel⟩,
   ⟨0, aFrame, port 0 upPort, by decide +kernel⟩,
   ⟨0, 257, afterServe (port 0 { upPort with waitQ := [⟨257, aFrame⟩] }) 0, port 0 { upPort with waitQ := [⟨257, aFrame⟩] }, ⟨257,
     aFrame⟩, by decide +kernel⟩,
   ⟨0, 5, afterServe (stream { isOpen := true, slot0 := some 0, recs := [(true, [1])] } 2) 0,
     stream { isOpen := true, slot0 := some 0, recs := [(true, [1])] } 2, by decide +kernel⟩,
   ⟨0, keep, by decide +kernel⟩,
   ⟨1, unchecked 22 (port 1 { upPort with waitQ := [⟨256, aFrame⟩] }), by decide +kernel⟩,
   ⟨⟨257, aFrame⟩, port 1 { upPort with waitQ := [⟨257, aFrame⟩] }, by decide +kernel⟩,
   ⟨⟨257, aFrame⟩, port 1 { upPort with xoffIn := some 5, waitQ := [⟨257, aFrame⟩] }, by decide +kernel⟩,
   ⟨0, onLanes upPort 0x01 [], [0, 0, 0, 0, 0, 0, 0, 0, 0, 0, 0, 0], port 0 upPort, by decide +kernel⟩,
   ⟨0, onLanes upPort 0x02 [], [0, 0, 0, 0, 0, 0, 0, 0, 0, 0, 0, 0], port 0 upPort, by decide +kernel, by decide +kernel,
     (by intro j h; cases h)⟩,
   ⟨0, port 0 { upPort with bUnacked := [{ seq := 0, msg := .xon }] }, by decide +kernel, by decide +kernel, by decide +kernel,
     (by intro j h; cases h)⟩,
   ⟨0, port 0 { upPort with unacked := [⟨0, aFrame, 8⟩] }, ⟨0, aFrame, 8⟩, by decide +kernel⟩,
   ⟨0, port 0 { upPort with ackAt := 1000000000 }, by decide +kernel⟩,
   ⟨0, ⟨[], 0, 0⟩, keep, by decide +kernel⟩,
   ⟨0, ⟨[bypassSyms 0 false none .xon], 0, 0⟩, ⟨0, none, false, 3, []⟩, port 0 upPort, by decide +kernel⟩,
   ⟨0, ⟨[bypassSyms 1 false none .xon], 0, 0⟩, ⟨1, none, false, 3, []⟩, port 0 upPort, by decide +kernel⟩⟩

theorem witness_StreamsOpenCloseAndRekey :
    (∃ (m : KeyMsg) (n : Nat) (g : Nat) (s : State) (k : Nat), (s.getPort 0).state = .up ∧ m.modAddr = s.tower.addr ∧
      s.streamOwner m.stream = some n ∧ s.serving = true ∧ (s.getStream m.stream).slot m.phase = some g ∧
      m.phase = (s.getStream m.stream).txPhase ∧ s.ctlGood m g 0x10 = true ∧ s.towerRates ≤ 16000 ∧
      (s.getStream m.stream).isOpen = false ∧ s.int .streamType m.stream ≠ 3 ∧
      (1 < s.int .streamType m.stream ∨ s.seam.isOpen = false) ∧ k ≠ m.stream) ∧
    (∃ (m : KeyMsg) (n : Nat) (g : Nat) (s : State) (k : Nat) (q : Nat), (s.getPort 0).state = .up ∧ m.modAddr = s.tower.addr ∧
      s.streamOwner m.stream = some n ∧ s.serving = true ∧ (s.getStream m.stream).slot m.phase = some g ∧
      m.phase = (s.getStream m.stream).txPhase ∧ s.ctlGood m g 0x10 = true ∧ s.towerRates ≤ 16000 ∧
      (s.getStream m.stream).isOpen = false ∧ s.int .streamType m.stream = 3 ∧ s.freeConsole = some k ∧ q ≠ k) ∧
    (∃ (m : KeyMsg) (n : Nat) (g : Nat) (s : State), (s.getPort 0).state = .up ∧ m.modAddr = s.tower.addr ∧
      s.streamOwner m.stream = some n ∧ s.serving = true ∧ (s.getStream m.stream).slot m.phase = some g ∧
      m.phase = (s.getStream m.stream).txPhase ∧ s.ctlGood m g 0x10 = true ∧ s.towerRates ≤ 16000 ∧
      (s.getStream m.stream).isOpen = false ∧ s.int .streamType m.stream = 3 ∧ s.freeConsole = none) ∧
    (∃ (m : KeyMsg) (s : State), (s.getPort 0).state = .up ∧ m.modAddr = s.tower.addr ∧ s.streamOwner m.stream = none) ∧
    (∃ (m : KeyMsg) (n : Nat) (g : Nat) (s : State), (s.getPort 0).state = .up ∧ m.modAddr = s.tower.addr ∧
      s.streamOwner m.stream = some n ∧ s.serving = true ∧ (s.getStream m.stream).slot m.phase = some g ∧ s.ctlGood m g 0x10 = false) ∧
    (∃ (n : Nat) (g : Nat) (s : State), 2 ^ 20 ≤ (s.getStream n).ctl (g % 2)) ∧
    (∃ (m : KeyMsg) (s : State), m.modAddr ≠ s.tower.addr ∧ (s.getPort 0).state = .up) ∧
    (∃ (a : Nat) (s : State), a ≠ s.tower.addr) ∧
    (∃ (n : Nat) (s : State) (r : CapRec), (s.getStream n).isOpen = true ∧ (s.getStream n).sess = none ∧ r.stream = n) ∧
    (∃ (n : Nat) (s : State) (k : Nat), (s.getStream n).isOpen = true ∧ (s.getStream n).sess = none ∧ k ≠ n) ∧
    (∃ (m : KeyMsg) (s : State), m.modAddr = s.tower.addr ∧ (s.getStream m.stream).isOpen = true ∧
      (s.getStream m.stream).slot m.phase = some ((s.getStream m.stream).gen + 1) ∧
      s.ctlGood m ((s.getStream m.stream).gen + 1) 0x18 = true) ∧
    (∃ (m : KeyMsg) (x : Nat × Tick) (s : State), m.modAddr = s.tower.addr ∧ (s.getStream m.stream).isOpen = true ∧
      (s.getStream m.stream).readySent = some x ∧ (s.getStream m.stream).slot m.phase = some ((s.getStream m.stream).gen + 1) ∧
      s.ctlGood m ((s.getStream m.stream).gen + 1) 0x19 = true) ∧
    (∃ (n : Nat) (i : Nat) (a : Nat) (s : State), (s.getStream n).readySent = some (i, a) ∧ s.sys.tick < a + 100 * msTicks) ∧
    (∃ (n : Nat) (i : Nat) (a : Nat) (s : State), (s.getStream n).readySent = some (i, a) ∧ a + 100 * msTicks ≤ s.sys.tick ∧ i < 3) ∧
    (∃ (n : Nat) (i : Nat) (a : Nat) (s : State), (s.getStream n).readySent = some (i, a) ∧ a + 100 * msTicks ≤ s.sys.tick ∧ 3 ≤ i) ∧
    (∃ (n : Nat) (x : Tick) (s : State), (s.getStream n).window = some x ∧ x + 50 * msTicks ≤ s.sys.tick) ∧
    (∃ (n : Nat) (x : Tick) (s : State), (s.getStream n).window = some x ∧ s.sys.tick < x + 50 * msTicks) ∧
    (∃ (n : Nat) (s : State), (s.getStream n).window = none) ∧
    (∃ (hd : Hdr) (n : Nat) (s : State), s.begins hd (.streamNext n) = true ∧ (s.getStream n).assigned = true ∧
      (s.getStream n).keyPending = false ∧ ((s.getPort 0).state = .up ∨ (s.getPort 0).state = .retrain)) ∧
    (∃ (hd : Hdr) (n : Nat) (s : State), s.begins hd (.streamNext n) = true ∧ (s.getStream n).assigned = true ∧
      (s.getStream n).keyPending = true) ∧
    (∃ (hd : Hdr) (n : Nat) (s : State), s.begins hd (.streamNext n) = true ∧ (s.getStream n).assigned = true ∧
      (s.getStream n).keyPending = false ∧ ((s.getPort 0).state = .down ∨ (s.getPort 0).state = .training)) :=
  ⟨⟨openMsg (stream { slot0 := some 0 } 2), 0, 0, stream { slot0 := some 0 } 2, 6, by decide +kernel, by decide +kernel,
     by decide +kernel, by decide +kernel, by decide +kernel, by decide +kernel, ctlGood_of (by decide) rfl, by decide +kernel,
     by decide +kernel, by decide +kernel, by decide +kernel, by decide +kernel⟩,
   ⟨openMsg (stream { slot0 := some 0 } 3), 0, 0, stream { slot0 := some 0 } 3, 2, 3, by decide +kernel, by decide +kernel,
     by decide +kernel, by decide +kernel, by decide +kernel, by decide +kernel, ctlGood_of (by decide) rfl, by decide +kernel,
     by decide +kernel, by decide +kernel, by decide +kernel, by decide +kernel⟩,
   ⟨openMsg ({ stream { slot0 := some 0 } 3 with sess := [(2, { isOpen := true }), (3, { isOpen := true })] }), 0, 0,
     { stream { slot0 := some 0 } 3 with sess := [(2, { isOpen := true }), (3, { isOpen := true })] }, by decide +kernel,
     by decide +kernel, by decide +kernel, by decide +kernel, by decide +kernel, by decide +kernel, ctlGood_of (by decide) rfl,
     by decide +kernel, by decide +kernel, by decide +kernel, by decide +kernel⟩,
   ⟨⟨5, 1, 0, 0, 0⟩, port 0 { state := .up }, by decide +kernel⟩,
   ⟨{ openMsg (stream { slot0 := some 0 } 2) with check := (stream { slot0 := some 0 } 2).ctlCheck 5 0 1 0x10 0 0 + 1 }, 0, 0,
     stream { slot0 := some 0 } 2, by decide +kernel, by decide +kernel, by decide +kernel, by decide +kernel, by decide +kernel,
     ctlGood_off (Nat.succ_ne_self _)⟩,
   ⟨5, 1, stream { ctl1 := 1048576 } 2, by decide +kernel⟩,
   ⟨⟨5, 2, 0, 0, 0⟩, port 0 { state := .up }, by decide +kernel⟩,
   ⟨2, keep, by decide +kernel⟩,
   ⟨5, stream { isOpen := true } 2, ⟨5, 0, [], 0⟩, by decide +kernel⟩,
   ⟨5, stream { isOpen := true } 2, 6, by decide +kernel⟩,
   ⟨⟨5, 1, 1, 0, (rekeying).ctlCheck 5 1 1 0x18 1 0⟩, rekeying, by decide +kernel, by decide +kernel, by decide +kernel,
     ctlGood_of (by decide) rfl⟩,
   ⟨⟨5, 1, 1, 0, (rekeying).ctlCheck 5 1 1 0x19 1 0⟩, (1, 5), rekeying, by decide +kernel, by decide +kernel, by decide +kernel,
     by decide +kernel, ctlGood_of (by decide) rfl⟩,
   ⟨5, 2, 999999999, stream { readySent := some (2, 999999999) } 2, by decide +kernel⟩,
   ⟨5, 2, 5, stream { readySent := some (2, 5) } 2, by decide +kernel⟩,
   ⟨5, 3, 5, stream { readySent := some (3, 5) } 2, by decide +kernel⟩,
   ⟨5, 7, stream { window := some 7 } 2, by decide +kernel⟩,
   ⟨5, 999999999, stream { window := some 999999999 } 2, by decide +kernel⟩,
   ⟨5, keep, by decide +kernel⟩,
   ⟨ln, 5, stream { assigned := true, slot0 := some 0 } 2, by decide +kernel⟩,
   ⟨ln, 5, stream { assigned := true, slot0 := some 0, slot1 := some 1 } 2, by decide +kernel⟩,
   ⟨ln, 5, { stream { assigned := true, slot0 := some 0 } 2 with ports := [] }, by decide +kernel⟩⟩

theorem witness_HeadsComeAndGo :
    (∃ (x : Nat) (s : State) (q : Nat), s.headsPowered = true ∧ s.pwr.l24Valid = true ∧ (s.getHead x).state = .absent ∧ q ≠ x) ∧
    (∃ (s : State), (s.headsPowered = false ∨ s.pwr.l24Valid = false)) ∧
    (∃ (x : Nat) (s : State), ((s.getHead x).state ≠ .ident ∨ s.headsRead = false ∨ s.sys.tick < (s.getHead x).due)) ∧
    (∃ (x : Nat) (bs : List Byte) (s : State) (q : Nat), (s.getHead x).state = .ident ∧ s.headsRead = true ∧
      (s.getHead x).due ≤ s.sys.tick ∧ identGood bs = true ∧
      (if s.int .headSample x = 0 then (identOf bs).cds else (identOf bs).sh) = true ∧ (s.textOf ⟨.headExpectType, x,
      0⟩ = [] ∨ s.textOf ⟨.headExpectType, x, 0⟩ = (identOf bs).type) ∧ q ≠ x) ∧
    (∃ (x : Nat) (bs : List Byte) (s : State), (s.getHead x).state = .ident ∧ s.headsRead = true ∧ (s.getHead x).due ≤ s.sys.tick ∧
      identGood bs = true ∧ (if s.int .headSample x = 0 then (identOf bs).cds else (identOf bs).sh) = true ∧
      s.textOf ⟨.headExpectType, x, 0⟩ ≠ [] ∧ s.textOf ⟨.headExpectType, x, 0⟩ ≠ (identOf bs).type) ∧
    (∃ (x : Nat) (a : List Byte) (b : List Byte) (s : State), (s.getHead x).state = .ident ∧ s.headsRead = true ∧
      (s.getHead x).due ≤ s.sys.tick ∧ (a ≠ b ∨ identGood a = false) ∧ (s.getHead x).tries < 3) ∧
    (∃ (x : Nat) (a : List Byte) (b : List Byte) (s : State), (s.getHead x).state = .ident ∧ s.headsRead = true ∧
      (s.getHead x).due ≤ s.sys.tick ∧ (a ≠ b ∨ identGood a = false) ∧ 3 ≤ (s.getHead x).tries) ∧
    (∃ (x : Nat) (s : State), (s.getHead x).state = .active) ∧
    (∃ (x : Nat) (s : State), (s.getHead x).state ≠ .active ∧ ((s.getHead x).state ≠ .ready ∨ s.lantern.calib = none) ∧
      s.sorting = true) ∧
    (∃ (x : Nat) (s : State), (s.getHead x).state ≠ .active ∧ ((s.getHead x).state ≠ .ready ∨ s.lantern.calib = none) ∧
      s.sorting = false) ∧
    (∃ (x : Nat) (s : State) (q : Nat), (s.getHead x).v5 ≠ 0 ∧ q ≠ x) ∧
    (∃ (x : Nat) (s : State), (s.getHead x).v5 ≠ 0 ∧ (s.getHead x).state ≠ .active ∧
      ((s.getHead x).state ≠ .ready ∨ s.lantern.calib = none)) ∧
    (∃ (x : Nat) (s : State), (s.getHead x).v5 = 0) :=
  ⟨⟨0, keep, 1, by decide +kernel⟩,
   ⟨State.reset, by decide +kernel⟩,
   ⟨0, keep, by decide +kernel⟩,
   ⟨0, identBytes, { keep with heads := [(0, { state := .ident })] }, 1, by decide +kernel⟩,
   ⟨0, identBytes, (keep.setVal ⟨.headExpectType, 0, 0⟩ (.text ['F'])).modHead 0 fun h => { h with state := .ident },
     by decide +kernel⟩,
   ⟨0, [], [], { keep with heads := [(0, { state := .ident, tries := 2 })] }, by decide +kernel⟩,
   ⟨0, [], [], { keep with heads := [(0, { state := .ident, tries := 3 })] }, by decide +kernel⟩,
   ⟨0, { keep with heads := [(0, { state := .active })] }, by decide +kernel⟩,
   ⟨0, mode .run keep, by decide +kernel⟩,
   ⟨0, keep, by decide +kernel⟩,
   ⟨0, { keep with heads := [(0, { v5 := 360 })] }, 1, by decide +kernel⟩,
   ⟨0, { keep with heads := [(0, { v5 := 360 })] }, by decide +kernel⟩,
   ⟨0, keep, by decide +kernel⟩⟩

theorem witness_LineCycles :
    (∃ (p : Plan) (s : State), s.lantern.planNext = some p ∧ s.lantern.busyTo s.sys.tick = none ∧ s.lantern.waits = []) ∧
    (∃ (p : Plan) (s : State), s.lantern.planNext = some p ∧ (s.lantern.busyTo s.sys.tick ≠ none ∨ s.lantern.waits ≠ [])) ∧
    (∃ (line : Nat) (rest : List Nat) (c : Cycle) (p : Plan) (q : Plan) (s : State), s.lantern.waits = line :: rest ∧
      s.lantern.cur = some c ∧ s.lantern.plan = some p ∧ s.lantern.planNext = some q ∧ s.sys.tick < c.tick + cycleTicks p.rate) ∧
    (∃ (line : Nat) (rest : List Nat) (c : Cycle) (p : Plan) (q : Plan) (s : State), s.lantern.waits = line :: rest ∧
      s.lantern.cur = some c ∧ s.lantern.plan = some p ∧ s.lantern.planNext = some q ∧ c.tick + cycleTicks p.rate ≤ s.sys.tick) ∧
    (∃ (s : State), s.lantern.waits = []) ∧
    (∃ (s : State), s.lantern.pulseAt = none) ∧
    (∃ (s : State), s.serving = true ∧ s.ownLines = true ∧ s.lantern.busyTo s.sys.tick = none) ∧
    (∃ (s : State), s.serving = true ∧ s.ownLines = true ∧ s.lantern.busyTo s.sys.tick ≠ none) ∧
    (∃ (s : State) (d : Nat), s.serving = true ∧ s.ownLines = false ∧ s.tower.source = .free ∧ s.nextMarkStart = some d ∧
      d ≤ s.sys.tick) ∧
    (∃ (s : State) (d : Nat), s.serving = true ∧ s.ownLines = false ∧ s.tower.source = .free ∧ s.nextMarkStart = some d ∧
      s.sys.tick < d) ∧
    (∃ (s : State), s.serving = true ∧ s.ownLines = false ∧ s.tower.source = .free ∧ s.nextMarkStart = none ∧
      s.lantern.busyTo s.sys.tick = none) ∧
    (∃ (s : State), (s.serving = false ∨ s.ownLines = false ∧ s.tower.source ≠ .free)) ∧
    (∃ (ph : Nat) (c : Cycle) (p : Plan) (s : State) (u : State), s.lineTurn = u ∧ u.lantern.cur = some c ∧
      u.lantern.plan = some p ∧ ph < p.phases ∧ slotStart c p ph ≤ u.sys.tick ∧ (u.lantern.slot = none ∧ ph = 0 ∨ ∃ q,
      u.lantern.slot = some q ∧ ph = q + 1)) ∧
    (∃ (ph : Nat) (c : Cycle) (p : Plan) (s : State) (u : State), s.lineTurn = u ∧ u.lantern.cur = some c ∧
      u.lantern.plan = some p ∧ (u.sys.tick < slotStart c p ph ∨ p.phases ≤ ph)) ∧
    (∃ (ph : Nat) (c : Cycle) (p : Plan) (s : State) (u : State) (q : Nat), s.lineTurn = u ∧ u.lantern.cur = some c ∧
      u.lantern.plan = some p ∧ u.lantern.slot = some q ∧ ph ≠ q + 1) ∧
    (∃ (ph : Nat) (c : Cycle) (p : Plan) (s : State) (u : State), s.lineTurn = u ∧ u.lantern.cur = some c ∧
      u.lantern.plan = some p ∧ u.lantern.slot = none ∧ ph ≠ 0) ∧
    (∃ (ph : Nat) (k : Tick) (c : Cycle) (p : Plan) (s : State), s.lantern.cur = some c ∧ s.lantern.plan = some p ∧
      s.lantern.slot = some ph ∧ s.lantern.pulseAt = some k ∧ s.sys.tick < k) ∧
    (∃ (ph : Nat) (k : Tick) (c : Cycle) (p : Plan) (s : State), s.lantern.cur = some c ∧ s.lantern.plan = some p ∧
      s.lantern.slot = some ph ∧ s.lantern.pulseAt = some k ∧ k ≤ s.sys.tick ∧ s.fenced 15 = true) ∧
    (∃ (ph : Nat) (k : Tick) (c : Cycle) (p : Plan) (s : State) (ch : Nat), s.lantern.cur = some c ∧ s.lantern.plan = some p ∧
      s.lantern.slot = some ph ∧ s.lantern.pulseAt = some k ∧ k ≤ s.sys.tick ∧ s.fenced 15 = false ∧ s.whiteCapture = false ∧ ch < 6) ∧
    (∃ (ph : Nat) (k : Tick) (c : Cycle) (p : Plan) (s : State), s.lantern.cur = some c ∧ s.lantern.plan = some p ∧
      s.lantern.slot = some ph ∧ s.lantern.pulseAt = some k ∧ k ≤ s.sys.tick ∧ s.fenced 15 = false ∧ s.whiteCapture = false ∧ (∀ ch,
      ch < 6 → (p.mask ph).testBit ch = true → s.canFire ch = true)) ∧
    (∃ (ph : Nat) (k : Tick) (c : Cycle) (p : Plan) (s : State), s.lantern.cur = some c ∧ s.lantern.plan = some p ∧
      s.lantern.slot = some ph ∧ s.lantern.pulseAt = some k ∧ k ≤ s.sys.tick ∧ s.fenced 15 = false ∧ s.whiteCapture = false ∧
      s.darkCapture = false ∧ (∃ ch, ch < 6 ∧ (p.mask ph).testBit ch = true ∧ s.canFire ch = false) ∧ c.has fNoStrobe = false) ∧
    (∃ (ph : Nat) (k : Tick) (c : Cycle) (p : Plan) (s : State) (ch : Nat), s.lantern.cur = some c ∧ s.lantern.plan = some p ∧
      s.lantern.slot = some ph ∧ s.lantern.pulseAt = some k ∧ k ≤ s.sys.tick ∧ s.fenced 15 = false ∧ s.whiteCapture = true ∧
      (List.range 6).find? (fun ch => (p.mask ph).testBit ch && !s.canFire ch) = some ch) ∧
    (∃ (k : Calib) (c : Cycle) (s : State), s.lantern.calib = some k ∧ s.lantern.cur = some c) ∧
    (∃ (ph : Nat) (lows : List (Nat × Nat)) (c : Cycle) (p : Plan) (s : State) (u : State) (ch : Nat), s.pulseStart = u ∧
      u.lantern.cur = some c ∧ u.lantern.plan = some p ∧ u.lantern.slot = some ph ∧ u.lantern.pulseAt = none ∧
      slotStart c p ph + (p.offset ph + p.width ph) / 10000 + u.lantern.pulseLate ≤ u.sys.tick ∧ (∀ x,
      x ∈ lows → u.lantern.on.testBit x.1 = true → 10 * x.2 ≤ p.width ph) ∧ ch < 6) ∧
    (∃ (ph : Nat) (ch : Nat) (low : Nat) (c : Cycle) (p : Plan) (s : State) (u : State), s.pulseStart = u ∧ u.lantern.cur = some c ∧
      u.lantern.plan = some p ∧ u.lantern.slot = some ph ∧ u.lantern.pulseAt = none ∧
      slotStart c p ph + (p.offset ph + p.width ph) / 10000 + u.lantern.pulseLate ≤ u.sys.tick ∧ ch < 6 ∧ u.lantern.on = 2 ^ ch ∧
      p.width ph < 10 * low ∧ u.whiteCapture = false ∧ (u.getChan ch).toldAt = none ∧ (u.getChan ch).consec < 99) ∧
    (∃ (ph : Nat) (c : Cycle) (p : Plan) (s : State) (u : State), s.pulseStart = u ∧ u.lantern.cur = some c ∧
      u.lantern.plan = some p ∧
      (u.lantern.slot ≠ some ph ∨ u.lantern.pulseAt ≠ none ∨ u.sys.tick < slotStart c p ph + (p.offset ph + p.width ph) / 10000 + u.lantern.pulseLate)) :=
  ⟨⟨somePlan, { keep with lantern := { plan := some somePlan } }, by decide +kernel⟩,
   ⟨somePlan, { (lit { nextPlan := some somePlan }) with sys := { keep.sys with tick := 999000001 } }, by decide +kernel⟩,
   ⟨9, [], ⟨7, none, 999000000, false, []⟩, somePlan, somePlan,
     { (lit { nextPlan := some somePlan, waits := [9] }) with sys := { keep.sys with tick := 999000001 } }, by decide +kernel⟩,
   ⟨9, [], ⟨7, none, 999000000, false, []⟩, somePlan, somePlan, lit { nextPlan := some somePlan, waits := [9] }, by decide +kernel⟩,
   ⟨lit {}, by decide +kernel⟩,
   ⟨lit {}, by decide +kernel⟩,
   ⟨{ keep with tower := { addr := 1, spire := true } }, by decide +kernel⟩,
   ⟨{ (lit {}) with tower := { spire := true }, sys := { keep.sys with tick := 999000001 } }, by decide +kernel⟩,
   ⟨follower { source := .free }, 10005, by decide +kernel⟩,
   ⟨{ follower { source := .free } with sys := { keep.sys with tick := 7 } }, 10005, by decide +kernel⟩,
   ⟨{ keep with tower := { addr := 2, source := .free } }, by decide +kernel⟩,
   ⟨State.reset, by decide +kernel⟩,
   ⟨0, ⟨7, none, 999000000, false, []⟩, somePlan, lit {}, lit {}, by decide +kernel⟩,
   ⟨1, ⟨7, none, 999000000, false, []⟩, somePlan, lit {}, lit {}, by decide +kernel⟩,
   ⟨0, ⟨7, none, 999000000, false, []⟩, somePlan, lit { slot := some 0 }, lit { slot := some 0 }, 0, by decide +kernel⟩,
   ⟨1, ⟨7, none, 999000000, false, []⟩, somePlan, lit {}, lit {}, by decide +kernel⟩,
   ⟨0, 2000000000, ⟨7, none, 999000000, false, []⟩, somePlan, lit { slot := some 0, pulseAt := some 2000000000 }, by decide +kernel⟩,
   ⟨0, 999000100, ⟨7, none, 999000000, false, []⟩, somePlan, unchecked 15 (lit { slot := some 0, pulseAt := some 999000100 }),
     by decide +kernel⟩,
   ⟨0, 999000100, ⟨7, none, 999000000, false, []⟩, somePlan, lit { slot := some 0, pulseAt := some 999000100 }, 0,
     by decide +kernel⟩,
   ⟨0, 999000100, ⟨7, none, 999000000, false, []⟩, somePlan, lit { slot := some 0, pulseAt := some 999000100 }, by decide +kernel⟩,
   ⟨0, 999000100, ⟨7, none, 999000000, false, []⟩, somePlan,
     { (lit { slot := some 0, pulseAt := some 999000100 }) with pwr := { keep.pwr with p24Low := true } }, by decide +kernel,
     by decide +kernel, by decide +kernel, by decide +kernel, by decide +kernel, by decide +kernel, by decide +kernel,
     by decide +kernel, ⟨0, by decide, by decide, by decide⟩, by decide +kernel⟩,
   ⟨0, 999000100, ⟨300, none, 999000000, false, []⟩, somePlan,
     { keep with lantern := { plan := some somePlan, cur := some ⟨300, none, 999000000, false, []⟩, slot := some 0, pulseAt := some 999000100, calib := some ⟨r0, 0, []⟩ } },
     0, by decide +kernel⟩,
   ⟨⟨r0, 0, []⟩, ⟨300, none, 999000000, false, []⟩,
     { keep with lantern := { cur := some ⟨300, none, 999000000, false, []⟩, calib := some ⟨r0, 0, []⟩ } }, by decide +kernel⟩,
   ⟨0, [(0, 5)], ⟨7, none, 999000000, false, []⟩, somePlan, lit { slot := some 0, on := 1 }, lit { slot := some 0, on := 1 }, 0,
     by decide +kernel⟩,
   ⟨0, 0, 1000000, ⟨7, none, 999000000, false, []⟩, somePlan, lit { slot := some 0, on := 1 }, lit { slot := some 0, on := 1 },
     by decide +kernel⟩,
   ⟨0, ⟨7, none, 999000000, false, []⟩, somePlan, lit {}, lit {}, by decide +kernel⟩⟩

theorem witness_PlanesAndShading :
    (∃ (x : Nat) (ph : Nat) (i : Ident) (c : Cycle) (p : Plan) (s : State) (q : Nat), (s.getHead x).ident = some i ∧
      s.lantern.readCycle ph = some c ∧ s.lantern.plan = some p ∧ s.readoutDue x ph c p ≤ s.sys.tick ∧ (s.getHead x).state = .active ∧
      s.sorting = true ∧ q ≠ x) ∧
    (∃ (x : Nat) (ph : Nat) (i : Ident) (c : Cycle) (p : Plan) (s : State), (s.getHead x).ident = some i ∧
      s.lantern.readCycle ph = some c ∧ s.lantern.plan = some p ∧ s.readoutDue x ph c p ≤ s.sys.tick ∧ (s.getHead x).state = .active ∧
      s.sorting = true ∧ s.imageStreams = []) ∧
    (∃ (x : Nat) (ph : Nat) (i : Ident) (c : Cycle) (p : Plan) (s : State) (k : Calib), (s.getHead x).ident = some i ∧
      s.lantern.readCycle ph = some c ∧ s.lantern.plan = some p ∧ s.readoutDue x ph c p ≤ s.sys.tick ∧ (s.getHead x).state = .ready ∧
      s.configured x = true ∧ s.lantern.calib = some k) ∧
    (∃ (x : Nat) (ph : Nat) (i : Ident) (c : Cycle) (p : Plan) (s : State), (s.getHead x).ident = some i ∧
      s.lantern.readCycle ph = some c ∧ s.lantern.plan = some p ∧ s.sys.tick < s.readoutDue x ph c p) ∧
    (∃ (v : Int), v ≤ 0) ∧
    (∃ (g : Nat) (v : Int), 2000000000 ≤ v * g) ∧
    (∃ (x : Nat) (s : State), ((s.getHead x).state ≠ .active ∨ s.sorting = false) ∧
      ((s.getHead x).state ≠ .ready ∨ s.lantern.calib = none)) ∧
    (∃ (hd : Hdr) (code : Nat) (s : State), s.barred hd .lanternCommit code = true) ∧
    (∃ (hd : Hdr) (p : Plan) (s : State) (c : Nat), s.begins hd .lanternCommit = true ∧ s.sys.state = .ready ∧ s.stagedPlan = p ∧
      c ∈ p.channels) ∧
    (∃ (hd : Hdr) (p : Plan) (s : State) (c : Nat), s.begins hd .lanternCommit = true ∧ s.sys.state = .ready ∧ s.stagedPlan = p ∧
      p.channels = [c] ∧ (s.getChan c).state ≠ .disabled) ∧
    (∃ (hd : Hdr) (p : Plan) (s : State), s.begins hd .lanternCommit = true ∧ s.sys.state = .ready ∧ s.stagedPlan = p ∧ (∀ c,
      c ∈ p.channels → (s.getChan c).state = .disabled ∨ Config.lanternTestLow s.sys.free c = false) ∧
      (s.planFits p = false ∨ s.tooLong p = true)) ∧
    (∃ (hd : Hdr) (p : Plan) (s : State) (c : Nat), s.begins hd .lanternCommit = true ∧ s.sys.state = .ready ∧ s.stagedPlan = p ∧
      s.planFits p = true ∧ s.tooLong p = false ∧ (∀ c,
      c ∈ p.channels → (s.getChan c).state = .disabled ∨ Config.lanternTestLow s.sys.free c = false) ∧
      p.channels.find? (fun c => decide ((s.getChan c).state = .disabled)) = some c) ∧
    (∃ (hd : Hdr) (p : Plan) (s : State), s.begins hd .lanternCommit = true ∧ s.sys.state = .ready ∧ s.stagedPlan = p ∧
      s.planFits p = true ∧ s.tooLong p = false ∧ (∀ c,
      c ∈ p.channels → (s.getChan c).state = .disabled ∨ Config.lanternTestLow s.sys.free c = false) ∧ (∀ c,
      c ∈ p.channels → (s.getChan c).state ≠ .disabled) ∧ s.standingFits (some p.reserve) s.ledger.stepper = false) ∧
    (∃ (hd : Hdr) (p : Plan) (s : State), s.begins hd .lanternCommit = true ∧ s.sys.state = .ready ∧ s.stagedPlan = p ∧
      s.planFits p = true ∧ s.tooLong p = false ∧ (∀ c,
      c ∈ p.channels → (s.getChan c).state = .disabled ∨ Config.lanternTestLow s.sys.free c = false) ∧ (∀ c,
      c ∈ p.channels → (s.getChan c).state ≠ .disabled) ∧ s.standingFits (some p.reserve) s.ledger.stepper = true) ∧
    (∃ (hd : Hdr) (s : State), s.begins hd .shadeCalibrate = true ∧ s.sys.state = .ready ∧ s.lantern.committed = true ∧
      s.lantern.calib = none ∧ (∀ x, x ∈ s.configuredHeads → (s.getHead x).state = .ready)) ∧
    (∃ (hd : Hdr) (s : State), s.begins hd .shadeCalibrate = true ∧ s.lantern.committed = false) ∧
    (∃ (hd : Hdr) (code : Nat) (s : State), s.barred hd .shadeCalibrate code = true) ∧
    (∃ (k : Calib) (c : Cycle) (p : Plan) (x : Nat) (ph : Nat) (cells : List (Nat × Nat)) (s : State), s.lantern.calib = some k ∧
      s.lantern.cur = some c ∧ s.lantern.plan = some p ∧ s.capPlanes k = [(x, ph, cells)] ∧ c.line < k.first + 512) ∧
    (∃ (k : Calib) (c : Cycle) (p : Plan) (x : Nat) (ph : Nat) (cells : List (Nat × Nat)) (s : State), s.lantern.calib = some k ∧
      s.lantern.cur = some c ∧ s.lantern.plan = some p ∧ s.capPlanes k = [(x, ph, cells)] ∧ k.first + 512 < c.line ∧ p.mask ph ≠ 0 ∧
      capPale cells = true) ∧
    (∃ (k : Calib) (c : Cycle) (p : Plan) (x : Nat) (ph : Nat) (cells : List (Nat × Nat)) (s : State), s.lantern.calib = some k ∧
      s.lantern.cur = some c ∧ s.lantern.plan = some p ∧ s.capPlanes k = [(x, ph, cells)] ∧ k.first + 512 < c.line ∧
      (p.mask ph = 0 ∨ capPale cells = false) ∧ s.nat .shadeDefectMax < capDefects cells (s.nat .shadeWhiteTarget)) ∧
    (∃ (k : Calib) (c : Cycle) (p : Plan) (x : Nat) (ph : Nat) (cells : List (Nat × Nat)) (s : State) (j : Nat),
      s.lantern.calib = some k ∧ s.lantern.cur = some c ∧ s.lantern.plan = some p ∧ s.capPlanes k = [(x, ph, cells)] ∧
      k.first + 512 < c.line ∧ (p.mask ph = 0 ∨ capPale cells = false) ∧
      capDefects cells (s.nat .shadeWhiteTarget) ≤ s.nat .shadeDefectMax ∧ j < cells.length) ∧
    (∃ (k : Calib) (s : State), s.lantern.calib = some k) ∧
    (∃ (s : State), s.lantern.calib = none) ∧
    (∃ (c : Cycle) (s : State), s.sys.tick ≤ c.tick) ∧
    (∃ (c : Cycle) (s : State), c.tick < s.sys.tick) :=
  ⟨⟨0, 0, someIdent, ⟨7, some 3, 1000, false, []⟩, somePlan,
     { (sorted 0 3) with lantern := { plan := some somePlan, prev := some ⟨7, some 3, 1000, false, []⟩ } }, 1, by decide +kernel⟩,
   ⟨0, 0, someIdent, ⟨7, some 3, 1000, false, []⟩, somePlan,
     { (sorted 0 3) with lantern := { plan := some somePlan, prev := some ⟨7, some 3, 1000, false, []⟩ } }, by decide +kernel⟩,
   ⟨0, 0, someIdent, ⟨7, some 3, 1000, false, []⟩, somePlan,
     { canRun with lantern := { canRun.lantern with prev := some ⟨7, some 3, 1000, false, []⟩, calib := some ⟨r0, 9, []⟩ } }, ⟨r0, 9,
     []⟩, by decide +kernel⟩,
   ⟨0, 0, someIdent, ⟨7, some 3, 1000, false, []⟩, somePlan,
     { { (sorted 0 3) with lantern := { plan := some somePlan, prev := some ⟨7, some 3, 1000, false, []⟩ } } with sys := { keep.sys with tick := 5 } },
     by decide +kernel⟩,
   ⟨0, by decide +kernel⟩,
   ⟨2, 1000000000, by decide +kernel⟩,
   ⟨0, keep, by decide +kernel⟩,
   ⟨ln, 23, mode .run keep, by decide +kernel⟩,
   ⟨ln, (num .lanternPhases 6 keep).stagedPlan, num .lanternPhases 6 keep, 0, by decide +kernel⟩,
   ⟨ln, (num .lanternMask 1 keep).stagedPlan, num .lanternMask 1 keep, 0, by decide +kernel⟩,
   ⟨ln, (num .lanternPhases 6 darkPlan).stagedPlan, num .lanternPhases 6 darkPlan, by decide +kernel⟩,
   ⟨ln, (num .lanternMask 1 (keep.modChan 0 fun y => { y with state := .disabled })).stagedPlan,
     num .lanternMask 1 (keep.modChan 0 fun y => { y with state := .disabled }), 0, by decide +kernel, by decide +kernel,
     by decide +kernel, by decide +kernel, by decide +kernel,
     (by intro c h; rw [show Plan.channels _ = [0] by decide +kernel, List.mem_singleton] at h; subst h; exact .inl (by decide +kernel)),
     by decide +kernel⟩,
   ⟨ln, darkPlan.stagedPlan, { darkPlan with ledger := { stepper := some (100000, 0) } }, by decide +kernel, by decide +kernel,
     by decide +kernel, by decide +kernel, by decide +kernel, (by intro c h; exact absurd (show c ∈ [] from h) List.not_mem_nil),
     (by intro c h; exact absurd (show c ∈ [] from h) List.not_mem_nil), by decide +kernel⟩,
   ⟨ln, darkPlan.stagedPlan, darkPlan, by decide +kernel, by decide +kernel, by decide +kernel, by decide +kernel,
     by decide +kernel, (by intro c h; exact absurd (show c ∈ [] from h) List.not_mem_nil),
     (by intro c h; exact absurd (show c ∈ [] from h) List.not_mem_nil), by decide +kernel⟩,
   ⟨ln, { num .headEnable 0 keep with lantern := { committed := true } }, by decide +kernel⟩,
   ⟨ln, keep, by decide +kernel⟩,
   ⟨ln, 30, { keep with sess := [(0, { isOpen := true, login := some 1 })] }, by decide +kernel⟩,
   ⟨⟨r0, 9, []⟩, ⟨520, none, 999000000, false, []⟩, somePlan, 0, 0, (⟨r0, 9, []⟩ : Calib).cells 0 0 512,
     { num .headEnable 1 keep with heads := canRun.heads, lantern := { plan := some somePlan, cur := some ⟨520, none, 999000000, false, []⟩, calib := some ⟨r0, 9, []⟩ } },
     by decide +kernel⟩,
   ⟨⟨r0, 9, []⟩, ⟨522, none, 999000000, false, []⟩, somePlan, 0, 0, (⟨r0, 9, []⟩ : Calib).cells 0 0 512,
     { num .headEnable 1 keep with heads := canRun.heads, lantern := { plan := some somePlan, cur := some ⟨522, none, 999000000, false, []⟩, calib := some ⟨r0, 9, []⟩ } },
     by decide +kernel⟩,
   ⟨⟨r0, 9, []⟩, ⟨522, none, 999000000, false, []⟩, { somePlan with masks := [] }, 0, 0, (⟨r0, 9, []⟩ : Calib).cells 0 0 512,
     { num .headEnable 1 keep with heads := canRun.heads, lantern := { plan := some { somePlan with masks := [] }, cur := some ⟨522, none, 999000000, false, []⟩, calib := some ⟨r0, 9, []⟩ } },
     by decide +kernel⟩,
   ⟨⟨r0, 9, []⟩, ⟨522, none, 999000000, false, []⟩, { somePlan with masks := [] }, 0, 0, (⟨r0, 9, []⟩ : Calib).cells 0 0 512,
     { num .shadeDefectMax 1000 (num .headEnable 1 keep) with heads := canRun.heads, lantern := { plan := some { somePlan with masks := [] }, cur := some ⟨522, none, 999000000, false, []⟩, calib := some ⟨r0, 9, []⟩ } },
     0, by decide +kernel⟩,
   ⟨⟨r0, 9, []⟩, { keep with lantern := { calib := some ⟨r0, 9, []⟩ } }, by decide +kernel⟩,
   ⟨keep, by decide +kernel⟩,
   ⟨⟨7, none, 1000000000, false, []⟩, keep, by decide +kernel⟩,
   ⟨⟨7, none, 999000000, false, []⟩, keep, by decide +kernel⟩⟩

theorem witness_LinesMakeObjectsAndSegments :
    (∃ (s : State), (s.readyLine = none ∨ s.sorting = false)) ∧
    (∃ (x : Nat) (c : Cycle) (s : State), s.sorting = true ∧ s.readyLine = some c ∧ s.activeHeads = [x] ∧ s.track.nextTables = [] ∧
      s.track.opened = [] ∧ s.track.views = [] ∧ s.rangesOn x = []) ∧
    (∃ (x : Nat) (n : Nat) (lo : Nat) (hi : Nat) (r : Run) (c : Cycle) (s : State), s.sorting = true ∧ s.readyLine = some c ∧
      s.activeHeads = [x] ∧ s.track.nextTables = [] ∧ s.track.opened = [] ∧ s.track.views = [] ∧ s.rangesOn x = [(n, lo, hi)] ∧
      runsFrom lo none (s.classesOn x n lo (min (hi + 1) (s.columns x) - lo) (s.getHead x).planes ((s.lantern.plan.map (·.phases)).getD 1)) = [r] ∧
      s.seam.timeoutLine = none) ∧
    (∃ (x : Nat) (n : Nat) (lo : Nat) (hi : Nat) (r : Run) (o : Obj) (c : Cycle) (s : State), s.sorting = true ∧
      s.readyLine = some c ∧ s.activeHeads = [x] ∧ s.track.nextTables = [] ∧ s.track.opened = [o] ∧ o.head = x ∧ o.turret = n ∧
      o.last + 1 = c.line ∧ s.rangesOn x = [(n, lo, hi)] ∧ o.height < 511 ∧
      runsFrom lo none (s.classesOn x n lo (min (hi + 1) (s.columns x) - lo) (s.getHead x).planes ((s.lantern.plan.map (·.phases)).getD 1)) = [r] ∧
      (∃ q, q ∈ o.lastRuns ∧ touches q (r.lo, r.hi) = true)) ∧
    (∃ (x : Nat) (o : Obj) (c : Cycle) (s : State), s.sorting = true ∧ s.readyLine = some c ∧ s.activeHeads = [x] ∧
      s.track.nextTables = [] ∧ s.track.opened = [o] ∧ s.track.views = [] ∧ o.head = x ∧ s.rangesOn x = [] ∧ s.int .towerRole = 0 ∧
      s.int .trackGeometry = 0 ∧ (∀ p, p ∈ o.areas → p.2 ≤ 65535) ∧ (∀ q,
      q ∈ s.track.toDecide → q.readyAt ≤ (s.track.classifying c).readyAt)) ∧
    (∃ (s : State), s.sorting = true ∧ s.feed.pauses ≠ 0 ∧ s.nat .seamClearLines ≤ s.seam.clear ∧ s.seam.isOpen = true ∧
      s.imageStreams = [] ∧ s.feed.pauses &&& pauseStop = 0) ∧
    (∃ (s : State), (s.sorting = false ∨ s.feed.pauses = 0 ∨ s.seam.clear < s.nat .seamClearLines)) ∧
    (∃ (n : Nat) (s : State), s.sorting = true ∧ s.seam.timeoutLine = some n ∧ n < s.track.classified ∧ (∀ o,
      o ∈ s.track.opened → o.captured = false) ∧ s.seam.isOpen = true ∧ s.imageStreams = [] ∧ s.feed.pauses &&& pauseStop = 0) ∧
    (∃ (s : State), ((∀ n, s.seam.timeoutLine = some n → s.track.classified ≤ n) ∨ (∃ o, o ∈ s.track.opened ∧ o.captured = true))) ∧
    (∃ (s : State) (x : Nat), s.sorting = true ∧ s.feed.pauses &&& pauseStop ≠ 0 ∧ s.nat .seamClearLines ≤ s.seam.clear ∧
      s.seam.isOpen = false ∧ x < 2 ∧ (s.getHead x).state = .active) :=
  ⟨⟨keep, by decide +kernel⟩,
   ⟨0, ⟨7, some 3, 1000, false, []⟩, sorted 65535 65535, by decide +kernel⟩,
   ⟨0, 0, 0, 3, ⟨0, 3, [(1, 4)]⟩, ⟨7, some 3, 1000, false, []⟩, sorted 0 3, by decide +kernel⟩,
   ⟨0, 0, 0, 3, ⟨0, 3, [(1, 4)]⟩, anObj, ⟨7, some 3, 1000, false, []⟩,
     { (sorted 0 3) with track := { (sorted 0 3).track with opened := [anObj] } }, by decide +kernel⟩,
   ⟨0, anObj, ⟨7, some 3, 1000, false, []⟩,
     { (sorted 65535 65535) with track := { (sorted 65535 65535).track with opened := [anObj] } }, by decide +kernel⟩,
   ⟨{ mode .run keep with feed := { pauses := 1 }, seam := { isOpen := true, clear := 300 } }, by decide +kernel⟩,
   ⟨keep, by decide +kernel⟩,
   ⟨5, { mode .run keep with seam := { isOpen := true, timeoutLine := some 5 }, track := { classified := 9 } }, by decide +kernel⟩,
   ⟨keep, by decide +kernel⟩,
   ⟨{ (sorted 0 3) with feed := { pauses := 4 }, seam := { clear := 300 } }, 0, by decide +kernel⟩⟩

theorem witness_ObjectsAreDecided :
    (∃ (o : Obj) (rest : List Obj) (k : Nat) (cs : List Nat) (s : State), s.isSealed = false ∧ s.track.toDecide = o :: rest ∧
      (s.getTurret o.turret).state ≠ .absent ∧ (s.getTurret o.turret).state ≠ .revoked ∧ s.outsideOwn o = false ∧ s.judge o = (0, k,
      cs) ∧ s.turretStreams typeChip o.turret = [] ∧ (s.awaitsViews = false ∨ o.flags &&& oFused ≠ 0) ∧ s.awaitsViews = true) ∧
    (∃ (o : Obj) (rest : List Obj) (k : Nat) (cs : List Nat) (s : State) (n : Nat), s.isSealed = false ∧
      s.track.toDecide = o :: rest ∧ (s.getTurret o.turret).state ≠ .absent ∧ (s.getTurret o.turret).state ≠ .revoked ∧
      s.outsideOwn o = false ∧ s.judge o = (0, k, cs) ∧ s.turretStreams typeChip o.turret = [] ∧
      (s.awaitsViews = false ∨ o.flags &&& oFused ≠ 0) ∧ n ≠ o.turret) ∧
    (∃ (o : Obj) (rest : List Obj) (k : Nat) (mm : Nat) (cs : List Nat) (f : Flight) (s : State), s.isSealed = false ∧
      s.sorting = true ∧ s.track.toDecide = o :: rest ∧ (s.awaitsViews = false ∨ o.flags &&& oFused ≠ 0) ∧
      (s.getTurret o.turret).state = .claimed ∧ s.outsideOwn o = false ∧ s.judge o = (1, k, cs) ∧
      s.turretStreams typeChip o.turret = [] ∧ s.matchFlight o = some f ∧ s.span o = ([mm], false) ∧
      s.usable o.turret useEject mm = true ∧ s.eject.queue = [] ∧
      s.sys.tick + decisionLead ≤ (s.actTimes o.turret mm f.arrival f.lead f.lag).1) ∧
    (∃ (o : Obj) (rest : List Obj) (s : State), s.isSealed = false ∧ s.track.toDecide = o :: rest ∧ s.viewDone o = true ∧
      s.awaitsViews = true ∧ o.flags &&& oFused = 0) ∧
    (∃ (s : State), s.track.deciding = []) ∧
    (∃ (s : State) (o : Obj), s.track.deciding = [o]) ∧
    (∃ (o : Obj) (rest : List Obj) (s : State), s.isSealed = false ∧ s.track.toDecide = o :: rest ∧
      (s.awaitsViews = false ∨ o.flags &&& oFused ≠ 0) ∧
      ((s.getTurret o.turret).state = .absent ∨ (s.getTurret o.turret).state = .revoked)) ∧
    (∃ (o : Obj) (rest : List Obj) (s : State), s.isSealed = false ∧ s.track.toDecide = o :: rest ∧
      (s.awaitsViews = false ∨ o.flags &&& oFused ≠ 0) ∧ (s.getTurret o.turret).state = .claimed ∧ s.outsideOwn o = true) ∧
    (∃ (s : State), s.isSealed = true) ∧
    (∃ (s : State), (∀ o, o ∈ s.track.toDecide → s.viewDone o = false)) ∧
    (∃ (o : Obj) (s : State), s.awaitsViews = true ∧ o.flags &&& oFused = 0 ∧
      s.sys.tick < o.readyAt + s.nat .trackViewWait * usTicks) ∧
    (∃ (s : State), s.awaitsViews = false) ∧
    (∃ (p : Nat) (ts : List Nat) (s : State), s.isSealed = true ∧ s.rangeTurrets = ts ∧ ts ≠ [] ∧ p = s.sys.tick / 2500 ∧
      p < s.track.rotation) ∧
    (∃ (p : Nat) (ts : List Nat) (s : State), s.isSealed = true ∧ s.rangeTurrets = ts ∧ ts ≠ [] ∧ p = s.sys.tick / 2500 ∧
      s.track.rotation ≤ p ∧ (∀ o, o ∈ s.track.toDecide → some o.turret ≠ ts[p % ts.length]? ∨ s.viewDone o = false)) ∧
    (∃ (p : Nat) (ts : List Nat) (s : State) (o : Obj) (rest : List Obj), s.isSealed = true ∧ s.rangeTurrets = ts ∧ ts ≠ [] ∧
      p = s.sys.tick / 2500 ∧ s.track.rotation ≤ p ∧ s.track.toDecide = o :: rest ∧ some o.turret = ts[p % ts.length]? ∧
      s.viewDone o = true) ∧
    (∃ (r : ViewRec) (o : Obj) (s : State), s.int .towerRole = 0 ∧ s.track.waiting = [o] ∧ s.viewMatches r o = true ∧
      o.flags &&& oFused = 0) ∧
    (∃ (r : ViewRec) (o : Obj) (s : State), s.int .towerRole = 0 ∧ s.track.waiting = [o] ∧ s.viewMatches r o = true ∧
      o.flags &&& oFused ≠ 0) ∧
    (∃ (r : ViewRec) (s : State), s.int .towerRole = 0 ∧ (∀ o, o ∈ s.track.waiting → s.viewMatches r o = false) ∧ (∃ d,
      d ∈ s.track.decided ∧ s.viewMeets r d.turret d.col256 d.ref = true ∧ d.fused = true ∧ d.at_ = s.sys.tick)) ∧
    (∃ (r : ViewRec) (s : State), s.int .towerRole = 0 ∧ (∀ o, o ∈ s.track.waiting → s.viewMatches r o = false) ∧ (∃ d,
      d ∈ s.track.decided ∧ s.viewMeets r d.turret d.col256 d.ref = true) ∧ (∀ d,
      d ∈ s.track.decided → s.viewMeets r d.turret d.col256 d.ref = true → d.at_ ≠ s.sys.tick)) ∧
    (∃ (r : ViewRec) (s : State), s.int .towerRole = 0 ∧ (∀ o, o ∈ s.track.waiting → s.viewMatches r o = false) ∧ (∀ d,
      d ∈ s.track.decided → s.viewMeets r d.turret d.col256 d.ref = false) ∧ s.viewAhead r = true) ∧
    (∃ (r : ViewRec) (s : State), s.int .towerRole = 0 ∧ (∀ o, o ∈ s.track.waiting → s.viewMatches r o = false) ∧ (∀ d,
      d ∈ s.track.decided → s.viewMeets r d.turret d.col256 d.ref = false) ∧ s.viewAhead r = false) ∧
    (∃ (s : State), s.int .towerRole ≠ 0) ∧
    (∃ (o : Obj) (k : Obj) (s : State), s.track.store = [o] ∧ o.head = 0 ∧ o.expires ≤ s.sys.tick ∧ s.lineAhead o.expires = false ∧
      k = { o with flags := o.flags ||| oFallback, readyAt := s.lineReadAt o.expires } ∧ (s.isSealed = true ∨ (∃ q rest,
      s.track.toDecide = q :: rest ∧ q.readyAt ≤ k.readyAt ∧ q.id ≠ k.id ∧ s.viewDone q = true))) ∧
    (∃ (o : Obj) (k : Obj) (s : State), s.track.store = [o] ∧ o.head = 0 ∧ o.expires ≤ s.sys.tick ∧ s.lineAhead o.expires = false ∧
      k = { o with flags := o.flags ||| oFallback, readyAt := s.lineReadAt o.expires } ∧ s.isSealed = false ∧ s.awaitsViews = false ∧
      s.track.toDecide = []) ∧
    (∃ (o : Obj) (s : State), s.track.store = [o] ∧ (s.sys.tick < o.expires ∨ s.lineAhead o.expires = true)) ∧
    (∃ (s : State), s.track.store = []) ∧
    (∃ (n : Nat) (k : Nat) (s : State) (m : Nat), s.turretStreams typeStat n = [k] ∧
      s.periodStart n + s.nat .classStatPeriod n * msTicks ≤ s.sys.tick ∧ (s.getStream k).recs.length < maxStat ∧ m ≠ n) ∧
    (∃ (n : Nat) (s : State), s.turretStreams typeStat n = [] ∧ s.periodStart n + s.nat .classStatPeriod n * msTicks ≤ s.sys.tick) ∧
    (∃ (n : Nat) (s : State), s.sys.tick < s.periodStart n + s.nat .classStatPeriod n * msTicks) ∧
    (∃ (hd : Hdr) (n : Nat) (s : State), s.begins hd .classCommit = true ∧ (s.getSess hd.sess).login = some n) :=
  ⟨⟨{ anObj with flags := oFused }, [], 255, [],
     { toDecide [{ anObj with flags := oFused }] with tower := { addr := 1, views := [(2, 1)] } }, by decide +kernel⟩,
   ⟨anObj, [], 255, [], toDecide [anObj], 1, by decide +kernel⟩,
   ⟨aPair, [], 0, 0, [0], ⟨1001444340, 0, 0⟩, rejecting, by decide +kernel⟩,
   ⟨anObj, [], { toDecide [anObj] with tower := { addr := 1, views := [(2, 1)] } }, by decide +kernel⟩,
   ⟨keep, by decide +kernel⟩,
   ⟨{ keep with track := { deciding := [anObj] } }, anObj, by decide +kernel⟩,
   ⟨{ anObj with turret := 3 }, [], toDecide [{ anObj with turret := 3 }], by decide +kernel⟩,
   ⟨anObj, [], num .towerOwnLo 300 (toDecide [anObj]), by decide +kernel⟩,
   ⟨sealed_ keep, by decide +kernel⟩,
   ⟨keep, by decide +kernel⟩,
   ⟨{ anObj with readyAt := 1000000000 }, { keep with tower := { addr := 1, views := [(2, 1)] } }, by decide +kernel⟩,
   ⟨keep, by decide +kernel⟩,
   ⟨400000, [0], sealed_ { (num .turretXaLo 0 (num .turretXaHi 3 keep)) with track := { rotation := 400001 } }, by decide +kernel⟩,
   ⟨400000, [0], sealed_ (num .turretXaLo 0 (num .turretXaHi 3 keep)), by decide +kernel⟩,
   ⟨400000, [0], sealed_ (num .turretXaLo 0 (num .turretXaHi 3 (toDecide [anObj]))), anObj, [], by decide +kernel⟩,
   ⟨⟨2, 0, 0, 900, 640, 9, [], 4, 0⟩, anObj, toDecide [anObj], by decide +kernel⟩,
   ⟨⟨2, 0, 0, 900, 640, 9, [], 4, 0⟩, { anObj with flags := oFused }, toDecide [{ anObj with flags := oFused }], by decide +kernel⟩,
   ⟨⟨2, 0, 0, 900, 640, 9, [], 4, 0⟩, { keep with track := { decided := [⟨0, 640, 900, true, 1000000000⟩] } }, by decide +kernel,
     by decide +kernel, ⟨_, List.mem_singleton_self _, by decide, by decide, by decide⟩⟩,
   ⟨⟨2, 0, 0, 900, 640, 9, [], 4, 0⟩, { keep with track := { decided := [⟨0, 640, 900, true, 5⟩] } }, by decide +kernel,
     by decide +kernel, ⟨_, List.mem_singleton_self _, by decide⟩, by decide +kernel⟩,
   ⟨⟨2, 0, 0, 1000000000, 640, 9, [], 4, 0⟩, keep, by decide +kernel⟩,
   ⟨⟨2, 0, 0, 900, 640, 9, [], 4, 0⟩, keep, by decide +kernel⟩,
   ⟨num .towerRole 1 keep, by decide +kernel⟩,
   ⟨anObj, { anObj with flags := oFallback, readyAt := (sealed_ { keep with track := { store := [anObj] } }).lineReadAt 0 },
     sealed_ { keep with track := { store := [anObj] } }, by decide +kernel, by decide +kernel, by decide +kernel, by decide +kernel,
     by decide +kernel, Or.inl (by decide)⟩,
   ⟨anObj, { anObj with flags := oFallback, readyAt := ({ keep with track := { store := [anObj] } } : State).lineReadAt 0 },
     { keep with track := { store := [anObj] } }, by decide +kernel⟩,
   ⟨{ anObj with expires := 2000000000 }, { keep with track := { store := [{ anObj with expires := 2000000000 }] } },
     by decide +kernel⟩,
   ⟨keep, by decide +kernel⟩,
   ⟨0, 5, num .streamTurret 0 (num .streamType 2 { keep with streams := [(5, { isOpen := true })] } 5) 5, 1, by decide +kernel⟩,
   ⟨0, keep, by decide +kernel⟩,
   ⟨0, { keep with sys := { keep.sys with readyAt := 1000000000 } }, by decide +kernel⟩,
   ⟨ln, 0, keep, by decide +kernel⟩⟩

theorem witness_ValveActions :
    (∃ (mm : Nat) (a : Action) (s : State), earliest (s.actsOf mm .scheduled) = some a ∧ s.sys.tick + 4 * usTicks < a.s) ∧
    (∃ (mm : Nat) (a : Action) (s : State), earliest (s.actsOf mm .scheduled) = some a ∧ a.s ≤ s.sys.tick + 4 * usTicks ∧
      s.mayFire mm = true ∧ s.actFaulted a = false ∧ (if s.isSealed then s.peakShare a.turret else s.valvePool) ≥ s.peakMa mm) ∧
    (∃ (mm : Nat) (a : Action) (s : State), earliest (s.actsOf mm .scheduled) = some a ∧ a.s ≤ s.sys.tick + 4 * usTicks ∧
      s.mayFire mm = false ∧ a.replies = []) ∧
    (∃ (mm : Nat) (a : Action) (s : State), earliest (s.actsOf mm .scheduled) = some a ∧ a.s ≤ s.sys.tick + 4 * usTicks ∧
      s.mayFire mm = true ∧ s.actFaulted a = false ∧ (if s.isSealed then s.peakShare a.turret else s.valvePool) < s.peakMa mm ∧
      a.replies = []) ∧
    (∃ (mm : Nat) (a : Action) (s : State), earliest (s.actsOf mm .scheduled) = some a ∧ a.s ≤ s.sys.tick + 4 * usTicks ∧
      s.mayFire mm = true ∧ s.actFaulted a = true) ∧
    (∃ (mm : Nat) (s : State), s.actsOf mm .scheduled = []) ∧
    (∃ (mm : Nat) (a : Action) (s : State), earliest (s.actsOf mm .filed) = some a ∧ s.sys.tick < a.s) ∧
    (∃ (mm : Nat) (a : Action) (s : State), earliest (s.actsOf mm .filed) = some a ∧ a.s ≤ s.sys.tick ∧ s.mayFire mm = true ∧
      a.s0 + s.nat .ejectMaxDelay * usTicks < stepUp s.sys.tick ∧ s.actFaulted a = false ∧ a.replies = []) ∧
    (∃ (mm : Nat) (t0 : Nat) (a : Action) (s : State) (parts : List (Nat × Nat)) (cs : List Charge) (m : Nat),
      earliest (s.actsOf mm .filed) = some a ∧ a.valve = mm ∧ a.s ≤ s.sys.tick ∧ t0 = stepUp s.sys.tick ∧
      t0 ≤ a.s0 + s.nat .ejectMaxDelay * usTicks ∧ s.mayFire mm = true ∧ s.actFaulted a = false ∧
      SMap.look false s.pwr.shortReturn (bankOf mm) = false ∧ s.pwr.p24Low = false ∧ s.vcomClosed (bankOf mm) = true ∧
      s.fenceOpen a = true ∧ s.actWaits a = false ∧ (∀ b, b ∈ s.eject.queue → b.valve = mm → b.running = false) ∧ (a.s = t0 ∨ ∀ b,
      b ∈ s.eject.queue → b.valve = mm → b.id ≠ a.id → a.e + (t0 - a.s) + s.nat .ejectMergeGap * usTicks < b.s) ∧
      s.valveRoom a.id a.turret (s.peakMa mm) (s.holdMa mm) t0 (s.actSpan a t0).1 (s.actSpan a t0).2 = some (parts, cs) ∧ m ≠ mm) ∧
    (∃ (mm : Nat) (t0 : Nat) (a : Action) (s : State) (parts : List (Nat × Nat)) (cs : List Charge) (c : Charge),
      earliest (s.actsOf mm .filed) = some a ∧ a.valve = mm ∧ a.s ≤ s.sys.tick ∧ t0 = stepUp s.sys.tick ∧
      t0 ≤ a.s0 + s.nat .ejectMaxDelay * usTicks ∧ s.mayFire mm = true ∧ s.actFaulted a = false ∧
      SMap.look false s.pwr.shortReturn (bankOf mm) = false ∧ s.pwr.p24Low = false ∧ s.vcomClosed (bankOf mm) = true ∧
      s.fenceOpen a = true ∧ s.actWaits a = false ∧ (∀ b, b ∈ s.eject.queue → b.valve = mm → b.running = false) ∧ (a.s = t0 ∨ ∀ b,
      b ∈ s.eject.queue → b.valve = mm → b.id ≠ a.id → a.e + (t0 - a.s) + s.nat .ejectMergeGap * usTicks < b.s) ∧
      s.valveRoom a.id a.turret (s.peakMa mm) (s.holdMa mm) t0 (s.actSpan a t0).1 (s.actSpan a t0).2 = some (parts, cs) ∧ c ∈ cs) ∧
    (∃ (mm : Nat) (t0 : Nat) (a : Action) (s : State), earliest (s.actsOf mm .filed) = some a ∧ a.valve = mm ∧ a.s ≤ s.sys.tick ∧
      t0 = stepUp s.sys.tick ∧ t0 ≤ a.s0 + s.nat .ejectMaxDelay * usTicks ∧ s.mayFire mm = true ∧ s.actFaulted a = false ∧
      SMap.look false s.pwr.shortReturn (bankOf mm) = false ∧ s.pwr.p24Low = false ∧ s.vcomClosed (bankOf mm) = true ∧
      s.fenceOpen a = true ∧ s.actWaits a = false ∧ (∀ b, b ∈ s.eject.queue → b.valve = mm → b.running = false) ∧ (a.s = t0 ∨ ∀ b,
      b ∈ s.eject.queue → b.valve = mm → b.id ≠ a.id → a.e + (t0 - a.s) + s.nat .ejectMergeGap * usTicks < b.s) ∧
      s.valveRoom a.id a.turret (s.peakMa mm) (s.holdMa mm) t0 (s.actSpan a t0).1 (s.actSpan a t0).2 = none ∧
      s.sys.tick < a.s0 + s.nat .ejectMaxDelay * usTicks) ∧
    (∃ (mm : Nat) (a : Action) (s : State) (mA : Nat) (m : Nat), s.runningAct mm = some a ∧ a.stage = .peak ∧
      s.peakEnd a ≤ s.sys.tick ∧ s.peakMa mm ≤ 2 * mA ∧ m ≠ mm) ∧
    (∃ (mm : Nat) (a : Action) (s : State) (mA : Nat), s.runningAct mm = some a ∧ a.stage = .peak ∧ s.peakEnd a ≤ s.sys.tick ∧
      2 * mA < s.peakMa mm ∧ (s.getValve mm).lowRun = 0) ∧
    (∃ (mm : Nat) (a : Action) (s : State) (mA : Nat), s.runningAct mm = some a ∧ a.stage = .peak ∧ s.peakEnd a ≤ s.sys.tick ∧
      2 * mA < s.peakMa mm ∧ 0 < (s.getValve mm).lowRun ∧ a.valve = mm ∧ a.replies = []) ∧
    (∃ (mm : Nat) (a : Action) (s : State), s.runningAct mm = some a ∧ (a.stage ≠ .peak ∨ s.sys.tick < s.peakEnd a)) ∧
    (∃ (mm : Nat) (a : Action) (s : State), s.runningAct mm = some a ∧ s.sys.tick < a.e) ∧
    (∃ (mm : Nat) (a : Action) (s : State) (m : Nat), s.runningAct mm = some a ∧ a.valve = mm ∧ a.e ≤ s.sys.tick ∧ a.replies = [] ∧
      m ≠ mm) ∧
    (∃ (mm : Nat) (a : Action) (s : State) (c : Charge), s.runningAct mm = some a ∧ a.valve = mm ∧ a.e ≤ s.sys.tick ∧
      a.replies = [] ∧ c.act = a.id) ∧
    (∃ (mm : Nat) (a : Action) (s : State) (r : ReplyTo) (m : Nat), s.runningAct mm = some a ∧ a.valve = mm ∧ a.e ≤ s.sys.tick ∧
      a.replies = [r] ∧ m ≠ mm) ∧
    (∃ (mm : Nat) (a : Action) (s : State) (x : Overcurrent), s.runningAct mm = some a ∧ a.valve = mm ∧ a.replies = [] ∧
      (3000 < x.mA ∨ 3 * s.peakMa mm < 2 * x.mA ∧ 2000 ≤ x.ns)) ∧
    (∃ (mm : Nat) (a : Action) (s : State) (x : Overcurrent), s.runningAct mm = some a ∧ a.valve = mm ∧ x.mA ≤ 3000 ∧
      (2 * x.mA ≤ 3 * s.peakMa mm ∨ x.ns < 2000) ∧ a.stage ≠ .peak) ∧
    (∃ (mm : Nat) (s : State), s.runningAct mm = none) ∧
    (∃ (b : Nat) (s : State), (∀ a, a ∈ s.eject.queue → bankOf a.valve = b → a.running = false) ∧
      (s.serving = true ∨ s.sys.state = .start)) ∧
    (∃ (b : Nat) (s : State) (q : Nat), (∀ a, a ∈ s.eject.queue → bankOf a.valve = b → a.running = false) ∧ s.vcomClosed b = true ∧
      q ≠ b) ∧
    (∃ (hd : Hdr) (mm : Nat) (ms : Int) (s : State), s.begins hd (.valveTest mm ms) = true ∧ s.sys.state = .ready ∧
      s.mayFire mm = true ∧ (ms < 100000 ∨ 100000000 < ms)) ∧
    (∃ (hd : Hdr) (mm : Nat) (ms : Int) (s : State), s.begins hd (.valveTest mm ms) = true ∧ s.sys.state = .ready ∧
      s.mayFire mm = true ∧ 100000 ≤ ms ∧ ms ≤ 100000000 ∧ (∀ a, a ∈ s.eject.queue → a.valve ≠ mm) ∧
      s.freeEntries (s.nat .valveTurret mm) = 0) ∧
    (∃ (hd : Hdr) (mm : Nat) (ms : Int) (s : State), s.begins hd (.valveTest mm ms) = true ∧ s.sys.state = .ready ∧
      s.mayFire mm = true ∧ 100000 ≤ ms ∧ ms ≤ 100000000 ∧ (∀ a, a ∈ s.eject.queue → a.valve ≠ mm) ∧
      0 < s.freeEntries (s.nat .valveTurret mm)) ∧
    (∃ (hd : Hdr) (mm : Nat) (ms : Int) (s : State), s.begins hd (.valveTest mm ms) = true ∧
      (s.sys.state ≠ .ready ∨ s.mayFire mm = false)) ∧
    (∃ (hd : Hdr) (mm : Nat) (code : Nat) (ms : Int) (s : State), s.barred hd (.valveTest mm ms) code = true) ∧
    (∃ (x : Action) (s : State), s.mergeWith x.valve x.s x.e = []) ∧
    (∃ (x : Action) (w : Action) (s : State), s.mergeWith x.valve x.s x.e = [w] ∧ w.running = false) ∧
    (∃ (x : Action) (a : Action) (s : State), s.mergeWith x.valve x.s x.e = [a] ∧ a.running = true ∧ x.replies = [] ∧ x.e ≤ a.e) ∧
    (∃ (x : Action) (a : Action) (s : State) (cs : List Charge), s.mergeWith x.valve x.s x.e = [a] ∧ a.running = true ∧
      x.replies = [] ∧ a.e < x.e ∧ s.chargeSpan s.ledger.charges a.id x.turret (s.holdMa a.valve) a.e x.e = some cs) ∧
    (∃ (x : Action) (a : Action) (s : State), s.mergeWith x.valve x.s x.e = [a] ∧ a.running = true ∧ x.replies = [] ∧ a.e < x.e ∧
      s.chargeSpan s.ledger.charges a.id x.turret (s.holdMa a.valve) a.e x.e = none ∧ x.s < a.e) ∧
    (∃ (x : Action) (a : Action) (s : State), s.mergeWith x.valve x.s x.e = [a] ∧ a.running = true ∧ x.replies = [] ∧ a.e < x.e ∧
      s.chargeSpan s.ledger.charges a.id x.turret (s.holdMa a.valve) a.e x.e = none ∧ a.e ≤ x.s) :=
  ⟨⟨3, { act .scheduled with s := 2000000000 }, acting { act .scheduled with s := 2000000000 }, by decide +kernel⟩,
   ⟨3, act .scheduled, acting (act .scheduled), by decide +kernel⟩,
   ⟨3, act .scheduled, num .valveTurret 255 (acting (act .scheduled)) 3, by decide +kernel⟩,
   ⟨3, act .scheduled, num .valvePeakA 60000000 (acting (act .scheduled)) 3, by decide +kernel⟩,
   ⟨3, act .scheduled, (acting (act .scheduled)).modValve 3 fun v => { v with state := .opn }, by decide +kernel⟩,
   ⟨3, keep, by decide +kernel⟩,
   ⟨3, { act .filed with s := 2000000000 }, acting { act .filed with s := 2000000000 }, by decide +kernel⟩,
   ⟨3, { act .filed with s0 := 900000000 }, acting { act .filed with s0 := 900000000 }, by decide +kernel⟩,
   ⟨3, 1000000000, act .filed, acting (act .filed), [(64, 1000)],
     [⟨2, 64, 1000000000, 1000000000, 1000030000⟩, ⟨2, 64, 200000000, 1000030000, 1000100000⟩], 4, by decide +kernel⟩,
   ⟨3, 1000000000, act .filed, acting (act .filed), [(64, 1000)],
     [⟨2, 64, 1000000000, 1000000000, 1000030000⟩, ⟨2, 64, 200000000, 1000030000, 1000100000⟩], ⟨2, 64, 1000000000, 1000000000,
     1000030000⟩, by decide +kernel⟩,
   ⟨3, 1000000000, act .filed,
     { acting (act .filed) with ledger := { charges := [⟨9, 64, 1000000000000, 1000000000, 1000200000⟩] } }, by decide +kernel⟩,
   ⟨3, { act .peak with s := 999000000 }, acting { act .peak with s := 999000000 }, 600, 4, by decide +kernel⟩,
   ⟨3, { act .peak with s := 999000000 }, acting { act .peak with s := 999000000 }, 0, by decide +kernel⟩,
   ⟨3, { act .peak with s := 999000000 }, (acting { act .peak with s := 999000000 }).modValve 3 fun v => { v with lowRun := 1 }, 0,
     by decide +kernel⟩,
   ⟨3, act .peak, acting (act .peak), by decide +kernel⟩,
   ⟨3, act .peak, acting (act .peak), by decide +kernel⟩,
   ⟨3, { act .hold with s := 999000000, e := 1000000000 }, acting { act .hold with s := 999000000, e := 1000000000 }, 4,
     by decide +kernel⟩,
   ⟨3, { act .hold with s := 999000000, e := 1000000000 }, acting { act .hold with s := 999000000, e := 1000000000 }, ⟨2, 64, 1000,
     1000000000, 1000030000⟩, by decide +kernel⟩,
   ⟨3, { act .hold with s := 999000000, e := 1000000000, replies := [r0] },
     acting { act .hold with s := 999000000, e := 1000000000, replies := [r0] }, r0, 4, by decide +kernel⟩,
   ⟨3, act .peak, acting (act .peak), ⟨3001, 0⟩, by decide +kernel⟩,
   ⟨3, act .hold, acting (act .hold), ⟨3000, 0⟩, by decide +kernel⟩,
   ⟨3, keep, by decide +kernel⟩,
   ⟨0, keep, by decide +kernel⟩,
   ⟨0, acting (act .scheduled), 1, by decide +kernel⟩,
   ⟨ln, 3, 5, num .valveTurret 0 keep 3, by decide +kernel⟩,
   ⟨ln, 3, 100000,
     { (num .valveTurret 0 keep 3) with eject := { queue := List.replicate 4096 { act .scheduled with valve := 4 } } },
     by decide +kernel, by decide +kernel, by decide +kernel, by decide +kernel, by decide +kernel,
     (by intro a h; rw [List.eq_of_mem_replicate h]; decide), fullQueue _ _ _ (by decide)⟩,
   ⟨ln, 3, 100000, num .valveTurret 0 keep 3, by decide +kernel⟩,
   ⟨ln, 3, 100000, keep, by decide +kernel⟩,
   ⟨ln, 3, 23, 100000, mode .run keep, by decide +kernel⟩,
   ⟨{ act .scheduled with s := 1000050000, e := 1000090000 }, keep, by decide +kernel⟩,
   ⟨{ act .scheduled with s := 1000050000, e := 1000090000 }, act .scheduled, acting (act .scheduled), by decide +kernel⟩,
   ⟨{ act .scheduled with s := 1000050000, e := 1000090000 }, act .peak, acting (act .peak), by decide +kernel⟩,
   ⟨{ act .scheduled with s := 1000050000, e := 1000200000 }, act .peak, acting (act .peak),
     [⟨2, 64, 200000000, 1000100000, 1000200000⟩], by decide +kernel⟩,
   ⟨{ act .scheduled with s := 1000050000, e := 1000200000 }, act .peak,
     { acting (act .peak) with ledger := { charges := [⟨9, 64, 1000000000000, 1000000000, 1000200000⟩] } }, by decide +kernel⟩,
   ⟨{ act .scheduled with s := 1000100000, e := 1000200000 }, act .peak,
     { acting (act .peak) with ledger := { charges := [⟨9, 64, 1000000000000, 1000000000, 1000200000⟩] } }, by decide +kernel⟩⟩

theorem witness_SequencerPasses :
    (∃ (s : State), (s.fe.pass.isSome = true ∨ s.feRuns = false)) ∧
    (∃ (s : State), s.fe.pass = none ∧ s.fenced 18 = true ∧ s.startPass.fe.pass ≠ none) ∧
    (∃ (s : State) (u : Urgent), s.fe.pass = none ∧ s.fenced 18 = false ∧ s.feRuns = true ∧ s.fe.nextEntries = [] ∧
      s.nextUrgent = some u) ∧
    (∃ (s : State) (r : ReadJob), s.fe.pass = none ∧ s.fenced 18 = false ∧ s.feRuns = true ∧ s.fe.nextEntries = [] ∧
      s.nextUrgent = none ∧ s.nextRead = some r) ∧
    (∃ (s : State) (c : CheckJob), s.fe.pass = none ∧ s.fenced 18 = false ∧ s.feRuns = true ∧ s.fe.nextEntries = [] ∧
      s.nextUrgent = none ∧ s.nextRead = none ∧ s.fe.checks.find? (fun c => s.mayRun c.turret (checkTicks c.kind)) = some c) ∧
    (∃ (s : State) (k : Nat) (p : Pass), s.fe.pass = none ∧ s.fenced 18 = false ∧ s.feRuns = true ∧ s.fe.nextEntries = [] ∧
      s.nextUrgent = none ∧ s.nextRead = none ∧ s.fe.checks = [] ∧ s.currentLoop = some k ∧ s.loopPass k = some p) ∧
    (∃ (s : State), s.serving = true ∧ s.sys.tick % s.frameTicks = 0 ∧ s.fe.nextFrame = [] ∧ s.fe.partNext = false) ∧
    (∃ (s : State), (s.serving = false ∨ s.sys.tick % s.frameTicks ≠ 0)) ∧
    (∃ (k : Nat) (s : State), s.feRuns = true ∧ s.partitioned = true ∧ k < 16 ∧
      s.slotEnd k - s.nat .seqSlotUs k * usTicks ≤ s.sys.tick ∧ s.sys.tick < s.slotEnd k) ∧
    (∃ (k : Nat) (s : State),
      (s.feRuns = false ∨ s.partitioned = false ∨ 16 ≤ k ∨ s.slotEnd k ≤ s.sys.tick ∨ s.sys.tick < s.slotEnd k - s.nat .seqSlotUs k * usTicks)) ∧
    (∃ (p : Pass) (s : State), s.fe.pass = some p ∧ p.settled = false ∧ p.due ≤ s.sys.tick) ∧
    (∃ (p : Pass) (s : State), s.fe.pass = some p ∧ (p.settled = true ∨ s.sys.tick < p.due)) ∧
    (∃ (x : Tick) (s : State) (q : Nat), s.partitioned = false ∧ (s.getTurLoop 64).delayTo = some x ∧ x ≤ s.sys.tick ∧
      s.fe.pass.isSome = true ∧ q ≠ 64) ∧
    (∃ (x : Tick) (s : State), s.partitioned = false ∧ (s.getTurLoop 64).delayTo = some x ∧ s.sys.tick < x) ∧
    (∃ (s : State), s.fe.pass = none) ∧
    (∃ (r : Sample) (p : Pass) (s : State), s.fe.pass = some p ∧
      (p.settled = false ∨ s.sys.tick < p.due ∨ r.codes.length ≠ s.passSamples p.kind)) ∧
    (∃ (e : Nat) (s : State), s.int .seqMode e = 0) ∧
    (∃ (e : Nat) (s : State), s.int .seqMode e = 1 ∧ s.int .seqValue e = 1) ∧
    (∃ (e : Nat) (s : State), s.int .seqMode e = 1 ∧ s.int .seqValue e = 2) ∧
    (∃ (e : Nat) (s : State), s.int .seqMode e = 1 ∧ s.int .seqValue e = 3) ∧
    (∃ (r : Sample) (p : Pass) (e : Nat) (x : Frac) (s : State) (q : Nat), s.fe.pass = some p ∧ p.kind = .loop e ∧
      p.settled = true ∧ s.feRuns = true ∧ p.due ≤ s.sys.tick ∧ r.codes.length = s.nat .seqSamples e ∧
      s.quantity e r (s.entryDemod e (p.reps - p.from_)) = some x ∧ 32 ≤ s.nat .seqRatio e ∧ s.int .seqEvent e = 0 ∧
      s.nat .feedMassEntry ≠ e ∧ q ≠ e) ∧
    (∃ (r : Sample) (p : Pass) (u : Urgent) (q : ReplyTo) (x : Frac) (y : Frac) (s : State), s.fe.pass = some p ∧
      p.kind = .urgent u ∧ p.settled = true ∧ s.feRuns = true ∧ p.due ≤ s.sys.tick ∧ r.codes.length = s.nat .seqSamples u.entry ∧
      s.quantity u.entry r (s.entryDemod u.entry 0) = some x ∧ u.replies = [q] ∧ 32 ≤ s.nat .seqRatio u.entry ∧
      s.int .seqEvent u.entry = 0 ∧ s.nat .feedMassEntry ≠ u.entry ∧ (s.getSess q.sess).isOpen = true ∧
      y = ((Frac.of6 (s.int .seqScale u.entry)).mul x).add (.of6 (s.int .seqOffset u.entry))) ∧
    (∃ (hd : Hdr) (e : Nat) (s : State), s.begins hd (.seqNow e) = true ∧ s.gated 17 = false ∧ s.int .seqEnable e ≠ 0 ∧
      s.fe.fault = false ∧ s.fe.excFault = false ∧ s.failedPin (s.entryPins e) = none ∧ s.fe.urgents = [] ∧ (∃ p u,
      s.fe.pass = some p ∧ p.kind = .urgent u)) ∧
    (∃ (hd : Hdr) (e : Nat) (s : State), s.begins hd (.seqNow e) = true ∧ (s.gated 17 = true ∨ s.int .seqEnable e = 0)) ∧
    (∃ (hd : Hdr) (e : Nat) (s : State), s.begins hd (.seqNow e) = true ∧ s.gated 17 = false ∧ s.int .seqEnable e ≠ 0 ∧
      s.fe.fault = true) ∧
    (∃ (hd : Hdr) (e : Nat) (k : Nat) (s : State), s.begins hd (.seqNow e) = true ∧ s.gated 17 = false ∧ s.int .seqEnable e ≠ 0 ∧
      s.fe.fault = false ∧ s.fe.excFault = false ∧ s.failedPin (s.entryPins e) = some k) ∧
    (∃ (hd : Hdr) (s : State), s.begins hd .seqCommit = true ∧ s.gated 17 = true) ∧
    (∃ (hd : Hdr) (n : Nat) (isKeep : Bool) (s : State), s.begins hd .seqCommit = true ∧ s.gated 17 = false ∧
      (s.getSess hd.sess).login = some n ∧ isKeep = decide (n = 0) ∧ s.slotMissing n isKeep = true) ∧
    (∃ (hd : Hdr) (n : Nat) (isKeep : Bool) (s : State) (e : Nat), s.begins hd .seqCommit = true ∧ s.gated 17 = false ∧
      (s.getSess hd.sess).login = some n ∧ isKeep = decide (n = 0) ∧ s.slotMissing n isKeep = false ∧ s.badEntry n isKeep = some e) ∧
    (∃ (hd : Hdr) (n : Nat) (isKeep : Bool) (s : State), s.begins hd .seqCommit = true ∧ s.gated 17 = false ∧
      (s.getSess hd.sess).login = some n ∧ isKeep = decide (n = 0) ∧ s.slotMissing n isKeep = false ∧ s.badEntry n isKeep = none ∧
      s.slotRange n isKeep = true) ∧
    (∃ (hd : Hdr) (n : Nat) (isKeep : Bool) (s : State) (w : Write), s.begins hd .seqCommit = true ∧ s.gated 17 = false ∧
      (s.getSess hd.sess).login = some n ∧ isKeep = decide (n = 0) ∧ s.slotMissing n isKeep = false ∧ s.badEntry n isKeep = none ∧
      s.slotRange n isKeep = false ∧
      w = { record := .recipe n, body := .recipe (s.newRecipe n false), turret := n, reply := some (.traop (s.replyTo hd)), onCommit := .recipe n false true (if n = 0 then frameKeys.filterMap fun k => (SMap.find s.staged k.code).map fun v => (k, v) else []) } ∧
      (wantsExcite s.entryVal (s.entriesOf n) = false ∨ s.exciteHeld = true)) ∧
    (∃ (hd : Hdr) (n : Nat) (isKeep : Bool) (s : State) (w : Write), s.begins hd .seqCommit = true ∧ s.gated 17 = false ∧
      (s.getSess hd.sess).login = some n ∧ isKeep = decide (n = 0) ∧ s.slotMissing n isKeep = false ∧ s.badEntry n isKeep = none ∧
      s.slotRange n isKeep = false ∧
      w = { record := .recipe n, body := .recipe (s.newRecipe n false), turret := n, reply := some (.traop (s.replyTo hd)), onCommit := .recipe n false true (if n = 0 then frameKeys.filterMap fun k => (SMap.find s.staged k.code).map fun v => (k, v) else []) } ∧
      wantsExcite s.entryVal (s.entriesOf n) = true ∧ s.exciteHeld = false) :=
  ⟨⟨{ keep with fe := { pass := some { kind := .loop 1, turret := 0, settled := true } } }, by decide +kernel⟩,
   ⟨unchecked 18 { keep with fe := { reads := [⟨1, false, 0, 0⟩] } }, by decide +kernel, by decide +kernel, (by decide)⟩,
   ⟨{ num .seqTurret 0 (num .seqEnable 1 keep 1) 1 with fe := { urgents := [⟨1, 0, false, [r0], 0⟩] } }, ⟨1, 0, false, [r0], 0⟩,
     by decide +kernel⟩,
   ⟨{ keep with fe := { reads := [⟨1, false, 0, 0⟩] } }, ⟨1, false, 0, 0⟩, by decide +kernel⟩,
   ⟨{ keep with fe := { checks := [⟨.bias, 0, none, 0, {}, false⟩] } }, ⟨.bias, 0, none, 0, {}, false⟩, by decide +kernel⟩,
   ⟨{ num .seqTurret 0 (num .seqEnable 1 keep 1) 1 with fe := { begun := true } }, 64,
     { kind := .loop 1, turret := 0, settled := false }, by decide +kernel⟩,
   ⟨{ keep with sys := { keep.sys with tick := 0 } }, by decide +kernel⟩,
   ⟨State.reset, by decide +kernel⟩,
   ⟨0, { (num .seqSlotUs 100 (num .seqPartitioned 1 keep)) with sys := { keep.sys with tick := 5 } }, by decide +kernel⟩,
   ⟨0, keep, by decide +kernel⟩,
   ⟨{ kind := .loop 1, turret := 0, settled := false },
     { keep with fe := { pass := some { kind := .loop 1, turret := 0, settled := false } } }, by decide +kernel⟩,
   ⟨{ kind := .loop 1, turret := 0, settled := true },
     { keep with fe := { pass := some { kind := .loop 1, turret := 0, settled := true } } }, by decide +kernel⟩,
   ⟨5,
     { keep with fe := { loops := [(64, { delayTo := some 5 })], pass := some { kind := .loop 1, turret := 0, settled := true } } },
     0, by decide +kernel⟩,
   ⟨1000000001, { keep with fe := { loops := [(64, { delayTo := some 1000000001 })] } }, by decide +kernel⟩,
   ⟨keep, by decide +kernel⟩,
   ⟨⟨List.replicate 64 0, false⟩, { kind := .loop 1, turret := 0, settled := false },
     { keep with fe := { pass := some { kind := .loop 1, turret := 0, settled := false } } }, by decide +kernel⟩,
   ⟨1, keep, by decide +kernel⟩,
   ⟨1, num .seqMode 1 (num .seqValue 1 keep 1) 1, by decide +kernel⟩,
   ⟨1, num .seqMode 1 (num .seqValue 2 keep 1) 1, by decide +kernel⟩,
   ⟨1, num .seqMode 1 (num .seqValue 3 keep 1) 1, by decide +kernel⟩,
   ⟨⟨List.replicate 64 0, false⟩, { kind := .loop 1, turret := 0, settled := true }, 1, (Sample.mean ⟨List.replicate 64 0,
     false⟩ 1), { num .seqRatio 255 keep 1 with fe := { pass := some { kind := .loop 1, turret := 0, settled := true } } }, 0,
     by decide +kernel⟩,
   ⟨⟨List.replicate 64 0, false⟩, { kind := .urgent ⟨1, 0, false, [r0], 0⟩, turret := 0, settled := true }, ⟨1, 0, false, [r0], 0⟩,
     r0, (Sample.mean ⟨List.replicate 64 0, false⟩ 1), (((Frac.of6 1000000).mul (Sample.mean ⟨List.replicate 64 0,
     false⟩ 1)).add (.of6 0)),
     { num .seqRatio 255 keep 1 with fe := { pass := some { kind := .urgent ⟨1, 0, false, [r0], 0⟩, turret := 0, settled := true } } },
     by decide +kernel⟩,
   ⟨ln, 1,
     { num .seqTurret 0 (num .seqEnable 1 keep 1) 1 with fe := { pass := some { kind := .urgent ⟨1, 0, false, [r0], 0⟩, turret := 0, settled := true } } },
     by decide +kernel, by decide +kernel, by decide +kernel, by decide +kernel, by decide +kernel, by decide +kernel,
     by decide +kernel, ⟨_, _, rfl, rfl⟩⟩,
   ⟨ln, 1, num .seqTurret 0 keep 1, by decide +kernel⟩,
   ⟨ln, 1, { num .seqTurret 0 (num .seqEnable 1 keep 1) 1 with fe := { fault := true } }, by decide +kernel⟩,
   ⟨ln, 1, 3,
     { (num .seqInP 3 (num .seqTurret 0 (num .seqEnable 1 keep 1) 1) 1) with fe := { pins := [(3, { state := .disabled })] } },
     by decide +kernel⟩,
   ⟨ln, { keep with isl := { keep.isl with gate := 131072 } }, by decide +kernel⟩,
   ⟨ln, 1, false,
     num .seqTurret 1 (num .seqEnable 1 (num .seqPartitioned 1 ({ keep with sess := [(0, { isOpen := true, login := some 1 })] })) 1) 1,
     by decide +kernel⟩,
   ⟨ln, 1, false,
     num .seqInP 3 (num .seqInN 3 (num .seqTurret 1 ({ keep with sess := [(0, { isOpen := true, login := some 1 })] }) 2) 2) 2, 2,
     by decide +kernel⟩,
   ⟨ln, 0, true, keep, by decide +kernel⟩,
   ⟨ln, 1, false, { keep with sess := [(0, { isOpen := true, login := some 1 })] },
     { record := .recipe 1, body := .recipe (State.newRecipe ({ keep with sess := [(0, { isOpen := true, login := some 1 })] }) 1 false), turret := 1, reply := some (.traop (State.replyTo ({ keep with sess := [(0, { isOpen := true, login := some 1 })] }) ln)), onCommit := .recipe 1 false true [] },
     by decide +kernel, by decide +kernel, by decide +kernel, by decide +kernel, by decide +kernel, by decide +kernel,
     by decide +kernel, rfl, by decide +kernel⟩,
   ⟨ln, 1, false,
     num .seqExcVpp 6000000 (num .seqEnable 1 (num .seqTurret 1 ({ keep with sess := [(0, { isOpen := true, login := some 1 })] }) 2) 2) 2,
     { record := .recipe 1, body := .recipe (State.newRecipe (num .seqExcVpp 6000000 (num .seqEnable 1 (num .seqTurret 1 ({ keep with sess := [(0, { isOpen := true, login := some 1 })] }) 2) 2) 2) 1 false), turret := 1, reply := some (.traop (State.replyTo (num .seqExcVpp 6000000 (num .seqEnable 1 (num .seqTurret 1 ({ keep with sess := [(0, { isOpen := true, login := some 1 })] }) 2) 2) 2) ln)), onCommit := .recipe 1 false true [] },
     by decide +kernel, by decide +kernel, by decide +kernel, by decide +kernel, by decide +kernel, by decide +kernel,
     by decide +kernel, rfl, by decide +kernel, by decide +kernel⟩⟩

theorem witness_ChecksAndPins :
    (∃ (hd : Hdr) (s : State), s.begins hd (.checkRun .bias) = true ∧ s.gated 17 = false ∧ s.fe.fault = false ∧
      s.partitioned = false ∧ s.fe.pass.isSome = true ∧ (s.getSess hd.sess).login = some 0) ∧
    (∃ (hd : Hdr) (s : State) (n : Nat), s.begins hd (.checkRun .bias) = true ∧ s.gated 17 = false ∧ s.fe.fault = false ∧
      s.partitioned = false ∧ s.fe.pass.isSome = true ∧ (s.getSess hd.sess).login = some n ∧ n ≠ 0) ∧
    (∃ (hd : Hdr) (k : CheckKind) (s : State), s.begins hd (.checkRun k) = true ∧
      s.mayCheck ((s.getSess hd.sess).login.getD 0) k = true ∧ s.gated 17 = true) ∧
    (∃ (hd : Hdr) (k : CheckKind) (s : State), s.begins hd (.checkRun k) = true ∧
      s.mayCheck ((s.getSess hd.sess).login.getD 0) k = true ∧ s.gated 17 = false ∧ s.fe.fault = true ∧ s.partitioned = false) ∧
    (∃ (s : State), s.feRuns = true ∧ s.nat .checkIntervalS ≠ 0 ∧ s.fe.checks = [] ∧ (∃ p e, s.fe.pass = some p ∧
      p.kind = .loop e) ∧ s.fe.checkAt + s.nat .checkIntervalS * secTicks ≤ s.sys.tick) ∧
    (∃ (s : State), (s.feRuns = false ∨ s.nat .checkIntervalS = 0 ∨ s.sys.tick < s.fe.checkAt + s.nat .checkIntervalS * secTicks)) ∧
    (∃ (x : Sample) (p : Pass) (c : CheckJob) (s : State) (v : Int), s.fe.pass = some p ∧ p.kind = .check c ∧ p.settled = true ∧
      s.feRuns = true ∧ c.kind = .bias ∧ c.reply = none ∧ c.fail = false ∧ p.due ≤ s.sys.tick ∧ x.codes.length = 4096 ∧
      v = x.codes.sum * 78125000 ∧ 102195200000000000 ≤ v ∧ v ≤ 102604800000000000) ∧
    (∃ (x : Sample) (p : Pass) (c : CheckJob) (s : State) (v : Int), s.fe.pass = some p ∧ p.kind = .check c ∧ p.settled = true ∧
      s.feRuns = true ∧ c.kind = .bias ∧ c.reply = none ∧ c.fail = false ∧ p.due ≤ s.sys.tick ∧ x.codes.length = 4096 ∧
      v = x.codes.sum * 78125000 ∧ (v < 102195200000000000 ∨ 102604800000000000 < v)) ∧
    (∃ (p : Nat) (s : State) (q : Nat), s.serving = true ∧ (s.getPin p).state = .ok ∧ q ≠ p) ∧
    (∃ (p : Nat) (s : State) (e : Nat) (x : Pass), s.serving = true ∧ (s.getPin p).state = .ok ∧ s.fe.pass = some x ∧
      x.kind = .loop e ∧ p ∈ s.entryPins e) ∧
    (∃ (p : Nat) (s : State) (e : Nat) (x : Pass), s.serving = true ∧ (s.getPin p).state = .ok ∧ s.fe.pass = some x ∧
      x.kind = .loop e ∧ p ∉ s.entryPins e) ∧
    (∃ (p : Nat) (s : State), s.serving = true ∧ (s.getPin p).state = .exceeded ∧ s.sys.tick < (s.getPin p).overAt + secTicks) ∧
    (∃ (p : Nat) (s : State), s.serving = true ∧ (s.getPin p).state = .exceeded ∧ (s.getPin p).overAt + secTicks ≤ s.sys.tick) ∧
    (∃ (s : State), s.serving = false) ∧
    (∃ (e : Nat) (s : State), (s.feRuns = false ∨ s.fe.pass = none ∨ (∃ p, s.fe.pass = some p ∧
      (s.drives p e = false ∨ p.limitTold = true ∨ s.sys.tick < p.opened + 100 * msTicks)))) ∧
    (∃ (e : Nat) (p : Pass) (s : State), s.feRuns = true ∧ s.fe.pass = some p ∧ s.drives p e = true ∧ p.limitTold = false ∧
      p.opened + 100 * msTicks ≤ s.sys.tick) ∧
    (∃ (s : State), s.serving = true ∧ s.fe.excWanted = true ∧ s.fe.excAt + 10 * secTicks ≤ s.sys.tick ∧
      wantsExcite s.comingVal = true ∧ s.exciteHeld = false ∧ (∀ q, q ∈ s.ledger.reqs → q.what ≠ .excite)) ∧
    (∃ (s : State), (s.fe.excWanted = false ∨ s.sys.tick < s.fe.excAt + 10 * secTicks)) :=
  ⟨⟨ln, { keep with fe := { pass := some { kind := .loop 1, turret := 0, settled := true } } }, by decide +kernel⟩,
   ⟨ln,
     { { keep with sess := [(0, { isOpen := true, login := some 1 })] } with fe := { pass := some { kind := .loop 1, turret := 0, settled := true } } },
     1, by decide +kernel⟩,
   ⟨ln, .bias, { keep with isl := { keep.isl with gate := 131072 } }, by decide +kernel⟩,
   ⟨ln, .bias, { keep with fe := { fault := true } }, by decide +kernel⟩,
   ⟨{ num .checkIntervalS 5 keep with fe := { pass := some { kind := .loop 1, turret := 0, settled := true } } }, by decide +kernel,
     by decide +kernel, by decide +kernel, ⟨_, _, rfl, rfl⟩, by decide +kernel⟩,
   ⟨keep, by decide +kernel⟩,
   ⟨⟨List.replicate 4096 320000, false⟩, { kind := .check ⟨.bias, 0, none, 0, {}, false⟩, turret := 0, settled := true }, ⟨.bias, 0,
     none, 0, {}, false⟩,
     { keep with fe := { pass := some { kind := .check ⟨.bias, 0, none, 0, {}, false⟩, turret := 0, settled := true } } },
     102400000000000000, by decide +kernel, by decide +kernel, by decide +kernel, by decide +kernel, by decide +kernel,
     by decide +kernel, by decide +kernel, by decide +kernel, List.length_replicate, (by simp only [codes_sum]; decide),
     by decide +kernel, by decide +kernel⟩,
   ⟨⟨List.replicate 4096 0, false⟩, { kind := .check ⟨.bias, 0, none, 0, {}, false⟩, turret := 0, settled := true }, ⟨.bias, 0,
     none, 0, {}, false⟩,
     { keep with fe := { pass := some { kind := .check ⟨.bias, 0, none, 0, {}, false⟩, turret := 0, settled := true } } }, 0,
     by decide +kernel, by decide +kernel, by decide +kernel, by decide +kernel, by decide +kernel, by decide +kernel,
     by decide +kernel, by decide +kernel, List.length_replicate, (by simp only [codes_sum]; decide), by decide +kernel⟩,
   ⟨15, keep, 0, by decide +kernel⟩,
   ⟨3, { num .seqInP 3 keep 1 with fe := { pass := some { kind := .loop 1, turret := 0, settled := true } } }, 1,
     { kind := .loop 1, turret := 0, settled := true }, by decide +kernel⟩,
   ⟨3, { num .seqInP 4 keep 1 with fe := { pass := some { kind := .loop 1, turret := 0, settled := true } } }, 1,
     { kind := .loop 1, turret := 0, settled := true }, by decide +kernel⟩,
   ⟨3, keep.modPin 3 fun y => { state := .exceeded, overAt := 999999999 }, by decide +kernel⟩,
   ⟨3, keep.modPin 3 fun y => { y with state := .exceeded }, by decide +kernel⟩,
   ⟨State.reset, by decide +kernel⟩,
   ⟨1, keep, by decide +kernel⟩,
   ⟨1, { kind := .loop 1, turret := 0, settled := true },
     { num .seqMode 1 (num .seqExcP 3 keep 1) 1 with fe := { pass := some { kind := .loop 1, turret := 0, settled := true } } },
     by decide +kernel⟩,
   ⟨{ num .seqExcVpp 6000000 (num .seqEnable 1 keep 1) 1 with fe := { excWanted := true } }, by decide +kernel⟩,
   ⟨keep, by decide +kernel⟩⟩

theorem witness_CurrentLoops :
    (∃ (n : Nat) (s : State) (c : CLoop) (q : Nat), s.serving = true ∧ s.fenced 19 = false ∧ (n = 1 ∨ n = 2) ∧
      (s.getLoop n).state ≠ .fault ∧ (s.getTurret (s.nat .loopTurret n)).state ≠ .revoked ∧ (s.getLoop n).sampleAt ≤ s.sys.tick ∧
      s.holdsLevel n = false ∧ c = { s.getLoop n with sampleAt := s.sys.tick + 10 * msTicks } ∧ q ≠ n) ∧
    (∃ (n : Nat) (s : State) (c : CLoop), s.serving = true ∧ s.fenced 19 = false ∧ (n = 1 ∨ n = 2) ∧ (s.getLoop n).state ≠ .fault ∧
      (s.getTurret (s.nat .loopTurret n)).state ≠ .revoked ∧ (s.getLoop n).sampleAt ≤ s.sys.tick ∧ s.holdsLevel n = false ∧
      c = { s.getLoop n with sampleAt := s.sys.tick + 10 * msTicks } ∧ s.int .loopQuantity n = 0) ∧
    (∃ (n : Nat) (s : State) (c : CLoop), s.serving = true ∧ s.fenced 19 = false ∧ (n = 1 ∨ n = 2) ∧ (s.getLoop n).state ≠ .fault ∧
      (s.getTurret (s.nat .loopTurret n)).state ≠ .revoked ∧ (s.getLoop n).sampleAt ≤ s.sys.tick ∧ s.holdsLevel n = false ∧
      c = { s.getLoop n with sampleAt := s.sys.tick + 10 * msTicks } ∧ s.int .loopQuantity n = 6) ∧
    (∃ (n : Nat) (s : State) (c : CLoop), s.serving = true ∧ s.fenced 19 = false ∧ (n = 1 ∨ n = 2) ∧ (s.getLoop n).state ≠ .fault ∧
      (s.getTurret (s.nat .loopTurret n)).state ≠ .revoked ∧ (s.getLoop n).sampleAt ≤ s.sys.tick ∧ s.holdsLevel n = false ∧
      c = { s.getLoop n with sampleAt := s.sys.tick + 10 * msTicks } ∧ s.int .loopQuantity n = 7) ∧
    (∃ (n : Nat) (s : State) (c : CLoop) (x : Frac), s.serving = true ∧ s.fenced 19 = false ∧ (n = 1 ∨ n = 2) ∧
      (s.getLoop n).state ≠ .fault ∧ (s.getTurret (s.nat .loopTurret n)).state ≠ .revoked ∧ (s.getLoop n).sampleAt ≤ s.sys.tick ∧
      s.holdsLevel n = false ∧ c = { s.getLoop n with sampleAt := s.sys.tick + 10 * msTicks } ∧ s.int .loopQuantity n = 4 ∧
      s.nat .seqTurret (s.nat .loopEntry n) = s.nat .loopTurret n ∧ s.gated 17 = false ∧ (s.getLoop n).badUntil = none ∧
      (s.getLoop n).samples = [] ∧ (s.getEntry (s.nat .loopEntry n)).result = some x ∧ (s.getEntry (s.nat .loopEntry n)).flags = 0) ∧
    (∃ (n : Nat) (s : State) (c : CLoop), s.serving = true ∧ s.fenced 19 = false ∧ (n = 1 ∨ n = 2) ∧ (s.getLoop n).state ≠ .fault ∧
      (s.getTurret (s.nat .loopTurret n)).state ≠ .revoked ∧ (s.getLoop n).sampleAt ≤ s.sys.tick ∧ s.holdsLevel n = false ∧
      c = { s.getLoop n with sampleAt := s.sys.tick + 10 * msTicks } ∧ s.int .loopQuantity n = 4 ∧
      ((s.getEntry (s.nat .loopEntry n)).result = none ∨ s.gated 17 = true ∨ s.nat .seqTurret (s.nat .loopEntry n) ≠ s.nat .loopTurret n) ∧
      (s.getLoop n).state ≠ .fallback) ∧
    (∃ (n : Nat) (s : State) (c : CLoop), s.serving = true ∧ s.fenced 19 = false ∧ (n = 1 ∨ n = 2) ∧
      (s.getLoop n).sampleAt ≤ s.sys.tick ∧ s.holdsLevel n = false ∧ c = { s.getLoop n with sampleAt := s.sys.tick + 10 * msTicks } ∧
      (s.getTurret (s.nat .loopTurret n)).state = .revoked) ∧
    (∃ (n : Nat) (s : State) (c : CLoop), s.serving = true ∧ s.fenced 19 = false ∧ (n = 1 ∨ n = 2) ∧
      (s.getLoop n).sampleAt ≤ s.sys.tick ∧ s.holdsLevel n = false ∧ c = { s.getLoop n with sampleAt := s.sys.tick + 10 * msTicks } ∧
      (s.getLoop n).state = .fault ∧ s.int .loopQuantity n = 7) ∧
    (∃ (n : Nat) (s : State), (s.serving = false ∨ s.sys.tick < (s.getLoop n).sampleAt ∨ s.holdsLevel n = true)) ∧
    (∃ (n : Nat) (s : State), s.serving = true ∧ s.fenced 19 = true ∧ (n = 1 ∨ n = 2) ∧ (s.getLoop n).sampleAt ≤ s.sys.tick ∧
      s.holdsLevel n = false) ∧
    (∃ (x : Frac) (lo : Int) (hi : Int), lo < hi ∧ 0 < x.den ∧ x.num * 1000000 ≤ lo * x.den) ∧
    (∃ (x : Frac) (lo : Int) (hi : Int), lo < hi ∧ 0 < x.den ∧ hi * x.den ≤ x.num * 1000000) ∧
    (∃ (n : Nat) (s : State) (q : Nat), s.judges n = true ∧ (s.getLoop n).headroom = true ∧ q ≠ n) ∧
    (∃ (n : Nat) (s : State), s.judges n = true ∧ (s.getLoop n).headroom = false ∧ s.sys.tick < (s.getLoop n).offAt + 100 * msTicks) ∧
    (∃ (n : Nat) (s : State), s.judges n = true ∧ (s.getLoop n).headroom = false ∧
      s.sys.tick < (s.getLoop n).lostAt + 100 * msTicks) ∧
    (∃ (n : Nat) (s : State) (q : Nat), s.judges n = true ∧ (s.getLoop n).headroom = false ∧ (s.getLoop n).told = false ∧
      (s.getLoop n).offAt + 100 * msTicks ≤ s.sys.tick ∧ q ≠ n) ∧
    (∃ (n : Nat) (s : State), s.judges n = true ∧ (s.getLoop n).headroom = false ∧ (s.getLoop n).told = false ∧
      (s.getLoop n).offAt + 100 * msTicks ≤ s.sys.tick ∧ (s.getLoop n).state = .alarm ∧ 21000000 ≤ (s.getLoop n).ma6) ∧
    (∃ (n : Nat) (s : State), s.judges n = true ∧ (s.getLoop n).headroom = false ∧ (s.getLoop n).told = false ∧
      (s.getLoop n).offAt + 100 * msTicks ≤ s.sys.tick ∧ ((s.getLoop n).state ≠ .alarm ∨ (s.getLoop n).ma6 < 21000000)) ∧
    (∃ (n : Nat) (s : State), s.judges n = true ∧ (s.getLoop n).headroom = false ∧
      (s.getLoop n).lostAt + 100 * msTicks ≤ s.sys.tick) ∧
    (∃ (n : Nat) (s : State), s.judges n = false) ∧
    (∃ (n : Nat) (s : State), s.feRuns = true ∧ s.loopEnabled n = true ∧ (n = 1 ∨ n = 2) ∧ (s.getLoop n).readAt ≤ s.sys.tick) ∧
    (∃ (n : Nat) (s : State), (s.feRuns = false ∨ s.loopEnabled n = false ∨ s.sys.tick < (s.getLoop n).readAt)) ∧
    (∃ (x : Sample) (p : Pass) (r : ReadJob) (s : State), s.fe.pass = some p ∧ p.kind = .readback r ∧ p.settled = true ∧
      s.feRuns = true ∧ p.due ≤ s.sys.tick ∧ x.codes.length = 64) ∧
    (∃ (n : Nat) (i : Int) (s : State), (i - loopMa6 (s.getLoop n).code).natAbs ≤ 100000) ∧
    (∃ (n : Nat) (i : Int) (s : State), (s.getLoop n).headroom = true ∧ 100000 < (i - loopMa6 (s.getLoop n).code).natAbs ∧
      (s.getLoop n).drift = 2) :=
  ⟨⟨1, keep, { (keep).getLoop 1 with sampleAt := 1010000000 - 9000000 }, 2, by decide +kernel⟩,
   ⟨1, num .loopQuantity 0 (keep) 1, { (keep).getLoop 1 with sampleAt := 1010000000 - 9000000 }, by decide +kernel⟩,
   ⟨1, num .loopQuantity 6 (keep) 1, { (keep).getLoop 1 with sampleAt := 1010000000 - 9000000 }, by decide +kernel⟩,
   ⟨1, num .loopQuantity 7 (keep) 1, { (keep).getLoop 1 with sampleAt := 1010000000 - 9000000 }, by decide +kernel⟩,
   ⟨1, num .seqTurret 0 (num .loopQuantity 4 ({ keep with fe := { entries := [(0, { result := some {} })] } }) 1),
     { (keep).getLoop 1 with sampleAt := 1010000000 - 9000000 }, {}, by decide +kernel⟩,
   ⟨1, num .loopQuantity 4 (keep) 1, { (keep).getLoop 1 with sampleAt := 1010000000 - 9000000 }, by decide +kernel⟩,
   ⟨1, num .loopTurret 3 keep 1, { (keep).getLoop 1 with sampleAt := 1010000000 - 9000000 }, by decide +kernel⟩,
   ⟨1, num .loopQuantity 7 ((keep).modLoop 1 fun y => { y with state := .fault }) 1,
     { ((keep).modLoop 1 fun y => { y with state := .fault }).getLoop 1 with sampleAt := 1010000000 - 9000000 }, by decide +kernel⟩,
   ⟨1, State.reset, by decide +kernel⟩,
   ⟨1, unchecked 19 keep, by decide +kernel⟩,
   ⟨{}, 1, 2, by decide +kernel⟩,
   ⟨{}, -2, -1, by decide +kernel⟩,
   ⟨1, keep, 2, by decide +kernel⟩,
   ⟨1, (keep).modLoop 1 fun y => { y with headroom := false, offAt := 999999999 }, by decide +kernel⟩,
   ⟨1, (keep).modLoop 1 fun y => { y with headroom := false, lostAt := 999999999 }, by decide +kernel⟩,
   ⟨1, (keep).modLoop 1 fun y => { y with headroom := false }, 2, by decide +kernel⟩,
   ⟨1, (keep).modLoop 1 fun y => { y with headroom := false, state := .alarm, ma6 := 21000000 }, by decide +kernel⟩,
   ⟨1, (keep).modLoop 1 fun y => { y with headroom := false, state := .alarm, ma6 := 20999999 }, by decide +kernel⟩,
   ⟨1, (keep).modLoop 1 fun y => { y with headroom := false }, by decide +kernel⟩,
   ⟨0, keep, by decide +kernel⟩,
   ⟨1, keep, by decide +kernel⟩,
   ⟨1, num .loopQuantity 0 (keep) 1, by decide +kernel⟩,
   ⟨⟨List.replicate 64 0, false⟩, { kind := .readback ⟨1, false, 0, 0⟩, turret := 0, settled := true }, ⟨1, false, 0, 0⟩,
     { keep with fe := { pass := some { kind := .readback ⟨1, false, 0, 0⟩, turret := 0, settled := true } } }, by decide +kernel⟩,
   ⟨1, 3600000, keep, by decide +kernel⟩,
   ⟨1, 9000000, (keep).modLoop 1 fun y => { y with drift := 2 }, by decide +kernel⟩⟩

theorem witness_MemoryCipherChecksAccess :
    (∃ (q : MemBy) (o : Nat) (n : Nat) (r : Region) (s : State) (x : Nat), s.memLive o r = true ∧ s.memAccepts q o r n = true ∧
      (s.getReqr q.island).pend = [] ∧ x ≠ q.island) ∧
    (∃ (q : MemBy) (o : Nat) (n : Nat) (r : Region) (s : State), s.memLive o r = true ∧ s.memAccepts q o r n = true ∧
      (s.getReqr q.island).pend = [] ∧ s.freshPage o r n = true) ∧
    (∃ (q : MemBy) (o : Nat) (n : Nat) (r : Region) (s : State), s.memLive o r = true ∧ s.memAccepts q o r n = true ∧
      (s.getReqr q.island).pend = [] ∧ s.freshPage o r n = false) ∧
    (∃ (q : MemBy) (o : Nat) (n : Nat) (r : Region) (s : State) (u : State), s.memLive o r = true ∧ s.memAccepts q o r n = false ∧
      u = { s with mem := { s.mem with refused := satInc s.mem.refused } } ∧ q.cmd = none) ∧
    (∃ (q : MemBy) (o : Nat) (n : Nat) (r : Region) (s : State) (u : State) (c : Nat × Option Nat) (a : ReplyTo) (v : State),
      s.memLive o r = true ∧ s.memAccepts q o r n = false ∧ u = { s with mem := { s.mem with refused := satInc s.mem.refused } } ∧
      q.cmd = some c ∧ u.cmdInFlight c.1 c.2 = some a ∧ u.abortable a = some v) ∧
    (∃ (o : Nat) (r : Region) (s : State), s.memLive o r = false) ∧
    (∃ (q : MemBy) (o : Nat) (n : Nat) (d : List Byte) (r : Region) (s : State) (i : Nat), s.memLive o r = true ∧
      s.memAccepts q o r n = true ∧ d.length = r.bytes ∧ (r = .prot → SMap.look 0 s.mem.gens (secCode o r n) < 2 ^ 31 - 1) ∧
      i < d.length) ∧
    (∃ (q : MemBy) (o : Nat) (n : Nat) (d : List Byte) (r : Region) (s : State) (a : Nat), s.memLive o r = true ∧
      s.memAccepts q o r n = true ∧ d.length = r.bytes ∧ (r = .prot → SMap.look 0 s.mem.gens (secCode o r n) < 2 ^ 31 - 1) ∧
      (a < secAddr o r n 0 ∨ secAddr o r n 0 + d.length ≤ a)) ∧
    (∃ (q : MemBy) (o : Nat) (n : Nat) (d : List Byte) (r : Region) (s : State), s.memLive o r = true ∧
      s.memAccepts q o r n = true ∧ d.length = r.bytes ∧ (r = .prot → SMap.look 0 s.mem.gens (secCode o r n) < 2 ^ 31 - 1) ∧
      r = .prot) ∧
    (∃ (q : MemBy) (o : Nat) (n : Nat) (d : List Byte) (r : Region) (s : State), s.memLive o r = true ∧
      s.memAccepts q o r n = true ∧ d.length = r.bytes ∧ (r = .prot → SMap.look 0 s.mem.gens (secCode o r n) < 2 ^ 31 - 1) ∧
      r ≠ .prot) ∧
    (∃ (q : MemBy) (o : Nat) (n : Nat) (d : List Byte) (r : Region) (s : State), s.memLive o r = true ∧
      s.memAccepts q o r n = true ∧ d.length = r.bytes ∧ (r = .prot → SMap.look 0 s.mem.gens (secCode o r n) < 2 ^ 31 - 1) ∧
      r.dram = true) ∧
    (∃ (q : MemBy) (o : Nat) (n : Nat) (d : List Byte) (r : Region) (s : State) (w : Write), s.memLive o r = true ∧
      s.memAccepts q o r n = true ∧ d.length = r.bytes ∧ (r = .prot → SMap.look 0 s.mem.gens (secCode o r n) < 2 ^ 31 - 1) ∧
      r = .nvrec ∧ s.nv.running = some w) ∧
    (∃ (q : MemBy) (o : Nat) (n : Nat) (d : List Byte) (s : State), s.memLive o .prot = true ∧ s.memAccepts q o .prot n = true ∧
      d.length = 512 ∧ 0xFFFFFFFF ≤ SMap.look 0 s.mem.gens (secCode o .prot n)) ∧
    (∃ (p : PendRead) (s : State), p.gen = s.genOf p.owner p.region p.sector ∧ p.keys = s.keysNow p.owner p.region) ∧
    (∃ (q : Nat) (s : State), (s.getReqr q).pend = []) ∧
    (∃ (q : Nat) (x : Stored) (p : PendRead) (ps : List PendRead) (s : State) (k : Nat), (s.getReqr q).pend = p :: ps ∧
      s.tagPasses p x = true ∧ (∀ y, y ∈ ps → y.free = false) ∧ q ≠ 18 ∧ ps = [] ∧ (s.getReqr q).heldAt = some k) ∧
    (∃ (q : Nat) (x : Stored) (p : PendRead) (ps : List PendRead) (s : State) (y : PendRead) (xs : List PendRead),
      (s.getReqr q).pend = p :: ps ∧ s.tagPasses p x = true ∧ (∀ y, y ∈ ps → y.free = false) ∧ q ≠ 18 ∧ ps = y :: xs) ∧
    (∃ (q : Nat) (x : Stored) (p : PendRead) (ps : List PendRead) (s : State) (i : Nat), (s.getReqr q).pend = p :: ps ∧
      s.tagPasses p x = true ∧ (∀ y, y ∈ ps → y.free = false) ∧ q ≠ 18 ∧ i ≠ q) ∧
    (∃ (q : Nat) (x : Stored) (p : PendRead) (ps : List PendRead) (s : State) (i : Nat), (s.getReqr q).pend = p :: ps ∧
      s.tagPasses p x = true ∧ (∀ y, y ∈ ps → y.free = false) ∧ q = 18 ∧ i ≠ q) ∧
    (∃ (q : Nat) (x : Stored) (p : PendRead) (ps : List PendRead) (s : State), (s.getReqr q).pend = p :: ps ∧
      s.tagPasses p x = false ∧ s.sys.state ≠ .off ∧ s.sys.state ≠ .halted) ∧
    (∃ (hd : Hdr) (n : Nat) (r : Region) (s : State), s.begins hd (.memRekey n r) = true ∧ (s.getSess hd.sess).login ≠ some 0 ∧
      (s.getSess hd.sess).login ≠ some n) ∧
    (∃ (hd : Hdr) (n : Nat) (r : Region) (s : State), s.begins hd (.memRekey n r) = true ∧ (s.getSess hd.sess).login = some 0 ∧
      (63 < n ∨ r = .firm ∨ r = .nvrec ∨ r = .nvfw)) ∧
    (∃ (hd : Hdr) (n : Nat) (r : Region) (s : State), s.begins hd (.memRekey n r) = true ∧ (s.getSess hd.sess).login = some n ∧
      n ≤ 63 ∧ (r = .prot ∨ r = .capt ∨ r = .work) ∧ s.hasRekey n r = true) ∧
    (∃ (hd : Hdr) (n : Nat) (r : Region) (s : State), s.begins hd (.memRekey n r) = true ∧ (s.getSess hd.sess).login = some n ∧
      n ≤ 63 ∧ (r = .prot ∨ r = .capt ∨ r = .work) ∧ s.hasRekey n r = false ∧ s.mem.rekey.length < maxRekeys) ∧
    (∃ (s : State), (∀ j, j ∈ s.mem.rekey → j.granted = false)) ∧
    (∃ (j : RekeyJob) (s : State), s.mem.rekey = [j] ∧ j.granted = true ∧ (s.rekeyDone j = false ∨ s.dome.rngFault = true)) ∧
    (∃ (j : RekeyJob) (s : State) (n : Nat), s.mem.rekey = [j] ∧ j.granted = true ∧ j.region = .prot ∧ j.reply = none ∧
      s.rekeyDone j = true ∧ s.dome.rngFault = false ∧ s.mem.stalled = [] ∧ n < 2 ^ 32 ∧
      SMap.look 0 s.mem.gens (secCode j.owner .prot n) ≠ 0) ∧
    (∃ (s : State), (s.serving = false ∨ s.nat .memScrubH = 0 ∨ s.mem.scrubRuns = false ∧
      (s.mem.scrubWaits = true ∨ s.scrubDue = false))) ∧
    (∃ (s : State), s.serving = true ∧ s.nat .memScrubH ≠ 0 ∧ s.mem.scrubRuns = true) :=
  ⟨⟨⟨12, 64, none⟩, 64, 5, .prot, keep, 3, by decide +kernel⟩,
   ⟨⟨12, 64, none⟩, 64, 5, .prot, keep, by decide +kernel⟩,
   ⟨⟨12, 64, none⟩, 64, 5, .prot, { keep with mem := { written := [(secCode 64 .prot 6, true)] } }, by decide +kernel⟩,
   ⟨⟨12, 1, none⟩, 64, 5, .prot, keep, { keep with mem := { refused := 1 } }, by decide +kernel⟩,
   ⟨⟨12, 1, some (0, none)⟩, 64, 5, .prot, aborting, { aborting with mem := { refused := 1 } }, (0, none), r0,
     (({ aborting with mem := { refused := 1 } } : State).abortable r0).getD keep, by decide +kernel⟩,
   ⟨64, .prot, State.reset, by decide +kernel⟩,
   ⟨⟨12, 64, none⟩, 64, 5, (List.replicate 512 1), .prot, { keep with mem := { gens := [(secCode 64 .prot 5, 2 ^ 31 - 2)] } }, 511,
     by decide +kernel⟩,
   ⟨⟨12, 64, none⟩, 64, 5, (List.replicate 512 1), .prot, keep, secAddr 64 .prot 5 512, by decide +kernel⟩,
   ⟨⟨12, 64, none⟩, 64, 5, (List.replicate 512 1), .prot, keep, by decide +kernel⟩,
   ⟨⟨12, 64, none⟩, 64, 5, (List.replicate 512 1), .work, keep, by decide +kernel⟩,
   ⟨⟨12, 64, none⟩, 64, 5, (List.replicate 512 1), .capt, keep, by decide +kernel⟩,
   ⟨⟨12, 64, none⟩, 64, 5, (List.replicate (Region.bytes .nvrec) 1), .nvrec,
     { keep with nv := { keep.nv with running := some { record := .epoch, body := .none, reply := none } } },
     { record := .epoch, body := .none, reply := none }, by decide +kernel⟩,
   ⟨⟨12, 64, none⟩, 64, 5, (List.replicate 512 1), { keep with mem := { gens := [(secCode 64 .prot 5, 0xFFFFFFFF)] } },
     by decide +kernel⟩,
   ⟨⟨1, 64, .prot, 5, false, 0, 0⟩, keep, by decide +kernel⟩,
   ⟨12, keep, by decide +kernel⟩,
   ⟨12, ⟨[],
     tagOf (({ keep with mem := { reqs := [(12, { delivered := 1, pend := [⟨1, 64, .prot, 5, false, 0, 0⟩], heldAt := some 999999000 })] } }).memKeys 64 .prot 0) 64 .prot 5 0 [],
     0⟩, ⟨1, 64, .prot, 5, false, 0, 0⟩, [],
     { keep with mem := { reqs := [(12, { delivered := 1, pend := [⟨1, 64, .prot, 5, false, 0, 0⟩], heldAt := some 999999000 })] } },
     999999000, by decide +kernel, (by simp [State.tagPasses, Region.dram]), (by intro x h; cases h), by decide +kernel,
     by decide +kernel, by decide +kernel⟩,
   ⟨12, ⟨[],
     tagOf (({ keep with mem := { reqs := [(12, { delivered := 2, pend := [⟨1, 64, .prot, 5, false, 0, 0⟩, ⟨2, 64, .prot, 6, false, 0, 0⟩] })] } }).memKeys 64 .prot 0) 64 .prot 5 0 [],
     0⟩, ⟨1, 64, .prot, 5, false, 0, 0⟩, [⟨2, 64, .prot, 6, false, 0, 0⟩],
     { keep with mem := { reqs := [(12, { delivered := 2, pend := [⟨1, 64, .prot, 5, false, 0, 0⟩, ⟨2, 64, .prot, 6, false, 0, 0⟩] })] } },
     ⟨2, 64, .prot, 6, false, 0, 0⟩, [], by decide +kernel, (by simp [State.tagPasses, Region.dram]),
     (by intro x h; simp at h; subst h; rfl), by decide +kernel, by decide +kernel⟩,
   ⟨12, ⟨[],
     tagOf (({ keep with mem := { reqs := [(12, { delivered := 2, pend := [⟨1, 64, .prot, 5, false, 0, 0⟩, ⟨2, 64, .prot, 6, false, 0, 0⟩] })] } }).memKeys 64 .prot 0) 64 .prot 5 0 [],
     0⟩, ⟨1, 64, .prot, 5, false, 0, 0⟩, [⟨2, 64, .prot, 6, false, 0, 0⟩],
     { keep with mem := { reqs := [(12, { delivered := 2, pend := [⟨1, 64, .prot, 5, false, 0, 0⟩, ⟨2, 64, .prot, 6, false, 0, 0⟩] })] } },
     3, by decide +kernel, (by simp [State.tagPasses, Region.dram]), (by intro x h; simp at h; subst h; rfl), by decide +kernel,
     by decide +kernel⟩,
   ⟨18, ⟨[],
     tagOf (({ keep with mem := { reqs := [(18, { delivered := 1, pend := [⟨1, 64, .prot, 5, false, 0, 0⟩] })] } }).memKeys 64 .prot 0) 64 .prot 5 0 [],
     0⟩, ⟨1, 64, .prot, 5, false, 0, 0⟩, [],
     { keep with mem := { reqs := [(18, { delivered := 1, pend := [⟨1, 64, .prot, 5, false, 0, 0⟩] })] } }, 3, by decide +kernel,
     (by simp [State.tagPasses, Region.dram]), (by intro x h; cases h), by decide +kernel, by decide +kernel⟩,
   ⟨12, ⟨[], [], 9⟩, ⟨1, 64, .nvrec, 5, false, 0, 0⟩, [],
     { keep with mem := { reqs := [(12, { delivered := 2, pend := [⟨1, 64, .nvrec, 5, false, 0, 0⟩] })] } }, by decide +kernel,
     (by simp only [State.tagPasses]; exact Bool.and_false _), by decide +kernel, by decide +kernel⟩,
   ⟨ln, 2, .prot, { keep with sess := [(0, { isOpen := true, login := some 1 })] }, by decide +kernel⟩,
   ⟨ln, 64, .prot, keep, by decide +kernel⟩,
   ⟨ln, 0, .work, { keep with mem := { rekey := [⟨0, .work, none, false, 0⟩] } }, by decide +kernel⟩,
   ⟨ln, 0, .work, keep, by decide +kernel⟩,
   ⟨keep, (by intro j h; cases h)⟩,
   ⟨⟨64, .prot, none, true, 0⟩, { keep with mem := { rekey := [⟨64, .prot, none, true, 0⟩] }, dome := { rngFault := true } },
     by decide +kernel⟩,
   ⟨⟨64, .prot, none, true, 0⟩, { keep with mem := { rekey := [⟨64, .prot, none, true, 0⟩], gens := [(secCode 64 .prot 5, 9)] } },
     5, by decide +kernel⟩,
   ⟨State.reset, by decide +kernel⟩,
   ⟨{ (num .memScrubH 5 keep) with mem := { scrubRuns := true } }, by decide +kernel⟩⟩

theorem witness_TurretLives :
    (∃ (hd : Hdr) (n : Nat) (s : State), s.begins hd (.turretCreate n) = true ∧ s.sys.state = .ready ∧ 1 ≤ n ∧ n ≤ 63 ∧
      (s.getTurret n).state = .absent ∧ s.dome.rngFault = false) ∧
    (∃ (hd : Hdr) (n : Int) (s : State), s.begins hd (.turretCreate n) = true ∧ (n < 1 ∨ 63 < n)) ∧
    (∃ (hd : Hdr) (n : Int) (code : Nat) (s : State), s.barred hd (.turretCreate n) code = true) ∧
    (∃ (hd : Hdr) (n : Nat) (key : List Byte) (s : State), s.begins hd (.turretClaim n key) = true ∧
      ((s.getTurret n).state ≠ .created ∨ s.claimStands (s.replyTo hd) n = true)) ∧
    (∃ (hd : Hdr) (n : Nat) (key : List Byte) (s : State), s.begins hd (.turretClaim n key) = true ∧
      (s.getTurret n).state = .created ∧ s.isSealed = false ∧ s.claimStands (s.replyTo hd) n = false ∧
      (key.length ≠ 49 ∨ pointOk .p384 key = false)) ∧
    (∃ (hd : Hdr) (n : Nat) (key : List Byte) (s : State) (j : PkeJob), s.begins hd (.turretClaim n key) = true ∧
      j = { id := s.dome.nextId, turret := 0, op := .claim n key (s.draw 16), src := .traop (s.replyTo hd), filed := s.sys.tick } ∧
      (s.getTurret n).state = .created ∧ s.isSealed = false ∧ key.length = 49 ∧ pointOk .p384 key = true ∧ s.dome.rngFault = false ∧
      s.claimOf n = none ∧ s.dome.queue.length < 8) ∧
    (∃ (hd : Hdr) (n : Nat) (key : List Byte) (s : State) (j : PkeJob) (x : PkeJob) (q : ReplyTo),
      s.begins hd (.turretClaim n key) = true ∧
      j = { id := s.dome.nextId, turret := 0, op := .claim n key (s.draw 16), src := .traop (s.replyTo hd), filed := s.sys.tick } ∧
      (s.getTurret n).state = .created ∧ s.isSealed = false ∧ key.length = 49 ∧ pointOk .p384 key = true ∧ s.dome.rngFault = false ∧
      s.claimOf n = some x ∧ s.claimStands (s.replyTo hd) n = false ∧ s.dome.queue.length ≤ 8 ∧ x.src = .traop q ∧ q.sess ≠ hd.sess) ∧
    (∃ (n : Nat) (j : PkeJob) (s : State), s.claimOf n = some j) ∧
    (∃ (hd : Hdr) (n : Nat) (s : State), s.begins hd (.turretRevoke n) = true ∧ 1 ≤ n ∧ n ≤ 63 ∧ (s.getTurret n).state = .absent) ∧
    (∃ (hd : Hdr) (n : Nat) (s : State), s.begins hd (.turretRevoke n) = true ∧ 1 ≤ n ∧ n ≤ 63 ∧ (s.getTurret n).state = .revoked) ∧
    (∃ (hd : Hdr) (n : Nat) (s : State) (m : Nat), s.begins hd (.turretRevoke n) = true ∧ 1 ≤ n ∧ n ≤ 63 ∧
      ((s.getTurret n).state = .created ∨ (s.getTurret n).state = .claimed) ∧ m ≠ n) ∧
    (∃ (hd : Hdr) (n : Nat) (s : State) (k : Nat), s.begins hd (.turretRevoke n) = true ∧ 1 ≤ n ∧ n ≤ 63 ∧
      ((s.getTurret n).state = .created ∨ (s.getTurret n).state = .claimed) ∧ k < 4) ∧
    (∃ (hd : Hdr) (n : Nat) (s : State), s.begins hd (.turretRevoke n) = true ∧ 1 ≤ n ∧ n ≤ 63 ∧
      ((s.getTurret n).state = .created ∨ (s.getTurret n).state = .claimed)) ∧
    (∃ (hd : Hdr) (n : Nat) (s : State), s.begins hd (.turretRevoke n) = true ∧ 1 ≤ n ∧ n ≤ 63 ∧
      ((s.getTurret n).state = .created ∨ (s.getTurret n).state = .claimed)) ∧
    (∃ (hd : Hdr) (n : Nat) (s : State), s.begins hd (.turretRevoke n) = true ∧ 1 ≤ n ∧ n ≤ 63 ∧
      ((s.getTurret n).state = .created ∨ (s.getTurret n).state = .claimed)) ∧
    (∃ (hd : Hdr) (n : Nat) (s : State), s.begins hd (.turretRestore n) = true ∧ s.sys.state = .ready ∧ 1 ≤ n ∧ n ≤ 63 ∧
      (s.getTurret n).state ≠ .revoked) ∧
    (∃ (hd : Hdr) (n : Nat) (s : State), s.begins hd (.turretRestore n) = true ∧ s.sys.state = .ready ∧ 1 ≤ n ∧ n ≤ 63 ∧
      (s.getTurret n).state = .revoked) ∧
    (∃ (hd : Hdr) (n : Nat) (s : State), s.begins hd (.turretDestroy n) = true ∧ s.sys.state = .ready ∧ 1 ≤ n ∧ n ≤ 63 ∧
      (s.getTurret n).state = .absent) ∧
    (∃ (hd : Hdr) (n : Nat) (s : State) (m : Nat), s.begins hd (.turretDestroy n) = true ∧ s.sys.state = .ready ∧ 1 ≤ n ∧ n ≤ 63 ∧
      (s.getTurret n).state ≠ .absent ∧ m ≠ n) ∧
    (∃ (hd : Hdr) (n : Nat) (s : State) (k : Nat), s.begins hd (.turretDestroy n) = true ∧ s.sys.state = .ready ∧ 1 ≤ n ∧ n ≤ 63 ∧
      (s.getTurret n).state ≠ .absent ∧ k < 4) ∧
    (∃ (hd : Hdr) (n : Nat) (s : State) (b : Nat) (off : Nat), s.begins hd (.turretDestroy n) = true ∧ s.sys.state = .ready ∧
      1 ≤ n ∧ n ≤ 63 ∧ (s.getTurret n).state ≠ .absent ∧ b < 32 ∧ off < 4096) ∧
    (∃ (hd : Hdr) (n : Nat) (s : State), s.begins hd (.turretDestroy n) = true ∧ s.sys.state = .ready ∧ 1 ≤ n ∧ n ≤ 63 ∧
      (s.getTurret n).state ≠ .absent) ∧
    (∃ (hd : Hdr) (b : Nat) (s : State), s.begins hd (.sysSeal b) = true ∧ s.sys.state = .ready ∧ b ≤ 31 ∧
      s.sealSlotMissing = false) ∧
    (∃ (hd : Hdr) (s : State) (n : Nat), s.begins hd .sysUnseal = true ∧ n ∈ s.presentTurrets ∧ n ≠ 0) :=
  ⟨⟨ln, 63, keep, by decide +kernel⟩,
   ⟨ln, 64, keep, by decide +kernel⟩,
   ⟨ln, 5, 23, mode .run keep, by decide +kernel⟩,
   ⟨ln, 1, [], keep, by decide +kernel⟩,
   ⟨ln, 2, [], keep, by decide +kernel⟩,
   ⟨ln, 2, baseP384, keep,
     { id := State.dome (keep) |>.nextId, turret := 0, op := .claim 2 baseP384 (keep.draw 16), src := .traop (keep.replyTo ln), filed := 1000000000 },
     by decide +kernel, rfl, by decide +kernel, by decide +kernel, by decide +kernel, baseP384_ok, by decide +kernel,
     by decide +kernel, by decide +kernel⟩,
   ⟨ln, 2, baseP384,
     { keep with dome := { keep.dome with queue := [{ id := 0, turret := 0, op := .claim 2 [] [], src := .traop { r0 with sess := 1 }, filed := 1000000000 }] } },
     { id := State.dome ({ keep with dome := { keep.dome with queue := [{ id := 0, turret := 0, op := .claim 2 [] [], src := .traop { r0 with sess := 1 }, filed := 1000000000 }] } }) |>.nextId, turret := 0, op := .claim 2 baseP384 (State.draw ({ keep with dome := { keep.dome with queue := [{ id := 0, turret := 0, op := .claim 2 [] [], src := .traop { r0 with sess := 1 }, filed := 1000000000 }] } }) 16), src := .traop (State.replyTo ({ keep with dome := { keep.dome with queue := [{ id := 0, turret := 0, op := .claim 2 [] [], src := .traop { r0 with sess := 1 }, filed := 1000000000 }] } }) ln), filed := 1000000000 },
     { id := 0, turret := 0, op := .claim 2 [] [], src := .traop { r0 with sess := 1 }, filed := 1000000000 }, { r0 with sess := 1 },
     by decide +kernel, rfl, by decide +kernel, by decide +kernel, by decide +kernel, baseP384_ok, by decide +kernel,
     by decide +kernel, by decide +kernel, by decide +kernel, by decide +kernel, by decide +kernel⟩,
   ⟨2, { id := 0, turret := 0, op := .claim 2 [] [], src := .traop { r0 with sess := 1 }, filed := 1000000000 },
     { keep with dome := { keep.dome with queue := [{ id := 0, turret := 0, op := .claim 2 [] [], src := .traop { r0 with sess := 1 }, filed := 1000000000 }] } },
     by decide +kernel⟩,
   ⟨ln, 63, keep, by decide +kernel⟩,
   ⟨ln, 3, keep, by decide +kernel⟩,
   ⟨ln, 1, keep, 2, by decide +kernel⟩,
   ⟨ln, 1, keep, 3, by decide +kernel⟩,
   ⟨ln, 1, keep, by decide +kernel⟩,
   ⟨ln, 1, keep, by decide +kernel⟩,
   ⟨ln, 1, keep, by decide +kernel⟩,
   ⟨ln, 1, keep, by decide +kernel⟩,
   ⟨ln, 3, keep, by decide +kernel⟩,
   ⟨ln, 63, keep, by decide +kernel⟩,
   ⟨ln, 3, keep, 2, by decide +kernel⟩,
   ⟨ln, 3, keep, 3, by decide +kernel⟩,
   ⟨ln, 3, keep, 31, 4095, by decide +kernel⟩,
   ⟨ln, 3, keep, by decide +kernel⟩,
   ⟨ln, 31, keep, by decide +kernel⟩,
   ⟨ln, keep, 3, by decide +kernel⟩⟩

theorem witness_KeysAndBlobs :
    (∃ (hd : Hdr) (n : Nat) (s : State), s.begins hd .getKeyNonce = true ∧ (s.getSess hd.sess).login = some n ∧
      s.dome.rngFault = false) ∧
    (∃ (hd : Hdr) (n : Nat) (slot : Nat) (b : Nat) (s : State), s.begins hd (.keyImport slot b) = true ∧
      (s.getSess hd.sess).login = some n ∧ (s.getTurret n).state = .claimed ∧ b ≤ 31 ∧ s.unwrapFails = false) ∧
    (∃ (hd : Hdr) (slot : Int) (n : Nat) (s : State), s.begins hd (.keyErase slot) = true ∧ (s.getSess hd.sess).login = some n ∧
      (s.getTurret n).state ≠ .claimed) ∧
    (∃ (hd : Hdr) (slot : Int) (n : Nat) (s : State), s.begins hd (.keyErase slot) = true ∧ (s.getSess hd.sess).login = some n ∧
      (s.getTurret n).state = .claimed ∧ (slot < 3 ∨ 7 < slot)) ∧
    (∃ (hd : Hdr) (slot : Int) (n : Nat) (s : State), s.begins hd (.keyErase slot) = true ∧ (s.getSess hd.sess).login = some n ∧
      (s.getTurret n).state = .claimed ∧ 3 ≤ slot ∧ slot ≤ 7) ∧
    (∃ (hd : Hdr) (n : Nat) (b : Nat) (off : Nat) (d : List Byte) (s : State) (i : Nat), s.begins hd (.blobWrite b off d) = true ∧
      (s.getSess hd.sess).login = some n ∧ b ≤ 31 ∧ off + d.length ≤ 4096 ∧ 1 ≤ d.length ∧ d.length ≤ 64 ∧ s.blobRoom n b = true ∧
      i < d.length) ∧
    (∃ (hd : Hdr) (n : Nat) (b : Nat) (off : Nat) (d : List Byte) (s : State) (a : Nat), s.begins hd (.blobWrite b off d) = true ∧
      (s.getSess hd.sess).login = some n ∧ b ≤ 31 ∧ off + d.length ≤ 4096 ∧ 1 ≤ d.length ∧ d.length ≤ 64 ∧ s.blobRoom n b = true ∧
      (a < blobAddr n b off ∨ blobAddr n b off + d.length ≤ a)) ∧
    (∃ (hd : Hdr) (n : Nat) (b : Nat) (off : Nat) (d : List Byte) (s : State), s.begins hd (.blobWrite b off d) = true ∧
      (s.getSess hd.sess).login = some n ∧ b ≤ 31 ∧ off + d.length ≤ 4096 ∧ 1 ≤ d.length ∧ d.length ≤ 64 ∧ s.blobRoom n b = false) ∧
    (∃ (hd : Hdr) (b : Int) (off : Int) (d : List Byte) (s : State), s.begins hd (.blobWrite b off d) = true ∧
      (b < 0 ∨ 31 < b ∨ off < 0 ∨ 4096 < off + d.length ∨ d = [] ∨ 64 < d.length)) ∧
    (∃ (hd : Hdr) (n : Nat) (b : Nat) (off : Nat) (len : Nat) (s : State), s.begins hd (.blobRead b off len) = true ∧
      (s.getSess hd.sess).login = some n ∧ b ≤ 31 ∧ off + len ≤ 4096 ∧ 1 ≤ len ∧ len ≤ 64) ∧
    (∃ (hd : Hdr) (n : Nat) (b : Nat) (s : State) (off : Nat), s.begins hd (.blobClear b) = true ∧
      (s.getSess hd.sess).login = some n ∧ b ≤ 31 ∧ off < 4096) ∧
    (∃ (hd : Hdr) (n : Nat) (b : Nat) (s : State) (a : Nat), s.begins hd (.blobClear b) = true ∧
      (s.getSess hd.sess).login = some n ∧ b ≤ 31 ∧ (a < blobAddr n b 0 ∨ blobAddr n b 4096 ≤ a)) ∧
    (∃ (k : Nat) (s : State), s.mgmtOpen k = false) ∧
    (∃ (k : Nat) (b : Nat) (off : Nat) (n : Nat) (d : List Byte) (s : State) (i : Nat), s.mgmtOpen k = true ∧
      s.nat .streamTurret k = n ∧ b ≤ 31 ∧ off + d.length ≤ 4096 ∧ s.blobRoom n b = true ∧ i < d.length) ∧
    (∃ (k : Nat) (b : Nat) (off : Nat) (n : Nat) (d : List Byte) (s : State) (a : Nat), s.mgmtOpen k = true ∧
      s.nat .streamTurret k = n ∧ b ≤ 31 ∧ off + d.length ≤ 4096 ∧ s.blobRoom n b = true ∧
      (a < blobAddr n b off ∨ blobAddr n b off + d.length ≤ a)) ∧
    (∃ (k : Nat) (b : Nat) (off : Nat) (len : Nat) (n : Nat) (s : State), s.mgmtOpen k = true ∧ s.nat .streamTurret k = n ∧ b ≤ 31 ∧
      off + len ≤ 4096) ∧
    (∃ (k : Nat) (b : Nat) (off : Nat) (len : Nat) (n : Nat) (s : State), s.mgmtOpen k = true ∧ s.nat .streamTurret k = n ∧
      (31 < b ∨ 4096 < off + len)) ∧
    (∃ (k : Nat) (x : Nat) (y : Nat) (off : Nat) (d : List Byte) (s : State) (i : Nat), s.mgmtOpen k = true ∧ x ≤ 1 ∧ y ≤ 3 ∧
      s.nat .classTurret x y = s.nat .streamTurret k ∧ off + d.length ≤ tableBytes ∧ i < d.length) ∧
    (∃ (k : Nat) (x : Nat) (y : Nat) (off : Nat) (d : List Byte) (s : State) (a : Nat), s.mgmtOpen k = true ∧ x ≤ 1 ∧ y ≤ 3 ∧
      s.nat .classTurret x y = s.nat .streamTurret k ∧ off + d.length ≤ tableBytes ∧
      (a < stagedAddr (4 * x + y) off ∨ stagedAddr (4 * x + y) off + d.length ≤ a)) ∧
    (∃ (k : Nat) (x : Nat) (y : Nat) (s : State), s.mgmtOpen k = true ∧ x ≤ 1 ∧ y ≤ 3 ∧
      s.nat .classTurret x y ≠ s.nat .streamTurret k) :=
  ⟨⟨ln, 0, keep, by decide +kernel⟩,
   ⟨ln, 0, 4, 31, keep, by decide +kernel⟩,
   ⟨ln, 4, 2, tur 2, by decide +kernel⟩,
   ⟨ln, 2, 0, keep, by decide +kernel⟩,
   ⟨ln, 7, 0, keep, by decide +kernel⟩,
   ⟨ln, 0, 31, 4032, (List.replicate 64 1), keep, 63, by decide +kernel⟩,
   ⟨ln, 0, 31, 4032, (List.replicate 64 1), keep, blobAddr 0 31 4096, by decide +kernel⟩,
   ⟨ln, 0, 31, 4032, (List.replicate 64 1), num .turretProtKib 0 keep 0, by decide +kernel⟩,
   ⟨ln, 31, 4033, (List.replicate 64 1), keep, by decide +kernel⟩,
   ⟨ln, 0, 31, 4032, 64, keep, by decide +kernel⟩,
   ⟨ln, 0, 31, keep, 4095, by decide +kernel⟩,
   ⟨ln, 0, 31, keep, blobAddr 0 31 4096, by decide +kernel⟩,
   ⟨5, keep, by decide +kernel⟩,
   ⟨5, 31, 4095, 0, [1], mgmt, 0, by decide +kernel⟩,
   ⟨5, 31, 4095, 0, [1], mgmt, blobAddr 0 31 4096, by decide +kernel⟩,
   ⟨5, 31, 4000, 96, 0, mgmt, by decide +kernel⟩,
   ⟨5, 31, 4000, 97, 0, mgmt, by decide +kernel⟩,
   ⟨5, 1, 3, 131071, [1], num .classTurret 0 mgmt 1 3, 0, by decide +kernel⟩,
   ⟨5, 1, 3, 131071, [1], num .classTurret 0 mgmt 1 3, 0, by decide +kernel⟩,
   ⟨5, 1, 3, mgmt, by decide +kernel⟩⟩

theorem witness_DigestsAndRandom :
    (∃ (hd : Hdr) (n : Nat) (b : Nat) (off : Nat) (len : Nat) (s : State) (j : DigJob),
      s.begins hd (.digHash .sha256 none b off len none) = true ∧ (s.getSess hd.sess).login = some n ∧ b ≤ 31 ∧ off + len ≤ 4096 ∧
      1 ≤ len ∧ s.isSealed = false ∧
      j = { id := s.dome.nextId, turret := n, op := .hash .sha256 none b off len none, src := .traop (s.replyTo hd), filed := s.sys.tick }) ∧
    (∃ (j : DigJob) (q : List DigJob), (∀ x, x ∈ q → x.filed = j.filed → x.started = none → x.src.rank ≤ j.src.rank)) ∧
    (∃ (j : DigJob) (x : DigJob), x.filed = j.filed ∧ x.started = none ∧ j.src.rank < x.src.rank) ∧
    (∃ (hd : Hdr) (a : DigAlg) (k : Option Nat) (b : Int) (off : Int) (len : Int) (o : Option (Int × Int)) (s : State),
      s.begins hd (.digHash a k b off len o) = true ∧ (b < 0 ∨ 31 < b ∨ off < 0 ∨ len < 1 ∨ 4096 < off + len)) ∧
    (∃ (hd : Hdr) (n : Nat) (h : Nat) (s : State) (q : Nat), s.begins hd (.digStart .sha256 none) = true ∧
      (s.getSess hd.sess).login = some n ∧ (List.range 4).find? (fun h => !(s.getHandle n h).isOpen) = some h ∧ q ≠ h) ∧
    (∃ (hd : Hdr) (n : Nat) (h : Nat) (s : State) (m : Nat), s.begins hd (.digStart .sha256 none) = true ∧
      (s.getSess hd.sess).login = some n ∧ (List.range 4).find? (fun h => !(s.getHandle n h).isOpen) = some h ∧ m ≠ n) ∧
    (∃ (hd : Hdr) (n : Nat) (s : State), s.begins hd (.digStart .sha256 none) = true ∧ (s.getSess hd.sess).login = some n ∧ (∀ h,
      h < 4 → (s.getHandle n h).isOpen = true)) ∧
    (∃ (hd : Hdr) (n : Nat) (h : Nat) (b : Nat) (off : Nat) (len : Nat) (s : State) (j : DigJob),
      s.begins hd (.digUpdate h b off len) = true ∧ (s.getSess hd.sess).login = some n ∧ b ≤ 31 ∧ off + len ≤ 4096 ∧ 1 ≤ len ∧
      s.isSealed = false ∧ s.handleOpen n h = true ∧
      j = { id := s.dome.nextId, turret := n, op := .update h b off len, src := .traop (s.replyTo hd), filed := s.sys.tick }) ∧
    (∃ (hd : Hdr) (n : Nat) (h : Nat) (s : State) (j : DigJob), s.begins hd (.digFinal h none) = true ∧
      (s.getSess hd.sess).login = some n ∧ s.isSealed = false ∧ s.handleOpen n h = true ∧
      j = { id := s.dome.nextId, turret := n, op := .final h none, src := .traop (s.replyTo hd), filed := s.sys.tick }) ∧
    (∃ (hd : Hdr) (n : Nat) (h : Int) (s : State), s.begins hd (.digDrop h) = true ∧ (s.getSess hd.sess).login = some n ∧
      s.handleOpen n h = true) ∧
    (∃ (hd : Hdr) (n : Nat) (h : Int) (s : State), s.begins hd (.digDrop h) = true ∧ (s.getSess hd.sess).login = some n ∧
      s.handleOpen n h = false) ∧
    (∃ (hd : Hdr) (n : Nat) (x : Nat) (y : Nat) (s : State), s.begins hd (.digTable x y) = true ∧
      (s.getSess hd.sess).login = some n ∧ s.nat .classTurret x y ≠ n) ∧
    (∃ (hd : Hdr) (n : Nat) (x : Nat) (y : Nat) (s : State), s.begins hd (.digTable x y) = true ∧
      (s.getSess hd.sess).login = some n ∧ s.nat .classTurret x y = n ∧ (s.getClassSlot (4 * x + y)).arrival = some tableBytes) ∧
    (∃ (i : Nat) (s : State), (∀ j, j ∈ s.dome.jobs → j.id = i → j.started = none)) ∧
    (∃ (j : DigJob) (x : Tick) (s : State), s.dome.jobs = [j] ∧ j.started = some x ∧
      s.sys.tick < x + (s.jobTicks j.turret j.op - if s.isSealed then 0 else 2 * usTicks)) ∧
    (∃ (j : DigJob) (r : ReplyTo) (x : Tick) (s : State) (i : Isl) (b : Nat) (off : Nat) (len : Nat) (o : Nat × Nat),
      s.dome.jobs = [j] ∧ j.started = some x ∧ j.src = .traop r ∧
      x + (s.jobTicks j.turret j.op - if s.isSealed then 0 else 2 * usTicks) ≤ s.sys.tick ∧
      i = { s.isl with auto05 := false, busy05 := s.sys.tick } ∧ j.op = .hash .sha256 none b off len (some o)) ∧
    (∃ (j : DigJob) (r : ReplyTo) (x : Tick) (s : State) (i : Isl) (h : Nat) (b : Nat) (off : Nat) (len : Nat), s.dome.jobs = [j] ∧
      j.started = some x ∧ j.src = .traop r ∧ x + (s.jobTicks j.turret j.op - if s.isSealed then 0 else 2 * usTicks) ≤ s.sys.tick ∧
      i = { s.isl with auto05 := false, busy05 := s.sys.tick } ∧ j.op = .update h b off len ∧ (s.getHandle j.turret h).isOpen = true) ∧
    (∃ (j : DigJob) (r : ReplyTo) (x : Tick) (s : State) (i : Isl) (h : Nat), s.dome.jobs = [j] ∧ j.started = some x ∧
      j.src = .traop r ∧ x + (s.jobTicks j.turret j.op - if s.isSealed then 0 else 2 * usTicks) ≤ s.sys.tick ∧
      i = { s.isl with auto05 := false, busy05 := s.sys.tick } ∧ j.op = .final h none ∧ (s.getHandle j.turret h).isOpen = true ∧
      (s.getHandle j.turret h).alg = .sha384) ∧
    (∃ (j : DigJob) (r : ReplyTo) (x : Tick) (s : State) (i : Isl) (h : Nat) (o : Option (Nat × Nat)), s.dome.jobs = [j] ∧
      j.started = some x ∧ j.src = .traop r ∧ x + (s.jobTicks j.turret j.op - if s.isSealed then 0 else 2 * usTicks) ≤ s.sys.tick ∧
      i = { s.isl with auto05 := false, busy05 := s.sys.tick } ∧ j.op = .final h o ∧ (s.getHandle j.turret h).isOpen = false) ∧
    (∃ (hd : Hdr) (n : Nat) (b : Nat) (off : Nat) (len : Nat) (s : State) (i : Nat), s.begins hd (.rngFill b off len) = true ∧
      (s.getSess hd.sess).login = some n ∧ b ≤ 31 ∧ off + len ≤ 4096 ∧ 1 ≤ len ∧ s.blobRoom n b = true ∧ s.isSealed = false ∧
      s.dome.rngFault = false ∧ i < len) ∧
    (∃ (hd : Hdr) (n : Nat) (b : Nat) (off : Nat) (len : Nat) (s : State) (a : Nat), s.begins hd (.rngFill b off len) = true ∧
      (s.getSess hd.sess).login = some n ∧ b ≤ 31 ∧ off + len ≤ 4096 ∧ 1 ≤ len ∧ s.blobRoom n b = true ∧ s.isSealed = false ∧
      s.dome.rngFault = false ∧ (a < blobAddr n b off ∨ blobAddr n b off + len ≤ a)) ∧
    (∃ (hd : Hdr) (n : Nat) (b : Nat) (off : Nat) (len : Nat) (s : State), s.begins hd (.rngFill b off len) = true ∧
      (s.getSess hd.sess).login = some n ∧ b ≤ 31 ∧ off + len ≤ 4096 ∧ 1 ≤ len ∧ s.blobRoom n b = true ∧ s.isSealed = false ∧
      s.dome.rngFault = true) ∧
    (∃ (s : State), s.rngRuns = true ∧ s.dome.rngFault = false ∧
      (65536 ≤ s.dome.rngReqs ∨ s.dome.reseedAt + 60 * secTicks ≤ s.sys.tick)) ∧
    (∃ (s : State), s.rngRuns = true ∧ s.dome.rngFault = false ∧ s.dome.rngReqs < 65536 ∧
      s.sys.tick < s.dome.reseedAt + 60 * secTicks) ∧
    (∃ (a : Tick) (s : State), s.rngRuns = true ∧ s.dome.rngFault = true ∧ s.dome.testAt = some a ∧ a + secTicks ≤ s.sys.tick) ∧
    (∃ (a : Tick) (s : State), s.rngRuns = true ∧ s.dome.rngFault = true ∧ s.dome.testAt = some a ∧ s.sys.tick < a + secTicks) ∧
    (∃ (s : State), s.rngRuns = false) :=
  ⟨⟨ln, 0, 31, 0, 4096, keep,
     { id := State.dome (keep) |>.nextId, turret := 0, op := .hash .sha256 none 31 0 4096 none, src := .traop (keep.replyTo ln), filed := 1000000000 },
     by decide +kernel⟩,
   ⟨{ id := 3, turret := 0, op := .final 2 none, src := .traop r0 }, [], (by intro x h; cases h)⟩,
   ⟨{ id := 3, turret := 0, op := .final 2 none, src := .traop r0 },
     { id := 4, turret := 0, op := .final 2 none, src := .traop { r0 with sess := 1 } }, by decide +kernel⟩,
   ⟨ln, .sha256, none, 31, 1, 4096, none, keep, by decide +kernel⟩,
   ⟨ln, 0, 2,
     { keep with dome := { turs := [(0, { handles := [(0, ⟨true, .sha384, none, []⟩), (1, ⟨true, .sha384, none, []⟩)] })] } }, 0,
     by decide +kernel⟩,
   ⟨ln, 0, 0, keep, 1, by decide +kernel⟩,
   ⟨ln, 0,
     { keep with dome := { turs := [(0, { handles := [(0, ⟨true, .sha384, none, []⟩), (1, ⟨true, .sha384, none, []⟩), (2, ⟨true, .sha384, none, []⟩), (3, ⟨true, .sha384, none, []⟩)] })] } },
     by decide +kernel⟩,
   ⟨ln, 0, 2, 31, 0, 4096, handle,
     { id := State.dome (handle) |>.nextId, turret := 0, op := .update 2 31 0 4096, src := .traop (handle.replyTo ln), filed := 1000000000 },
     by decide +kernel⟩,
   ⟨ln, 0, 2, handle,
     { id := State.dome (handle) |>.nextId, turret := 0, op := .final 2 none, src := .traop (handle.replyTo ln), filed := 1000000000 },
     by decide +kernel⟩,
   ⟨ln, 0, 2, handle, by decide +kernel⟩,
   ⟨ln, 0, 4, handle, by decide +kernel⟩,
   ⟨ln, 0, 1, 3, keep, by decide +kernel⟩,
   ⟨ln, 0, 1, 3, (num .classTurret 0 keep 1 3).modClassSlot 7 fun c => { c with arrival := some tableBytes }, by decide +kernel⟩,
   ⟨5, keep, (by intro j h; cases h)⟩,
   ⟨{ digJob (.final 2 none) with started := some 1000000000 }, 1000000000,
     { handle with dome := { (handle).dome with jobs := [{ digJob (.final 2 none) with started := some 1000000000 }] } },
     by decide +kernel⟩,
   ⟨digJob (.hash .sha256 none 1 0 4 (some (2, 0))), r0, 5,
     { keep with dome := { (keep).dome with jobs := [digJob (.hash .sha256 none 1 0 4 (some (2, 0)))] } },
     { keep.isl with auto05 := false, busy05 := 1000000000 }, 1, 0, 4, (2, 0), by decide +kernel⟩,
   ⟨digJob (.update 2 1 0 4), r0, 5, { handle with dome := { (handle).dome with jobs := [digJob (.update 2 1 0 4)] } },
     { keep.isl with auto05 := false, busy05 := 1000000000 }, 2, 1, 0, 4, by decide +kernel⟩,
   ⟨digJob (.final 2 none), r0, 5, { handle with dome := { (handle).dome with jobs := [digJob (.final 2 none)] } },
     { keep.isl with auto05 := false, busy05 := 1000000000 }, 2, by decide +kernel⟩,
   ⟨digJob (.final 1 none), r0, 5, { handle with dome := { (handle).dome with jobs := [digJob (.final 1 none)] } },
     { keep.isl with auto05 := false, busy05 := 1000000000 }, 1, none, by decide +kernel⟩,
   ⟨ln, 0, 31, 0, 4096, keep, 4095, by decide +kernel⟩,
   ⟨ln, 0, 31, 0, 4096, keep, blobAddr 0 31 4096, by decide +kernel⟩,
   ⟨ln, 0, 31, 0, 4096, { keep with dome := { rngFault := true } }, by decide +kernel⟩,
   ⟨{ keep with dome := { rngReqs := 65536 } }, by decide +kernel⟩,
   ⟨{ keep with dome := { reseedAt := 1000000000 } }, by decide +kernel⟩,
   ⟨5, { keep with dome := { rngFault := true, testAt := some 5 } }, by decide +kernel⟩,
   ⟨1000000000, { keep with dome := { rngFault := true, testAt := some 1000000000 } }, by decide +kernel⟩,
   ⟨State.reset, by decide +kernel⟩⟩

theorem witness_PublicKeyEngineRuns :
    (∃ (hd : Hdr) (c : Cmd) (i : Instr) (op : PkeOp) (n : Nat) (k : Nat) (b : Nat) (q : Nat) (cv : Curve) (s : State) (j : PkeJob),
      s.begins hd c = true ∧ (s.getSess hd.sess).login = some n ∧ s.isSealed = false ∧ s.dome.queue.length < 8 ∧ k ≤ 7 ∧ b ≤ 31 ∧
      3 ≤ q ∧ q ≤ 7 ∧ s.blobRoom n b = true ∧ (s.keySlot n q).kind = .empty ∧ (i = .doDomePkeSign hd k b ∧ c = .pkeSign k b ∧
      op = .sign k b ∨ i = .doDomePkeVerify hd cv b ∧ c = .pkeVerify cv b ∧ op = .verify cv b ∨ i = .doDomePkeKeygen hd cv q ∧
      c = .pkeKeygen cv q ∧ op = .keygen cv q 0 ∨ i = .doDomePkeEcdh hd k b none ∧ c = .pkeEcdh k b none ∧
      op = .ecdh k b none ∨ i = .doDomePkeEcdh hd k b (some q) ∧ c = .pkeEcdh k b (some q) ∧
      op = .ecdh k b (some q) ∨ i = .doDomePkePublic hd k ∧ c = .pkePublic k ∧ op = .pub k 0 ∨ i = .doDomePkeDiag hd b ∧
      c = .pkeDiag b ∧ op = .diag b ∧ n = 0 ∧ s.sys.state = .ready) ∧
      j = { id := s.dome.nextId, turret := n, op := op, src := .traop (s.replyTo hd), filed := s.sys.tick }) ∧
    (∃ (j : PkeJob) (q : List PkeJob), (∀ x, x ∈ q → x.filed = j.filed → x.started = none → x.src.rank ≤ j.src.rank)) ∧
    (∃ (j : PkeJob) (x : PkeJob), x.filed = j.filed ∧ x.started = none ∧ j.src.rank < x.src.rank) ∧
    (∃ (hd : Hdr) (k : Int) (b : Int) (n : Nat) (s : State), s.begins hd (.pkeSign k b) = true ∧
      (s.getSess hd.sess).login = some n ∧ (k < 0 ∨ 7 < k ∨ b < 0 ∨ 31 < b)) ∧
    (∃ (hd : Hdr) (k : Int) (b : Int) (n : Nat) (s : State), s.begins hd (.pkeSign k b) = true ∧
      (s.getSess hd.sess).login = some n ∧ 0 ≤ k ∧ k ≤ 7 ∧ 0 ≤ b ∧ b ≤ 31 ∧ s.blobRoom n b.toNat = true ∧ s.isSealed = false ∧
      8 ≤ s.dome.queue.length) ∧
    (∃ (hd : Hdr) (b : Int) (s : State), s.begins hd (.pkeDiag b) = true ∧ s.isSealed = true) ∧
    (∃ (hd : Hdr) (b : Int) (code : Nat) (s : State), s.barred hd (.pkeDiag b) code = true) ∧
    (∃ (st : Nat) (tag : Nat) (k : Nat) (b : Nat) (n : Nat) (fs : List Byte) (s : State) (j : PkeJob), s.mgmtOpen st = true ∧
      s.nat .streamTurret st = n ∧ byteAt fs 0 = 5 ∧ byteAt fs 2 = k ∧ byteAt fs 3 = b ∧ k ≤ 7 ∧ b ≤ 31 ∧ s.isSealed = false ∧
      s.dome.queue.length < 8 ∧ j = { id := s.dome.nextId, turret := n, op := .pub k b, src := .mgmt st tag, filed := s.sys.tick }) ∧
    (∃ (j : PkeJob) (s : State), s.serving = true ∧ s.dome.queue = [j] ∧ s.dome.jobs = [] ∧ j.started = none ∧
      s.domeMay j.turret (s.padTicks j.turret j.op) = true) ∧
    (∃ (j : PkeJob) (s : State), s.dome.queue = [j] ∧ j.started.isSome = true) ∧
    (∃ (len : Nat) (s : State), s.serving = true ∧ len = s.nat .domeFrameMs * msTicks ∧ s.isSealed = false ∧
      s.dome.frame + s.dome.frameMs * msTicks ≤ s.sys.tick / len * len) ∧
    (∃ (len : Nat) (s : State), s.serving = true ∧ len = s.nat .domeFrameMs * msTicks ∧
      s.sys.tick / len * len < s.dome.frame + s.dome.frameMs * msTicks) ∧
    (∃ (s : State), s.serving = false) ∧
    (∃ (s : State), (∀ j, j ∈ s.dome.queue → j.started = none ∨ j.granted = false)) ∧
    (∃ (j : PkeJob) (a : Tick) (s : State), s.dome.queue = [j] ∧ j.started = some a ∧ s.isSealed = true ∧
      s.sys.tick < a + s.padTicks j.turret j.op) ∧
    (∃ (x : PkeIn) (j : PkeJob) (s : State), s.dome.queue = [j] ∧ j.started.isSome = true ∧ j.granted = true ∧ j.writing = false ∧
      s.isSealed = false ∧ s.sys.state = .ready ∧ j.recheck = true ∧ x.imageOk = false) ∧
    (∃ (x : PkeIn) (j : PkeJob) (s : State) (k : Nat), s.dome.queue = [j] ∧ j.started.isSome = true ∧ j.granted = true ∧
      j.writing = false ∧ s.isSealed = false ∧ s.sys.state = .ready ∧ j.recheck = false ∧ unwraps j.turret x.wrap = false ∧ (∃ b,
      j.op = .sign k b ∨ j.op = .pub k b)) ∧
    (∃ (j : PkeJob) (r : ReplyTo) (s : State) (k : Nat) (b : Nat), s.dome.queue = [j] ∧ j.started.isSome = true ∧ j.granted = true ∧
      j.writing = false ∧ s.isSealed = false ∧ j.src = .traop r ∧ j.op = .sign k b ∧ (s.keySlot j.turret k).ecOk = true ∧
      s.dome.rngFault = false ∧ s.sys.state = .ready) ∧
    (∃ (j : PkeJob) (r : ReplyTo) (s : State), s.dome.queue = [j] ∧ j.started.isSome = true ∧ j.granted = true ∧ j.writing = false ∧
      s.isSealed = false ∧ j.src = .traop r ∧ ((∃ k b, j.op = .sign k b ∧ (s.keySlot j.turret k).ecOk = false) ∨ (∃ n key w,
      j.op = .claim n key w ∧ (s.getTurret n).state = .created))) ∧
    (∃ (j : PkeJob) (r : ReplyTo) (s : State) (cv : Curve) (k : Nat) (b : Nat), s.dome.queue = [j] ∧ j.started.isSome = true ∧
      j.granted = true ∧ j.writing = false ∧ s.isSealed = false ∧ j.src = .traop r ∧ j.op = .keygen cv k b ∧ s.dome.rngFault = false ∧
      s.slotFree j.turret k = true) ∧
    (∃ (j : PkeJob) (r : ReplyTo) (s : State) (n : Nat) (key : List Byte) (w : List Byte), s.dome.queue = [j] ∧
      j.started.isSome = true ∧ j.granted = true ∧ j.writing = false ∧ s.isSealed = false ∧ j.src = .traop r ∧ j.op = .claim n key w ∧
      (s.getTurret n).state = .created) ∧
    (∃ (j : PkeJob) (r : ReplyTo) (s : State) (k : Nat) (b : Nat), s.dome.queue = [j] ∧ j.started.isSome = true ∧ j.granted = true ∧
      j.writing = false ∧ s.isSealed = false ∧ j.src = .traop r ∧ j.op = .pub k b ∧ (s.keySlot j.turret k).ecOk = true) :=
  ⟨⟨ln, .pkeSign 7 31, .doDomePkeSign ln 7 31, .sign 7 31, 0, 7, 31, 7, .p256, keep,
     { id := State.dome (keep) |>.nextId, turret := 0, op := .sign 7 31, src := .traop (keep.replyTo ln), filed := 1000000000 },
     by decide +kernel, by decide +kernel, by decide +kernel, by decide +kernel, by decide +kernel, by decide +kernel,
     by decide +kernel, by decide +kernel, by decide +kernel, by decide +kernel, .inl ⟨rfl, rfl, rfl⟩, by decide +kernel⟩,
   ⟨{ id := 3, turret := 0, op := .pub 7 31, src := .traop r0 }, [], (by intro x h; cases h)⟩,
   ⟨{ id := 3, turret := 0, op := .pub 7 31, src := .traop r0 },
     { id := 4, turret := 0, op := .pub 7 31, src := .traop { r0 with sess := 1 } }, by decide +kernel⟩,
   ⟨ln, 8, 0, 0, keep, by decide +kernel⟩,
   ⟨ln, 7, 31, 0, { keep with dome := { queue := List.replicate 8 (pkeJob (.sign 4 0)) } }, by decide +kernel⟩,
   ⟨ln, 0, sealed_ keep, by decide +kernel⟩,
   ⟨ln, 0, 23, mode .run keep, by decide +kernel⟩,
   ⟨5, 9, 7, 31, 0, [5, 0, 7, 31], mgmt,
     { id := State.dome (mgmt) |>.nextId, turret := 0, op := .pub 7 31, src := .mgmt 5 9, filed := 1000000000 }, by decide +kernel⟩,
   ⟨{ id := 3, turret := 0, op := .pub 4 0, src := .traop r0 },
     { keep with dome := { queue := [{ id := 3, turret := 0, op := .pub 4 0, src := .traop r0 }] } }, by decide +kernel⟩,
   ⟨pkeJob (.pub 4 0), { keep with dome := { queue := [pkeJob (.pub 4 0)] } }, by decide +kernel⟩,
   ⟨(keep.nat .domeFrameMs * msTicks), keep, by decide +kernel⟩,
   ⟨(keep.nat .domeFrameMs * msTicks), { keep with dome := { part := true, frame := 1000000000, frameMs := 1 } }, by decide +kernel⟩,
   ⟨State.reset, by decide +kernel⟩,
   ⟨keep, (by intro j h; cases h)⟩,
   ⟨{ pkeJob (.sign 4 0) with started := some 1000000000 }, 1000000000,
     { sealed_ keep with dome := { queue := [{ pkeJob (.sign 4 0) with started := some 1000000000 }] } }, by decide +kernel⟩,
   ⟨⟨true, none, false⟩, { pkeJob (.sign 4 0) with recheck := true },
     { keep with dome := { queue := [{ pkeJob (.sign 4 0) with recheck := true }] } }, by decide +kernel⟩,
   ⟨⟨true, some [], true⟩, pkeJob (.sign 4 0), { keep with dome := { queue := [pkeJob (.sign 4 0)] } }, 4, by decide +kernel,
     by decide +kernel, by decide +kernel, by decide +kernel, by decide +kernel, by decide +kernel, by decide +kernel,
     (by simp [unwraps, kwpOpen]), ⟨0, Or.inl rfl⟩⟩,
   ⟨pkeJob (.sign 4 0), r0, { ecKeep with dome := { queue := [pkeJob (.sign 4 0)] } }, 4, 0, by decide +kernel⟩,
   ⟨pkeJob (.sign 5 0), r0, { ecKeep with dome := { queue := [pkeJob (.sign 5 0)] } }, by decide +kernel, by decide +kernel,
     by decide +kernel, by decide +kernel, by decide +kernel, by decide +kernel, Or.inl ⟨5, 0, rfl, by decide +kernel⟩⟩,
   ⟨pkeJob (.keygen .p384 7 0), r0, { ecKeep with dome := { queue := [pkeJob (.keygen .p384 7 0)] } }, .p384, 7, 0,
     by decide +kernel⟩,
   ⟨pkeJob (.claim 2 [1] [2]), r0, { keep with dome := { queue := [pkeJob (.claim 2 [1] [2])] } }, 2, [1], [2], by decide +kernel⟩,
   ⟨pkeJob (.pub 4 0), r0, { ecKeep with dome := { queue := [pkeJob (.pub 4 0)] } }, 4, 0, by decide +kernel⟩⟩

/-! ## Ill-formed commands are refused -/

theorem test_wf_header :
    Instr.wf (.logout { sess := 4 }) = false ∧ Instr.wf (.logout { sess := 0, addr := .num 0 }) = false ∧
    Instr.wf (.logout { sess := 0, addr := .num 33 }) = false ∧ Instr.wf (.logout { sess := 0, tag := some 1000 }) = false ∧
    Instr.wf (.logout { sess := 3, addr := .num 32, tag := some 999 }) = true := by decide

theorem test_wf_places :
    Instr.wf (.hpresLow 2) = false ∧ Instr.wf (.valveOpenCommon 2) = false ∧ Instr.wf (.linkBeacon 2) = false ∧
    Instr.wf (.laneErrorLimit 1 5 65536) = false ∧ Instr.wf (.watchPeriod 4 0) = false ∧ Instr.wf (.islandAutoGate 7) = false ∧
    Instr.wf (.phaseSlotStart 6) = false ∧ Instr.wf (.readoutComplete 0 6 ⟨[]⟩) = false ∧
    Instr.wf (.valveRequestFile 64) = false ∧ Instr.wf (.seqSlotStart 16) = false ∧ Instr.wf (.fePinOver 16) = false ∧
    Instr.wf (.excLimit 32) = false ∧ Instr.wf (.loopSample 0) = false ∧ Instr.wf (.loopSample 3) = false ∧
    Instr.wf (.statPeriod 64) = false ∧ Instr.wf (.pinLockoutExpiry 64) = false := by decide

theorem test_wf_memory_and_streams :
    Instr.wf (.memRead ⟨28, 0, none⟩ 0 .prot 0) = false ∧ Instr.wf (.memRead ⟨12, 65, none⟩ 65 .prot 0) = false ∧ Instr.wf (.memRead ⟨27, 64, none⟩ 64 .prot 0) = true ∧
    Instr.wf (.keyReadyRetry 256) = false ∧ Instr.wf (.tableWrite 0 0 2 0 0 []) = false ∧ Instr.wf (.tableWrite 0 0 1 4 0 []) = false ∧
    Instr.wf (.tableWrite 255 0 1 3 0 []) = true := by decide

theorem test_wf_lines_with_operands :
    Instr.wf (.doValveTest ln 64 0) = false ∧ Instr.wf (.doSeqNow ln 32) = false ∧ Instr.wf (.doStreamNext ln 256) = false ∧
    Instr.wf (.doDomeDigTable ln 2 0) = false ∧ Instr.wf (.doDomeDigTable ln 0 4) = false ∧ Instr.wf (.doTurretClaim ln 64 []) = false ∧
    Instr.wf (.doValveTest ln 63 0) = true := by decide

/-! ## The worked examples of the spec -/

/-- The checks of `GET sys.mode` and of its answer `OK OPEN` (spec/04_traop_commands.md, the Varnholt example). -/
theorem test_check_of_get_sys_mode :
    crc8 [0x47, 0x45, 0x54, 0x20, 0x73, 0x79, 0x73, 0x2E, 0x6D, 0x6F, 0x64, 0x65] = 0xE1 ∧
    crc8 [0x4F, 0x4B, 0x20, 0x4F, 0x50, 0x45, 0x4E] = 0x00 := by decide +kernel

/-- The same command of session 0 in Open mode. -/
theorem test_get_sys_mode :
    (match exec (.getPath ln [.w "sys", .w "mode"]) keep with
     | .next t => (t.getSess 0).out.map (·.body)
     | .fault _ => []
     | .refused _ => []) = [.ok [.word "OPEN"]] := by decide +kernel

/-- The least receive headroom at widths 4, 2 and 1 with a hop of 158.0 ns (spec/07_ecnio_link.md, the Saltcombe example), which lies
between 252 and 253 sixteenths of a tick. -/
theorem test_headroom_of_three_widths :
    [(4, 8050), (2, 7153), (1, 6706)].all (fun p =>
      decide (({ width := p.1, hop16 := 252 } : Port).headroomMin ≤ p.2 ∧ p.2 ≤ ({ width := p.1, hop16 := 253 } : Port).headroomMin) &&
      decide (({ width := p.1, hop16 := 253 } : Port).headroomMin ≤ ({ width := p.1, hop16 := 252 } : Port).headroomMin + 4)) = true := by
  decide +kernel

/-- The reservation and the slots of the Brackwyn plan (spec/09_viewing_heads.md). -/
theorem test_brackwyn_plan :
    let p : Plan := ⟨8000, 3, [3, 12, 0, 0, 0, 0], [2000000, 2000000, 2000000, 0, 0, 0], [12000000, 20000000, 1000000, 0, 0, 0],
                     [1500000, 1500000, 2000000, 2000000, 0, 0]⟩
    p.reserve = (4000, 928) ∧ p.slotTicks = 4166 ∧ cycleTicks p.rate = 12500 := by decide +kernel

/-- One pixel's shading (spec/09_viewing_heads.md): D = 812.4 and W = 41 300.7, in 1/256 of a code, and a raw code of 30 000. -/
theorem test_one_pixels_shading :
    shadeOf 52000 (207974, 10572979) = ⟨-812, 21042⟩ ∧ (shadeOf 52000 (207974, 10572979)).apply 30000 = 37486 := by decide +kernel

/-- The Corrandy module: STACKED geometry, drag 0.80, 10 000 line cycles a second; d, the valve distance and g have their defaults. -/
def corrandy : State :=
  let s := num .trackGeometry 1 (num .trackDrag 800000 keep)
  { s with lantern := { plan := some { somePlan with rate := 10000 } } }

/-- The almond's arrival, its lead and its lag (spec/10_classification_and_tracking.md), which the example rounds to microseconds and
to four digits. -/
theorem test_almonds_arrival :
    (corrandy.matchFlight { anObj with dt := 2000000, refB := some 0, c256 := 1536, lag256 := 1280 }).map
      (fun f => (decide (f.arrival ≤ 1447450 ∧ 1447350 ≤ f.arrival), decide (f.lead ≤ 58650 ∧ 58640 ≤ f.lead),
                 decide (f.lag ≤ 48875 ∧ 48865 ≤ f.lag))) = some (true, true, true) := by decide +kernel

/-- The almond's valve times (spec/11_ejection.md): S = 11 187.5 µs and E = 13 662.5 µs. -/
theorem test_almonds_valve_times :
    (num .ejectPreUs 200 (num .ejectPostUs 200 (num .valveOnUs 2500 (num .valveOffUs 1500 (num .valvePeakUs 300 keep))))).actTimes
      0 0 1447400 58650 48870 = (1118750, 1366250, false) := by decide +kernel

/-- The current at 12.4 % of 25 %, and its code (spec/13_current_loops.md, the Fennick example). -/
theorem test_moisture_current : measureMa6 (Frac.of6 12400000) 0 25000000 = 11936000 ∧ loopCode 11936000 = 28120 := by decide +kernel

/-- SHA-384 over 4 096 bytes: 33 blocks, 13.088 µs (spec/16_dome_engines.md), in ticks rounded up. -/
theorem test_sha384_time : digTicks .sha384 33 = 1309 := by decide +kernel

/-- A character at 115 200 baud, 8N1, lasts 86.81 µs (R196). -/
theorem test_character_time : (⟨115200, 8, 0, 1⟩ : Fmt).charTicks 1 = 8681 := by decide +kernel

/-- SHA-256 of "abc" (FIPS 180-4, which R538 names). -/
theorem test_sha256_abc : (sha256 [0x61, 0x62, 0x63]).take 8 = [0xBA, 0x78, 0x16, 0xBF, 0x8F, 0x01, 0xCF, 0xEA] := by
  unfold sha256; decide +kernel

end Sys2Proof.Tests
end

section
/-! What the state of a factory-new module reads as through the model's accessors: its records, its turrets and its settings
(spec/00_scope.md, R9; R145, R505). -/

namespace Sys2Proof

/-! ## Reading a listed key of a sparse map -/

theorem SMap.look_nil {α : Type} (d : α) (k : Nat) : SMap.look d [] k = d := rfl

theorem SMap.look_cons_self {α : Type} (d x : α) (m : SMap α) (k : Nat) : SMap.look d ((k, x) :: m) k = x := by
  simp [SMap.look, SMap.find]

theorem SMap.look_cons_other {α : Type} (d x : α) (m : SMap α) {k q : Nat} (h : q ≠ k) :
    SMap.look d ((k, x) :: m) q = SMap.look d m q := by
  simp [SMap.look, SMap.find, Ne.symm h]

end Sys2Proof

namespace Sys2Proof.Machine

/-! ## Reading the state -/

/-- With no setting listed, every path has the default of its table. -/
theorem State.val_of_cfg_nil {s : State} (h : s.cfg = []) (k : Key) : s.val k = k.dflt := by
  simp [State.val, h, SMap.find]

/-- A committed epoch is the number in the body of the epoch record. -/
theorem State.heldEpoch_of_body {s : State} {n : Nat} (h : (s.getRec .epoch).body = .epoch n) : s.heldEpoch = some n := by
  simp [State.heldEpoch, h]

/-! ## The factory state -/

/-- The epoch record of a factory-new module holds 0 (R145; log entry 6). -/
theorem State.reset_epoch_body : (State.reset.getRec .epoch).body = .epoch 0 := rfl

/-- Turret 0 leaves the factory CREATED, with no owner and no key (R505). -/
theorem State.reset_getTurret_zero : State.reset.getTurret 0 = { state := .created } :=
  SMap.look_cons_self _ _ _ _

/-- A turret other than 0 leaves the factory as one that was never made (R145). -/
theorem State.reset_getTurret_of_ne_zero {n : Nat} (h : n ≠ 0) : State.reset.getTurret n = Turret.init :=
  calc State.reset.getTurret n
    _ = SMap.look Turret.init [] n := SMap.look_cons_other _ _ _ h
    _ = Turret.init := SMap.look_nil _ _

/-! ## The obligation -/

/-- Settles O8: the records and turrets by the lemmas of the factory state, the settings because none is listed; the other fields
stand in the reset state as it is written. -/
theorem resetState : Obligations.ResetState := by
  unfold Obligations.ResetState
  have hepoch : State.reset.heldEpoch = some 0 := State.heldEpoch_of_body State.reset_epoch_body
  have hturret : (State.reset.getTurret 0).state = .created := congrArg Turret.state State.reset_getTurret_zero
  have hothers : ∀ n, n ≠ 0 → (State.reset.getTurret n).state = .absent :=
    fun _ hn => congrArg Turret.state (State.reset_getTurret_of_ne_zero hn)
  have hcfg : ∀ k, State.reset.val k = k.dflt := State.val_of_cfg_nil rfl
  exact ⟨rfl, rfl, rfl, rfl, hepoch, hturret, hothers, hcfg, rfl, rfl⟩

end Sys2Proof.Machine
end

section
/-! What the supplies, the hold-up, P24 and the junction sensor change (R24–R26, R50–R53, R64, R82, R398, R571, R583), and what halts a
running module (R24, R54, R98, R122, R571). -/

namespace Sys2Proof.Machine

/-! ## What an event leaves alone -/

/-- An event reaches the sessions and nothing else. -/
theorem State.emit_eq (s : State) (a : Aud) (src word : String) (fs : List Fld) :
    s.emit a src word fs = { s with sess := (s.emit a src word fs).sess } := by
  apply State.ext <;> simp

/-- An event is told alike whatever the supplies are. -/
theorem State.told_of_onPwr {s t : State} {f : Pwr → Pwr} {a : Aud} {src word : String} {fs : List Fld}
    (h : t.told (s.onPwr f) a src word fs) : t.told s a src word fs :=
  Eq.trans h (emit_congr (t := s.onPwr f) (s := s) rfl rfl rfl rfl a src word fs)

/-! ## The loops without L24 -/

/-- Each loop reads as it did, but conducts at most 1.0 mA (R64). -/
theorem State.loopsOff_getLoop (s : State) {n : Nat} (hn : n = 1 ∨ n = 2) :
    s.loopsOff.getLoop n = { s.getLoop n with off := true } := by
  simp only [State.loopsOff, List.foldl_cons, List.foldl_nil]
  rcases hn with rfl | rfl
  · rw [State.getLoop_modLoop_other _ _ (by decide), State.getLoop_modLoop_self]
  · rw [State.getLoop_modLoop_self, State.getLoop_modLoop_other _ _ (by decide)]

/-! ## The hold-up and the levels of L24 -/

theorem exec_holdupCharged_of_valid {s : State} (h : s.pwr.l24Valid = true) :
    exec .holdupCharged s = .next (s.onPwr fun p => { p with holdCharged := true }).grantNext := by
  show execHoldupCharged s = _
  rw [execHoldupCharged, if_pos h]

theorem State.holdupOver_iff {s : State} {l : Tick} (h : s.pwr.lostAt = some l) :
    s.holdupOver = true ↔ l + 12 * msTicks ≤ s.sys.tick := by
  simp only [State.holdupOver, h, State.now]
  exact decide_eq_true_iff

/-- The hold-up has run out no sooner than 12 ms after L24 was lost (R25): the logic stops, and the loops conduct no more than 1.0 mA. -/
theorem exec_holdupExhausted_of_over {s : State} {l : Tick} (hv : s.pwr.l24Valid = false) (hon : s.pwr.logicOn = true)
    (hl : s.pwr.lostAt = some l) (ht : l + 12 * msTicks ≤ s.sys.tick) :
    exec .holdupExhausted s = .next ((s.onPwr fun p => { p with logicOn := false }).flashCollapse).loopsOff := by
  show execHoldupExhausted s = _
  rw [execHoldupExhausted, if_pos ⟨hv, hon, (State.holdupOver_iff hl).2 ht⟩]

theorem exec_holdupExhausted_of_early {s : State} {l : Tick} (hl : s.pwr.lostAt = some l) (ht : s.sys.tick < l + 12 * msTicks) :
    exec .holdupExhausted s = .next s := by
  show execHoldupExhausted s = _
  rw [execHoldupExhausted, if_neg fun ⟨_, _, hover⟩ => Nat.not_le.2 ht ((State.holdupOver_iff hl).1 hover)]

theorem exec_l24FlashLevel_of_valid (a : Bool) {s : State} (h : s.pwr.l24Valid = true) :
    exec (.l24FlashLevel a) s =
      .next (if a then (s.onPwr fun p => { p with above19 := a }).grantNext else s.onPwr fun p => { p with above19 := a }) := by
  show execL24FlashLevel a s = _
  rw [execL24FlashLevel, if_pos h]

theorem exec_l24High_of_valid {s : State} (h : s.pwr.l24Valid = true) :
    exec .l24High s = .next ((s.onPwr fun p => { p with l24High := true }).emit .keep "pwr" "l24-high" []) := by
  show execL24High s = _
  rw [execL24High, if_pos h]

/-! ## The VCOM switches -/

/-- Both switches stand as R398 wants them. -/
theorem State.setVcom_vcomClosed (s : State) {b : Nat} (hb : b < 2) :
    s.setVcom.vcomClosed b = (s.serving && s.pwr.p24Here && !SMap.look false s.pwr.shortReturn b) := by
  have hb : b = 0 ∨ b = 1 := by omega
  rcases hb with rfl | rfl <;> simp [State.setVcom, State.vcomClosed, SMap.look_put]

/-- Without P24 both switches are open. -/
theorem State.setVcom_open {s : State} (h : s.pwr.p24Open = true) {b : Nat} (hb : b < 2) : s.setVcom.vcomClosed b = false := by
  simp [State.setVcom_vcomClosed s hb, Pwr.p24Here, h]

/-! ## P24 -/

/-- P24 has just been found low: grants stop, and the switches stand as R398 wants them. -/
def State.p24FoundLow (s : State) : State :=
  (s.onPwr fun p => { p with p24Low := true, p24Absent := Config.p24Absent s.sys.free }).useFree.setVcom

/-- The Keep has been told of it. -/
def State.p24ToldLow (s : State) : State :=
  (s.p24FoundLow.onPwr fun p => { p with p24Told := true }).emit .keep "pwr" "p24-low" []

theorem State.p24ToldLow_eq (s : State) :
    s.p24ToldLow = { s.p24FoundLow with pwr := { s.p24FoundLow.pwr with p24Told := true }, sess := s.p24ToldLow.sess } :=
  State.emit_eq _ _ _ _ _

theorem State.p24ToldLow_told (s : State) : s.p24ToldLow.told s .keep "pwr" "p24-low" [] :=
  emit_told (t := s.p24FoundLow.onPwr fun p => { p with p24Told := true }) (s := s) rfl rfl rfl rfl _ _ _ _

theorem State.p24Falls_of_low {s : State} (h : s.pwr.p24Low = true) : s.p24Falls = s := by
  rw [State.p24Falls, if_pos h]

theorem State.p24Falls_of_serving {s : State} (h : s.pwr.p24Low = false) (hs : s.serving = true) :
    s.p24Falls = s.p24ToldLow := by
  simp only [State.p24Falls, h, hs, Bool.false_eq_true, if_false, if_true]
  rfl

theorem State.p24Falls_of_not_serving {s : State} (h : s.pwr.p24Low = false) (hs : s.serving = false) :
    s.p24Falls = s.p24FoundLow := by
  simp only [State.p24Falls, h, hs, Bool.false_eq_true, if_false]
  rfl

theorem State.p24FoundLow_vcomClosed (s : State) {b : Nat} (hb : b < 2) :
    s.p24FoundLow.vcomClosed b =
      (s.serving && !s.pwr.p24Open && !Config.p24Absent s.sys.free && !SMap.look false s.pwr.shortReturn b) := by
  have hserv : ∀ (f : Pwr → Pwr), (s.onPwr f).useFree.serving = s.serving := fun _ => rfl
  rw [State.p24FoundLow, State.setVcom_vcomClosed _ hb, hserv]
  simp [Pwr.p24Here, State.useFree, Bool.and_assoc]

/-- The switch opens above 33.0 V, and P24 counts as low (R52). -/
theorem State.p24Falls_open {s : State} (ho : s.pwr.p24Open = true) (hv : ∀ b, b < 2 → s.vcomClosed b = false) :
    ∃ t, s.p24Falls = t ∧ t = { s with pwr := t.pwr, sys := { s.sys with free := t.sys.free }, sess := t.sess } ∧
      t.pwr.p24High = s.pwr.p24High ∧ t.pwr.p24Open = true ∧ t.pwr.p24Low = true ∧ ∀ b, b < 2 → t.vcomClosed b = false := by
  have hfound : ∀ b, b < 2 → s.p24FoundLow.vcomClosed b = false := fun b hb => by
    simp [State.p24FoundLow_vcomClosed s hb, ho]
  refine ⟨_, rfl, ?_⟩
  by_cases hlow : s.pwr.p24Low = true
  · rw [State.p24Falls_of_low hlow]
    exact ⟨rfl, rfl, ho, hlow, hv⟩
  · rw [Bool.not_eq_true] at hlow
    cases hs : s.serving with
    | false =>
      rw [State.p24Falls_of_not_serving hlow hs]
      exact ⟨rfl, rfl, ho, rfl, hfound⟩
    | true =>
      rw [State.p24Falls_of_serving hlow hs, State.p24ToldLow_eq]
      exact ⟨rfl, rfl, ho, rfl, hfound⟩

theorem exec_p24Low_of_ok {s : State} (h : s.pwr.p24Low = false) :
    ∃ t, exec .p24Low s = .next t ∧
      t = { s with pwr := t.pwr, sys := { s.sys with free := s.sys.free + 1 }, sess := t.sess } ∧
      t.pwr = { s.pwr with p24Low := true, p24Absent := Config.p24Absent s.sys.free, p24Told := t.pwr.p24Told, vcom := t.pwr.vcom } ∧
      (∀ b, b < 2 → t.vcomClosed b =
        (s.serving && !s.pwr.p24Open && !Config.p24Absent s.sys.free && !SMap.look false s.pwr.shortReturn b)) ∧
      (s.serving = true → t.pwr.p24Told = true ∧ t.told s .keep "pwr" "p24-low" []) ∧
      (s.serving = false → t.pwr.p24Told = s.pwr.p24Told ∧ t.sess = s.sess) := by
  by_cases hs : s.serving = true
  · refine ⟨s.p24ToldLow, congrArg Host.Outcome.next (State.p24Falls_of_serving h hs), ?_⟩
    rw [s.p24ToldLow_eq]
    exact ⟨rfl, rfl, fun _ => s.p24FoundLow_vcomClosed, fun _ => ⟨rfl, s.p24ToldLow_told⟩, fun hf => absurd hs (by simp [hf])⟩
  · exact ⟨s.p24FoundLow, congrArg Host.Outcome.next (State.p24Falls_of_not_serving h (Bool.eq_false_iff.2 hs)), rfl, rfl,
      fun _ => s.p24FoundLow_vcomClosed, fun ht => absurd ht hs, fun _ => ⟨rfl, rfl⟩⟩

theorem exec_p24Ok_of_low {s : State} (hlow : s.pwr.p24Low = true) (hopen : s.pwr.p24Open = false) :
    exec .p24Ok s = .next (let t := (s.onPwr fun p => { p with p24Low := false, p24Told := false, p24Absent := false }).setVcom;
      (if s.pwr.p24Told then t.emit .keep "pwr" "p24-ok" [] else t).grantNext) := by
  show execP24Ok s = _
  rw [execP24Ok, if_pos ⟨hlow, hopen⟩]

/-- P24 is above 30 V, and the Keep has been told (R52). -/
def State.p24FoundHigh (s : State) : State := (s.onPwr fun p => { p with p24High := true }).emit .keep "pwr" "p24-high" []

theorem State.p24FoundHigh_eq (s : State) :
    s.p24FoundHigh = { s with pwr := { s.pwr with p24High := true }, sess := s.p24FoundHigh.sess } := State.emit_eq _ _ _ _ _

theorem exec_p24High_false (s : State) :
    ∃ t, exec (.p24High false) s = .next t ∧ t = { s with pwr := { s.pwr with p24High := true }, sess := t.sess } ∧
      t.told s .keep "pwr" "p24-high" [] :=
  ⟨s.p24FoundHigh, rfl, s.p24FoundHigh_eq,
    emit_told (t := s.onPwr fun p => { p with p24High := true }) (s := s) rfl rfl rfl rfl _ _ _ _⟩

theorem exec_p24High_true (s : State) :
    ∃ t, exec (.p24High true) s = .next t ∧
      t = { s with pwr := t.pwr, sys := { s.sys with free := t.sys.free }, sess := t.sess } ∧
      t.pwr.p24High = true ∧ t.pwr.p24Open = true ∧ t.pwr.p24Low = true ∧ t.vcomClosed 0 = false ∧ t.vcomClosed 1 = false := by
  have hexec : exec (.p24High true) s = .next ((s.p24FoundHigh.onPwr fun p => { p with p24Open := true }).setVcom).p24Falls := rfl
  rw [hexec, s.p24FoundHigh_eq]
  obtain ⟨t, ht, heq, hhigh, hopen, hlow, hclosed⟩ := State.p24Falls_open
    (s := (({ s with pwr := { s.pwr with p24High := true }, sess := s.p24FoundHigh.sess } : State).onPwr
      fun p => { p with p24Open := true }).setVcom) rfl (fun _ => State.setVcom_open rfl)
  exact ⟨t, congrArg _ ht, heq, hhigh, hopen, hlow, hclosed 0 (by decide), hclosed 1 (by decide)⟩

/-! ## The junction -/

/-- The module becomes hot, or is so no longer: the Keep is told, or will be once the module wakes (R571, R583). -/
def State.hotTurns (s : State) (b : Bool) : State :=
  let v := s.onPwr fun p => { p with hot := b }
  if s.sys.state = .watch then v.onPwr fun p => { p with hotWaits := p.hotWaits ++ [b] }
  else v.emit .keep "sys" (if b then "hot" else "hot-ok") []

/-- What a reading of the junction changes in the hot flag and in what is told of it (R571). -/
def State.judgeHot (s : State) (milliC : Int) : State :=
  let t := s.onPwr fun p => { p with junction := milliC }
  if 115000 < milliC ∧ s.pwr.hot = false then t.hotTurns true
  else if milliC < 110000 ∧ s.pwr.hot = true then t.hotTurns false
  else t

theorem exec_junctionReading {s : State} (x : Int) (hoff : s.sys.state ≠ .off) (hon : s.pwr.logicOn = true) :
    exec (.junctionReading x) s = .next (if 125000 < x then (s.judgeHot x).halt causeHot else s.judgeHot x) := by
  show execJunctionReading x s = _
  rw [execJunctionReading, if_neg (by simp [hoff, hon])]
  simp [State.judgeHot, State.hotTurns]

theorem State.hotTurns_of_watch {s : State} (h : s.sys.state = .watch) (b : Bool) :
    s.hotTurns b = { s with pwr := { s.pwr with hot := b, hotWaits := s.pwr.hotWaits ++ [b] } } := by
  rw [State.hotTurns, if_pos h]
  rfl

theorem State.hotTurns_of_awake {s : State} (h : s.sys.state ≠ .watch) (b : Bool) :
    s.hotTurns b = { s with pwr := { s.pwr with hot := b }, sess := (s.hotTurns b).sess } := by
  rw [State.hotTurns, if_neg h]
  exact State.emit_eq _ _ _ _ _

theorem State.hotTurns_told {s : State} (h : s.sys.state ≠ .watch) (b : Bool) :
    (s.hotTurns b).told s .keep "sys" (if b then "hot" else "hot-ok") [] := by
  rw [State.hotTurns, if_neg h]
  exact emit_told (t := s.onPwr fun p => { p with hot := b }) (s := s) rfl rfl rfl rfl _ _ _ _

theorem State.hotTurns_sess {s : State} (h : s.sys.state = .watch) (b : Bool) : (s.hotTurns b).sess = s.sess := by
  rw [State.hotTurns_of_watch h]

/-- The supplies' part and the sessions alone change: the flag, and in WATCH what waits to be told. -/
theorem State.hotTurns_eq (s : State) (b : Bool) :
    s.hotTurns b = { s with
      pwr := { s.pwr with hot := b, hotWaits := s.pwr.hotWaits ++ if s.sys.state = .watch then [b] else [] },
      sess := (s.hotTurns b).sess } := by
  by_cases hw : s.sys.state = .watch
  · rw [State.hotTurns_of_watch hw, if_pos hw]
  · rw [State.hotTurns_of_awake hw, if_neg hw, List.append_nil]

theorem State.judgeHot_rises {s : State} {x : Int} (hx : 115000 < x) (hhot : s.pwr.hot = false) :
    s.judgeHot x = (s.onPwr fun p => { p with junction := x }).hotTurns true := if_pos ⟨hx, hhot⟩

theorem State.judgeHot_falls {s : State} {x : Int} (hx : x < 110000) (hhot : s.pwr.hot = true) :
    s.judgeHot x = (s.onPwr fun p => { p with junction := x }).hotTurns false := by
  rw [State.judgeHot, if_neg (by simp [hhot]), if_pos ⟨hx, hhot⟩]

theorem State.judgeHot_stays {s : State} {x : Int} (hrise : ¬ (115000 < x ∧ s.pwr.hot = false))
    (hfall : ¬ (x < 110000 ∧ s.pwr.hot = true)) : s.judgeHot x = s.onPwr fun p => { p with junction := x } := by
  rw [State.judgeHot, if_neg hrise, if_neg hfall]

/-- A reading changes the supplies' part and the sessions alone. -/
theorem State.judgeHot_eq (s : State) (x : Int) :
    s.judgeHot x = { s with
      pwr := { s.pwr with junction := x, hot := (s.judgeHot x).pwr.hot, hotWaits := (s.judgeHot x).pwr.hotWaits },
      sess := (s.judgeHot x).sess } := by
  by_cases hrise : 115000 < x ∧ s.pwr.hot = false
  · rw [State.judgeHot_rises hrise.1 hrise.2, State.hotTurns_eq]; rfl
  · by_cases hfall : x < 110000 ∧ s.pwr.hot = true
    · rw [State.judgeHot_falls hfall.1 hfall.2, State.hotTurns_eq]; rfl
    · rw [State.judgeHot_stays hrise hfall]; rfl

/-- What a reading says of the hot flag, and whom it tells of a change (R571, R583). -/
theorem State.judgeHot_reports (s : State) (x : Int) :
    ((s.judgeHot x).pwr.hot = true ↔ 115000 < x ∨ (s.pwr.hot = true ∧ 110000 ≤ x)) ∧
    (s.sys.state ≠ .watch → 115000 < x → s.pwr.hot = false → (s.judgeHot x).told s .keep "sys" "hot" []) ∧
    (s.sys.state ≠ .watch → x < 110000 → s.pwr.hot = true → (s.judgeHot x).told s .keep "sys" "hot-ok" []) ∧
    ((s.judgeHot x).pwr.hot = s.pwr.hot ∨ s.sys.state = .watch → (s.judgeHot x).sess = s.sess) ∧
    (s.judgeHot x).pwr.hotWaits =
      s.pwr.hotWaits ++ (if s.sys.state = .watch ∧ (s.judgeHot x).pwr.hot ≠ s.pwr.hot then [(s.judgeHot x).pwr.hot] else []) := by
  by_cases hrise : 115000 < x ∧ s.pwr.hot = false
  · obtain ⟨hx, hhot⟩ := hrise
    have hflag : (s.judgeHot x).pwr.hot = true := by rw [State.judgeHot_rises hx hhot, State.hotTurns_eq]
    refine ⟨by simp [hflag, hx], fun hw _ _ => ?_, fun _ h => absurd h (by omega), fun h => ?_, ?_⟩
    · rw [State.judgeHot_rises hx hhot]
      exact State.told_of_onPwr (State.hotTurns_told (s := s.onPwr _) hw true)
    · rw [State.judgeHot_rises hx hhot]
      exact State.hotTurns_sess (s := s.onPwr _) (h.resolve_left (by simp [hflag, hhot])) true
    · rw [hflag, hhot, State.judgeHot_rises hx hhot, State.hotTurns_eq]
      by_cases hw : s.sys.state = .watch <;> simp [hw]
  · by_cases hfall : x < 110000 ∧ s.pwr.hot = true
    · obtain ⟨hx, hhot⟩ := hfall
      have hflag : (s.judgeHot x).pwr.hot = false := by rw [State.judgeHot_falls hx hhot, State.hotTurns_eq]
      refine ⟨by simp [hflag]; omega, fun _ h => absurd h (by omega), fun hw _ _ => ?_, fun h => ?_, ?_⟩
      · rw [State.judgeHot_falls hx hhot]
        exact State.told_of_onPwr (State.hotTurns_told (s := s.onPwr _) hw false)
      · rw [State.judgeHot_falls hx hhot]
        exact State.hotTurns_sess (s := s.onPwr _) (h.resolve_left (by simp [hflag, hhot])) false
      · rw [hflag, hhot, State.judgeHot_falls hx hhot, State.hotTurns_eq]
        by_cases hw : s.sys.state = .watch <;> simp [hw]
    · rw [State.judgeHot_stays hrise hfall]
      refine ⟨?_, fun _ hx hhot => absurd ⟨hx, hhot⟩ hrise, fun _ hx hhot => absurd ⟨hx, hhot⟩ hfall, fun _ => rfl, by simp⟩
      cases hhot : s.pwr.hot <;> simp [hhot] at hrise hfall ⊢ <;> omega

/-- Settles O10: each report by the lemma of its command; the junction by what a reading says of the hot flag. -/
theorem suppliesReport : Obligations.SuppliesReport := by
  unfold Obligations.SuppliesReport
  refine ⟨fun _ => exec_holdupCharged_of_valid, fun _ _ => exec_holdupExhausted_of_over, fun _ _ => exec_holdupExhausted_of_early,
    fun s _ hn => by rw [s.loopsOff_getLoop hn], fun a _ => exec_l24FlashLevel_of_valid a, fun s hs => ?_, fun _ => exec_p24Low_of_ok,
    fun _ => exec_p24Ok_of_low, exec_p24High_false, exec_p24High_true, fun s => ⟨_, rfl, rfl, rfl, rfl, rfl⟩, fun x s hoff hon hx => ?_⟩
  · exact ⟨_, exec_l24High_of_valid hs, State.emit_eq _ _ _ _ _,
      emit_told (t := s.onPwr fun p => { p with l24High := true }) (s := s) rfl rfl rfl rfl _ _ _ _⟩
  · refine ⟨s.judgeHot x, ?_, s.judgeHot_eq x, s.judgeHot_reports x⟩
    rw [exec_junctionReading x hoff hon, if_neg (by omega)]

/-! ## What halts a running module -/

/-- A halt is judged by parts of the state before it that neither the supplies nor the sessions touch. -/
theorem State.haltedFrom_of_pwr_sess {s t : State} {p : Pwr} {y : SMap Sess} {c : Nat}
    (h : t.haltedFrom { s with pwr := p, sess := y } c) : t.haltedFrom s c := h

/-- Of the supplies' part a halt opens the VCOM switches and leaves the rest (R123). -/
theorem State.halt_pwr {s : State} (hoff : s.sys.state ≠ .off) (hhalted : s.sys.state ≠ .halted) (c : Nat) :
    (s.halt c).pwr = { s.pwr with vcom := [] } := by
  have hacts : s.halt c = (((((((s.haltPorts ⟨s.tower.addr, c, s.now⟩).valvesOff).loopsAlarm).zeroise).haltSessions).haltOutputs).latchHalt
      c).enter .halted := by
    unfold State.halt
    cases e : s.sys.state <;> simp_all
  simp [hacts, State.enter, State.latchHalt, State.haltOutputs, State.haltSessions, State.zeroise, State.loopsAlarm, State.valvesOff,
    State.countWaits, State.haltPorts]

/-- Only the wait for the public-key engine counts from anything but its own opening (R98). -/
theorem State.waitOver_iff (s : State) {w : WaitKind} (h : w ≠ .publicKey) (o : Tick) :
    s.waitOver w o = true ↔ WaitKind.bound w o < s.sys.tick := by
  cases w with
  | publicKey => exact absurd rfl h
  | handshake | ledgerGrant _ | flashErase | flashProgram | dramInit =>
    exact decide_eq_true_iff

/-- Settles O11: each command is a halt of a state that differs from the one before in its supplies and sessions alone, and a halt is
what the table of halt actions says. -/
theorem haltCauses : Obligations.HaltCauses := by
  unfold Obligations.HaltCauses
  intro s hoff hhalted
  have hhalt : ∀ (p : Pwr) (y : SMap Sess) (c : Nat),
      (({ s with pwr := p, sess := y } : State).halt c).haltedFrom s c ∧
      (({ s with pwr := p, sess := y } : State).halt c).pwr = { p with vcom := [] } := fun p y c =>
    ⟨State.haltedFrom_of_pwr_sess (halt_from _ c hoff hhalted), State.halt_pwr (s := { s with pwr := p, sess := y }) hoff hhalted c⟩
  refine ⟨?_, fun hv => ?_, fun x hx hon => ?_, fun w o hw hon hover => ?_, fun w o hw => s.waitOver_iff hw o⟩
  · obtain ⟨hfrom, hpwr⟩ := hhalt { s.pwr with
      l24Valid := false, above19 := false, l24High := false, holdCharged := false, csout := false,
      lostAt := s.pwr.lostAt.orElse fun _ => some s.now } s.sess causePower
    exact ⟨_, congrArg Host.Outcome.next (if_neg hoff), hfrom, congrArg Pwr.l24Valid hpwr, congrArg Pwr.holdCharged hpwr⟩
  · obtain ⟨hfrom, hpwr⟩ := hhalt { s.pwr with meshBroken := true } s.sess causeTamper
    exact ⟨_, congrArg Host.Outcome.next (if_pos hv), hfrom, congrArg Pwr.meshBroken hpwr⟩
  · obtain ⟨hfrom, hpwr⟩ := hhalt _ _ causeHot
    rw [exec_junctionReading x hoff hon, if_pos hx, s.judgeHot_eq x]
    exact ⟨_, rfl, hfrom, congrArg Pwr.junction hpwr⟩
  · exact ⟨_, congrArg Host.Outcome.next (if_pos ⟨hw, hon, hover⟩), halt_from s causeWatchdog hoff hhalted⟩

end Sys2Proof.Machine
end

section
/-! Heads that are plugged in, identified, unplugged and overloaded (R33, R58, R338–R340, R362, R386). -/

namespace Sys2Proof.Machine

/-! ## What closing objects leaves alone

The heads, and the objects that are still open, are as they were when some objects close. -/

@[simp] theorem State.sendTower_keeps (s : State) (dest : Nat) (payload : List Byte) :
    (s.sendTower dest payload).heads = s.heads ∧ (s.sendTower dest payload).track = s.track := by
  unfold State.sendTower
  split <;> exact ⟨rfl, rfl⟩

@[simp] theorem State.toDecideAt_keeps (s : State) (at_ : Tick) (o : Obj) :
    (s.toDecideAt at_ o).heads = s.heads ∧ (s.toDecideAt at_ o).track.opened = s.track.opened := ⟨rfl, rfl⟩

@[simp] theorem State.unmatchedAt_keeps (s : State) (at_ : Tick) (o : Obj) :
    (s.unmatchedAt at_ o).heads = s.heads ∧ (s.unmatchedAt at_ o).track.opened = s.track.opened := by
  refine ⟨rfl, ?_⟩
  rw [State.unmatchedAt, (State.toDecideAt_keeps _ _ _).2, State.onTrack_track]
  split <;> rfl

@[simp] theorem State.storeRoom_keeps (s : State) (n : Nat) :
    (s.storeRoom n).heads = s.heads ∧ (s.storeRoom n).track.opened = s.track.opened := by
  simp only [State.storeRoom]
  (repeat' split) <;> simp

@[simp] theorem State.storeA_keeps (s : State) (o : Obj) :
    (s.storeA o).heads = s.heads ∧ (s.storeA o).track.opened = s.track.opened := by
  simp [State.storeA]

/-- Whichever way a closed object goes. -/
@[simp] theorem State.route_keeps (s : State) (o : Obj) :
    (s.route o).heads = s.heads ∧ (s.route o).track.opened = s.track.opened := by
  unfold State.route
  split
  · simp
  · split
    · simp [State.toDecideQ]
    · split
      · simp
      · split <;> simp [State.toDecideQ, State.unmatched]

@[simp] theorem State.closeObj_keeps (s : State) (o : Obj) :
    (s.closeObj o).heads = s.heads ∧ (s.closeObj o).track.opened = s.track.opened := by
  simp only [State.closeObj, State.route_keeps]
  split <;> exact ⟨rfl, rfl⟩

@[simp] theorem State.viewRecord_keeps (s : State) (r : ViewRec) :
    (s.viewRecord r).heads = s.heads ∧ (s.viewRecord r).track.opened = s.track.opened := by
  simp only [State.viewRecord]
  (repeat' split) <;> exact ⟨rfl, rfl⟩

/-- What each step of a fold leaves alone, the fold does. -/
theorem foldl_keeps_heads_opened {α : Type} (f : State → α → State)
    (h : ∀ s x, (f s x).heads = s.heads ∧ (f s x).track.opened = s.track.opened) (l : List α) (s : State) :
    (l.foldl f s).heads = s.heads ∧ (l.foldl f s).track.opened = s.track.opened := by
  induction l generalizing s with
  | nil => exact ⟨rfl, rfl⟩
  | cons x l ih =>
    obtain ⟨hheads, hopened⟩ := ih (f s x)
    exact ⟨hheads.trans (h s x).1, hopened.trans (h s x).2⟩

@[simp] theorem State.tryViews_keeps (s : State) :
    s.tryViews.heads = s.heads ∧ s.tryViews.track.opened = s.track.opened :=
  foldl_keeps_heads_opened State.viewRecord State.viewRecord_keeps s.track.views (s.onTrack fun t => { t with views := [] })

@[simp] theorem State.closeObjs_keeps (s : State) (os : List Obj) :
    (s.closeObjs os).heads = s.heads ∧ (s.closeObjs os).track.opened = s.track.opened := by
  simp only [State.closeObjs, State.tryViews_keeps]
  exact foldl_keeps_heads_opened _ State.closeObj_keeps _ s

/-! ## Loss of a head -/

theorem State.loseHead_of_not_active {s : State} {x : Nat} (h : (s.getHead x).state ≠ .active) : s.loseHead x = s := by
  rw [State.loseHead, if_neg h]

/-- A head that leaves ACTIVE gives up its planes and its open objects, and every other head is as it was (R386). -/
theorem State.loseHead_of_active {s : State} {x : Nat} (h : (s.getHead x).state = .active) :
    (s.loseHead x).heads = (s.modHead x fun h => { h with planes := [] }).heads ∧
    (s.loseHead x).track.opened = s.track.opened.filter fun o => decide (o.head ≠ x) := by
  rw [State.loseHead, if_pos h]
  exact State.closeObjs_keeps _ _

theorem State.loseHead_getHead (s : State) (x : Nat) {q : Nat} (hq : q ≠ x) : (s.loseHead x).getHead q = s.getHead q := by
  by_cases h : (s.getHead x).state = .active
  · rw [State.getHead, (State.loseHead_of_active h).1]
    exact State.getHead_modHead_other s _ hq
  · rw [State.loseHead_of_not_active h]

/-- A calibration that fails is answered, and no head changes. -/
@[simp] theorem State.failCalib_keeps (s : State) (code : Nat) (d : List Fld) :
    (s.failCalib code d).heads = s.heads ∧ (s.failCalib code d).track = s.track := by
  unfold State.failCalib
  split <;> simp [State.er]

@[simp] theorem State.headLeavesReady_keeps (s : State) (x : Nat) :
    (s.headLeavesReady x).heads = s.heads ∧ (s.headLeavesReady x).track = s.track := by
  unfold State.headLeavesReady
  split <;> simp

/-- Where no calibration runs, or the head was not READY, nothing fails as it goes. -/
theorem State.headLeavesReady_of_idle {s : State} {x : Nat} (h : (s.getHead x).state ≠ .ready ∨ s.lantern.calib = none) :
    s.headLeavesReady x = s := by
  unfold State.headLeavesReady
  split
  · next hready => rw [State.failCalib, h.resolve_left (fun hn => hn hready.2)]
  · rfl

/-- A head has gone from its connector, or its supplies have (R58, R362): what was read from it closes or fails. -/
def State.headGone (s : State) (x : Nat) : State := (s.loseHead x).headLeavesReady x

theorem State.headGone_getHead (s : State) (x : Nat) {q : Nat} (hq : q ≠ x) : (s.headGone x).getHead q = s.getHead q := by
  rw [State.headGone, State.getHead, (State.headLeavesReady_keeps _ _).1]
  exact s.loseHead_getHead x hq

theorem State.headGone_opened {s : State} {x : Nat} (h : (s.getHead x).state = .active) (o : Obj) :
    o ∈ (s.headGone x).track.opened ↔ o ∈ s.track.opened ∧ o.head ≠ x := by
  rw [State.headGone, (State.headLeavesReady_keeps _ _).2, (State.loseHead_of_active h).2, List.mem_filter, decide_eq_true_iff]

theorem State.headGone_of_idle {s : State} {x : Nat} (ha : (s.getHead x).state ≠ .active)
    (h : (s.getHead x).state ≠ .ready ∨ s.lantern.calib = none) : s.headGone x = s := by
  rw [State.headGone, State.loseHead_of_not_active ha, State.headLeavesReady_of_idle h]

/-! ## HPRES and the supplies -/

theorem exec_hpresLow_of_powered {x : Nat} {s : State} (hp : s.headsPowered = true) (hv : s.pwr.l24Valid = true)
    (ha : (s.getHead x).state = .absent) :
    ∃ t, exec (.hpresLow x) s = .next t ∧ t = { s with heads := t.heads } ∧
      t.getHead x = { s.getHead x with present := true, state := .ident, v5 := 60, v12 := false, tries := 0,
                                       due := s.sys.tick + 25 * msTicks, ident := none } ∧
      ∀ q, q ≠ x → t.getHead q = s.getHead q := by
  refine ⟨_, rfl, rfl, ?_, fun q hq => State.getHead_modHead_other s _ hq⟩
  rw [State.getHead_modHead_self, if_pos ⟨hp, hv, ha⟩]
  rfl

theorem exec_hpresLow_of_unpowered {x : Nat} {s : State} (h : s.headsPowered = false ∨ s.pwr.l24Valid = false) :
    exec (.hpresLow x) s = .next (s.modHead x fun h => { h with present := true }) := by
  show execHpresLow x s = _
  have hno : ∀ p : Prop, ¬ (s.headsPowered = true ∧ s.pwr.l24Valid = true ∧ p) := by
    rintro p ⟨hp, hv, -⟩
    rcases h with h | h
    · simp [h] at hp
    · simp [h] at hv
  simp only [execHpresLow, if_neg (hno _)]

/-- An event of a head reaches the sessions alone. -/
theorem State.headEvent_eq (s : State) (x : Nat) (w : String) : s.headEvent x w = { s with sess := (s.headEvent x w).sess } :=
  State.emit_eq _ _ _ _ _

@[simp] theorem State.headEvent_getHead (s : State) (x : Nat) (w : String) (q : Nat) : (s.headEvent x w).getHead q = s.getHead q := by
  rw [State.headEvent_eq]; rfl

@[simp] theorem State.headEvent_track (s : State) (x : Nat) (w : String) : (s.headEvent x w).track = s.track := by
  rw [State.headEvent_eq]

/-- Where a head's fields alone have changed before its event, its fields and the sessions alone have after it. -/
theorem State.headEvent_of_heads {s t : State} (h : t = { s with heads := t.heads }) (x : Nat) (w : String) :
    t.headEvent x w = { s with heads := (t.headEvent x w).heads, sess := (t.headEvent x w).sess } := by
  have hheads : (t.headEvent x w).heads = t.heads := by rw [State.headEvent_eq]
  rw [hheads]
  calc t.headEvent x w
    _ = { t with sess := (t.headEvent x w).sess } := t.headEvent_eq x w
    _ = { s with heads := t.heads, sess := (t.headEvent x w).sess } :=
      congrArg (fun u : State => { u with sess := (t.headEvent x w).sess }) h

/-- It is told alike whatever the heads are. -/
theorem State.headEvent_told_of_heads {s t : State} (h : t = { s with heads := t.heads }) (x : Nat) (w : String) :
    (t.headEvent x w).told s .keep "head" (headWord x) [.word w] := by
  rw [h]
  exact emit_told (t := { s with heads := t.heads }) (s := s) rfl rfl rfl rfl _ _ _ _

/-- A head has gone, and its own fields have changed: no other head has, and its objects have closed where it was ACTIVE. -/
theorem State.headGone_modHead (s : State) (x : Nat) (f : Head → Head) {t : State} (ht : t = (s.headGone x).modHead x f) :
    t.getHead x = f ((s.headGone x).getHead x) ∧ (∀ q, q ≠ x → t.getHead q = s.getHead q) ∧
    ((s.getHead x).state = .active → ∀ o, o ∈ t.track.opened ↔ o ∈ s.track.opened ∧ o.head ≠ x) ∧
    ((s.getHead x).state ≠ .active → (s.getHead x).state ≠ .ready ∨ s.lantern.calib = none → t = { s with heads := t.heads }) := by
  subst ht
  refine ⟨State.getHead_modHead_self _ _ _, fun q hq => ?_, fun h => State.headGone_opened h, fun ha hr => ?_⟩
  · rw [State.getHead_modHead_other _ _ hq, s.headGone_getHead x hq]
  · rw [State.headGone_of_idle ha hr]
    rfl

theorem exec_hpresHigh (x : Nat) (s : State) :
    ∃ t, exec (.hpresHigh x) s = .next t ∧ (t.getHead x).present = false ∧ (t.getHead x).state = .absent ∧
      (t.getHead x).v5 = 0 ∧ (t.getHead x).v12 = false ∧ (t.getHead x).ident = none ∧
      (∀ q, q ≠ x → t.getHead q = s.getHead q) ∧
      ((s.getHead x).state = .active → ∀ o, o ∈ t.track.opened ↔ o ∈ s.track.opened ∧ o.head ≠ x) ∧
      ((s.getHead x).state ≠ .active → (s.getHead x).state ≠ .ready ∨ s.lantern.calib = none →
        t = { s with heads := t.heads, sess := t.sess } ∧ (s.sorting = true → t.told s .keep "head" (headWord x) [.word "absent"]) ∧
        (s.sorting = false → t.sess = s.sess)) := by
  obtain ⟨u, hu⟩ : ∃ u, u = (s.headGone x).modHead x fun h =>
      { h with present := false, state := .absent, v5 := 0, v12 := false, ident := none, tries := 0 } := ⟨_, rfl⟩
  have hexec : exec (.hpresHigh x) s = .next (if s.sorting then u.headEvent x "absent" else u) := by rw [hu]; rfl
  obtain ⟨hself, hother, hopened, hidle⟩ := State.headGone_modHead s x _ hu
  rw [hexec]
  by_cases hs : s.sorting = true
  · rw [if_pos hs]
    refine ⟨u.headEvent x "absent", rfl, ?_⟩
    simp only [State.headEvent_getHead, State.headEvent_track, hself, true_and]
    exact ⟨hother, hopened, fun ha hr => ⟨State.headEvent_of_heads (hidle ha hr) x _,
      fun _ => State.headEvent_told_of_heads (hidle ha hr) x _, fun h => absurd hs (by simp [h])⟩⟩
  · rw [if_neg hs]
    refine ⟨u, rfl, ?_⟩
    simp only [hself, true_and]
    exact ⟨hother, hopened, fun ha hr => by
      refine ⟨?_, fun h => absurd h hs, fun _ => ?_⟩ <;> rw [hidle ha hr]⟩

theorem exec_headSupplyOverload_of_on {x : Nat} {s : State} (h : (s.getHead x).v5 ≠ 0) :
    ∃ t, exec (.headSupplyOverload x) s = .next t ∧ (t.getHead x).state = .supply ∧ (t.getHead x).v5 = 0 ∧
      (t.getHead x).v12 = false ∧ (∀ q, q ≠ x → t.getHead q = s.getHead q) ∧
      ((s.getHead x).state ≠ .active → (s.getHead x).state ≠ .ready ∨ s.lantern.calib = none →
        t = { s with heads := t.heads, sess := t.sess } ∧ t.told s .keep "head" (headWord x) [.word "supply"]) := by
  obtain ⟨u, hu⟩ : ∃ u, u = (s.headGone x).modHead x fun h => { h with state := .supply, v5 := 0, v12 := false } := ⟨_, rfl⟩
  obtain ⟨hself, hother, -, hidle⟩ := State.headGone_modHead s x _ hu
  refine ⟨u.headEvent x "supply", ?_, ?_⟩
  · rw [hu]
    exact congrArg Host.Outcome.next (if_neg h)
  · simp only [State.headEvent_getHead, hself, true_and]
    exact ⟨hother, fun ha hr =>
      ⟨State.headEvent_of_heads (hidle ha hr) x _, State.headEvent_told_of_heads (hidle ha hr) x _⟩⟩

theorem exec_headSupplyOverload_of_off {x : Nat} {s : State} (h : (s.getHead x).v5 = 0) :
    exec (.headSupplyOverload x) s = .next s := congrArg Host.Outcome.next (if_pos h)

/-! ## Identity -/

theorem exec_headIdentityRead_of_early {x : Nat} {s : State} (a b : List Byte)
    (h : (s.getHead x).state ≠ .ident ∨ s.headsRead = false ∨ s.sys.tick < (s.getHead x).due) :
    exec (.headIdentityRead x a b) s = .next s := congrArg Host.Outcome.next (if_pos h)

/-- A head's identity has been accepted: it has its supplies (R33, R339). -/
def Head.accept (h : Head) (st : HeadState) (i : Ident) : Head := { h with state := st, v5 := 360, v12 := i.needs12, ident := some i }

section
variable {x : Nat} {a b : List Byte} {s : State} (hstate : (s.getHead x).state = .ident) (hread : s.headsRead = true)
  (hdue : (s.getHead x).due ≤ s.sys.tick)
include hstate hread hdue

/-- The read is due. -/
theorem headIdentity_due : ¬ ((s.getHead x).state ≠ .ident ∨ s.headsRead = false ∨ s.now < (s.getHead x).due) := by
  rintro (h | h | h)
  · exact h hstate
  · simp [hread] at h
  · exact Nat.not_lt.2 hdue h

theorem exec_headIdentityRead_of_good (hgood : identGood a = true)
    (hmode : (if s.int .headSample x = 0 then (identOf a).cds else (identOf a).sh) = true) :
    exec (.headIdentityRead x a a) s = .next (
      if s.textOf ⟨.headExpectType, x, 0⟩ = [] ∨ s.textOf ⟨.headExpectType, x, 0⟩ = (identOf a).type then
        s.modHead x fun h => h.accept .ready (identOf a)
      else (s.modHead x fun h => h.accept .mismatch (identOf a)).headEvent x "mismatch") := by
  show execHeadIdentityRead x a a s = _
  simp only [execHeadIdentityRead, if_neg (headIdentity_due hstate hread hdue), if_pos (And.intro trivial (And.intro hgood hmode))]
  by_cases hok : s.textOf ⟨.headExpectType, x, 0⟩ = [] ∨ s.textOf ⟨.headExpectType, x, 0⟩ = (identOf a).type
  · have hbool : (decide (s.textOf ⟨.headExpectType, x, 0⟩ = []) || decide (s.textOf ⟨.headExpectType, x, 0⟩ = (identOf a).type)) = true := by
      simpa using hok
    simp only [hbool, if_pos hok, if_true]
    rfl
  · have hbool : (decide (s.textOf ⟨.headExpectType, x, 0⟩ = []) || decide (s.textOf ⟨.headExpectType, x, 0⟩ = (identOf a).type)) = false := by
      simpa using hok
    simp only [hbool, if_neg hok, Bool.false_eq_true, if_false]
    rfl

/-- A read that differs from its repetition, or that is no good one, is tried again, up to three times (R338). -/
theorem exec_headIdentityRead_of_bad (hbad : a ≠ b ∨ identGood a = false) :
    exec (.headIdentityRead x a b) s = .next (
      if (s.getHead x).tries < 3 then
        s.modHead x fun h => { h with tries := h.tries + 1, due := s.sys.tick + 10 * msTicks }
      else (s.modHead x fun h => { h with state := .badid, v5 := 0, v12 := false }).headEvent x "id-bad") := by
  show execHeadIdentityRead x a b s = _
  have hno : ∀ p : Prop, ¬ (a = b ∧ identGood a = true ∧ p) := by
    rintro p ⟨hab, hgood, -⟩
    rcases hbad with h | h
    · exact h hab
    · simp [h] at hgood
  simp only [execHeadIdentityRead, if_neg (headIdentity_due hstate hread hdue), if_neg (hno _)]
  rfl

end

/-- What a change of one head and an event of it leave alone. -/
theorem State.modHead_headEvent (s : State) (x : Nat) (f : Head → Head) (w : String) :
    (s.modHead x f).headEvent x w =
      { s with heads := ((s.modHead x f).headEvent x w).heads, sess := ((s.modHead x f).headEvent x w).sess } ∧
    ((s.modHead x f).headEvent x w).getHead x = f (s.getHead x) ∧
    ((s.modHead x f).headEvent x w).told s .keep "head" (headWord x) [.word w] :=
  ⟨State.headEvent_of_heads rfl x w, by rw [State.headEvent_getHead, State.getHead_modHead_self],
    State.headEvent_told_of_heads rfl x w⟩

/-- Settles O47: a head that is plugged in or read by the commands' own lemmas, and one that goes by what its going closes. -/
theorem headsComeAndGo : Obligations.HeadsComeAndGo := by
  unfold Obligations.HeadsComeAndGo
  refine ⟨fun x s => exec_hpresLow_of_powered, fun x s => exec_hpresLow_of_unpowered,
    fun x a b s => exec_headIdentityRead_of_early a b, fun x bs s hstate hread hdue hgood hmode => ?_,
    fun x a b s hstate hread hdue hbad => ?_, exec_hpresHigh, fun x s => exec_headSupplyOverload_of_on,
    fun x s => exec_headSupplyOverload_of_off⟩
  · rw [exec_headIdentityRead_of_good hstate hread hdue hgood hmode]
    refine ⟨fun hok => ?_, fun hsome hother => ?_⟩
    · rw [if_pos hok]
      exact ⟨_, rfl, rfl, State.getHead_modHead_self _ _ _, fun q hq => State.getHead_modHead_other _ _ hq⟩
    · rw [if_neg (not_or.2 ⟨hsome, hother⟩)]
      exact ⟨_, rfl, State.modHead_headEvent s x _ "mismatch"⟩
  · rw [exec_headIdentityRead_of_bad hstate hread hdue hbad]
    refine ⟨fun htries => ?_, fun htries => ?_⟩
    · rw [if_pos htries]
      exact ⟨_, rfl, rfl, State.getHead_modHead_self _ _ _⟩
    · rw [if_neg (Nat.not_lt.2 htries)]
      exact ⟨_, rfl, State.modHead_headEvent s x _ "id-bad"⟩

end Sys2Proof.Machine
end

section
/-! Characters on the chain: what the samples of a character spell (R195–R197, R219), what of it joins the line and the forwarded stream
(R203–R208, R224), and a break (R219). -/

namespace Sys2Proof.Machine

/-! ## What samples spell -/

/-- The low bits of a number, read back as a number. -/
theorem bitsNat_testBit (n x : Nat) : bitsNat ((List.range n).map fun i => x.testBit i) = x % 2 ^ n := by
  induction n generalizing x with
  | zero => simp [bitsNat, Nat.mod_one]
  | succ n ih =>
    have hshift : (List.range n).map ((fun i => x.testBit i) ∘ Nat.succ) = (List.range n).map fun i => (x / 2).testBit i :=
      List.map_congr_left fun i _ => Nat.testBit_succ x i
    have hbit : (if x.testBit 0 then 1 else 0) = x % 2 := by
      rw [Nat.testBit_zero]
      split <;> simp_all
    rw [List.range_succ_eq_map, List.map_cons, List.map_map, hshift, bitsNat, ih, hbit, Nat.pow_succ', Nat.mod_mul]

/-- Space in every bit spells 0. -/
theorem bitsNat_eq_zero {bs : List Bool} (h : ∀ b ∈ bs, b = false) : bitsNat bs = 0 := by
  induction bs with
  | nil => rfl
  | cons b bs ih =>
    rw [bitsNat, h b (by simp), ih fun c hc => h c (by simp [hc])]
    rfl

/-- A character of eight data bits, no parity and one stop bit, whose bits read as a start bit, its data and a stop bit, is its data; what
it is tagged with is noise, where the samples of a bit disagree (R197). -/
theorem Fmt.init_decode {bits : List RxBit} {dat : List Bool} (hdat : dat.length = 8)
    (hv : bits.map (·.value) = false :: dat ++ [true]) :
    Fmt.init.decode bits = (BitVec.ofNat 8 (bitsNat dat), { noise := bits.any (·.split) }) := by
  have hlen : bits.length = 10 := by
    have := congrArg List.length hv
    simpa [hdat] using this
  have hframe : Fmt.init.frame bits = bits := by
    simp [Fmt.frame, Fmt.bits, Fmt.init, hlen]
  simp only [Fmt.decode, hframe, hv]
  simp [Fmt.init, hdat]

theorem Fmt.init_decode_byte (c : Byte) {bits : List RxBit}
    (hv : bits.map (·.value) = false :: ((List.range 8).map fun i => c.toNat.testBit i) ++ [true]) :
    Fmt.init.decode bits = (c, { noise := bits.any (·.split) }) := by
  rw [Fmt.init_decode (by simp) hv, bitsNat_testBit]
  congr 1
  rw [Nat.mod_eq_of_lt c.isLt, BitVec.ofNat_toNat, BitVec.setWidth_eq]

/-- Two samples of three outvote the third. -/
theorem RxBit.value_outvotes (v x : Bool) : (RxBit.mk v x v).value = v := by
  cases v <;> cases x <;> rfl

/-- A character whose samples agree is read as it was sent. -/
theorem Fmt.init_decode_clean (c : Byte) :
    Fmt.init.decode ((false :: ((List.range 8).map fun i => c.toNat.testBit i) ++ [true]).map fun v => ⟨v, v, v⟩) = (c, {}) := by
  generalize hL : (false :: ((List.range 8).map fun i => c.toNat.testBit i) ++ [true] : List Bool) = L
  have hv : (L.map fun v => RxBit.mk v v v).map (·.value) = L := by
    rw [List.map_map]
    exact List.map_id'' (fun v => RxBit.value_outvotes v v) L
  have hsplit : (L.map fun v => RxBit.mk v v v).any (·.split) = false := by
    simp [RxBit.split]
  rw [Fmt.init_decode_byte c (hv.trans hL.symm), hsplit]

/-- One sample that disagrees leaves a bit as it was sent, and tags the character. -/
theorem Fmt.init_decode_noisy (c : Byte) {i : Nat} (hi : i < 8) :
    Fmt.init.decode ((false :: ((List.range 8).map fun i => c.toNat.testBit i) ++ [true]).zipIdx.map fun v =>
      ⟨v.1, decide (v.2 = i + 1) != v.1, v.1⟩) = (c, { noise := true }) := by
  have hlen : (false :: ((List.range 8).map fun i => c.toNat.testBit i) ++ [true] : List Bool).length = 10 := by simp
  generalize hL : (false :: ((List.range 8).map fun i => c.toNat.testBit i) ++ [true] : List Bool) = L at hlen ⊢
  have hv : (L.zipIdx.map fun v => RxBit.mk v.1 (decide (v.2 = i + 1) != v.1) v.1).map (·.value) = L := by
    rw [List.map_map]
    exact (List.map_congr_left fun v _ => RxBit.value_outvotes _ _).trans (List.zipIdx_map_fst 0 L)
  have hsplit : (L.zipIdx.map fun v => RxBit.mk v.1 (decide (v.2 = i + 1) != v.1) v.1).any (·.split) = true := by
    rw [List.any_map, List.any_eq_true]
    have hb : i + 1 < L.length := by omega
    refine ⟨(L[i + 1], i + 1), List.mk_mem_zipIdx_iff_getElem?.2 (List.getElem?_eq_getElem hb), ?_⟩
    cases L[i + 1] <;> simp [RxBit.split]
  rw [Fmt.init_decode_byte c (hv.trans hL.symm), hsplit]

/-! ## What a command of the ports changes -/

/-- Nothing but the serial ports differs between two states. -/
def State.serialOnly (t s : State) : Prop := t = { s with serial := t.serial }

theorem State.onSerial_serialOnly (s : State) (f : Serial → Serial) : (s.onSerial f).serialOnly s := rfl

theorem State.serialOnly.trans {r t s : State} (hr : r.serialOnly t) (ht : t.serialOnly s) : r.serialOnly s := by
  unfold State.serialOnly at hr ht ⊢
  rw [ht] at hr
  exact hr

/-! ## The forwarded stream -/

/-- What joins the stream comes after all that is sent and waits there (R203, R208). -/
theorem Serial.forward_stream {p : Serial} (h : p.takes 1) (now : Tick) (x : Option Byte) :
    (p.forward now x).stream = p.stream ++ [x] := by
  obtain ⟨hrep, hroom⟩ := h
  have hroom' : ¬ maxBacklog ≤ (charsIn p.backlog).length := by omega
  simp only [Serial.forward, hrep, Bool.false_eq_true, if_false, if_neg hroom']
  by_cases hnow : p.backlog = [] ∧ p.txFree ≤ now
  · simp [hnow, Serial.stream]
  · rw [if_neg hnow]
    by_cases hown : now < p.txFree
    · simp [hown, Serial.stream]
    · simp only [if_neg hown, Serial.stream, List.append_assoc, List.take_append_drop]

/-- Joining the stream changes nothing of the port but the stream and its times. -/
@[simp] theorem Serial.forward_keeps (p : Serial) (now : Tick) (x : Option Byte) :
    (p.forward now x).fmt = p.fmt ∧ (p.forward now x).line = p.line ∧ (p.forward now x).brk = p.brk ∧
    (p.forward now x).repeating = p.repeating ∧ (p.forward now x).damaged = p.damaged := by
  unfold Serial.forward
  dsimp only
  (repeat' split) <;> exact ⟨rfl, rfl, rfl, rfl, rfl⟩

/-- With the pair idle all that waits has been sent, and an idle line ends it (R207, R209). -/
theorem Serial.drain_stream (p : Serial) (now : Tick) :
    (p.drain now).backlog = [] ∧
    (p.drain now).sent = if p.stream.getLast? = some none then p.stream else p.stream ++ [none] := by
  simp only [Serial.drain]
  split <;> exact ⟨rfl, rfl⟩

@[simp] theorem Serial.drain_keeps (p : Serial) (now : Tick) :
    (p.drain now).fmt = p.fmt ∧ (p.drain now).line = p.line ∧ (p.drain now).brk = p.brk ∧
    (p.drain now).brkTold = p.brkTold := by
  simp only [Serial.drain]
  split <;> exact ⟨rfl, rfl, rfl, rfl⟩

/-! ## A character joins its line -/

/-- The line that a character joins: the one being received, or a new one. -/
def State.oldLine (s : State) : LineBuf := if s.serial.line.count = 0 then {} else s.serial.line

/-- Whether the character finds the FIFO full (R200, R201). -/
def State.fifoDrops (s : State) : Bool :=
  s.islandDown && decide (s.oldLine.fate ≠ .forward) && decide (fifoSize ≤ s.serial.stored) && !s.oldLine.overrun

/-- The line with the character. -/
def State.newLine (s : State) (e : RxEntry) : LineBuf := s.oldLine.take s.tower.addr e s.fifoDrops

/-- What a character within a line does to the port: the stream goes on as the line's fate requires (R204–R206). -/
theorem State.chainChar_eq (s : State) (e : RxEntry) :
    s.chainChar e = s.onSerial fun p =>
      let q := if (s.newLine e).fate.forwards then p.forward s.now (some e.byte)
        else if (s.newLine e).fate = .withhold ∧ s.oldLine.fate ≠ .withhold then p.forward s.now none else p
      { q with line := s.newLine e, taken := if p.line.count = 0 then 0 else p.taken, lastCr := false,
               overruns := if s.fifoDrops then satInc q.overruns else q.overruns } := rfl

/-- Whatever becomes of a character, the port's format and its repeating stay. -/
@[simp] theorem State.chainChar_keeps (s : State) (e : RxEntry) :
    (s.chainChar e).serial.fmt = s.serial.fmt ∧ (s.chainChar e).serial.repeating = s.serial.repeating ∧
    (s.chainChar e).serial.line = s.newLine e := by
  rw [State.chainChar_eq]
  simp only [State.onSerial_serial]
  (repeat' split) <;> simp

/-- A character of a line that is forwarded, or not yet decided, joins the stream. -/
theorem State.chainChar_forwards {s : State} {e : RxEntry} (hroom : s.serial.takes 1) (h : (s.newLine e).fate.forwards = true) :
    (s.chainChar e).serial.stream = s.serial.stream ++ [some e.byte] ∧ (s.chainChar e).serial.line = s.newLine e ∧
    (s.chainChar e).serial.damaged = s.serial.damaged := by
  rw [State.chainChar_eq]
  simp only [h, if_true, State.onSerial_serial, Serial.forward_keeps]
  exact ⟨Serial.forward_stream hroom s.now _, trivial, trivial⟩

/-- A character of a line that this module alone takes stays here. -/
theorem State.chainChar_stays {s : State} {e : RxEntry} (h : (s.newLine e).fate.forwards = false)
    (hold : (s.newLine e).fate = .withhold → s.oldLine.fate = .withhold) :
    (s.chainChar e).serial.sent = s.serial.sent ∧ (s.chainChar e).serial.backlog = s.serial.backlog ∧
    (s.chainChar e).serial.line = s.newLine e := by
  have hno : ¬ ((s.newLine e).fate = .withhold ∧ s.oldLine.fate ≠ .withhold) := fun hc => hc.2 (hold hc.1)
  rw [State.chainChar_eq]
  simp only [h, Bool.false_eq_true, if_false, State.onSerial_serial, if_neg hno, and_self]

/-- The line shows that it is for this module: silence takes its place in the stream. -/
theorem State.chainChar_withholds {s : State} {e : RxEntry} (hroom : s.serial.takes 1) (h : (s.newLine e).fate = .withhold)
    (hold : s.oldLine.fate ≠ .withhold) :
    (s.chainChar e).serial.stream = s.serial.stream ++ [none] ∧ (s.chainChar e).serial.line = s.newLine e := by
  rw [State.chainChar_eq]
  simp only [h, Fate.forwards, Bool.false_eq_true, if_false, State.onSerial_serial, if_pos (And.intro trivial hold)]
  exact ⟨Serial.forward_stream hroom s.now _, trivial⟩

/-! ## The fate of a line (R156, R204, R206) -/

/-- A line's fate is settled by its third character. -/
theorem LineBuf.fateNow_of_long (b : LineBuf) (own : Nat) (h : 3 < b.count) : b.fateNow own = b.fate := by
  obtain ⟨n, hn⟩ : ∃ n, b.count = n + 4 := ⟨b.count - 4, by omega⟩
  simp only [LineBuf.fateNow, hn]

theorem State.oldLine_of_count {s : State} (h : s.serial.line.count ≠ 0) : s.oldLine = s.serial.line := if_neg h

theorem State.oldLine_of_empty {s : State} (h : s.serial.line.count = 0) : s.oldLine = {} := if_pos h

/-- From its fourth character on a line keeps its fate. -/
theorem State.newLine_of_long {s : State} (e : RxEntry) (h : 3 ≤ s.serial.line.count) :
    (s.newLine e).count = s.serial.line.count + 1 ∧ (s.newLine e).fate = s.serial.line.fate := by
  rw [State.newLine, State.oldLine_of_count (by omega)]
  exact ⟨rfl, LineBuf.fateNow_of_long _ _ (Nat.lt_succ_of_le h)⟩

/-- The FIFO takes a character while the command island serves it. -/
theorem State.fifoDrops_of_up {s : State} (h : s.islandDown = false) : s.fifoDrops = false := by
  simp [State.fifoDrops, h]

/-- A character that the FIFO takes is stored, up to 200 of a line (R187, R200). -/
theorem State.newLine_chars {s : State} (e : RxEntry) (hisl : s.islandDown = false) (hover : s.oldLine.overrun = false)
    (hlen : s.oldLine.count < 200) : (s.newLine e).chars = s.oldLine.chars ++ [e.byte] := by
  have hlen' : ¬ 200 < s.oldLine.count + 1 := by omega
  simp [State.newLine, LineBuf.take, LineBuf.push, LineBuf.chars, State.fifoDrops_of_up hisl, hover, hlen']

/-- A line that begins with neither an address nor a bad character is this module's. -/
theorem State.newLine_first {s : State} {e : RxEntry} (h : s.serial.line.count = 0) (hbad : e.byte ≠ 0x1A) (hat : e.byte ≠ 0x40) :
    (s.newLine e).fate = .execute := by
  rw [State.newLine, State.oldLine_of_empty h]
  show (if [e.byte] = [0x1A] then Fate.forward else if [e.byte] = [0x40] then .undecided else .execute) = .execute
  rw [if_neg fun hc => hbad (List.head_eq_of_cons_eq hc), if_neg fun hc => hat (List.head_eq_of_cons_eq hc)]

/-- A line that begins with a bad character is another's. -/
theorem State.newLine_first_bad {s : State} {e : RxEntry} (h : s.serial.line.count = 0) (hbad : e.byte = 0x1A) :
    (s.newLine e).fate = .forward := by
  rw [State.newLine, State.oldLine_of_empty h]
  simp [LineBuf.take, LineBuf.push, LineBuf.fateNow, hbad]

/-- A line whose first three characters are this module's address is withheld from there. -/
theorem State.newLine_address {s : State} {e : RxEntry} (hcount : s.serial.line.count = 2) (hfate : s.serial.line.fate = .undecided)
    (haddr : s.tower.addr ≠ 0) (hhead : s.serial.line.head ++ [e.byte] = addrBytes s.tower.addr) :
    (s.newLine e).fate = .withhold := by
  rw [State.newLine, State.oldLine_of_count (by omega)]
  simp [LineBuf.take, LineBuf.push, LineBuf.fateNow, hcount, hfate, haddr, hhead]

/-! ## What the port receives -/

/-- A bad character is one with a tag, or 0x1A. -/
theorem RxEntry.byte_eq (c : Byte) (g : CharTags) :
    RxEntry.byte { c := c, tags := g } = if g.any ∨ c = 0x1A then 0x1A else c := by
  simp [RxEntry.byte, RxEntry.bad, CharTags.any]

/-- The port is neither off, asleep nor undriven (R47). -/
def State.chainAwake (s : State) : Prop :=
  s.sys.state ≠ .off ∧ s.sys.state ≠ .watch ∧ s.pwr.logicOn = true ∧ s.pwr.csin = true

/-- The port with a character on it, before the character joins a line. -/
def State.heardChar (s : State) (g : CharTags) : State :=
  s.onSerial fun p =>
    { p with brk := none, lastRx := some s.now, damaged := if g.any then satInc p.damaged else p.damaged }

/-- Samples that spell a character are received as one. -/
theorem State.chainWave_reads {s : State} {bits : List RxBit} {mark : Nat} {c : Byte} {g : CharTags} (h : s.reads bits mark c g = true) :
    s.chainWave bits mark = (s.onSerial fun p => { p with brk := none }).chainReceive { c := c, tags := g } := by
  simp only [State.reads, Bool.and_eq_true, Bool.not_eq_true', decide_eq_true_eq, Bool.and_eq_false_imp] at h
  obtain ⟨⟨⟨hd, hbreak⟩, hstart⟩, hheld⟩ := h
  have hno : ¬ ((s.serial.brk.isSome = true ∧ mark * s.serial.fmt.baud < secTicks) ∨
      ((s.serial.fmt.frame bits).headD ⟨false, false, false⟩).value = true) := by
    rintro (⟨hsome, hlt⟩ | hv)
    · simpa [hlt] using hheld hsome
    · exact absurd hv (by rw [hstart]; exact Bool.false_ne_true)
  rw [State.chainWave]
  simp only [if_neg hno, hbreak, Bool.false_eq_true, false_and, if_false, hd]

/-- Nothing is received in OFF, with the logic off, or while the pair is undriven (R47). -/
theorem State.chainReceive_of_deaf {s : State} (e : RxEntry) (h : s.sys.state = .off ∨ s.pwr.logicOn = false ∨ s.pwr.csin = false) :
    s.chainReceive e = s := if_pos h

/-- A character that a module with its port awake receives ends a line or joins one. -/
theorem State.chainReceive_awake {s : State} (h : s.chainAwake) (hrep : s.serial.repeating = false) (c : Byte) (g : CharTags) :
    (s.onSerial fun p => { p with brk := none }).chainReceive { c := c, tags := g } =
      if g.any = false ∧ (c = 13 ∨ c = 10) then (s.heardChar g).chainEnd { c := c, tags := g }
      else (s.heardChar g).chainChar { c := c, tags := g } := by
  obtain ⟨hoff, hwatch, hon, hcsin⟩ := h
  have hdeaf : ¬ (s.sys.state = .off ∨ s.pwr.logicOn = false ∨ s.pwr.csin = false) := by simp [hoff, hon, hcsin]
  have hasleep : ¬ (s.sys.state = .watch ∧ s.collects = false) := fun hc => hwatch hc.1
  have hcoll : ∀ f : Serial → Serial, (s.onSerial f).collects = s.collects := fun _ => rfl
  have hhurt : (g.noise || g.framing || g.parity) = g.any := rfl
  simp only [State.chainReceive, State.onSerial_sys, State.onSerial_pwr, State.onSerial_serial, if_neg hdeaf, hrep, hcoll, if_neg hasleep,
    Bool.false_eq_true, if_false, hhurt, State.heardChar]
  cases g.any <;> rfl

/-- The port once a character has joined its line. -/
def State.hearsChar (s : State) (c : Byte) (g : CharTags) : State := (s.heardChar g).chainChar { c := c, tags := g }

/-- A character within a line, received by a module with its port awake, joins that line. -/
theorem exec_char_of_awake {s : State} {bits : List RxBit} {m : Nat} {c : Byte} {g : CharTags} (h : s.reads bits m c g = true)
    (hawake : s.chainAwake) (hrep : s.serial.repeating = false) (hc : g.any = true ∨ (c ≠ 13 ∧ c ≠ 10)) :
    exec (.characterReceived .chain (.chain bits) m) s = .next (s.hearsChar c g) := by
  show Host.Outcome.next (s.chainWave bits m) = _
  have hin : ¬ (g.any = false ∧ (c = 13 ∨ c = 10)) := by
    rintro ⟨hg, rfl | rfl⟩ <;> simp [hg] at hc
  rw [State.chainWave_reads h, State.chainReceive_awake hawake hrep, if_neg hin]
  rfl

/-- While it repeats in WATCH the port sends on what it receives (R224). -/
theorem State.chainReceive_repeats {s : State} (hw : s.sys.state = .watch) (hon : s.pwr.logicOn = true) (hcsin : s.pwr.csin = true)
    (hcoll : s.collects = false) (hrep : s.serial.repeating = true) (c : Byte) (g : CharTags) :
    (s.onSerial fun p => { p with brk := none }).chainReceive { c := c, tags := g } =
      s.onSerial fun p => { p with sent := p.sent ++ [some c], brk := none, lastRx := some s.now, charEnd := s.now } := by
  have hdeaf : ¬ (s.sys.state = .off ∨ s.pwr.logicOn = false ∨ s.pwr.csin = false) := by simp [hw, hon, hcsin]
  have hcoll' : ∀ f : Serial → Serial, (s.onSerial f).collects = false := fun _ => hcoll
  simp only [State.chainReceive, State.onSerial_sys, State.onSerial_pwr, State.onSerial_serial, if_neg hdeaf, hrep, hcoll', if_true,
    if_pos (And.intro hw trivial)]
  rfl

/-! ## A break (R219) -/

/-- The bits of a break spell 0. -/
theorem Fmt.decode_of_break {f : Fmt} {bits : List RxBit} (h : f.isBreak bits = true) : (f.decode bits).1 = 0 := by
  have hspace : ∀ b ∈ ((f.frame bits).map (·.value)), b = false := by
    intro b hb
    obtain ⟨r, hr, rfl⟩ := List.mem_map.1 hb
    simpa using List.all_eq_true.1 h r hr
  have hdat : bitsNat (((((f.frame bits).map (·.value)).drop 1).take f.data)) = 0 :=
    bitsNat_eq_zero fun b hb => hspace b (List.mem_of_mem_drop (List.mem_of_mem_take hb))
  simp only [Fmt.decode, hdat]
  rfl

/-- A break is one character within a line, and then an idle line. -/
theorem exec_break_of_awake {s : State} {bits : List RxBit} (m : Nat) (h : s.serial.fmt.isBreak bits = true) (hbrk : s.serial.brk = none)
    (hsome : (s.serial.fmt.frame bits).head? ≠ none) (hawake : s.chainAwake) :
    exec (.characterReceived .chain (.chain bits) m) s =
      .next ((s.onSerial fun p => { p with brk := none }).chainBroken { c := 0, tags := (s.serial.fmt.decode bits).2 }) := by
  show Host.Outcome.next (s.chainWave bits m) = _
  obtain ⟨hoff, hwatch, hon, hcsin⟩ := hawake
  have hno : ¬ ((s.serial.brk.isSome = true ∧ m * s.serial.fmt.baud < secTicks) ∨
      ((s.serial.fmt.frame bits).headD ⟨false, false, false⟩).value = true) := by
    rintro (⟨hb, -⟩ | hv)
    · simp [hbrk] at hb
    · obtain ⟨b, hb⟩ := Option.ne_none_iff_exists'.1 hsome
      have hspace : b.value = false := by simpa using List.all_eq_true.1 h b (List.mem_of_head? hb)
      simp [List.headD_eq_head?_getD, hb, hspace] at hv
  have hbreak : s.serial.fmt.isBreak bits = true ∧ s.sys.state ≠ .off ∧ (s.sys.state ≠ .watch ∨ s.collects = true) ∧
      s.pwr.logicOn = true ∧ s.pwr.csin = true := ⟨h, hoff, .inl hwatch, hon, hcsin⟩
  simp only [State.chainWave, if_neg hno, if_pos hbreak, Fmt.decode_of_break h]

/-- An idle line on a line that has not ended and has lost nothing: the line goes, and the stream has been sent (R202, R207). -/
theorem State.chainIdle_of_whole {s : State} (hw : s.sys.state ≠ .watch) (hlong : s.serial.line.tooLong = false)
    (hover : s.serial.line.overrun = false) :
    s.chainIdle = s.onSerial fun p => { ({ p with line := {}, taken := 0, lastCr := false } : Serial).drain s.now with repeating := false } := by
  simp only [State.chainIdle, hlong, hover, Bool.false_eq_true, or_self, if_false, if_neg hw]

/-- What has been sent once the pair is idle: the stream, ended by an idle line. -/
theorem State.chainIdle_sent {s : State} (hw : s.sys.state ≠ .watch) (hlong : s.serial.line.tooLong = false)
    (hover : s.serial.line.overrun = false) :
    s.chainIdle.serial.line = {} ∧ s.chainIdle.serial.backlog = [] ∧ s.chainIdle.serial.repeating = false ∧
    s.chainIdle.serial.fmt = s.serial.fmt ∧
    s.chainIdle.serial.sent =
      if s.serial.stream.getLast? = some none then s.serial.stream else s.serial.stream ++ [none] := by
  rw [State.chainIdle_of_whole hw hlong hover]
  simp only [State.onSerial_serial, Serial.drain_keeps, Serial.drain_stream]
  exact ⟨trivial, trivial, trivial, trivial, trivial⟩

/-- The character of a break joins the stream as 0x1A, whatever becomes of its line (R219). -/
def State.breakStub (s : State) (g : CharTags) : State :=
  let t := (s.heardChar g).chainChar { c := 0, tags := g }
  if t.serial.line.fate.forwards then t else t.onSerial fun p => p.forward s.now (some 0x1A)

theorem State.breakStub_stream {s : State} (hroom : s.serial.takes 1) (hline : s.serial.line = {}) (g : CharTags) :
    (s.breakStub g).serial.stream = s.serial.stream ++ [some 0x1A] ∧ (s.breakStub g).serial.fmt = s.serial.fmt ∧
    (s.breakStub g).serial.line = (s.heardChar g).newLine { c := 0, tags := g } := by
  have hempty : (s.heardChar g).serial.line.count = 0 := by simp [State.heardChar, hline]
  by_cases hbad : g.any = true
  · have hbyte : RxEntry.byte { c := 0, tags := g } = 0x1A := by simp [RxEntry.byte_eq, hbad]
    have hfwd : ((s.heardChar g).newLine { c := 0, tags := g }).fate.forwards = true := by
      rw [State.newLine_first_bad hempty hbyte]; rfl
    obtain ⟨hstream, hl, -⟩ := State.chainChar_forwards (s := s.heardChar g) hroom hfwd
    rw [State.breakStub, if_pos (by rw [hl]; exact hfwd), hstream, hbyte]
    exact ⟨rfl, (State.chainChar_keeps _ _).1, hl⟩
  · have hbyte : RxEntry.byte { c := 0, tags := g } = 0 := by simp [RxEntry.byte_eq, hbad]
    have hexec : ((s.heardChar g).newLine { c := 0, tags := g }).fate = .execute :=
      State.newLine_first hempty (by rw [hbyte]; decide) (by rw [hbyte]; decide)
    obtain ⟨hsent, hback, hl⟩ := State.chainChar_stays (s := s.heardChar g) (e := { c := 0, tags := g }) (by rw [hexec]; rfl)
      (fun hc => by rw [hexec] at hc; cases hc)
    obtain ⟨hfmt, hrep, -⟩ := State.chainChar_keeps (s.heardChar g) { c := 0, tags := g }
    have hroom' : ((s.heardChar g).chainChar { c := 0, tags := g }).serial.takes 1 := by
      refine ⟨hrep.trans hroom.1, ?_⟩
      rw [hback]
      exact hroom.2
    rw [State.breakStub, if_neg (by rw [hl, hexec]; exact Bool.false_ne_true)]
    refine ⟨?_, ?_, ?_⟩
    · rw [State.onSerial_serial, Serial.forward_stream hroom', Serial.stream, hsent, hback]
      rfl
    · rw [State.onSerial_serial, (Serial.forward_keeps _ _ _).1, hfmt]
      rfl
    · rw [State.onSerial_serial, (Serial.forward_keeps _ _ _).2.1, hl]

/-- A break is forwarded as one 0x1A and an idle line, and begins to be held. -/
theorem State.chainBroken_awake {s : State} (hawake : s.chainAwake) (hroom : s.serial.takes 2) (hline : s.serial.line = {})
    (hisl : s.islandDown = false) (g : CharTags) {t : State}
    (ht : t = (s.onSerial fun p => { p with brk := none }).chainBroken { c := 0, tags := g }) :
    t = { s with serial := t.serial } ∧ t.serial.sent = s.serial.stream ++ [some 0x1A, none] ∧ t.serial.backlog = [] ∧
    t.serial.line = {} ∧ t.serial.brk = some (s.sys.tick - s.serial.fmt.charTicks 1) ∧ t.serial.brkTold = false := by
  have hbroken : t = (s.breakStub g).chainIdle.onSerial fun p =>
      { p with brk := some (s.now - p.fmt.charTicks 1), brkTold := false } := by
    have hin : ¬ (g.any = false ∧ ((0 : Byte) = 13 ∨ (0 : Byte) = 10)) := fun hc => absurd hc.2 (by decide)
    rw [ht, State.chainBroken, (State.chainReceive_awake hawake hroom.1 0 g).trans (if_neg hin)]
    rfl
  obtain ⟨hstream, hfmt, hl⟩ := State.breakStub_stream ⟨hroom.1, by have := hroom.2; omega⟩ hline g
  have hstub : (s.breakStub g).serialOnly s := by
    unfold State.breakStub
    dsimp only
    split <;> rfl
  have hnew : (s.breakStub g).serial.line.tooLong = false ∧ (s.breakStub g).serial.line.overrun = false := by
    have hdrop : (s.heardChar g).fifoDrops = false := State.fifoDrops_of_up hisl
    have hold : (s.heardChar g).oldLine = {} := State.oldLine_of_empty (by simp [State.heardChar, hline])
    rw [hl, State.newLine, hold, hdrop]
    exact ⟨rfl, rfl⟩
  have hwatch : (s.breakStub g).sys.state ≠ .watch := fun hc => hawake.2.1 ((congrArg (·.sys.state) hstub).symm.trans hc)
  obtain ⟨hil, hib, -, hif, his⟩ := State.chainIdle_sent hwatch hnew.1 hnew.2
  have honly : t.serialOnly s := by
    rw [hbroken, State.chainIdle_of_whole hwatch hnew.1 hnew.2]
    exact (State.onSerial_serialOnly _ _).trans ((State.onSerial_serialOnly _ _).trans hstub)
  refine ⟨honly, ?_⟩
  rw [hbroken]
  simp only [State.onSerial_serial, hil, hib, hif, his, hfmt, hstream]
  refine ⟨by simp, trivial, trivial, rfl, trivial⟩

/-! ## A whole line -/

/-- A whole line of this module's own is delivered to the command island (R156). -/
theorem State.endChainLine_execute {s : State} {b : LineBuf} (term : Option Byte) (hcount : b.count ≠ 0) (hfate : b.fate = .execute)
    (hwatch : s.sys.state ≠ .watch) (hrep : s.serial.repeating = false) (henum : b.isEnum = false) (hisl : s.islandDown = false) :
    s.endChainLine b term = s.lineIn 0 b := by
  have htaken : ¬ (b.count = 0 ∨ b.fate.taken = false) := by simp [hcount, hfate, Fate.taken]
  rw [State.endChainLine, if_neg htaken, if_neg hwatch, if_neg (by simp [hrep]), if_neg (by simp [henum]), if_neg (by simp [hisl])]

/-- A CR ends such a line, and nothing of it is forwarded. -/
theorem State.chainEnd_execute {s : State} (g : CharTags) (hwatch : s.sys.state ≠ .watch)
    (hrep : s.serial.repeating = false) (hcount : s.serial.line.count ≠ 0) (hfate : s.serial.line.fate = .execute)
    (henum : s.serial.line.isEnum = false) (hisl : s.islandDown = false) :
    s.chainEnd { c := 13, tags := g } =
      (s.onSerial fun p => { p with line := { fate := .withhold }, taken := 0, lastCr := true }).lineIn 0 s.serial.line := by
  have hcr : ¬ ((13 : Byte) = 10 ∧ s.serial.lastCr = true) := fun hc => absurd hc.1 (by decide)
  refine Eq.trans ?_ (State.endChainLine_execute
    (s := s.onSerial fun p => { p with line := { fate := .withhold }, taken := 0, lastCr := true }) (some 13) hcount hfate hwatch hrep henum
    hisl)
  have hfull : (s.islandDown && s.serial.line.fate.taken && decide (fifoSize ≤ s.serial.stored)) = false := by simp [hisl]
  have hwhole : ({ s.serial.line with overrun := s.serial.line.overrun ||
      (s.islandDown && s.serial.line.fate.taken && decide (fifoSize ≤ s.serial.stored)) } : LineBuf) = s.serial.line := by
    rw [hfull, Bool.or_false]
  simp only [State.chainEnd, if_neg hcr, hwhole]
  simp only [hisl, hfate, Fate.forwards, henum, Bool.or_false, Bool.and_false, Bool.false_and, Bool.false_eq_true, and_false, if_false,
    false_and, decide_true]

/-- The character of such a line's end clears what was held as a break. -/
theorem exec_lineEnd_of_awake {s : State} {bits : List RxBit} {m : Nat} (h : s.reads bits m 13 {} = true) (hawake : s.chainAwake)
    (hrep : s.serial.repeating = false) (hcount : s.serial.line.count ≠ 0) (hfate : s.serial.line.fate = .execute)
    (henum : s.serial.line.isEnum = false) (hisl : s.islandDown = false) :
    exec (.characterReceived .chain (.chain bits) m) s = .next
      ((s.onSerial fun p => { p with brk := none, lastRx := some s.sys.tick, line := { fate := .withhold }, taken := 0,
                                     lastCr := true }).lineIn 0 s.serial.line) := by
  show Host.Outcome.next (s.chainWave bits m) = _
  rw [State.chainWave_reads h, (State.chainReceive_awake hawake hrep 13 {}).trans (if_pos ⟨rfl, .inl rfl⟩),
    State.chainEnd_execute (s := s.heardChar {}) {} hawake.2.1 hrep hcount hfate henum hisl]
  rfl

/-! ## A character within a line -/

/-- A character that joins a line changes the serial ports alone. -/
theorem State.hearsChar_serialOnly (s : State) (c : Byte) (g : CharTags) : (s.hearsChar c g).serialOnly s :=
  (State.chainChar_eq (s.heardChar g) { c := c, tags := g } ▸ State.onSerial_serialOnly (s.heardChar g) _).trans
    (State.onSerial_serialOnly s _)

/-- A character that is neither tagged nor 0x1A is what it was sent as. -/
theorem RxEntry.byte_of_clean {c : Byte} {g : CharTags} (hg : g.any = false) (hbad : c ≠ 0x1A) :
    RxEntry.byte { c := c, tags := g } = c := by
  rw [RxEntry.byte_eq, if_neg (by simpa [hg] using hbad)]

/-- A character of another module's line is passed on, a bad one as 0x1A (R204, R205). -/
theorem State.hearsChar_forwarded {s : State} {c : Byte} {g : CharTags} (hroom : s.serial.takes 1) (hlong : 3 ≤ s.serial.line.count)
    (hfate : s.serial.line.fate = .forward) :
    (s.hearsChar c g).serial.stream = s.serial.stream ++ [some (if g.any ∨ c = 0x1A then 0x1A else c)] ∧
    (s.hearsChar c g).serial.line.count = s.serial.line.count + 1 ∧ (s.hearsChar c g).serial.line.fate = .forward ∧
    (s.hearsChar c g).serial.damaged = if g.any then satInc s.serial.damaged else s.serial.damaged := by
  obtain ⟨hcount, hnew⟩ := State.newLine_of_long (s := s.heardChar g) { c := c, tags := g } hlong
  have hfwd := hnew.trans hfate
  obtain ⟨hstream, hline, hdam⟩ := State.chainChar_forwards (s := s.heardChar g) hroom (by rw [hfwd]; rfl)
  rw [RxEntry.byte_eq] at hstream
  exact ⟨hstream, (congrArg LineBuf.count hline).trans hcount, (congrArg LineBuf.fate hline).trans hfwd, hdam⟩

/-- A character of a line that this module alone takes is stored, and nothing of it is passed on (R200, R206). -/
theorem State.hearsChar_taken {s : State} {c : Byte} {g : CharTags} (hlong : 3 ≤ s.serial.line.count)
    (hfate : s.serial.line.fate = .execute ∨ s.serial.line.fate = .withhold) (hisl : s.islandDown = false)
    (hover : s.serial.line.overrun = false) (hlen : s.serial.line.count < 200) :
    (s.hearsChar c g).serial.sent = s.serial.sent ∧ (s.hearsChar c g).serial.backlog = s.serial.backlog ∧
    (s.hearsChar c g).serial.line.chars = s.serial.line.chars ++ [if g.any ∨ c = 0x1A then 0x1A else c] ∧
    (s.hearsChar c g).serial.line.fate = s.serial.line.fate := by
  obtain ⟨-, hnew⟩ := State.newLine_of_long (s := s.heardChar g) { c := c, tags := g } hlong
  have hold : (s.heardChar g).oldLine = s.serial.line :=
    State.oldLine_of_count (s := s.heardChar g) (show s.serial.line.count ≠ 0 by omega)
  have hkeep : ((s.heardChar g).newLine { c := c, tags := g }).fate.forwards = false :=
    (congrArg Fate.forwards hnew).trans (hfate.elim (congrArg Fate.forwards) (congrArg Fate.forwards))
  obtain ⟨hsent, hback, hline⟩ := State.chainChar_stays hkeep fun hw => by rw [hold]; exact hnew.symm.trans hw
  have hchars := State.newLine_chars (s := s.heardChar g) { c := c, tags := g } hisl (by rw [hold]; exact hover)
    (by rw [hold]; exact hlen)
  rw [hold, RxEntry.byte_eq] at hchars
  exact ⟨hsent, hback, (congrArg LineBuf.chars hline).trans hchars, (congrArg LineBuf.fate hline).trans hnew⟩

/-- A line that begins with no address stays with this module from its first character (R204). -/
theorem State.hearsChar_first {s : State} {c : Byte} {g : CharTags} (hempty : s.serial.line.count = 0) (hg : g.any = false)
    (hbad : c ≠ 0x1A) (hat : c ≠ 0x40) :
    (s.hearsChar c g).serial.sent = s.serial.sent ∧ (s.hearsChar c g).serial.backlog = s.serial.backlog ∧
    (s.hearsChar c g).serial.line.fate = .execute := by
  have hbyte := RxEntry.byte_of_clean hg hbad
  have hnew := State.newLine_first (s := s.heardChar g) (e := { c := c, tags := g }) hempty (by rwa [hbyte]) (by rwa [hbyte])
  obtain ⟨hsent, hback, hline⟩ := State.chainChar_stays (s := s.heardChar g) (e := { c := c, tags := g })
    (by rw [hnew]; rfl) (fun hw => by rw [hnew] at hw; cases hw)
  exact ⟨hsent, hback, (congrArg LineBuf.fate hline).trans hnew⟩

/-- The character that completes this module's address: silence takes the line's place from there (R206). -/
theorem State.hearsChar_address {s : State} {c : Byte} {g : CharTags} (hroom : s.serial.takes 1) (htwo : s.serial.line.count = 2)
    (hund : s.serial.line.fate = .undecided) (hg : g.any = false) (hbad : c ≠ 0x1A) (haddr : s.tower.addr ≠ 0)
    (hhead : s.serial.line.head ++ [c] = addrBytes s.tower.addr) :
    (s.hearsChar c g).serial.stream = s.serial.stream ++ [none] ∧ (s.hearsChar c g).serial.line.fate = .withhold := by
  have hnew := State.newLine_address (s := s.heardChar g) (e := { c := c, tags := g }) htwo hund haddr
    (by rw [RxEntry.byte_of_clean hg hbad]; exact hhead)
  have hold : (s.heardChar g).oldLine = s.serial.line :=
    State.oldLine_of_count (s := s.heardChar g) (show s.serial.line.count ≠ 0 by omega)
  obtain ⟨hstream, hline⟩ := State.chainChar_withholds (s := s.heardChar g) hroom hnew
    (by rw [hold, hund]; exact Fate.noConfusion)
  exact ⟨hstream, (congrArg LineBuf.fate hline).trans hnew⟩

/-! ## The obligation -/

/-- Settles O36: what samples spell, what a character does by the fate of its line, a break, and a line's end, each by its own lemma. -/
theorem chainCharacters : Obligations.ChainCharacters := by
  unfold Obligations.ChainCharacters
  refine ⟨Fmt.init_decode_clean, fun c i => Fmt.init_decode_noisy c, fun bits m c g s h hdeaf => ?_,
    fun bits m c g s h hw hon hcsin hcoll hrep => ?_, fun bits m s h => ?_,
    fun bits m c g s h hoff hwatch hon hcsin hroom hc => ?_, fun bits m s h hbrk hsome hoff hwatch hon hcsin hroom hline hisl => ?_,
    fun bits m s h hoff hwatch hon hcsin hrep hcount hfate henum hisl =>
      exec_lineEnd_of_awake h ⟨hoff, hwatch, hon, hcsin⟩ hrep hcount hfate henum hisl⟩
  · show Host.Outcome.next (s.chainWave bits m) = _
    rw [State.chainWave_reads h, State.chainReceive_of_deaf (s := s.onSerial _) _ hdeaf]
    rfl
  · show Host.Outcome.next (s.chainWave bits m) = _
    rw [State.chainWave_reads h, State.chainReceive_repeats hw hon hcsin hcoll hrep]
    rfl
  · refine congrArg Host.Outcome.next (if_pos ?_)
    exact h.symm.imp (fun hb => ⟨Option.isSome_iff_ne_none.2 hb.1, hb.2⟩) id
  · have hexec := exec_char_of_awake h ⟨hoff, hwatch, hon, hcsin⟩ hroom.1 hc
    have honly := s.hearsChar_serialOnly c g
    exact ⟨fun hlong hfate => ⟨_, hexec, honly, State.hearsChar_forwarded hroom hlong hfate⟩,
      fun hlong hfate hisl hover hlen => ⟨_, hexec, honly, State.hearsChar_taken hlong hfate hisl hover hlen⟩,
      fun hempty hg hbad hat => ⟨_, hexec, honly, State.hearsChar_first hempty hg hbad hat⟩,
      fun htwo hund hg hbad haddr hhead _ _ => ⟨_, hexec, honly, State.hearsChar_address hroom htwo hund hg hbad haddr hhead⟩⟩
  · exact ⟨_, exec_break_of_awake m h hbrk hsome ⟨hoff, hwatch, hon, hcsin⟩,
      State.chainBroken_awake ⟨hoff, hwatch, hon, hcsin⟩ hroom hline hisl _ rfl⟩

end Sys2Proof.Machine
end

section
/-! The rest of the chain port: idle lines, CSIN and breaks (R47, R202, R207, R209, R219), the module's own lines (R155, R208, R480), and a
new format (R199). -/

namespace Sys2Proof.Machine

/-! ## Idle lines, CSIN and breaks -/

/-- One character time has passed since the last stop bit (R202). -/
theorem idleSince_iff (last : Option Tick) (ticks now : Nat) : idleSince last ticks now = true ↔ ∀ l, last = some l → l + ticks ≤ now := by
  cases last with
  | none => simp [idleSince]
  | some l => simp [idleSince]

theorem exec_idleLine_of_idle {s : State} (hoff : s.sys.state ≠ .off) (hon : s.pwr.logicOn = true)
    (hlast : ∀ l, s.serial.lastRx = some l → l + s.serial.fmt.charTicks 1 ≤ s.sys.tick) :
    exec (.idleLine .chain) s = .next s.chainIdle := by
  have hidle : idleSince s.serial.lastRx (s.serial.fmt.charTicks 1) s.now = true := (idleSince_iff _ _ _).2 hlast
  exact congrArg Host.Outcome.next (if_neg (by simp [hoff, hon, hidle]))

theorem exec_idleLine_of_early {s : State} {l : Tick}
    (h : s.sys.state = .off ∨ (s.serial.lastRx = some l ∧ s.sys.tick < l + s.serial.fmt.charTicks 1)) :
    exec (.idleLine .chain) s = .next s := by
  refine congrArg Host.Outcome.next (if_pos ?_)
  rcases h with hoff | ⟨hlast, hlt⟩
  · exact .inl hoff
  · refine .inr (.inr (Bool.eq_false_iff.2 fun hidle => ?_))
    exact absurd ((idleSince_iff _ _ _).1 hidle l hlast) (Nat.not_le.2 hlt)

theorem State.chainIdle_serialOnly {s : State} (hw : s.sys.state ≠ .watch) (hlong : s.serial.line.tooLong = false)
    (hover : s.serial.line.overrun = false) : s.chainIdle.serialOnly s := by
  rw [State.chainIdle_of_whole hw hlong hover]
  exact State.onSerial_serialOnly _ _

theorem exec_csinChange_quiet {s : State} (h : s.pwr.csin = false ∨ s.sys.state = .off) :
    exec (.csinChange false) s = .next { s with pwr := { s.pwr with csin := false } } :=
  congrArg Host.Outcome.next (if_neg fun ⟨_, hcsin, hoff, _⟩ => h.elim (fun hc => by simp [hc] at hcsin) hoff)

theorem exec_csinChange_driven (s : State) : exec (.csinChange true) s = .next { s with pwr := { s.pwr with csin := true } } :=
  congrArg Host.Outcome.next (if_neg (by simp))

theorem exec_csinChange_lost {s : State} (hcsin : s.pwr.csin = true) (hoff : s.sys.state ≠ .off) (hon : s.pwr.logicOn = true) :
    exec (.csinChange false) s = .next ({ s with pwr := { s.pwr with csin := false } } : State).chainIdle :=
  congrArg Host.Outcome.next (if_pos ⟨rfl, hcsin, hoff, hon⟩)

/-- A break has lasted long enough, and nobody has been told of it (R219). -/
theorem exec_chainBreak_of_long {s : State} {b : Tick} (hoff : s.sys.state ≠ .off) (hwatch : s.sys.state ≠ .watch)
    (hbrk : s.serial.brk = some b) (hlong : b + 10 * msTicks < s.sys.tick) (htold : s.serial.brkTold = false)
    (hcsin : s.pwr.csin = true) (hon : s.pwr.logicOn = true) :
    exec .chainBreak s = .next ((s.onSerial fun p => { p with brkTold := true }).emit .keepAndChain "chain" "break" []) := by
  have hany : s.serial.brk.any (fun t => decide (t + 10 * msTicks < s.now)) = true := by
    rw [hbrk]
    exact decide_eq_true hlong
  exact congrArg Host.Outcome.next (if_pos ⟨hoff, hwatch, hany, htold, hcsin, hon⟩)

theorem exec_chainBreak_of_none {s : State} (h : s.serial.brk = none ∨ s.serial.brkTold = true) : exec .chainBreak s = .next s :=
  congrArg Host.Outcome.next (if_neg fun ⟨_, _, hany, htold, _⟩ =>
    h.elim (fun hb => by simp [hb] at hany) (fun ht => by simp [ht] at htold))

/-! ## The module's own lines -/

/-- A line that has left changes only the ports' waits for answers and the job table. -/
theorem State.lineLeaves_keeps (s : State) (k : Nat) (l : OutLine) (at_ : Tick) :
    s.lineLeaves k l at_ = { s with serial := (s.lineLeaves k l at_).serial, jobs := (s.lineLeaves k l at_).jobs } ∧
    (s.lineLeaves k l at_).serial.sent = s.serial.sent ∧ (s.lineLeaves k l at_).serial.backlog = s.serial.backlog := by
  unfold State.lineLeaves
  dsimp only
  (repeat' split) <;> exact ⟨rfl, rfl, rfl⟩

/-- A line may start only with at most 819 characters waiting and no other line of the module's own on the way (R208). -/
theorem State.ownMay_bounds {s : State} (h : s.ownMay = true) :
    (charsIn s.serial.backlog).length ≤ 819 ∧ s.serial.txFree ≤ s.sys.tick := by
  simp only [State.ownMay, Bool.and_eq_true] at h
  obtain ⟨⟨_, hroom⟩, hfree⟩ := h
  exact ⟨of_decide_eq_true hroom, of_decide_eq_true hfree⟩

/-- The chain session's next line leaves: it joins what is sent, ended by CR LF (R155, R208). -/
def State.sendOwn (s : State) (l : OutLine) (u : State) : State :=
  let p := s.serial.yield s.now
  let bs := lineChars l (s.checked 0) ++ crLf
  let fin := max s.now p.sentEnd + p.fmt.charTicks bs.length
  (u.onSerial fun _ =>
    { p with sent := p.sent ++ bs.map some, ownLast := true, txFree := fin, sentEnd := fin, charEnd := fin }).lineLeaves 0 l fin

theorem exec_ownLineSend {s u : State} {l : OutLine} (hmay : s.ownMay = true) (hline : s.takeLine 0 = some (l, u)) :
    exec .ownLineSend s = .next (if s.fenced 25 then s.holdFor 25 else s.sendOwn l u) := by
  show execOwnLineSend s = _
  have hno : ¬ s.ownMay = false := by simp [hmay]
  simp only [execOwnLineSend, if_neg hno, hline]
  rfl

theorem exec_ownLineSend_of_idle {s : State}
    (h : s.takeLine 0 = none ∨ 819 < (charsIn s.serial.backlog).length ∨ s.sys.tick < s.serial.txFree) :
    exec .ownLineSend s = .next s := by
  show execOwnLineSend s = _
  by_cases hmay : s.ownMay = false
  · simp only [execOwnLineSend, if_pos hmay]
  · obtain ⟨hroom, hfree⟩ := State.ownMay_bounds (by simpa using hmay)
    have hnone : s.takeLine 0 = none := h.resolve_right fun hbusy =>
      hbusy.elim (Nat.not_lt.2 hroom) (Nat.not_lt.2 hfree)
    simp only [execOwnLineSend, if_neg hmay, hnone]

theorem State.sendOwn_sends (s u : State) (l : OutLine) :
    s.sendOwn l u = { u with serial := (s.sendOwn l u).serial, jobs := (s.sendOwn l u).jobs } ∧
    (s.sendOwn l u).serial.sent = (s.serial.yield s.sys.tick).sent ++ (lineChars l (s.checked 0) ++ crLf).map some ∧
    (s.sendOwn l u).serial.backlog = (s.serial.yield s.sys.tick).backlog :=
  State.lineLeaves_keeps (u.onSerial _) 0 l _

/-! ## A new format (R199) -/

/-- Once the answer has been sent and the port has been silent, the new format is in force. -/
theorem exec_chainFormatChange_of_silent {s : State} {f : Fmt} (hnew : s.serial.newFmt = some f) (hback : s.serial.backlog = [])
    (hline : s.serial.line.count = 0) (hans : ∀ w, s.serial.fmtWait = some w → s.answerSent w = true)
    (hsil : s.serial.lastChar + s.serial.fmt.charTicks 10 ≤ s.sys.tick) :
    exec .chainFormatChange s = .next { s with serial := { s.serial with fmt := f, newFmt := none, fmtWait := none } } := by
  show execChainFormatChange s = _
  have hall : s.serial.fmtWait.all s.answerSent = true := by
    cases hw : s.serial.fmtWait with
    | none => rfl
    | some w => exact hans w hw
  simp only [execChainFormatChange, hnew]
  exact congrArg Host.Outcome.next (if_pos ⟨hback, hline, hall, hsil⟩)

theorem exec_chainFormatChange_of_early {s : State} {w : AnsWait}
    (h : s.sys.tick < s.serial.lastChar + s.serial.fmt.charTicks 10 ∨ (s.serial.fmtWait = some w ∧ s.answerSent w = false)) :
    exec .chainFormatChange s = .next s := by
  show execChainFormatChange s = _
  unfold execChainFormatChange
  cases s.serial.newFmt with
  | none => rfl
  | some f =>
    refine congrArg Host.Outcome.next (if_neg ?_)
    rintro ⟨-, -, hall, hsil⟩
    rcases h with hlt | ⟨hw, hno⟩
    · exact absurd hsil (Nat.not_le.2 hlt)
    · simp [hw, hno] at hall

/-- While an answer is among the session's lines it has not been sent. -/
theorem State.answerSent_of_waiting {s : State} {w : AnsWait} (hgen : w.gen = (s.getSess w.sess).gen) (huntil : w.until_ = none)
    (hout : ∃ l, l ∈ (s.getSess w.sess).out ∧ l.ready = w.ready) : s.answerSent w = false := by
  have hany : (s.getSess w.sess).out.any (fun l => decide (l.ready = w.ready)) = true := by simpa using hout
  simp [State.answerSent, huntil, hgen, hany]

theorem State.answerSent_iff_of_until {s : State} {w : AnsWait} {t : Tick} (h : w.until_ = some t) :
    s.answerSent w = true ↔ t ≤ s.sys.tick := by
  simp only [State.answerSent, h]
  exact decide_eq_true_iff

/-- Settles O37: idle lines and breaks, the module's own lines and a new format, each by the lemma of its command. -/
theorem chainPortIdlesAndSends : Obligations.ChainPortIdlesAndSends := by
  unfold Obligations.ChainPortIdlesAndSends
  refine ⟨fun s hoff hwatch hon hlong hover hlast => ?_, fun l s => exec_idleLine_of_early, fun s => exec_csinChange_quiet,
    exec_csinChange_driven, fun s => exec_csinChange_lost, fun b s hoff hwatch hbrk hlong htold hcsin hon => ?_,
    fun s => exec_chainBreak_of_none, fun l u s hmay hfence hline => ?_, fun s => exec_ownLineSend_of_idle,
    fun l u s hmay hfence hline => ?_, fun f s => exec_chainFormatChange_of_silent, fun w s => exec_chainFormatChange_of_early,
    fun w s => State.answerSent_of_waiting, fun w t s => State.answerSent_iff_of_until⟩
  · obtain ⟨hline, hback, hrep, -, hsent⟩ := State.chainIdle_sent hwatch hlong hover
    refine ⟨_, exec_idleLine_of_idle hoff hon hlast, State.chainIdle_serialOnly hwatch hlong hover, hline, hback, hrep, ?_, ?_⟩
    · rw [hsent]
      split
      · next hend => exact hend
      · exact List.getLast?_concat
    · rw [hsent]
      split
      · exact .inr rfl
      · exact .inl rfl
  · rw [exec_chainBreak_of_long hoff hwatch hbrk hlong htold hcsin hon]
    exact ⟨_, rfl, State.emit_eq _ _ _ _ _,
      emit_told (t := s.onSerial fun p => { p with brkTold := true }) (s := s) rfl rfl rfl rfl _ _ _ _⟩
  · rw [exec_ownLineSend hmay hline, if_neg (by simp [hfence])]
    exact ⟨_, rfl, s.sendOwn_sends u l⟩
  · rw [exec_ownLineSend hmay hline, if_pos hfence]
    exact ⟨_, rfl, rfl, State.getReqr_modReqr_self _ _ _⟩

end Sys2Proof.Machine
end

section
/-! The IR port: what its pulses spell and what becomes of a character (R200, R213–R215), its lines and its turnaround (R202, R214, R217,
R480), and flood (R215–R217, R222). -/

namespace Sys2Proof.Machine

/-! ## Characters and lines -/

/-- The receiver ignores pulses shorter than 1.0 µs, so that they spell nothing (R213). -/
theorem irDecode_of_short (baud : Nat) {ps : List IrPulse} (h : ∀ p ∈ ps, p.width < usTicks) : irDecode baud ps = none := by
  have hseen : irSeen ps = [] := List.filter_eq_nil_iff.2 fun p hp => by simpa using h p hp
  simp only [irDecode, hseen]

/-- A character is lost on a port that does not work, and one that begins while the receiver is blanked is lost unseen (R223, Table
5-2). -/
theorem State.irReceive_of_deaf {s : State} (h : s.irUp = false ∨ s.sys.tick - s.irTicks 1 < s.serial.irTxEnd) (c : Byte) (g : CharTags)
    (q : Tick) : s.irReceive c g q = s := if_pos h

/-- A wave whose pulses spell a character is received as that character. -/
theorem State.irWave_of_decode {s : State} {ps : List IrPulse} {c : Byte} {g : CharTags} (h : irDecode s.irFormat.1 ps = some (c, g)) :
    ∃ q, s.irWave ps = s.irReceive c g q := by
  simp only [State.irWave, h]
  exact ⟨_, rfl⟩

theorem exec_irChar_of_deaf (m : Nat) {ps : List IrPulse} {s : State} (h : s.irUp = false ∨
    s.sys.tick - s.irTicks 1 < s.serial.irTxEnd ∨ ∀ p ∈ ps, p.width < usTicks) :
    exec (.characterReceived .ir (.ir ps) m) s = .next s := by
  show Host.Outcome.next (s.irWave ps) = _
  cases hd : irDecode s.irFormat.1 ps with
  | none => simp only [State.irWave, hd]
  | some d =>
    obtain ⟨q, hq⟩ := State.irWave_of_decode hd
    have hdeaf : s.irUp = false ∨ s.sys.tick - s.irTicks 1 < s.serial.irTxEnd := by
      rcases h with hup | hblank | hshort
      · exact .inl hup
      · exact .inr hblank
      · rw [irDecode_of_short _ hshort] at hd
        cases hd
    rw [hq, State.irReceive_of_deaf hdeaf]

/-- The port with a character on it, before the character joins or ends a line. -/
def State.irHeard (s : State) (g : CharTags) (q : Tick) : State :=
  s.onSerial fun p =>
    { p with irDamaged := if g.any then satInc p.irDamaged else p.irDamaged, irRx := some s.now, irPulse := some q }

section
variable {s : State} (hup : s.irUp = true) (hblank : s.serial.irTxEnd ≤ s.sys.tick - s.irTicks 1)
include hup hblank

/-- A character on a port that works, and whose receiver is not blanked, is not lost. -/
theorem State.irHears_of_up : ¬ (s.irUp = false ∨ s.now - s.irTicks 1 < s.serial.irTxEnd) := by
  rintro (h | h)
  · simp [hup] at h
  · exact Nat.not_lt.2 hblank h

variable (hisl : s.islandDown = false)
include hisl

/-- While the port works and the command island is up, a character joins the line (R200, R214). -/
theorem State.irReceive_joins {c : Byte} {g : CharTags} (hc : g.any = true ∨ (c ≠ 13 ∧ c ≠ 10)) (q : Tick) :
    s.irReceive c g q = (s.irHeard g q).onSerial fun p =>
      { p with irLine := p.irLine.push { c := c, tags := g, flood := s.irFlooded (s.sys.tick - s.irTicks 1) } false } := by
  have hin : ¬ (g.any = false ∧ (c = 13 ∨ c = 10)) := by
    rintro ⟨hg, rfl | rfl⟩ <;> simp [hg] at hc
  have hhurt : (g.noise || g.framing || g.parity) = g.any := rfl
  simp only [State.irReceive, if_neg (State.irHears_of_up hup hblank), hhurt, if_neg hin, hisl, Bool.false_and]
  rfl

/-- A CR outside flood ends the line, which goes to session 1 (R200). -/
theorem State.irReceive_ends (hflood : s.irFlooded (s.sys.tick - s.irTicks 1) = false) (q : Tick) :
    s.irReceive 13 {} q = (s.onSerial fun p =>
      { p with irRx := some s.sys.tick, irPulse := some q, irLine := {}, irTaken := 0 }).lineIn 1 s.serial.irLine := by
  have hflood' : s.irFlooded (s.now - s.irTicks 1) = false := hflood
  simp only [State.irReceive, if_neg (State.irHears_of_up hup hblank), hisl, hflood', Bool.false_and, Bool.or_false,
    Bool.false_eq_true, if_false, and_self, true_or, if_true]
  rfl

end

/-- A character that the FIFO takes is stored, up to 200 of a line, with its mark of flood (R187, R200, R215). -/
theorem LineBuf.push_stored {b : LineBuf} (hover : b.overrun = false) (hlen : b.count < 200) (e : RxEntry) :
    (b.push e false).chars = b.chars ++ [e.byte] ∧ (b.push e false).flood = (b.flood || e.flood) := by
  have hlen' : ¬ 200 < b.count + 1 := by omega
  simp [LineBuf.push, LineBuf.chars, LineBuf.flood, hover, hlen', Bool.or_assoc]

theorem exec_irIdle_of_whole {s : State} (hlong : s.serial.irLine.tooLong = false) (hover : s.serial.irLine.overrun = false)
    (hlast : ∀ l, s.serial.irRx = some l → l + s.irTicks 1 ≤ s.sys.tick) :
    exec (.idleLine .ir) s = .next { s with serial := { s.serial with irLine := {}, irTaken := 0 } } := by
  have hidle : idleSince s.serial.irRx (s.irTicks 1) s.now = true := (idleSince_iff _ _ _).2 hlast
  have hwhole : ¬ ((s.serial.irLine.tooLong = true ∨ s.serial.irLine.overrun = true) ∧ s.irUp = true) := by simp [hlong, hover]
  have hgone : s.irIdle = s.onSerial fun p => { p with irLine := {}, irTaken := 0 } := if_neg hwhole
  exact congrArg Host.Outcome.next ((if_pos hidle).trans hgone)

/-! ## Turnaround (R214, R217, R480) -/

/-- A line that has left changes the job table and, of the ports, only what their formats wait for. -/
theorem State.lineLeaves_changes (s : State) (k : Nat) (l : OutLine) (at_ : Tick) :
    ∃ js w x, s.lineLeaves k l at_ = { s with jobs := js, serial := { s.serial with fmtWait := w, irHold := x } } := by
  unfold State.lineLeaves
  dsimp only
  (repeat' split) <;> exact ⟨_, _, _, rfl⟩

theorem State.irSend_changes (s : State) (l : OutLine) (cs : List IrChar) (fin : Tick) :
    ∃ js w x, s.irSend l cs fin = { s with
      jobs := js,
      serial := { s.serial with
        irSent := s.serial.irSent ++ cs, irNow := some l, irRest := none, irLine := {}, irTaken := 0, irTxEnd := fin + 100 * usTicks,
        fmtWait := w, irHold := x } } :=
  State.lineLeaves_changes _ 1 l fin

/-- A port that is muted, that sends, or that has seen a pulse within the turnaround time may not send. -/
theorem State.irMay_of_busy {s : State} {p : Tick} (h : s.serial.irMute = true ∨ s.sys.tick < s.serial.irTxEnd ∨
    (s.serial.irPulse = some p ∧ s.sys.tick < p + s.nat .irTurnaround * msTicks)) : s.irMay = false := by
  rw [Bool.eq_false_iff]
  intro hmay
  simp only [State.irMay, Bool.and_eq_true, Bool.not_eq_true', decide_eq_true_eq] at hmay
  obtain ⟨⟨⟨_, hmute⟩, hsent⟩, hseen⟩ := hmay
  rcases h with h | h | ⟨hp, h⟩
  · simp [h] at hmute
  · exact Nat.not_lt.2 hsent h
  · rw [hp] at hseen
    exact Nat.not_lt.2 (of_decide_eq_true hseen) h

theorem exec_irTurnaround_of_busy {s : State} {p : Tick} (h : s.serial.irMute = true ∨ s.sys.tick < s.serial.irTxEnd ∨
    (s.serial.irPulse = some p ∧ s.sys.tick < p + s.nat .irTurnaround * msTicks)) : exec .irTurnaround s = .next s :=
  congrArg Host.Outcome.next (if_pos (State.irMay_of_busy h))

theorem exec_irTurnaround_of_fenced {s : State} (hmay : s.irMay = true) (hfence : s.fenced 25 = true)
    (hline : s.serial.irRest ≠ none ∨ s.takeLine 1 ≠ none) : exec .irTurnaround s = .next (s.holdFor 25) := by
  refine congrArg Host.Outcome.next ((if_neg (by simp [hmay])).trans ?_)
  cases hrest : s.serial.irRest with
  | some r => exact if_pos hfence
  | none =>
    obtain ⟨r, hr⟩ := Option.ne_none_iff_exists'.1 (hline.resolve_left (not_not_intro hrest))
    simp only [hr, if_pos hfence]

theorem exec_irTurnaround_of_line {s u : State} {l : OutLine} (hmay : s.irMay = true) (hfence : s.fenced 25 = false)
    (hrest : s.serial.irRest = none) (hline : s.takeLine 1 = some (l, u)) :
    exec .irTurnaround s = .next (u.irSend l ((lineChars l (s.checked 1) ++ crLf).map s.irChar)
      (s.sys.tick + s.irTicks (lineChars l (s.checked 1) ++ crLf).length)) := by
  refine congrArg Host.Outcome.next ((if_neg (by simp [hmay])).trans ?_)
  simp only [hrest, hline, hfence, Bool.false_eq_true, if_false, List.length_map, State.now]

/-! ## Flood (R215–R217, R222) -/

/-- What flood holds back of a line changes neither the line being received nor the chain's stream, nor what is known of flood. -/
theorem State.irHoldBack_keeps (s : State) :
    s.irHoldBack = { s with serial := s.irHoldBack.serial, jobs := s.irHoldBack.jobs } ∧
    s.irHoldBack.serial.irFloods = s.serial.irFloods ∧ s.irHoldBack.serial.irOver = s.serial.irOver ∧
    s.irHoldBack.serial.irLine = s.serial.irLine ∧ s.irHoldBack.serial.sent = s.serial.sent := by
  unfold State.irHoldBack
  dsimp only
  (repeat' split) <;> exact ⟨rfl, rfl, rfl, rfl, rfl⟩

/-- The port once the photocurrent has risen above 40 µA. -/
def State.irFloodRises (s : State) : State :=
  (s.onSerial fun p => { p with irOver := some (p.irOver.getD s.now) }).irHoldBack.onSerial fun p =>
    { p with irFlood := true, irFloodAt := s.now, irMute := true, irFloods := satInc p.irFloods }

/-- The port once the photocurrent has fallen below 30 µA. -/
def State.irFloodFalls (s : State) : State :=
  s.onSerial fun p => { p with irOver := none, irFlood := false, irClearAt := s.now, irTold := false }

section
variable {s : State} (hup : s.irStarted = true)
include hup

/-- From START on, flood is judged. -/
theorem State.irJudged_of_started : ¬ (s.irStarted = false ∧ s.sys.state ≠ .watch) := by simp [hup]

theorem exec_irFlood_of_high {x : Nat} (hx : 40 < x) (hflood : s.serial.irFlood = false) : exec (.irFlood x) s = .next s.irFloodRises := by
  refine congrArg Host.Outcome.next ((if_neg (State.irJudged_of_started hup)).trans ((if_pos ⟨hx, hflood⟩).trans ?_))
  simp only [if_pos hx]
  rfl

theorem exec_irFlood_of_low {x : Nat} (hx : x < 30) (hflood : s.serial.irFlood = true) :
    exec (.irFlood x) s = .next (if s.serial.irTold then s.irFloodFalls.emit .keepAndChain "ir" "clear" [] else s.irFloodFalls) := by
  have hhigh : ¬ 40 < x := by omega
  refine congrArg Host.Outcome.next ((if_neg (State.irJudged_of_started hup)).trans
    ((if_neg fun h => hhigh h.1).trans ((if_pos ⟨hx, hflood⟩).trans ?_)))
  simp only [if_neg hhigh]
  rfl

theorem exec_irFlood_between {x : Nat} (hlo : 30 ≤ x) (hhi : x ≤ 40) :
    exec (.irFlood x) s = .next { s with serial := { s.serial with irOver := none } } := by
  have hhigh : ¬ 40 < x := by omega
  refine congrArg Host.Outcome.next ((if_neg (State.irJudged_of_started hup)).trans
    ((if_neg fun h => hhigh h.1).trans ((if_neg fun h => Nat.not_lt.2 hlo h.1).trans ?_)))
  simp only [if_neg hhigh]
  rfl

theorem exec_irFloodEvent_of_long (hflood : s.serial.irFlood = true) (htold : s.serial.irTold = false)
    (hlong : s.serial.irFloodAt + 100 * msTicks ≤ s.sys.tick) :
    exec .irFloodEvent s = .next ((s.onSerial fun p => { p with irTold := true }).emit .keepAndChain "ir" "flood" []) :=
  congrArg Host.Outcome.next (if_pos ⟨hup, hflood, htold, hlong⟩)

theorem exec_irFault_of_long {o : Tick} (hfault : s.serial.irFault = false) (hover : s.serial.irOver = some o)
    (hlong : o + 60 * secTicks ≤ s.sys.tick) :
    exec .irFault s = .next ((s.onSerial fun p => { p with irFault := true }).emit .keepAndChain "ir" "fault" []) := by
  refine congrArg Host.Outcome.next (if_pos ⟨hup, hfault, ?_⟩)
  rw [hover, Option.any_some, decide_eq_true_eq]
  exact hlong

end

theorem exec_irFloodEvent_of_early {s : State} (h : s.sys.tick < s.serial.irFloodAt + 100 * msTicks) : exec .irFloodEvent s = .next s :=
  congrArg Host.Outcome.next (if_neg fun ⟨_, _, _, hlong⟩ => Nat.not_lt.2 hlong h)

theorem exec_irTxResume_of_clear {s : State} (hflood : s.serial.irFlood = false)
    (hlong : s.serial.irClearAt + 50 * msTicks ≤ s.sys.tick) :
    exec .irTxResume s = .next { s with serial := { s.serial with irMute := false, irFault := false } } :=
  congrArg Host.Outcome.next (if_neg (not_or.2 ⟨by simp [hflood], Nat.not_lt.2 hlong⟩))

theorem exec_irTxResume_of_early {s : State} (h : s.serial.irFlood = true ∨ s.sys.tick < s.serial.irClearAt + 50 * msTicks) :
    exec .irTxResume s = .next s := congrArg Host.Outcome.next (if_pos h)

/-- What an event of the IR port leaves alone, and that it is told whatever the serial ports are. -/
theorem State.emit_ofSerial (s : State) (f : Serial → Serial) (a : Aud) (src word : String) :
    (s.onSerial f).emit a src word [] = { s with serial := f s.serial, sess := ((s.onSerial f).emit a src word []).sess } ∧
    ((s.onSerial f).emit a src word []).told s a src word [] :=
  ⟨State.emit_eq _ _ _ _ _, emit_told (t := s.onSerial f) (s := s) rfl rfl rfl rfl _ _ _ _⟩

/-- Settles O38: characters and lines, the turnaround and flood, each by the lemma of its command. -/
theorem irPortReceivesAndSends : Obligations.IrPortReceivesAndSends := by
  unfold Obligations.IrPortReceivesAndSends
  refine ⟨fun ps m s => exec_irChar_of_deaf m, fun ps m c g s hd hup hblank hisl hc hover hlen => ?_,
    fun ps m s hd hup hblank hisl hflood => ?_, fun s => exec_irIdle_of_whole, fun l u s hmay hfence hrest hline => ?_,
    fun p s => exec_irTurnaround_of_busy, fun s hmay hfence hline => ?_, fun x s hup hx hflood => ?_, fun x s hup hx hflood => ?_,
    fun x s hlo hhi hup => exec_irFlood_between hup hlo hhi, fun s hup hflood htold hlong => ?_, fun s => exec_irFloodEvent_of_early,
    fun o s hup hfault hover hlong => ?_, fun s => exec_irTxResume_of_clear, fun s => exec_irTxResume_of_early⟩
  case refine_1 =>
    obtain ⟨q, hq⟩ := State.irWave_of_decode hd
    obtain ⟨hchars, hmark⟩ := LineBuf.push_stored hover hlen
      { c := c, tags := g, flood := s.irFlooded (s.sys.tick - s.irTicks 1) }
    exact ⟨_, congrArg Host.Outcome.next (hq.trans (State.irReceive_joins hup hblank hisl hc q)), rfl,
      hchars.trans (by rw [← RxEntry.byte_eq]; rfl), rfl, hmark⟩
  case refine_2 =>
    obtain ⟨q, hq⟩ := State.irWave_of_decode hd
    exact ⟨q, congrArg Host.Outcome.next (hq.trans (State.irReceive_ends hup hblank hisl hflood q))⟩
  case refine_3 =>
    obtain ⟨js, w, x, hsent⟩ := u.irSend_changes l ((lineChars l (s.checked 1) ++ crLf).map s.irChar)
      (s.sys.tick + s.irTicks (lineChars l (s.checked 1) ++ crLf).length)
    exact ⟨_, (exec_irTurnaround_of_line hmay hfence hrest hline).trans (congrArg _ hsent), rfl, rfl⟩
  case refine_4 =>
    exact ⟨_, exec_irTurnaround_of_fenced hmay hfence hline, rfl, State.getReqr_modReqr_self _ _ _⟩
  case refine_5 =>
    obtain ⟨hkeeps, hcount, hover, hline, hsent⟩ :=
      (s.onSerial fun p => { p with irOver := some (p.irOver.getD s.now) }).irHoldBack_keeps
    refine ⟨_, exec_irFlood_of_high hup hx hflood, ?_, rfl, rfl, rfl, congrArg satInc hcount, hover, hline, hsent⟩
    rw [State.irFloodRises, hkeeps]
    rfl
  case refine_6 =>
    rw [exec_irFlood_of_low hup hx hflood]
    cases htold : s.serial.irTold with
    | true =>
      obtain ⟨hkeeps, hclear⟩ := s.emit_ofSerial (fun p => { p with irOver := none, irFlood := false, irClearAt := s.now, irTold := false })
        .keepAndChain "ir" "clear"
      exact ⟨_, rfl, hkeeps, fun _ => hclear, fun h => Bool.noConfusion h⟩
    | false => exact ⟨_, rfl, rfl, fun h => Bool.noConfusion h, fun _ => rfl⟩
  case refine_7 => exact ⟨_, exec_irFloodEvent_of_long hup hflood htold hlong, s.emit_ofSerial _ _ _ _⟩
  case refine_8 => exact ⟨_, exec_irFault_of_long hup hfault hover hlong, s.emit_ofSerial _ _ _ _⟩

end Sys2Proof.Machine
end

section
/-! What becomes of a `SET` that its path's row takes or refuses (R153, R159, R162, R167). -/

namespace Sys2Proof

/-- A path of a turret is the same setting (R160). -/
theorem Key.ofTurret_s (k : Key) (n : Nat) : (k.ofTurret n).s = k.s := by
  simp only [Key.ofTurret]
  (repeat' split) <;> rfl

theorem SMap.find_put_other {α : Type} [DecidableEq α] (d : α) (m : SMap α) {k q : Nat} (x : α) (h : q ≠ k) :
    SMap.find (SMap.put d m k x) q = SMap.find m q := by
  unfold SMap.put
  split
  · exact SMap.find_del_other m h
  · exact SMap.find_ins_other m x h

end Sys2Proof

namespace Sys2Proof.Machine

/-! ## Settings written and staged -/

/-- The state with other sessions and another job table. -/
abbrev State.withSess (s : State) (y : SMap Sess) (l : List Job) : State := { s with sess := y, jobs := l }

theorem State.val_setVal_self (s : State) (k : Key) (v : Val) : (s.setVal k v).val k = v := SMap.look_put_self _ _ _ _

theorem State.val_setVal_other (s : State) {k q : Key} (v : Val) (h : q.code ≠ k.code) : (s.setVal k v).val q = s.val q :=
  congrArg (fun o : Option Val => o.getD q.dflt) (SMap.find_put_other _ s.cfg v h)

theorem State.stagedVal_of_stageVal {s t : State} {k : Key} {v : Val} (h : t.staged = (s.stageVal k v).staged) : t.stagedVal k = v := by
  rw [State.stagedVal, h, State.stageVal, SMap.find_ins_self]
  rfl

/-- A `SET` answered `OK` that has written its own path alone. -/
theorem State.wrote_of_cfg {t s : State} {hd : Hdr} {k : Key} {v : Val} (hcfg : t.cfg = (s.setVal k v).cfg)
    (hans : t.answered s hd [] (.ok [])) : t.wrote s hd k v :=
  ⟨(State.val_congr hcfg k).trans (s.val_setVal_self k v), fun q hq => (State.val_congr hcfg q).trans (s.val_setVal_other v hq), hans⟩

/-! ## What is said, and to whom -/

/-- An answer reaches the sessions and the job table alone. -/
theorem State.finish_eq (s : State) (r : ReplyTo) (dat : List LineBody) (b : LineBody) :
    s.finish r dat b = s.withSess (s.finish r dat b).sess (s.finish r dat b).jobs := by
  apply State.ext <;> simp

/-- So does the start of a line's command. -/
theorem State.begun_eq (s : State) (hd : Hdr) (c : Cmd) : s.begun hd c = s.withSess (s.begun hd c).sess (s.begun hd c).jobs := by
  apply State.ext <;> simp

/-- Nothing differs between two states but what their sessions have heard, and no answer is among that. -/
def State.hearsOnly (t s : State) : Prop := t = s.withSess t.sess s.jobs ∧ ∀ q, (t.getSess q).out = (s.getSess q).out

theorem State.hearsOnly_refl (s : State) : s.hearsOnly s := ⟨rfl, fun _ => rfl⟩

theorem State.hearsOnly.trans {r t s : State} (hr : r.hearsOnly t) (ht : t.hearsOnly s) : r.hearsOnly s := by
  obtain ⟨hr, hrout⟩ := hr
  obtain ⟨ht, htout⟩ := ht
  refine ⟨?_, fun q => (hrout q).trans (htout q)⟩
  rw [ht] at hr
  exact hr

theorem State.modSess_hearsOnly (s : State) (k : Nat) {f : Sess → Sess} (hf : ∀ y, (f y).out = y.out) : (s.modSess k f).hearsOnly s := by
  refine ⟨rfl, fun q => ?_⟩
  rw [getSess_modSess]
  split
  · exact hf _
  · rfl

theorem State.emit_hearsOnly (s : State) (a : Aud) (src word : String) (fs : List Fld) : (s.emit a src word fs).hearsOnly s :=
  ⟨State.emit_eq s a src word fs, fun q => by simp⟩

theorem foldl_hearsOnly {α : Type} {f : State → α → State} (h : ∀ s x, (f s x).hearsOnly s) (l : List α) (s : State) :
    (l.foldl f s).hearsOnly s := by
  induction l generalizing s with
  | nil => exact s.hearsOnly_refl
  | cons x l ih => exact (ih (f s x)).trans (h s x)

theorem State.watchEvent_hearsOnly (s : State) (k : Nat) (key : Key) (v : List Fld) : (s.watchEvent k key v).hearsOnly s := by
  unfold State.watchEvent
  split
  · exact s.emit_hearsOnly _ _ _ _
  · exact s.hearsOnly_refl

theorem State.noticeSet_hearsOnly (s : State) (key : Key) : (s.noticeSet key).hearsOnly s := by
  refine foldl_hearsOnly (fun t k => foldl_hearsOnly (fun t w => ?_) _ t) _ s
  dsimp only
  (repeat' split)
  · exact (State.watchEvent_hearsOnly _ _ _ _).trans (State.modSess_hearsOnly _ _ fun _ => rfl)
  · exact State.modSess_hearsOnly _ _ fun _ => rfl
  · exact t.hearsOnly_refl

theorem State.setDone_hearsOnly (s : State) (r : ReplyTo) (k : Key) : (s.setDone r k).hearsOnly s :=
  (State.noticeSet_hearsOnly _ _).trans (s.modSess_hearsOnly _ fun _ => rfl)

/-- Whether a `SET` has been answered `OK` is read off the session's last answer. -/
theorem saidOk_of_ok {b t s : State} {hd : Hdr} {fs : List Fld} (hout : (b.getSess hd.sess).out = (s.getSess hd.sess).out)
    (h : t.answered s hd [] (.ok fs)) : saidOk b t hd.sess = true := by
  obtain ⟨n, hn⟩ := h
  simp [saidOk, hout, hn, State.answerLine]

theorem saidOk_of_er {b t s : State} {hd : Hdr} {code : Nat} {d : List Fld}
    (hout : (b.getSess hd.sess).out = (s.getSess hd.sess).out) (h : t.answered s hd [] (.er code d)) : saidOk b t hd.sess = false := by
  obtain ⟨n, hn⟩ := h
  simp [saidOk, hout, hn, State.answerLine]

/-! ## A `SET` as its row takes it -/

theorem State.begun_setAt (s : State) (hd : Hdr) (c : Cmd) (q : Nat) : ((s.begun hd c).getSess q).setAt = (s.getSess q).setAt := by
  unfold State.begun
  cases hd.tag <;> simp only [getSess_modSess, State.getSess_jobs] <;> (repeat' split) <;> rfl

/-- What bars a write sees nothing of the sessions but what they have set. -/
theorem State.settable_begun (s : State) (hd : Hdr) (k : Key) (v : Val) (c : Cmd) :
    (s.begun hd c).mayWrite (s.replyTo hd) k = s.mayWrite (s.replyTo hd) k ∧ (s.begun hd c).isSealed = s.isSealed ∧
    (s.begun hd c).runBars k = s.runBars k ∧ (s.begun hd c).setBar k v = s.setBar k v ∧
    (s.begun hd c).outranked (s.replyTo hd) k = s.outranked (s.replyTo hd) k := by
  have hrank : (s.begun hd c).outranked (s.replyTo hd) k = s.outranked (s.replyTo hd) k := by
    simp only [State.outranked, State.begun_setAt, State.now, State.begun_frame]
    rfl
  rw [hrank, State.begun_eq]
  exact ⟨rfl, rfl, rfl, rfl, rfl⟩

section
variable {s : State} {hd : Hdr} {k : Key} {v : Val} (h : s.sets hd k v = true)
include h

theorem State.sets_begins : s.begins hd (.setKey k v) = true := by
  simp only [State.sets, Bool.and_eq_true] at h
  exact h.1

/-- The session of a line that starts is open. -/
theorem State.sets_isOpen : (s.getSess hd.sess).isOpen = true := by
  have hb := State.sets_begins h
  simp only [State.begins, State.starts, State.heard, State.takesLines, Bool.and_eq_true, and_assoc] at hb
  obtain ⟨_, hopen, _⟩ := hb
  exact hopen

/-- A `SET` that nothing bars does what its path's row says. -/
theorem State.arrive_sets :
    s.arrive hd (.setKey k v) =
      let b := s.begun hd (.setKey k v)
      let t := b.applySet (s.replyTo hd) (s.target hd k) v
      if saidOk b t hd.sess = false then t else t.setDone (s.replyTo hd) (s.target hd k) := by
  have hset : s.settable hd k v = true := by
    simp only [State.sets, Bool.and_eq_true] at h
    exact h.2
  obtain ⟨hwrite, hseal, hrun, hbar, hrank⟩ := s.settable_begun hd (s.target hd k) v (.setKey k v)
  simp only [State.settable, Bool.and_eq_true, Bool.not_eq_true', decide_eq_true_eq] at hset
  obtain ⟨⟨⟨⟨⟨⟨⟨hkind, hmay⟩, hro⟩, hpart⟩, hruns⟩, hbars⟩, hrange⟩, houtr⟩ := hset
  rw [arrive_begins s hd _ (fun _ => Cmd.noConfusion) (fun _ => Cmd.noConfusion) (State.sets_begins h)]
  show doSet (s.replyTo hd) k v (s.begun hd (.setKey k v)) = _
  have hpart' : ¬ ((s.target hd k).s.info.run = .ro ∨ ((s.target hd k).s = .seqPartitioned ∧ s.isSealed = true)) := by
    rintro (hr | ⟨hp, hs⟩)
    · exact hro hr
    · simp [hp, hs] at hpart
  simp only [doSet, hwrite, hseal, hrun, hbar, hrank]
  rw [if_neg (by simp [hkind]), if_neg (by simp [hmay]), if_neg hpart', if_neg (by simp [hruns, hbars]), if_neg (by simp [hrange])]
  simp only [houtr, Bool.false_eq_true, if_false]
  rfl

/-- What an answer says of a `SET` that has changed no session. -/
theorem State.finish_answers (w : State) (hsess : w.sess = (s.begun hd (.setKey k v)).sess) (haddr : w.tower = s.tower) (body : LineBody) :
    (w.finish (s.replyTo hd) [] body).answered s hd [] body := by
  have hget : w.getSess hd.sess = (s.begun hd (.setKey k v)).getSess hd.sess := by rw [State.getSess, hsess]; rfl
  refine finish_answered w s hd [] body ?_ ?_ ?_ ?_
  · rw [hget, (s.begun_sess _ _ _).1]
    exact State.sets_isOpen h
  · rw [hget]; simp
  · rw [hget]; simp
  · rw [State.addr?, haddr]; rfl

/-- A `SET` that its row takes: what the row changes, the answer, and what the sessions hear of it. -/
theorem State.set_taken (f : State → State)
    (hset : ∀ y l, (s.withSess y l).applySet (s.replyTo hd) (s.target hd k) v = (f (s.withSess y l)).ok (s.replyTo hd) [])
    (hsess : ∀ y l, (f (s.withSess y l)).sess = y) (haddr : ∀ y l, (f (s.withSess y l)).tower = s.tower) :
    ∃ y l y' l', s.arrive hd (.setKey k v) = (f (s.withSess y l)).withSess y' l' ∧
      ((f (s.withSess y l)).withSess y' l').answered s hd [] (.ok []) := by
  obtain ⟨b, hb⟩ : ∃ b, b = s.begun hd (.setKey k v) := ⟨_, rfl⟩
  have hbeq : b = s.withSess b.sess b.jobs := by rw [hb]; exact State.begun_eq _ _ _
  obtain ⟨w, hw⟩ : ∃ w, w = f (s.withSess b.sess b.jobs) := ⟨_, rfl⟩
  have hans : (w.finish (s.replyTo hd) [] (.ok [])).answered s hd [] (.ok []) :=
    State.finish_answers h w (by rw [hw, hsess, hb]) (by rw [hw, haddr]) _
  have happ : b.applySet (s.replyTo hd) (s.target hd k) v = w.ok (s.replyTo hd) [] := by
    rw [hw, ← hset, ← hbeq]
  have hsaid : saidOk b (w.ok (s.replyTo hd) []) hd.sess = true := saidOk_of_ok (by simp [hb]) hans
  obtain ⟨t, ht⟩ : ∃ t, t = (w.ok (s.replyTo hd) []).setDone (s.replyTo hd) (s.target hd k) := ⟨_, rfl⟩
  have harr : s.arrive hd (.setKey k v) = t := by
    rw [State.arrive_sets h]
    simp only [← hb, happ, hsaid, Bool.true_eq_false, if_false, ht]
  obtain ⟨hdone, hout⟩ : t.hearsOnly (w.ok (s.replyTo hd) []) := ht ▸ State.setDone_hearsOnly _ _ _
  have htw : t = w.withSess t.sess t.jobs := by
    rw [State.ok, State.finish_eq] at hdone
    rw [hdone]
  obtain ⟨n, hn⟩ := hans
  refine ⟨b.sess, b.jobs, t.sess, t.jobs, ?_⟩
  rw [← hw, ← htw]
  exact ⟨harr, n, (hout _).trans hn⟩

/-- A `SET` that its row refuses has no effect but its answer (R167). -/
theorem State.set_refused {code : Nat} {d : List Fld}
    (hset : ∀ y l, (s.withSess y l).applySet (s.replyTo hd) (s.target hd k) v = (s.withSess y l).er (s.replyTo hd) code d) :
    ∃ t, s.arrive hd (.setKey k v) = t ∧ t = { s with sess := t.sess, jobs := t.jobs } ∧ t.answered s hd [] (.er code d) := by
  obtain ⟨b, hb⟩ : ∃ b, b = s.begun hd (.setKey k v) := ⟨_, rfl⟩
  have hbeq : b = s.withSess b.sess b.jobs := by rw [hb]; exact State.begun_eq _ _ _
  have hans : (b.finish (s.replyTo hd) [] (.er code d)).answered s hd [] (.er code d) :=
    State.finish_answers h b (by rw [hb]) (by rw [hb]; simp) _
  have happ : b.applySet (s.replyTo hd) (s.target hd k) v = b.er (s.replyTo hd) code d := by
    rw [hbeq]; exact hset _ _
  have hsaid : saidOk b (b.er (s.replyTo hd) code d) hd.sess = false := saidOk_of_er (by simp [hb]) hans
  refine ⟨b.er (s.replyTo hd) code d, ?_, ?_, hans⟩
  · rw [State.arrive_sets h]
    simp only [← hb, happ, hsaid, if_true]
  · rw [State.er, State.finish_eq, hbeq]

end

end Sys2Proof.Machine
end

section
/-! Settings that wait for a commit or a later moment (R199, R347, R370, R376, R434), and settings of islands, heads, checks, loops and
checkpoints (R68, R340, R446, R458, R459, R588). -/

namespace Sys2Proof.Machine

/-! ## What the rows change -/

/-- The slots of a rule become STAGED one after the other, which changes nothing but the slots (R370). -/
theorem State.markStaged_eq (s : State) (slots : List Nat) : s.markStaged slots = { s with track := (s.markStaged slots).track } := by
  induction slots generalizing s with
  | nil => rfl
  | cons k ks ih => exact ih (s.modClassSlot k fun c => { c with state := .staged })

/-- The slot of a table that has been written is STAGED. -/
theorem State.markStaged_single (s : State) (k : Nat) : ((s.markStaged [k]).getClassSlot k).state = .staged :=
  congrArg ClassSlot.state (State.getClassSlot_modClassSlot_self s k fun c => { c with state := .staged })

/-- The chain format that a write asks for: the last one set, with the written part replaced (R199). -/
def Serial.fmtAsked (p : Serial) (k : Key) (v : Val) : Fmt :=
  match k.s with
  | .chainBaud => { p.fmtSet with baud := v.int.toNat }
  | .chainData => { p.fmtSet with data := v.int.toNat }
  | .chainParity => { p.fmtSet with parity := v.int.toNat }
  | .chainStop => { p.fmtSet with stop := v.int.toNat }
  | _ => p.fmtSet

/-- Such a write waits for its answer, unless the format is in force already. -/
def State.asksFmt (s : State) (r : ReplyTo) (k : Key) (v : Val) : State :=
  s.onSerial fun p =>
    { p with newFmt := if s.serial.fmtAsked k v = p.fmt then none else some (s.serial.fmtAsked k v), fmtWait := some (s.nextAnswer r) }

theorem setChainFormat_eq (r : ReplyTo) (k : Key) (v : Val) (s : State) : setChainFormat r k v s = (s.asksFmt r k v).ok r [] := rfl

theorem State.asksFmt_newFmt (s : State) (r : ReplyTo) (k : Key) (v : Val) :
    ((s.asksFmt r k v).serial.newFmt = none ↔ s.serial.fmtAsked k v = s.serial.fmt) ∧
    ∀ f, (s.asksFmt r k v).serial.newFmt = some f → f = s.serial.fmtAsked k v := by
  rw [State.asksFmt, State.onSerial_serial]
  split
  · next hg => exact ⟨iff_of_true rfl hg, fun _ hf => by cases hf⟩
  · next hg => exact ⟨iff_of_false (Option.some_ne_none _) hg, fun _ hf => (Option.some.inj hf).symm⟩

theorem Serial.fmtAsked_baud (p : Serial) {k : Key} (v : Val) (hk : k.s = .chainBaud) :
    p.fmtAsked k v = { p.fmtSet with baud := v.int.toNat } := by simp only [Serial.fmtAsked, hk]

/-- A head as it is once its expected type has been written: one that does not match may be accepted now (R340). -/
def State.expects (s : State) (k : Key) (v : Val) (h : Head) : Head :=
  if h.state = .mismatch ∧ s.sys.state = .ready then
    (if (s.setVal k v).textOf k = [] ∨ some ((s.setVal k v).textOf k) = h.ident.map (·.type) then { h with state := .ready } else h)
  else h

/-- Another head, or one that is not held up by its type, is as it was. -/
theorem State.expects_of_matched {s : State} {k : Key} {v : Val} {h : Head} (hh : h.state ≠ .mismatch ∨ s.sys.state ≠ .ready) :
    s.expects k v h = h := if_neg fun ⟨hm, hr⟩ => hh.elim (· hm) (· hr)

/-- A turret's statistics checkpoint as it is filed (R588). -/
def statsCheckpoint (n : Nat) : Write := { record := .stats n, body := .none, reply := none, turret := n }

theorem foldl_fileStats (l : List Nat) (s : State) :
    l.foldl (fun t n => t.fileWrite { record := .stats n, body := .none, reply := none }) s =
      s.onNv fun n => { n with writes := n.writes ++ l.map statsCheckpoint } := by
  induction l generalizing s with
  | nil => simp [State.onNv]
  | cons n l ih =>
    rw [List.foldl_cons, ih]
    simp [State.onNv, State.fileWrite, State.servedBy, recTurret, statsCheckpoint]

/-- The checkpoints join what is filed, one for every turret, unless they have been filed. -/
theorem State.fileCheckpoints_eq (s : State) : s.fileCheckpoints = s.onNv fun n =>
    { n with writes := if n.ckMade then n.writes else n.writes ++ s.presentTurrets.map statsCheckpoint, ckMade := true } := by
  rw [State.fileCheckpoints]
  split
  · next hmade =>
    simp only [State.onNv, hmade, if_true]
    rw [← hmade]
  · next hdue =>
    rw [foldl_fileStats]
    simp only [State.onNv, hdue, Bool.false_eq_true, if_false]

/-! ## Each row's write -/

theorem State.target_s (s : State) (hd : Hdr) (k : Key) : (s.target hd k).s = k.s := Key.ofTurret_s _ _

section
variable {s : State} {hd : Hdr} {k : Key} {v : Val} (h : s.sets hd k v = true)
include h

/-- A `SET` that its row takes and whose value is written at once. -/
theorem State.set_writes (f : State → State)
    (hset : ∀ y l, (s.withSess y l).applySet (s.replyTo hd) (s.target hd k) v = (f (s.withSess y l)).ok (s.replyTo hd) [])
    (hsess : ∀ y l, (f (s.withSess y l)).sess = y) (haddr : ∀ y l, (f (s.withSess y l)).tower = s.tower)
    (hcfg : ∀ y l, (f (s.withSess y l)).cfg = (s.setVal (s.target hd k) v).cfg) :
    ∃ y l y' l', s.arrive hd (.setKey k v) = (f (s.withSess y l)).withSess y' l' ∧
      ((f (s.withSess y l)).withSess y' l').wrote s hd (s.target hd k) v := by
  obtain ⟨y, l, y', l', harr, hans⟩ := State.set_taken h f hset hsess haddr
  exact ⟨y, l, y', l', harr, State.wrote_of_cfg (hcfg y l) hans⟩

/-- Nothing in the module's state bars a write that its row is asked to take. -/
theorem State.sets_unbarred : s.setBar (s.target hd k) v = false := by
  simp only [State.sets, State.settable, Bool.and_eq_true, Bool.not_eq_true', and_assoc] at h
  obtain ⟨_, _, _, _, _, _, hbar, _⟩ := h
  exact hbar

theorem exec_lanternStagedSet (hrow : k.s.info.row = .lanternStaged) : ∃ t, exec (.lanternStagedSet hd k v) s = .next t ∧
    t.wrote s hd (s.target hd k) v ∧
    t = { s with cfg := t.cfg, sess := t.sess, jobs := t.jobs, lantern := { s.lantern with committed := false } } := by
  rw [← s.target_s hd k] at hrow
  obtain ⟨y, l, y', l', harr, hwrote⟩ := State.set_writes h
    (fun b => (b.setVal (s.target hd k) v).onLantern fun n => { n with committed := false })
    (fun y l => by simp only [State.applySet, hrow]; rfl) (fun _ _ => rfl) (fun _ _ => rfl) (fun _ _ => rfl)
  exact ⟨_, congrArg Host.Outcome.next harr, hwrote, rfl⟩

theorem exec_classStagedSet_table (hrow : k.s.info.row = .classStaged) (hrule : k.s ≠ .classRule) :
    ∃ t, exec (.classStagedSet hd k v) s = .next t ∧
    t = { s with staged := t.staged, sess := t.sess, jobs := t.jobs, track := t.track } ∧
    t.stagedVal (s.target hd k) = v ∧ t.answered s hd [] (.ok []) ∧
    (t.getClassSlot (4 * (s.target hd k).i + (s.target hd k).j)).state = .staged := by
  rw [← s.target_s hd k] at hrow hrule
  obtain ⟨y, l, y', l', harr, hans⟩ := State.set_taken h
    (fun b => (b.stageVal (s.target hd k) v).markStaged [4 * (s.target hd k).i + (s.target hd k).j])
    (fun y l => by simp only [State.applySet, hrow, setClassStaged, if_neg hrule]) (fun _ _ => rfl) (fun _ _ => rfl)
  exact ⟨_, congrArg Host.Outcome.next harr, rfl, State.stagedVal_of_stageVal (s := s) rfl, hans,
    State.markStaged_single ((s.withSess y l).stageVal (s.target hd k) v) _⟩

end

section
variable {s : State} {hd : Hdr} {k : Key} {bs : List Byte} (h : s.sets hd k (.bytes bs) = true) (hk : k.s = .classRule)
include h hk

theorem exec_classStagedSet_rule (hok : ruleOk bs = true) : ∃ t, exec (.classStagedSet hd k (.bytes bs)) s = .next t ∧
    t = { s with staged := t.staged, sess := t.sess, jobs := t.jobs, track := t.track } ∧
    t.stagedVal (s.target hd k) = .bytes bs ∧ t.answered s hd [] (.ok []) := by
  have hs := (s.target_s hd k).trans hk
  have hrow : Setting.classRule.info.row = .classStaged := rfl
  obtain ⟨y, l, y', l', harr, hans⟩ := State.set_taken h
    (fun b => (b.stageVal (s.target hd k) (.bytes bs)).markStaged (b.slotsOf (s.target hd k).j))
    (fun y l => by simp only [State.applySet, setClassStaged, hs, hrow, if_true, hok])
    (fun _ _ => by rw [State.markStaged_eq]; rfl) (fun _ _ => by rw [State.markStaged_eq]; rfl)
  rw [State.markStaged_eq] at harr hans
  exact ⟨_, congrArg Host.Outcome.next harr, rfl, State.stagedVal_of_stageVal (s := s) rfl, hans⟩

theorem exec_classStagedSet_noRule (hbad : ruleOk bs = false) :
    ∃ t, exec (.classStagedSet hd k (.bytes bs)) s = .next t ∧ t.refused s hd 21 := by
  have hs := (s.target_s hd k).trans hk
  have hrow : Setting.classRule.info.row = .classStaged := rfl
  obtain ⟨t, harr, hkeep, hans⟩ := State.set_refused h (code := 21) (d := [])
    (fun y l => by simp only [State.applySet, setClassStaged, hs, hrow, if_true, hbad, Bool.false_eq_true, if_false])
  exact ⟨t, congrArg Host.Outcome.next harr, hkeep, hans⟩

end

section
variable {s : State} {hd : Hdr} {k : Key} {v : Val} (h : s.sets hd k v = true)
include h

theorem exec_seqStagedSet (hrow : k.s.info.row = .seqStaged) : ∃ t, exec (.seqStagedSet hd k v) s = .next t ∧
    t = { s with staged := t.staged, sess := t.sess, jobs := t.jobs } ∧ t.stagedVal (s.target hd k) = v ∧
    t.answered s hd [] (.ok []) := by
  rw [← s.target_s hd k] at hrow
  obtain ⟨y, l, y', l', harr, hans⟩ := State.set_taken h (fun b => b.stageVal (s.target hd k) v)
    (fun y l => by simp only [State.applySet, hrow]; rfl) (fun _ _ => rfl) (fun _ _ => rfl)
  exact ⟨_, congrArg Host.Outcome.next harr, rfl, State.stagedVal_of_stageVal (s := s) rfl, hans⟩

theorem exec_chainFormatSet (hrow : k.s.info.row = .chainFormat) : ∃ t, exec (.chainFormatSet hd k v) s = .next t ∧
    t = { s with serial := { s.serial with newFmt := t.serial.newFmt, fmtWait := t.serial.fmtWait }, sess := t.sess, jobs := t.jobs } ∧
    (t.serial.fmtWait.map (·.sess)) = some hd.sess ∧ t.answered s hd [] (.ok []) ∧
    (k.s = .chainBaud → (t.serial.newFmt = none ↔ { s.serial.fmtSet with baud := v.int.toNat } = s.serial.fmt) ∧
      ∀ f, t.serial.newFmt = some f → f = { s.serial.fmtSet with baud := v.int.toNat }) := by
  have hs := s.target_s hd k
  rw [← hs] at hrow
  obtain ⟨y, l, y', l', harr, hans⟩ := State.set_taken h (fun b => b.asksFmt (s.replyTo hd) (s.target hd k) v)
    (fun y l => by simp only [State.applySet, hrow, setChainFormat_eq]) (fun _ _ => rfl) (fun _ _ => rfl)
  refine ⟨_, congrArg Host.Outcome.next harr, rfl, rfl, hans, fun hk => ?_⟩
  rw [← s.serial.fmtAsked_baud v (hs.trans hk)]
  exact (s.withSess y l).asksFmt_newFmt _ _ _

/-- A `SET` of the gates has no use of an island to cut off (R68). -/
theorem State.sets_gateUnused (hk : k.s = .islandGate) : s.gateUsed v.int.toNat = false := by
  have hbar := State.sets_unbarred h
  simp only [State.setBar, (s.target_s hd k).trans hk, Bool.or_eq_false_iff] at hbar
  exact hbar.2

theorem exec_islandGateSet (hk : k.s = .islandGate) (hready : s.sys.state = .ready) (hright : gateWrong v.int.toNat = false) :
    ∃ t, exec (.islandGateSet hd k v) s = .next t ∧ t.wrote s hd (s.target hd k) v ∧
    t = { s with cfg := t.cfg, sess := t.sess, jobs := t.jobs, isl := { s.isl with gate := v.int.toNat } } := by
  have hunused : ¬ (s.sys.state ≠ .ready ∨ s.gateUsed v.int.toNat = true) := by simp [hready, State.sets_gateUnused h hk]
  have hs := (s.target_s hd k).trans hk
  have hrow : Setting.islandGate.info.row = .islandGate := rfl
  obtain ⟨y, l, y', l', harr, hwrote⟩ := State.set_writes h
    (fun b => (b.setVal (s.target hd k) v).onIsl fun i => { i with gate := v.int.toNat })
    (fun y l => by
      simp only [State.applySet, hs, hrow]
      exact (if_neg hunused).trans (if_neg (by simp [hright])))
    (fun _ _ => rfl) (fun _ _ => rfl) (fun _ _ => rfl)
  exact ⟨_, congrArg Host.Outcome.next harr, hwrote, rfl⟩

theorem exec_islandGateSet_wrong (hk : k.s = .islandGate) (hready : s.sys.state = .ready) (hwrong : gateWrong v.int.toNat = true) :
    ∃ t, exec (.islandGateSet hd k v) s = .next t ∧ t.refused s hd 21 := by
  have hunused : ¬ (s.sys.state ≠ .ready ∨ s.gateUsed v.int.toNat = true) := by simp [hready, State.sets_gateUnused h hk]
  have hs := (s.target_s hd k).trans hk
  have hrow : Setting.islandGate.info.row = .islandGate := rfl
  obtain ⟨t, harr, hkeep, hans⟩ := State.set_refused h (code := 21) (d := []) (fun y l => by
    simp only [State.applySet, hs, hrow]
    exact (if_neg hunused).trans (if_pos hwrong))
  exact ⟨t, congrArg Host.Outcome.next harr, hkeep, hans⟩

theorem exec_headExpectTypeSet (hk : k.s = .headExpectType) : ∃ t, exec (.headExpectTypeSet hd k v) s = .next t ∧
    t.wrote s hd (s.target hd k) v ∧ t = { s with cfg := t.cfg, sess := t.sess, jobs := t.jobs, heads := t.heads } ∧
    ((s.getHead (s.target hd k).i).state ≠ .mismatch ∨ s.sys.state ≠ .ready → ∀ x, t.getHead x = s.getHead x) := by
  have hs := (s.target_s hd k).trans hk
  have hrow : Setting.headExpectType.info.row = .headExpectType := rfl
  obtain ⟨y, l, y', l', harr, hwrote⟩ := State.set_writes h
    (fun b => (b.setVal (s.target hd k) v).modHead (s.target hd k).i (b.expects (s.target hd k) v))
    (fun y l => by simp only [State.applySet, hs, hrow]; rfl) (fun _ _ => rfl) (fun _ _ => rfl) (fun _ _ => rfl)
  refine ⟨_, congrArg Host.Outcome.next harr, hwrote, rfl, fun hmatched x => ?_⟩
  show (s.modHead (s.target hd k).i (s.expects (s.target hd k) v)).getHead x = s.getHead x
  by_cases hx : x = (s.target hd k).i
  · rw [hx, State.getHead_modHead_self, State.expects_of_matched hmatched]
  · exact State.getHead_modHead_other _ _ hx

theorem exec_checkIntervalSet (hk : k.s = .checkIntervalS) (hfits : v.int = 0 ∨ s.partitioned = false ∨ 3100 ≤ s.longest 0) :
    ∃ t, exec (.checkIntervalSet hd k v) s = .next t ∧ t.wrote s hd (s.target hd k) v ∧
    t = { s with cfg := t.cfg, sess := t.sess, jobs := t.jobs } := by
  have hs := (s.target_s hd k).trans hk
  have hrow : Setting.checkIntervalS.info.row = .checkInterval := rfl
  have hno : ¬ (v.int ≠ 0 ∧ s.partitioned = true ∧ s.longest 0 < 3100) := by
    rintro ⟨hv, hpart, hlong⟩
    rcases hfits with h0 | h1 | h2
    · exact hv h0
    · simp [h1] at hpart
    · exact Nat.not_lt.2 h2 hlong
  obtain ⟨y, l, y', l', harr, hwrote⟩ := State.set_writes h (fun b => b.setVal (s.target hd k) v)
    (fun y l => by
      simp only [State.applySet, hs, hrow]
      exact if_neg hno)
    (fun _ _ => rfl) (fun _ _ => rfl) (fun _ _ => rfl)
  exact ⟨_, congrArg Host.Outcome.next harr, hwrote, rfl⟩

theorem exec_checkIntervalSet_noSlot (hk : k.s = .checkIntervalS) (hv : v.int ≠ 0) (hpart : s.partitioned = true)
    (hlong : s.longest 0 < 3100) : ∃ t, exec (.checkIntervalSet hd k v) s = .next t ∧
    t = { s with sess := t.sess, jobs := t.jobs } ∧ t.answered s hd [] (.er 21 [.word "slot"]) := by
  have hs := (s.target_s hd k).trans hk
  have hrow : Setting.checkIntervalS.info.row = .checkInterval := rfl
  obtain ⟨t, harr, hkeep, hans⟩ := State.set_refused h (code := 21) (d := [.word "slot"]) (fun y l => by
    simp only [State.applySet, hs, hrow]
    exact if_pos (show _ ∧ _ ∧ _ from ⟨hv, hpart, hlong⟩))
  exact ⟨t, congrArg Host.Outcome.next harr, hkeep, hans⟩

theorem exec_loopQuantitySet_foreign (hk : k.s = .loopQuantity) (hv : v.int = qRate ∨ v.int = qMass ∨ v.int = qState)
    (hown : s.nat .loopTurret (s.target hd k).i ≠ 0) : ∃ t, exec (.loopQuantitySet hd k v) s = .next t ∧ t.refused s hd 30 := by
  have hs := (s.target_s hd k).trans hk
  have hrow : Setting.loopQuantity.info.row = .loopQuantity := rfl
  obtain ⟨t, harr, hkeep, hans⟩ := State.set_refused h (code := 30) (d := []) (fun y l => by
    simp only [State.applySet, setLoopQuantity, hs, hrow]
    exact if_pos ⟨hv, hown⟩)
  exact ⟨t, congrArg Host.Outcome.next harr, hkeep, hans⟩

theorem exec_loopQuantitySet_own (hk : k.s = .loopQuantity) (hown : s.nat .loopTurret (s.target hd k).i = 0)
    (hentry : v.int = qEntry → s.nat .seqTurret (s.nat .loopEntry (s.target hd k).i) = 0) :
    ∃ t, exec (.loopQuantitySet hd k v) s = .next t ∧ t.wrote s hd (s.target hd k) v ∧
    t = { s with cfg := t.cfg, sess := t.sess, jobs := t.jobs, loops := t.loops } ∧
    t.getLoop (s.target hd k).i = { s.getLoop (s.target hd k).i with samples := [], badUntil := none } := by
  have hs := (s.target_s hd k).trans hk
  have hrow : Setting.loopQuantity.info.row = .loopQuantity := rfl
  have hmine : ¬ ((v.int = qRate ∨ v.int = qMass ∨ v.int = qState) ∧ s.nat .loopTurret (s.target hd k).i ≠ 0) := fun hc => hc.2 hown
  have hsame : ¬ (v.int = qEntry ∧
      decide (s.nat .seqTurret (s.nat .loopEntry (s.target hd k).i) ≠ s.nat .loopTurret (s.target hd k).i) = true) := by
    rintro ⟨hv, hc⟩
    simp [hentry hv, hown] at hc
  obtain ⟨y, l, y', l', harr, hwrote⟩ := State.set_writes h
    (fun b => (b.setVal (s.target hd k) v).modLoop (s.target hd k).i fun c => { c with samples := [], badUntil := none })
    (fun y l => by
      simp only [State.applySet, setLoopQuantity, hs, hrow]
      exact (if_neg hmine).trans (if_neg hsame))
    (fun _ _ => rfl) (fun _ _ => rfl) (fun _ _ => rfl)
  exact ⟨_, congrArg Host.Outcome.next harr, hwrote, rfl, SMap.look_put_self _ _ _ _⟩

theorem exec_loopLoSet_equal (hk : k.s = .loopLo) (hv : v.int = s.int .loopHi (s.target hd k).i) :
    ∃ t, exec (.loopQuantitySet hd k v) s = .next t ∧ t.refused s hd 21 := by
  have hs := (s.target_s hd k).trans hk
  have hrow : Setting.loopLo.info.row = .loopQuantity := rfl
  obtain ⟨t, harr, hkeep, hans⟩ := State.set_refused h (code := 21) (d := []) (fun y l => by
    simp only [State.applySet, setLoopQuantity, hs, hrow]
    exact if_pos hv)
  exact ⟨t, congrArg Host.Outcome.next harr, hkeep, hans⟩

theorem exec_loopLoSet (hk : k.s = .loopLo) (hv : v.int ≠ s.int .loopHi (s.target hd k).i) :
    ∃ t, exec (.loopQuantitySet hd k v) s = .next t ∧ t.wrote s hd (s.target hd k) v ∧
    t = { s with cfg := t.cfg, sess := t.sess, jobs := t.jobs } := by
  have hs := (s.target_s hd k).trans hk
  have hrow : Setting.loopLo.info.row = .loopQuantity := rfl
  obtain ⟨y, l, y', l', harr, hwrote⟩ := State.set_writes h (fun b => b.setVal (s.target hd k) v)
    (fun y l => by
      simp only [State.applySet, setLoopQuantity, hs, hrow]
      exact if_neg hv)
    (fun _ _ => rfl) (fun _ _ => rfl) (fun _ _ => rfl)
  exact ⟨_, congrArg Host.Outcome.next harr, hwrote, rfl⟩

/-- The checkpoints are filed where the new interval has passed already, unless they have been (R588). -/
theorem exec_nvCheckpointSet (hk : k.s = .nvCheckpointS) : ∃ t, exec (.nvCheckpointSet hd k v) s = .next t ∧
    t.wrote s hd (s.target hd k) v ∧
    t = { s with cfg := t.cfg, sess := t.sess, jobs := t.jobs, nv := { s.nv with writes := t.nv.writes, ckMade := t.nv.ckMade } } ∧
    (s.sys.tick < s.nv.ckLast + v.int.toNat * secTicks → t.nv = s.nv) ∧
    (s.nv.ckLast + v.int.toNat * secTicks ≤ s.sys.tick → t.nv.writes = s.fileCheckpoints.nv.writes ∧ t.nv.ckMade = true) := by
  have hs := (s.target_s hd k).trans hk
  have hrow : Setting.nvCheckpointS.info.row = .nvCheckpoint := rfl
  by_cases hdue : s.nv.ckLast + v.int.toNat * secTicks ≤ s.sys.tick
  · obtain ⟨y, l, y', l', harr, hwrote⟩ := State.set_writes h
      (fun b => (b.setVal (s.target hd k) v).onNv fun n =>
        { n with writes := if n.ckMade then n.writes else n.writes ++ s.presentTurrets.map statsCheckpoint, ckMade := true })
      (fun y l => by
        simp only [State.applySet, hs, hrow]
        exact congrArg (fun u : State => u.ok (s.replyTo hd) []) ((if_pos hdue).trans (State.fileCheckpoints_eq _)))
      (fun _ _ => rfl) (fun _ _ => rfl) (fun _ _ => rfl)
    rw [State.fileCheckpoints_eq]
    exact ⟨_, congrArg Host.Outcome.next harr, hwrote, rfl, fun hlt => absurd hdue (Nat.not_le.2 hlt), fun _ => ⟨rfl, rfl⟩⟩
  · obtain ⟨y, l, y', l', harr, hwrote⟩ := State.set_writes h (fun b => b.setVal (s.target hd k) v)
      (fun y l => by
        simp only [State.applySet, hs, hrow]
        exact congrArg (fun u : State => u.ok (s.replyTo hd) []) (if_neg hdue))
      (fun _ _ => rfl) (fun _ _ => rfl) (fun _ _ => rfl)
    exact ⟨_, congrArg Host.Outcome.next harr, hwrote, rfl, fun _ => rfl, fun hle => absurd hle hdue⟩

end

/-- Settles O30: each path by the lemma of its row. -/
theorem waitingSettingsAreStaged : Obligations.WaitingSettingsAreStaged := by
  unfold Obligations.WaitingSettingsAreStaged
  intro hd k v s h
  refine ⟨exec_lanternStagedSet h, exec_classStagedSet_table h, fun hk bs hv => ?_, exec_seqStagedSet h, exec_chainFormatSet h,
    fun hk => ⟨exec_islandGateSet h hk, exec_islandGateSet_wrong h hk⟩, exec_headExpectTypeSet h,
    fun hk => ⟨exec_checkIntervalSet h hk, exec_checkIntervalSet_noSlot h hk⟩,
    fun hk => ⟨exec_loopQuantitySet_foreign h hk, fun _ => exec_loopQuantitySet_own h hk⟩,
    fun hk => ⟨exec_loopLoSet_equal h hk, exec_loopLoSet h hk⟩, exec_nvCheckpointSet h⟩
  subst hv
  exact ⟨exec_classStagedSet_rule h hk, exec_classStagedSet_noRule h hk⟩

end Sys2Proof.Machine
end
